-- ==== Sys2Proof/Word.lean ====
section
/-! DEFINITION. Words, byte strings and sparse tables: the plain data every other file is written over.
Numbers the manual counts with are `Nat`; a register that wraps says so where it is written (`w64`, `w32`).
Structures the device defines are little-endian (R11): `le` and `leVal` are the one place that is decided. -/

set_option linter.unusedVariables false

namespace Sys2Proof

/-- One byte. -/
abbrev Byte := BitVec 8

/-- A byte string, lowest address first. -/
abbrev Bytes := List (BitVec 8)

/-- A D register's value (R196). -/
abbrev Word := BitVec 64

/-- A 64-bit counter's value. -/
def w64 (n : Nat) : Nat := n % 2 ^ 64

/-- A 32-bit counter's value. -/
def w32 (n : Nat) : Nat := n % 2 ^ 32

/-- A counter of `bits` bits that stops at its largest value. -/
def satTo (bits n : Nat) : Nat := min n (2 ^ bits - 1)

/-- Bit `i` of a number (R8: bit 0 is the least significant). -/
def bitOf (n i : Nat) : Bool := n / 2 ^ i % 2 == 1

/-- The field [lo+w-1 : lo] of a number. -/
def fieldOf (n lo w : Nat) : Nat := n / 2 ^ lo % 2 ^ w

/-- A number with bit `i` set or cleared. -/
def setBit (n i : Nat) (v : Bool) : Nat :=
  if bitOf n i == v then n else if v then n + 2 ^ i else n - 2 ^ i

/-- A number with the field [lo+w-1 : lo] replaced. -/
def setField (n lo w v : Nat) : Nat :=
  n - fieldOf n lo w * 2 ^ lo + v % 2 ^ w * 2 ^ lo

/-- 1 for true. -/
def b2n (b : Bool) : Nat := if b then 1 else 0

/-- The `n` bytes of a number, least significant first (R11). -/
def le : Nat → Nat → Bytes
  | 0, _ => []
  | n + 1, v => BitVec.ofNat 8 v :: le n (v / 256)

/-- The number a little-endian byte string stands for. -/
def leVal : Bytes → Nat
  | [] => 0
  | b :: bs => b.toNat + 256 * leVal bs

/-- The `n` bytes of a number, most significant first. -/
def be (n v : Nat) : Bytes := (le n v).reverse

/-- The number a big-endian byte string stands for. -/
def beVal (b : Bytes) : Nat := leVal b.reverse

/-- `n` zero bytes. -/
def zeros (n : Nat) : Bytes := List.replicate n 0#8

/-- `n` bytes from offset `o`. -/
def slice (b : Bytes) (o n : Nat) : Bytes := (b.drop o).take n

/-- The little-endian number in `n` bytes from offset `o`. -/
def leAt (b : Bytes) (o n : Nat) : Nat := leVal (slice b o n)

/-- The big-endian number in `n` bytes from offset `o`. -/
def beAt (b : Bytes) (o n : Nat) : Nat := beVal (slice b o n)

/-- A byte string cut or filled with zeros to `n` bytes. -/
def padTo (n : Nat) (b : Bytes) : Bytes := b.take n ++ zeros (n - b.length)

/-- Bytewise XOR, as long as the shorter. -/
def xorBytes (a b : Bytes) : Bytes := List.zipWith (fun x y => x ^^^ y) a b

/-- A byte string with `v` written over it from offset `o`. -/
def overwrite (b : Bytes) (o : Nat) (v : Bytes) : Bytes := b.take o ++ v ++ b.drop (o + v.length)

/-- The nibbles of a byte string, high nibble first. -/
def nibbles : Bytes → List Nat
  | [] => []
  | b :: bs => b.toNat / 16 :: b.toNat % 16 :: nibbles bs

/-- The bytes a list of nibbles packs to, high nibble first. -/
def packNibbles : List Nat → Bytes
  | a :: b :: r => BitVec.ofNat 8 (a * 16 + b) :: packNibbles r
  | [a] => [BitVec.ofNat 8 (a * 16)]
  | [] => []

/-- The element at a place of a list, or `d` past its end. -/
def nth {α : Type} (d : α) (l : List α) (i : Nat) : α := (l[i]?).getD d

/-- A list with the element at place `i` replaced. -/
def putAt {α : Type} : List α → Nat → α → List α
  | [], _, _ => []
  | _ :: t, 0, v => v :: t
  | x :: t, i + 1, v => x :: putAt t i v

/-- Whether a list holds an element. -/
def has {α : Type} [BEq α] (l : List α) (a : α) : Bool := l.any (fun x => x == a)

/-- A list without an element. -/
def without {α : Type} [BEq α] (l : List α) (a : α) : List α := l.filter (fun x => !(x == a))

/-- A list with an element added at its end unless it is there. -/
def addOnce {α : Type} [BEq α] (l : List α) (a : α) : List α := if has l a then l else l ++ [a]

/-- The smallest element by a key, the first of equals. -/
def minBy? {α : Type} (key : α → Nat) : List α → Option α
  | [] => none
  | x :: xs =>
    match minBy? key xs with
    | none => some x
    | some y => if key y < key x then some y else some x

/-- The numbers 0 to n-1. -/
def upto (n : Nat) : List Nat := List.range n

/-- A sparse table: entries by number, numbers strictly rising. What an unlisted number reads as is said by
the operation that reads it. -/
abbrev FMap (α : Type) := List (Nat × α)

/-- The entry listed under a number. -/
def look {α : Type} : FMap α → Nat → Option α
  | [], _ => none
  | (a, v) :: m, k => if a = k then some v else look m k

/-- The entry under a number, `d` where none is listed. -/
def lookD {α : Type} (d : α) (m : FMap α) (k : Nat) : α := (look m k).getD d

/-- A table with an entry put in its place. -/
def ins {α : Type} : FMap α → Nat → α → FMap α
  | [], k, v => [(k, v)]
  | (a, w) :: m, k, v =>
    if k < a then (k, v) :: (a, w) :: m
    else if k = a then (k, v) :: m
    else (a, w) :: ins m k v

/-- A table without the entry under a number. -/
def del {α : Type} : FMap α → Nat → FMap α
  | [], _ => []
  | (a, w) :: m, k => if a = k then m else (a, w) :: del m k

/-- Write in a table whose unlisted numbers read as `d`: writing `d` removes the entry, so that equal tables are
equal lists. -/
def put {α : Type} [DecidableEq α] (d : α) (m : FMap α) (k : Nat) (v : α) : FMap α :=
  if v = d then del m k else ins m k v

/-- Change the entry under a number (`d` where none is listed). -/
def upd {α : Type} [DecidableEq α] (d : α) (m : FMap α) (k : Nat) (f : α → α) : FMap α :=
  put d m k (f (lookD d m k))

/-- Change every listed entry. -/
def mapV {α β : Type} (f : Nat → α → β) (m : FMap α) : FMap β := m.map (fun e => (e.1, f e.1 e.2))

/-- Keep the listed entries that a test passes. -/
def keep {α : Type} (p : Nat → α → Bool) (m : FMap α) : FMap α := m.filter (fun e => p e.1 e.2)

/-- The numbers a table lists. -/
def keysOf {α : Type} (m : FMap α) : List Nat := m.map (fun e => e.1)

/-- The numbers stand in strictly rising order. -/
def rising {α : Type} : FMap α → Bool
  | [] => true
  | [_] => true
  | (a, _) :: (b, w) :: m => decide (a < b) && rising ((b, w) :: m)

/-- The smallest number below `n` that a test passes, looked for from `i` upward. -/
def firstFrom (p : Nat → Bool) : Nat → Nat → Option Nat
  | 0, _ => none
  | fuel + 1, i => if p i then some i else firstFrom p fuel (i + 1)

/-- The smallest number below `n` that a test passes. -/
def firstBelow (n : Nat) (p : Nat → Bool) : Option Nat := firstFrom p n 0

/-- A free list that was filled with the numbers below `limit` in rising order: `next` is the lowest number never
handed out, `back` the numbers given back, oldest first. Numbers come out first in, first out. -/
structure FreeList where
  next : Nat := 0
  back : List Nat := []
  deriving DecidableEq, Repr

/-- How many numbers are free. -/
def FreeList.count (limit : Nat) (f : FreeList) : Nat := (limit - f.next) + f.back.length

/-- Take the number at the front. -/
def FreeList.take (limit : Nat) (f : FreeList) : Option (Nat × FreeList) :=
  if f.next < limit then some (f.next, { f with next := f.next + 1 })
  else match f.back with
    | [] => none
    | t :: r => some (t, { f with back := r })

/-- Give a number back at the tail. -/
def FreeList.give (f : FreeList) (t : Nat) : FreeList := { f with back := f.back ++ [t] }

/-- One bit step of a reflected CRC of 32 bits or fewer: `poly` is the reversed polynomial. -/
def crcBitR (poly c : Nat) : Nat := if c % 2 = 1 then (c / 2) ^^^ poly else c / 2

/-- One byte of a reflected CRC. -/
def crcByteR (poly c : Nat) (b : Byte) : Nat :=
  let c := c ^^^ b.toNat
  let c := crcBitR poly (crcBitR poly (crcBitR poly (crcBitR poly c)))
  crcBitR poly (crcBitR poly (crcBitR poly (crcBitR poly c)))

/-- One bit step of an unreflected CRC of `w` bits. -/
def crcBitF (w poly c : Nat) : Nat :=
  if c / 2 ^ (w - 1) % 2 = 1 then ((c * 2) % 2 ^ w) ^^^ poly else (c * 2) % 2 ^ w

/-- One byte of an unreflected CRC of `w` bits. -/
def crcByteF (w poly c : Nat) (b : Byte) : Nat :=
  let c := c ^^^ (b.toNat * 2 ^ (w - 8))
  let c := crcBitF w poly (crcBitF w poly (crcBitF w poly (crcBitF w poly c)))
  crcBitF w poly (crcBitF w poly (crcBitF w poly (crcBitF w poly c)))

end Sys2Proof
end

