-- ==== Sys2Proof/Forms.lean ====
section
/-! DEFINITION. The data forms that commands carry and that State holds: status codes, roles, who sends a request,
what a read of memory outside the device answers, job descriptors, service requests. -/

set_option linter.unusedVariables false

namespace Sys2Proof

/-- The status codes of R13. -/
inductive Status where
  | ok | authFail | keyInvalid | keyUseExhausted | keyExpired | usageDenied | lengthError | faultDetected
  | rngUnavailable | channelClosed | squashed | timeout | hobbled | policy | busyRetry | format
  | custodianUnavailable | version
  deriving DecidableEq, Repr

/-- The 8-bit code of a status (R13). -/
def Status.code : Status → Nat
  | .ok => 0x00 | .authFail => 0x01 | .keyInvalid => 0x02 | .keyUseExhausted => 0x03 | .keyExpired => 0x04
  | .usageDenied => 0x05 | .lengthError => 0x06 | .faultDetected => 0x07 | .rngUnavailable => 0x08
  | .channelClosed => 0x09 | .squashed => 0x0A | .timeout => 0x0B | .hobbled => 0x0C | .policy => 0x0D
  | .busyRetry => 0x0E | .format => 0x0F | .custodianUnavailable => 0x10 | .version => 0x11

/-- The roles of R6; a DM and a tenant carry their domain. `nobody` is a requester without a role. -/
inductive Role where
  | deviceOfficer | domainOfficer (domain : Nat) | auditor | operator | firmware | hostDriver
  | tenant (domain : Nat) | nobody
  deriving DecidableEq, Repr

/-- The officer roles, with the codes of R564. -/
inductive OfficerRole where
  | deviceOfficer | domainOfficer | auditor | operator
  deriving DecidableEq, Repr

def OfficerRole.code : OfficerRole → Nat
  | .deviceOfficer => 0 | .domainOfficer => 1 | .auditor => 2 | .operator => 3

/-- What a read of memory outside the device answers: its bytes, an error completion, or poisoned data (R49, R102). -/
inductive ReadResult where
  | bytes (b : Bytes) | error | poisoned
  deriving DecidableEq, Repr

/-- The bytes of a read that succeeded. -/
def ReadResult.get? : ReadResult → Option Bytes
  | .bytes b => some b
  | _ => none

/-- What an officer card answers in the exchange of R394: the status words of SELECT and VERIFY, and whether the
signature over the INTERNAL AUTHENTICATE data verifies under the enrolled (or offered) card key. -/
structure CardReply where
  /-- A card is present and has completed its activation. -/
  answered : Bool
  /-- SELECT by AID ended with SW 9000. -/
  selected : Bool
  /-- VERIFY's status word. -/
  pinSw : Nat
  /-- The ECDSA P-384 signature over the data field verifies. -/
  sigOk : Bool
  deriving DecidableEq, Repr

/-- A Malath peer (R409): address (IPv4 in its first four bytes) and UDP port, CAN node, or physical function. -/
inductive MalPeer where
  | mgt (addr port : Nat)
  | can (node : Nat)
  | inband (pf : Nat)
  deriving DecidableEq, Repr

/-- A Malath PDU from a peer (R410, R414): its header fields, the ALIVE byte of a CAN frame, whether the carrier's checks hold
(UDP checksum and CRC-32C, or CAN CRC, length and reserved byte), whether LEN agrees with the carrier. -/
structure MalHdr where
  peer : MalPeer
  txn : Nat
  actor : Nat
  alive : Nat := 0
  intact : Bool := true
  lenOk : Bool := true
  deriving DecidableEq, Repr

/-- Where a custodian request comes from (R389, R390): a function's mailbox, a Malath association with the TXN of its SERVICE
PDU, firmware on a custodian core, or the execution of a dual-control session's action by its last authorisation (R398). -/
inductive Via where
  | mailbox (fn : Nat)
  | malath (assoc txn : Nat)
  | firmware (cu : Fin 4)
  | authorise (session : Nat) (slot : Fin 2) (card : CardReply)
  deriving DecidableEq, Repr

/-- A read of a function's BAR0 (R359): the function, the offset of the first byte, and the bytes read. -/
structure BarRead where
  fn : BitVec 12
  off : BitVec 23
  len : BitVec 7
  deriving DecidableEq, Repr

/-- The header of a custodian request (R389). `argsOk` says that ARG_LEN is the length the layout of R563 gives,
`resv` is the OR of every reserved field of the header and the arguments. -/
structure SvcHdr where
  ver : Nat := 3
  quiesce : Bool := false
  dmScope : Bool := false
  flagsResv : Nat := 0
  argsOk : Bool := true
  session : Nat := 0
  officer : Nat := 0
  resv : Nat := 0
  via : Via
  deriving DecidableEq, Repr

/-- Where a staged or inline object stands (R390). `found` says that the object named by LOCATOR exists. -/
structure ObjRef where
  source : Nat
  length : Nat
  locator : Nat
  found : Bool
  deriving DecidableEq, Repr

/-- The 64-byte job descriptor of R100, field by field. -/
structure Job where
  service : Nat
  func : Nat
  dflags : Nat
  key : Nat
  channel : Nat
  inLen : Nat
  inAddr : Nat
  outAddr : Nat
  outLen : Nat
  aadLen : Nat
  iv : Bytes
  taglen : Nat
  outCtl : Nat
  resv : Nat
  deriving DecidableEq, Repr

/-- The descriptor that 64 bytes spell (R100). -/
def Job.ofBytes (b : Bytes) : Job :=
  { service := leAt b 0 1, func := leAt b 1 1, dflags := leAt b 2 2, key := leAt b 4 4, channel := leAt b 8 4,
    inLen := leAt b 0xC 4, inAddr := leAt b 0x10 8, outAddr := leAt b 0x18 8, outLen := leAt b 0x20 4,
    aadLen := leAt b 0x24 4, iv := padTo 16 (slice b 0x28 16), taglen := leAt b 0x38 1, outCtl := leAt b 0x39 1,
    resv := leAt b 0x3A 6 }

/-- DFLAGS fields (R101). -/
def Job.intr (j : Job) : Bool := bitOf j.dflags 0
def Job.prio (j : Job) : Nat := fieldOf j.dflags 2 2
def Job.inSgl (j : Job) : Bool := bitOf j.dflags 5
def Job.outSgl (j : Job) : Bool := bitOf j.dflags 6
def Job.zeroOnFail (j : Job) : Bool := bitOf j.dflags 7

/-- The parameter fields of services 0x02 and 0x03 in descriptor bytes 0x28-0x37 (R130, R168). -/
def Job.key2 (j : Job) : Nat := leAt j.iv 0 4
def Job.fmtIn (j : Job) : Nat := leAt j.iv 4 1
def Job.fmtOut (j : Job) : Nat := leAt j.iv 5 1
def Job.pset (j : Job) : Nat := leAt j.iv 4 1
def Job.hash (j : Job) : Nat := leAt j.iv 5 1
def Job.mode (j : Job) : Nat := leAt j.iv 6 2
def Job.arg (j : Job) : Nat := leAt j.iv 8 8
def Job.argByte (j : Job) (i : Nat) : Nat := leAt j.iv (8 + i) 1

/-- The attribute argument of R172. -/
structure AttrArg where
  usage : Nat
  exportPol : Nat
  volatileKey : Bool
  dual : Bool
  counted : Bool
  uses : Nat
  resv : Nat
  deriving DecidableEq, Repr

/-- The attribute argument an 8-byte word spells (R172). -/
def AttrArg.ofNat (n : Nat) : AttrArg :=
  { usage := fieldOf n 0 16, exportPol := fieldOf n 16 4, volatileKey := bitOf n 20, dual := bitOf n 21,
    counted := bitOf n 22, uses := fieldOf n 24 32, resv := fieldOf n 56 8 + fieldOf n 23 1 }

/-- A key handle's fields (R52). -/
def handleClass (h : Nat) : Nat := fieldOf h 28 4
def handleIndex (h : Nat) : Nat := fieldOf h 4 24
def handleGen (h : Nat) : Nat := fieldOf h 0 4

/-- The handle of class, index and generation (R52). -/
def mkHandle (cls idx gen : Nat) : Nat := cls * 2 ^ 28 + idx * 16 + gen % 16

end Sys2Proof
end

