-- ==== Sys2Proof/LopeForms.lean ====
section
/-! DEFINITION. The operands of Lope instructions, by encoding format (R204, R205). Every field of the word below OP and
SUB is carried as encoded, so that the ILLEGAL cases of R196, R204 and R205 are the instruction's own. `e` is bit [25]. -/

set_option linter.unusedVariables false

namespace Sys2Proof

/-- A Lope processor: 0-511 the message engines ME s.n as 16s + n, 512-515 the custodian cores CU0-CU3. -/
abbrev ProcId := Fin 516

/-- Format R. -/
structure RFmt where
  rd : BitVec 4
  ra : BitVec 4
  rb : BitVec 4
  aux : BitVec 8
  e : Bool
  deriving DecidableEq, Repr

/-- Format I: `resv` is bit [16]. -/
structure IFmt where
  rd : BitVec 4
  ra : BitVec 4
  resv : Bool
  imm16 : BitVec 16
  e : Bool
  ext : BitVec 32
  deriving DecidableEq, Repr

/-- Format M. -/
structure MFmt where
  rd : BitVec 4
  ab : BitVec 3
  mode : BitVec 2
  imm16 : BitVec 16
  e : Bool
  ext : BitVec 32
  deriving DecidableEq, Repr

/-- Format MF; `max1` is the field MAX - 1. -/
structure MFFmt where
  xd : BitVec 2
  ab : BitVec 3
  dl : BitVec 4
  max1 : BitVec 6
  s : Bool
  off : BitVec 9
  e : Bool
  deriving DecidableEq, Repr

/-- Format B. -/
structure BFmt where
  cond : BitVec 4
  off : BitVec 21
  e : Bool
  deriving DecidableEq, Repr

/-- Format BZ; bit [20] NZ tells BZ from BNZ. -/
structure BZFmt where
  ds : BitVec 4
  off : BitVec 20
  e : Bool
  deriving DecidableEq, Repr

/-- Format J. -/
structure JFmt where
  js : BitVec 3
  at_ : BitVec 3
  dk : BitVec 4
  kp : Bool
  dk2 : BitVec 4
  k2p : Bool
  dl : BitVec 4
  lp : Bool
  s : Bool
  resv : BitVec 3
  e : Bool
  deriving DecidableEq, Repr

/-- Format JX. -/
structure JXFmt where
  xd : BitVec 2
  xs : BitVec 2
  dk : BitVec 4
  len : BitVec 2
  js : BitVec 3
  s : Bool
  resv : BitVec 3
  func : BitVec 8
  e : Bool
  deriving DecidableEq, Repr

/-- Format EV: the extension word of WFE is its limit in ns. -/
structure EvFmt where
  rd : BitVec 4
  ra : BitVec 4
  resv : BitVec 17
  e : Bool
  ext : BitVec 32
  deriving DecidableEq, Repr

/-- Format C; TIME uses it with no register number. -/
structure CFmt where
  r : BitVec 4
  resv : BitVec 9
  num : BitVec 12
  e : Bool
  deriving DecidableEq, Repr

/-- SEV's own format; bit [24] ALL tells SEV from SEV ALL. -/
structure SevFmt where
  slot : BitVec 4
  resv : BitVec 20
  e : Bool
  deriving DecidableEq, Repr

/-- REP's own format, with the major opcode of the instruction that follows it and that word's E. -/
structure RepFmt where
  reg : Bool
  dc : BitVec 4
  resv : BitVec 4
  n : BitVec 16
  e : Bool
  nextOp : BitVec 6
  nextE : Bool
  deriving DecidableEq, Repr

/-- REPU's own format, with the major opcode of the instruction that follows it. -/
structure RepuFmt where
  n1 : BitVec 6
  resv : BitVec 19
  e : Bool
  nextOp : BitVec 6
  deriving DecidableEq, Repr

/-- JWAIT's own format. -/
structure JwFmt where
  rd : BitVec 4
  resv : BitVec 18
  js : BitVec 3
  e : Bool
  deriving DecidableEq, Repr

end Sys2Proof
end

