-- ==== Sys2Proof/Parts/Core.lean ====
section
/-! DEFINITION. The parts of State that every chapter shares: the time base, the dictionary's stored values, the audit
recorder, and the operations that hold op tags. -/

set_option linter.unusedVariables false

namespace Sys2Proof

/-- The device time base (R35-R39). `now` counts nanoseconds modulo 2^64. -/
structure TimeBase where
  now : Nat := 0
  /-- Slew rate in parts per 10^9, at most 500,000 either way (R37). -/
  slewPpb : Int := 0
  /-- The part of a nanosecond the slewed master counter has gathered, in 10^-9 ns. -/
  slewAcc : Nat := 0
  /-- The battery-backed RTC in ns (R36). -/
  rtc : Nat := 0
  /-- The units' replicas, and whether they are halted by Standby; running, they show the master's count (R35, R39). -/
  replica : Nat := 0
  halted : Bool := false
  deriving DecidableEq, Repr

/-- The dictionary's stored values, by index × 256 + subindex: an entry not listed holds its Default (R407). -/
structure DictState where
  nums : FMap Nat := []
  blobs : FMap Bytes := []
  deriving DecidableEq, Repr

/-- An audit event or fault report on its way to, or in, the recorder (R34, R42, R479). -/
structure AuditEv where
  time : Nat
  source : Nat
  event : Nat
  domain : Nat := 0
  /-- KIND × 2^13 + ID (R478). -/
  actor : Nat := 0
  severity : Nat
  /-- The unit whose failure caused the report, 0xFFFF for none (R479). -/
  cause : Nat := 0xFFFF
  /-- The parameters the event code table gives, in its order: width in bytes and value of each. -/
  param : List (Nat × Nat) := []
  deriving DecidableEq, Repr

/-- An audit record (R477). -/
structure AuditRec where
  seq : Nat
  time : Nat
  source : Nat
  event : Nat
  domain : Nat
  actor : Nat
  severity : Nat
  rflags : Nat
  count : Nat
  last : Nat
  param : Bytes
  prevHash : Bytes
  boot : Nat
  valid : Nat
  deriving DecidableEq, Repr

/-- What a storm record is keyed on (R489, R491). -/
inductive StormKey where
  | cause (c : Nat)
  | sourceEvent (s e : Nat)
  | overflow
  | classEvent (cls e : Nat)
  deriving DecidableEq, Repr

/-- An open storm record (R489, R491). -/
structure Storm where
  key : StormKey
  first : AuditEv
  source : Nat
  last : Nat
  count : Nat
  /-- Distinct reporters seen. -/
  reporters : List Nat
  classes : Nat
  deriving DecidableEq, Repr

/-- A page of staged records (R484): its SEQs, and whether its programming has started. -/
structure AuditPage where
  seqs : List Nat
  since : Nat
  programming : Bool := false
  deriving DecidableEq, Repr

/-- The audit recorder (R477-R492). -/
structure AuditState where
  /-- Reports in VC3 not yet taken by the recorder, oldest first. -/
  vc3 : List AuditEv := []
  /-- Events held in their merge window (R42). -/
  window : List AuditEv := []
  storms : List Storm := []
  nextSeq : Nat := 0
  /-- The staging ring by slot, SEQ mod 65,536 (R483). -/
  staging : FMap AuditRec := []
  pages : List AuditPage := []
  /-- The running area by slot, SEQ mod 1,048,576 (R480). -/
  running : FMap AuditRec := []
  /-- The foundation copies, index 0 first (R480). -/
  foundation : List AuditRec := []
  durableSeq : Nat := 0
  anyDurable : Bool := false
  /-- The last time recorded: the largest TIME or LAST of a durable record (R36). -/
  lastTime : Nat := 0
  /-- Lowest SEQ the running area still holds (R480). -/
  oldestSeq : Nat := 0
  /-- PREV_HASH of the next running record and of the next foundation copy. -/
  lastHash : Bytes := zeros 32
  foundHash : Bytes := zeros 32
  /-- PREV_HASH that follows the last durable record. -/
  durableHash : Bytes := zeros 32
  /-- THROTTLE_ON is in force, since when (R491). -/
  throttled : Option Nat := none
  foundationLowRaised : Bool := false
  /-- The on-die buffer used in Standby (R487). -/
  standbyBuf : List AuditEv := []
  /-- The open-fault table: SEQ and acknowledged (R490). -/
  faultTable : List Nat := []
  fnCtl : Nat := 0
  fnBase : Nat := 0
  fnHead : Nat := 0
  fnTail : Nat := 0
  fnOver : Nat := 0
  /-- The Malath cursors by association: CURSOR and FCURSOR (R486). -/
  cursors : FMap Nat := []
  fcursors : FMap Nat := []
  /-- Last SEQ acknowledged (0x8F00:02). -/
  lastAck : Nat := 0
  deriving DecidableEq, Repr

/-- The states of an op tag other than FREE (R22). -/
inductive OpPhase where
  | admitted | issued | running | completing
  deriving DecidableEq, Repr

/-- The three units of a cipher core (R96); SHA-3 has a context of its own. -/
inductive CoreUnit where
  | aes | tdea | sha2 | sha3
  deriving DecidableEq, Repr

/-- Contexts of each unit (R96). -/
def CoreUnit.contexts : CoreUnit → Nat
  | .aes => 15 | .tdea => 16 | .sha2 => 4 | .sha3 => 1

/-- Where an operation comes from (R21, R23). `engine` is a job slot of a message engine or custodian core
(slot 8 is JOBX's). -/
inductive OpSrc where
  | host (channel slot : Nat)
  | mailbox (fn : Nat)
  | engine (proc slot : Nat)
  | message (string buf : Nat)
  deriving DecidableEq, Repr

/-- One entry of a scatter-gather list (R102). -/
structure SglEntry where
  addr : Nat
  len : Nat
  flags : Nat
  deriving DecidableEq, Repr

/-- A request on its way through admission (R16). -/
structure Req where
  src : OpSrc
  job : Job
  /-- The requester acts in the custodian world. -/
  custodian : Bool := false
  /-- Its domain, for a tenant-world requester and a message. -/
  domain : Nat := 0
  /-- Admission point: 0-31 the strings, 32 the central cache (R68). -/
  point : Nat := 32
  /-- Input read at admission (R132, R170). -/
  input : Bytes := []
  /-- A read that the admission checks need failed (R102, R132). -/
  readFault : Bool := false
  inSgl : List SglEntry := []
  outSgl : List SglEntry := []
  /-- The tag of the message operation it is a child of, and the reserved tag it will draw (R25). -/
  parent : Option Nat := none
  childTag : Option Nat := none
  /-- STALE answers met in a row (R84). -/
  stales : Nat := 0
  /-- Keys served from another tier than the point's own cache: index, and tier (32 central, 33 key store) (R84). -/
  tiers : FMap Nat := []
  /-- Its place in the order of submission, from the moment the device has read it (R116, R119). -/
  order : Option Nat := none
  /-- The lookups that CACHE_STATS has counted for it: tier and index (R95). -/
  looked : List (Nat × Nat) := []
  /-- Its lease has been asked of the key store and waits for its record (R68). -/
  leaseAsked : Bool := false
  /-- A span check of R242 failed, so the job ends with POLICY at check 10. -/
  spanFault : Bool := false
  /-- An engine job: physical spans of its input and output, as checked at issue (R104, R242, R244). -/
  inPhys : List (Nat × Nat) := []
  outPhys : List (Nat × Nat) := []
  /-- Where a host job's descriptor stands (R113). -/
  descAddr : Nat := 0
  /-- An engine job: the physical address of its template's OUT_CTL (R113); its address, violation kind and region where the
  active set denies the engine the write there (R238). -/
  outCtlAt : Option Nat := none
  outCtlDeny : Option (Nat × Nat × Nat) := none
  deriving DecidableEq, Repr

/-- A pin on a cache entry (R81): admission point, key index, generation. -/
structure Pin where
  point : Nat
  idx : Nat
  gen : Nat
  deriving DecidableEq, Repr

/-- The record of an operation that holds a tag. -/
structure Op where
  phase : OpPhase
  req : Req
  /-- Ostler or BN class (R115). -/
  cls : Nat := 0
  /-- The cipher core or engine that runs it, once dispatched. -/
  unit : Option Nat := none
  pins : List Pin := []
  parent : Option Nat := none
  /-- Reserved child tags not drawn yet, tags drawn by children that are on their way through admission, and children that
  have been admitted (R25). -/
  resv : List Nat := []
  drawn : List Nat := []
  kids : List Nat := []
  status : Status := .ok
  out : Bytes := []
  /-- OUTLEN of the completion (R15). -/
  outlen : Nat := 0
  nonce : Bytes := []
  untrusted : Bool := false
  ivPrefix : Bool := false
  /-- Journal sequence whose commit the completion waits for (R67). -/
  waitSeq : Option Nat := none
  started : Nat := 0
  /-- Waiting in RUNNING for an IV reservation (R112). -/
  ivWait : Bool := false
  /-- A payment job: the units of its steps after the one it is in (R134). -/
  steps : List CoreUnit := []
  /-- Admitted before its key was suspended: its structural PIN failure is not counted (R143). -/
  uncounted : Bool := false
  /-- Its tag is drawn from the custodian reserve (R26). -/
  reserve : Bool := false
  /-- Done, and waiting for its children to retire (R23). -/
  retiring : Bool := false
  /-- The result has been produced and waits to be delivered (R22). -/
  produced : Bool := false
  deriving DecidableEq, Repr

/-- The op tags (R21-R28). -/
structure OpState where
  ops : FMap Op := []
  free : FreeList := {}
  /-- Epoch of each tag, 4 bits; 0 where unlisted (R24). -/
  epochs : FMap Nat := []
  /-- Tags of the custodian reserve in use, of 1,024 (R26). -/
  custodianUsed : Nat := 0
  /-- Requests waiting for a FILL (R82), for a LEASE (R68), custodian jobs waiting for a reserved tag (R26). -/
  waitFill : List Req := []
  waitLease : List Req := []
  waitTag : List Req := []
  /-- The place in the order of submission that the next request takes (R116, R119). -/
  nextOrder : Nat := 0
  deriving DecidableEq, Repr

end Sys2Proof
end

