-- ==== Sys2Proof/Parts/Keys.lean ====
section
/-! DEFINITION. The parts of State that hold keys: records, caches, leases, the journal, destructions, compaction and
migration (R52-R95). -/

set_option linter.unusedVariables false

namespace Sys2Proof

/-- A key record (R56) with its attribute word by field (R57). -/
structure KeyRec where
  cls : Nat
  level : Nat
  expired : Bool := false
  gen : Nat
  usage : Nat
  exportPol : Nat
  dual : Bool := false
  volatileKey : Bool := false
  counted : Bool := false
  clearOrigin : Bool := false
  domain : Nat
  typ : Nat
  label : Nat := 0
  uses : Nat := 0
  ivctr : Nat := 0
  boot : Nat := 0
  /-- Index and generation of the ancestors at levels 1, 2, ... (R56). -/
  lineage : List (Nat × Nat) := []
  material : Bytes
  /-- First extension line and line count, for material above 48 bytes. -/
  extFirst : Nat := 0
  extCount : Nat := 0
  /-- The CREATE or VOLATILE_ALLOC record has committed (R67). -/
  committed : Bool := true
  /-- The key has been destroyed; the record waits for a compaction (R80). -/
  destroyed : Bool := false
  deriving DecidableEq, Repr

/-- Material at rest (R63): what is wrapped, and the key it is wrapped under with AES-256 KWP. -/
structure Wrapped where
  kek : Bytes
  plain : Bytes
  deriving DecidableEq, Repr

/-- A key record as NAND holds it (R63, R72, R88): the record without its material, and the material wrapped; a volatile
key's material and counter are not there at all. -/
structure StoredKey where
  kr : KeyRec
  wrapped : Option Wrapped := none
  deriving DecidableEq, Repr

/-- A journal record's content (R88). -/
inductive JBody where
  | create (k : StoredKey)
  | destroy (gen : Nat)
  | attr (usage exportPol : Nat) (dual : Bool) (label : Nat)
  | lease (amount point : Nat)
  | leaseReturn (amount point : Nat)
  | ivReserve (ivctr : Nat)
  /-- With the extension lines that stay allocated to the record (R56). -/
  | volatileAlloc (gen cls domain boot extFirst extCount : Nat)
  | boot (n : Nat)
  | compactBegin (epoch s : Nat)
  | compactEnd (epoch s : Nat)
  | migrateBegin (target : Bytes)
  | migrateWrap (domain : Nat) (wrapped : Wrapped)
  | migrateReady (target : Bytes)
  | migrateFinal (target : Bytes)
  | migrateAbandon
  | unknown (typ : Nat)
  deriving DecidableEq, Repr

/-- A journal record with its header (R88). -/
structure JRec where
  idx : Nat
  seq : Nat
  body : JBody
  deriving DecidableEq, Repr

/-- A page of the journal (R87, R89): open, closed and being programmed, or programmed and waiting for lower pages. -/
structure JPage where
  pageSeq : Nat
  /-- BOOT of the page's header (R87). -/
  boot : Nat := 0
  recs : List JRec
  since : Nat
  closed : Bool := false
  programmed : Bool := false
  deriving DecidableEq, Repr

/-- What waits for a record to commit (R90). -/
inductive WaitKind where
  /-- A service answer. -/
  | answer (via : Via) (st : Status) (resp : Bytes)
  /-- The key at an index becomes able to be named (R67). -/
  | keyReady (idx : Nat)
  /-- A lease reaches its admission point (R68). -/
  | lease (point idx amount gen : Nat)
  /-- An IV reservation reaches its holder (R74): holder number, first value. -/
  | iv (holder idx gen base : Nat)
  /-- A destruction's record (R78). -/
  | destroy (idx : Nat)
  /-- The boot directory and reset that follow a migration record (R402). -/
  | migrate (step : Nat)
  deriving DecidableEq, Repr

/-- A requester waiting for a committed record. -/
structure Wait where
  seq : Nat
  kind : WaitKind
  deriving DecidableEq, Repr

/-- One line of a key cache (R86): a copy of the record, its pins, and whether an invalidation makes it a miss. -/
structure CacheLine where
  idx : Nat
  key : KeyRec
  pins : Nat := 0
  stale : Bool := false
  deriving DecidableEq, Repr

/-- A destruction or attribute change in progress (R76, R78): who has received the invalidation, whose sweep has
ended, who has acknowledged, whether the record has committed. -/
structure Inval where
  idx : Nat
  gen : Nat
  destroy : Bool
  received : List Nat := []
  swept : List Nat := []
  acked : List Nat := []
  committed : Bool := false
  via : Option Via := none
  deriving DecidableEq, Repr

/-- An engine key slot (R83) of a cipher core or a big-number engine's key area (R162). -/
structure KeySlot where
  idx : Nat
  gen : Nat
  /-- Loaded by KEYDATA; a HOIST has been answered. -/
  loaded : Bool := false
  hoisted : Bool := false
  material : Bytes := []
  users : Nat := 0
  stamp : Nat := 0
  /-- To be cleared when its pinned job retires (R83). -/
  clearWhenFree : Bool := false
  /-- The key's expansion, once a big-number engine has made it (R163). -/
  expansion : Option Bytes := none
  deriving DecidableEq, Repr

/-- Compaction (R92). -/
inductive CompactState where
  | idle | copying | erasing | corrupt
  deriving DecidableEq, Repr

def CompactState.code : CompactState → Nat
  | .idle => 0 | .copying => 1 | .erasing => 2 | .corrupt => 3

/-- The snapshot of R91: the live records, generations and journal sequence it was taken at. -/
structure Snapshot where
  epoch : Nat
  seq : Nat
  keys : FMap StoredKey
  gens : FMap Nat
  free : FreeList
  boot : Nat
  wraps : FMap Wrapped := []
  migrating : Nat := 0
  target : Bytes := []
  finalTarget : Bytes := []
  deriving DecidableEq, Repr

/-- The key store (R52-R95). -/
structure KeyStore where
  /-- The warm store: every allocated record by index (R86). -/
  keys : FMap KeyRec := []
  /-- Generation of each index; 0 where unlisted (R55). -/
  gens : FMap Nat := []
  /-- Free general indices, as index - 0x1001 (R54). -/
  free : FreeList := {}
  /-- Extension lines in use, of 12,582,912 (R56). -/
  extUsed : Nat := 0
  /-- Cache sets by point × 65,536 + set, least recently used line first (R86). -/
  caches : FMap (List CacheLine) := []
  /-- Keys with extension lines in the central cache, least recently used first (R86). -/
  centralLru : List Nat := []
  /-- Unspent lease of each point for each key: point × 2^24 + index (R68). -/
  leases : FMap Nat := []
  invals : List Inval := []
  journal : List JPage := []
  /-- Committed pages not yet erased, oldest first (R90, R92). -/
  pages : List JPage := []
  /-- Pages whose programming a reset cut off, by the last journal sequence of each: used until erased (R91, R95). -/
  voided : List Nat := []
  /-- Stripes whose parity page is programmed (R90). -/
  parity : List Nat := []
  snap : Option Snapshot := none
  nextSeq : Nat := 1
  nextPage : Nat := 0
  /-- Pages of the snapshot that the last completed compaction left (R95). -/
  snapPages : Nat := 0
  waits : List Wait := []
  compact : CompactState := .idle
  epoch : Nat := 0
  compactS : Nat := 0
  /-- The snapshot being written (R92). -/
  building : Option Snapshot := none
  /-- Indices whose records the running compaction leaves out (R92). -/
  sweeping : List Nat := []
  /-- Migration: 0 none, 1 begun, 2 ready, 3 running on the target (R95). -/
  migState : Nat := 0
  migTarget : Bytes := []
  /-- The target of the last committed MIGRATE_FINAL (R402). -/
  finalTarget : Bytes := []
  wraps : FMap Wrapped := []
  /-- Each domain root at rest, by index: wrapped under the storage root (R63). -/
  atRest : FMap Wrapped := []
  bootCount : Nat := 0
  recovery : Nat := 0
  /-- The storage root delivered by the guard die; empty before it is (R62). -/
  storageRoot : Bytes := []
  /-- The domain roots could not be unwrapped: no key resolves (R62, R94). -/
  locked : Bool := false
  deriving DecidableEq, Repr

end Sys2Proof
end

