-- ==== Sys2Proof/Parts/Units.lean ====
section
/-! DEFINITION. The parts of State of the serving units: the cipher pool and its Ostler (R96-R160), the big-number
engines (R161-R192). -/

set_option linter.unusedVariables false

namespace Sys2Proof

/-- State of a cipher core or a big-number engine (CORE_STATE, R128). -/
inductive UnitState where
  | serving | draining | testing | retired
  deriving DecidableEq, Repr

def UnitState.code : UnitState → Nat
  | .serving => 0 | .draining => 1 | .testing => 2 | .retired => 3


/-- A cipher core's reservation of a key's IVCTR values (R74, R112): next value and end (exclusive), and whether the
next reservation has been asked for, and that reservation once committed. -/
structure IvRes where
  idx : Nat
  gen : Nat
  next : Nat
  stop : Nat
  asked : Bool := false
  /-- The following reservation, committed: first value, or none. -/
  follow : Option Nat := none
  deriving DecidableEq, Repr

/-- A cipher core (R96). -/
structure CipherCore where
  state : UnitState := .serving
  slots : List KeySlot := []
  /-- Jobs on the core: tag and the unit whose context it holds. -/
  jobs : List (Nat × CoreUnit) := []
  /-- Payment jobs between two units: tag, and the unit that each waits for a context of (R134). -/
  unitWait : List (Nat × CoreUnit) := []
  /-- Transient key slot entries: the tag of the big-number job and the secret hoisted for its KWP step (R167). -/
  transient : List (Nat × Bytes) := []
  ivs : List IvRes := []
  /-- Squashed work whose pass has not ended: tag and epoch (R24, R28). -/
  late : List (Nat × Nat) := []
  deriving DecidableEq, Repr

/-- A queued job: tag, channel it is served under (65,536 for none), cost (bytes or cost units), place in the order of
submission. -/
structure QJob where
  tag : Nat
  chan : Nat
  cost : Nat
  order : Nat := 0
  deriving DecidableEq, Repr

/-- A deficit counter of one channel within a class (R116). -/
structure ChanTurn where
  chan : Nat
  deficit : Nat
  deriving DecidableEq, Repr

/-- A class queue of the Ostler or the BN dispatcher (R115, R116): jobs in order of arrival, the class's deficit and
the round of its channels. -/
structure ClassQueue where
  jobs : List QJob := []
  deficit : Nat := 0
  turns : List ChanTurn := []
  deriving DecidableEq, Repr

/-- The cipher pool (R96-R160). -/
structure Pool where
  /-- Cores by number; a core not listed is as at reset. -/
  cores : FMap CipherCore := []
  queues : FMap ClassQueue := []
  /-- The class of 1-3 whose turn it is (R116). -/
  turn : Nat := 1
  /-- Next core in the self-test rotation (R120). -/
  rotation : Nat := 0
  /-- Structural PIN failures in this second, by key index (R143). -/
  pinFails : FMap Nat := []
  /-- The second of the time base in which the failures are counted (R143). -/
  pinSecond : Nat := 0
  /-- Time at which a key's suspension ends, by key index (R143). -/
  pinSuspended : FMap Nat := []
  stamp : Nat := 0
  /-- Time of the last self-test start (R120). -/
  testAt : Nat := 0
  /-- Cores of the first half whose test on exit from Standby has not ended (R124). -/
  exitTests : List Nat := []
  deriving DecidableEq, Repr

/-- A configured slot of a BN program (R190). -/
structure BnSlot where
  base : Nat
  words : Nat
  deriving DecidableEq, Repr

/-- A running BN program (R188-R191). -/
structure BnProg where
  cmds : List Nat
  pc : Nat := 0
  data : Bytes := []
  slots : FMap BnSlot := []
  /-- The highest output byte written, plus 1 (R191). -/
  top : Nat := 0
  ended : Bool := false
  failed : Bool := false
  deriving DecidableEq, Repr

/-- A big-number engine (R161). The working area is words 512-1023, listed where not zero. -/
structure BnEngine where
  state : UnitState := .serving
  slots : List KeySlot := []
  job : Option Nat := none
  work : FMap Nat := []
  prog : Option BnProg := none
  /-- Times of FAULT_DETECTED completions (R185). -/
  faults : List Nat := []
  /-- Three FAULT_DETECTED completions have come within 60 s: the test that follows retires it (R185). -/
  doomed : Bool := false
  deriving DecidableEq, Repr

/-- The big-number engines (R161-R192). -/
structure BnUnit where
  engines : FMap BnEngine := []
  queues : FMap ClassQueue := []
  turn : Nat := 1
  rotation : Nat := 0
  stamp : Nat := 0
  testAt : Nat := 0
  /-- Engines of the first half whose test on exit from Standby has not ended (R185). -/
  exitTests : List Nat := []
  deriving DecidableEq, Repr

end Sys2Proof
end

