-- ==== Sys2Proof/Parts/Links.lean ====
section
/-! DEFINITION. The parts of State of the host links, functions and channels (R351-R385), and of the Malath protocol's
associations and transfers (R409-R428). -/

set_option linter.unusedVariables false

namespace Sys2Proof

/-- One half of a host link (R351, R352): 2k + half. -/
structure HostLink where
  /-- 0 down, 1 training, 2 up (R384). -/
  state : Nat := 0
  /-- Rate code 1-6 and lanes. -/
  rate : Nat := 0
  width : Nat := 0
  flit : Bool := false
  deriving DecidableEq, Repr

/-- An MSI-X vector (R382, R383): its table entry and its pending bit. An entry resets with its mask bit set, as PCI
Express gives. -/
structure MsixVec where
  masked : Bool := true
  pending : Bool := false
  addrLo : Nat := 0
  addrHi : Nat := 0
  data : Nat := 0
  deriving DecidableEq, Repr

/-- STATE of a channel slot (R362). -/
inductive SlotState where
  | free | opened | closing | error
  deriving DecidableEq, Repr

def SlotState.code : SlotState → Nat
  | .free => 0 | .opened => 1 | .closing => 2 | .error => 3

/-- A slot's registers (R362), doorbells (R363) and ring positions (R366, R369, R383). -/
structure Slot where
  sqBase : Nat := 0
  cqBase : Nat := 0
  bqBase : Nat := 0
  dqBase : Nat := 0
  sizes : Nat := 0
  vector : Nat := 0
  coal : Nat := 0
  ctl : Nat := 0
  handle : Nat := 0
  state : SlotState := .free
  cause : Nat := 0
  lastSeq : Nat := 0
  lastDseq : Nat := 0
  sqTail : Nat := 0
  bqTail : Nat := 0
  dqHead : Nat := 0
  /-- The device's submission head and its pass (R366, R367). -/
  head : Nat := 0
  pass : Nat := 0
  /-- Submission slots whose job has not completed, each with its pass. -/
  busy : List (Nat × Nat) := []
  /-- Next buffer entry, next delivery entry, and the delivery ring's pass (R369). -/
  bqNext : Nat := 0
  dqTail : Nat := 0
  dqPass : Nat := 0
  /-- Records since the last message and the time of the first of them (R383). -/
  cqDue : Nat := 0
  cqSince : Nat := 0
  dqDue : Nat := 0
  dqSince : Nat := 0
  deriving DecidableEq, Repr

/-- The drain of R380 that a function is in. -/
structure FlrState where
  /-- The event: 0 FLR, 1 VF Enable, 2 link down, 3 Standby; and the function (or half) it started at. -/
  kind : Nat
  origin : Nat
  start : Nat
  /-- Last step of R380 done: 2, 3 or 4. -/
  step : Nat
  squashed : Nat := 0
  handles : List Nat := []
  deriving DecidableEq, Repr

/-- A host function: physical functions 0-3 (H0A, H0B, H1A, H1B), virtual function v as 4 + v (R353). -/
structure HostFn where
  /-- Negotiated ABI: 0 none, 1, 3 (R377). -/
  abi : Nat := 0
  slots : FMap Slot := []
  /-- The mailbox page, bytes listed where not zero (R373). -/
  mbox : FMap Nat := []
  /-- A mailbox request is outstanding: its REQ_SEQ (R374). -/
  mbBusy : Option Nat := none
  /-- The outstanding request has been taken up. -/
  mbTaken : Bool := false
  mbDone : Nat := 0
  vectors : FMap MsixVec := []
  badAccess : Nat := 0
  /-- Held low halves of 64-bit registers, by offset (R360). -/
  lowHalf : FMap Nat := []
  flr : Option FlrState := none
  /-- The implicit channel of ABI v1 and its domain (R377). -/
  implicitChan : Option Nat := none
  /-- The in-band window (R413): its bytes where not zero, and IB_BUSY. -/
  ib : FMap Nat := []
  ibBusy : Bool := false
  ibRung : Bool := false
  deriving DecidableEq, Repr

/-- A completion record held for redelivery (R372). -/
structure HeldRec where
  seq : Nat
  bytes : Bytes
  outAddr : Nat
  outSgl : List SglEntry
  retained : Option Bytes
  deriving DecidableEq, Repr

/-- What a delivery carries (R369). -/
structure Delivery where
  typ : Nat
  data : Bytes
  time : Nat
  /-- The message operation that retires when the record is issued. -/
  tag : Option Nat
  since : Nat
  deriving DecidableEq, Repr

/-- What a channel belongs to. -/
inductive ChanKind where
  | slot (fn slot : Nat)
  | implicit (fn : Nat)
  | listener (l : Nat)
  deriving DecidableEq, Repr

/-- An open or closing channel (R361). -/
structure Chan where
  kind : ChanKind
  inc : Nat
  domain : Nat
  /-- Tag share S (R117). -/
  share : Nat := 256
  nextSeq : Nat := 0
  nextDseq : Nat := 0
  poolTags : Nat := 0
  bnTags : Nat := 0
  held : List HeldRec := []
  retainBytes : Nat := 0
  retainUsed : Nat := 0
  deliveries : List Delivery := []
  closing : Option Nat := none
  /-- Closed by the deletion of its domain, so no CHANNEL_CLOSE is answered (R399). -/
  quiet : Bool := false
  deriving DecidableEq, Repr

/-- The host interface (R351-R385). -/
structure HostState where
  links : FMap HostLink := []
  fns : FMap HostFn := []
  chans : FMap Chan := []
  /-- Next incarnation of each index; 1 where unlisted (R361). -/
  incs : FMap Nat := []
  chanFree : FreeList := {}
  /-- Retained-output bytes granted, of 1.5 GiB (R372). -/
  retainUsed : Nat := 0
  /-- Bifurcation and VF split in force since the last reset (R352), by link. -/
  bifurcated : FMap Nat := []
  vfSplit : FMap Nat := []
  /-- VFs enabled on each physical function, and the number a drain in progress waits to put into force (R378, R379). -/
  numVfs : FMap Nat := []
  vfPending : FMap Nat := []
  deriving DecidableEq, Repr

/-- The three carriers of Malath (R409). -/
inductive MalLink where
  | mgt | can | inband
  deriving DecidableEq, Repr

/-- A request or answer PDU (R410, R411) with its payload by field. -/
structure Pdu where
  ver : Nat
  typ : Nat
  txn : Nat
  actor : Nat
  payload : Bytes
  deriving DecidableEq, Repr

/-- A segmented transfer (R422, R423). -/
structure Xfer where
  assoc : Nat
  /-- XDIR: 0 download to an entry, 1 upload, 2 download to staging. -/
  dir : Nat
  index : Nat
  sub : Nat
  total : Nat
  /-- TXN of SEG_INIT. -/
  txn : Nat
  actor : Nat
  /-- The copy being sent, or the segments received so far: offset and bytes. -/
  data : Bytes := []
  segs : List (Nat × Bytes) := []
  /-- The role that opened it (R422). -/
  role : Role := .nobody
  /-- Lowest offset not yet acknowledged, and the end of what has been sent. -/
  nextOff : Nat := 0
  sent : Nat := 0
  lastMove : Nat := 0
  lastAck : Nat := 0
  /-- A staged object that has arrived whole (R422). -/
  staged : Bool := false
  deriving DecidableEq, Repr

/-- A held answer (R418): TXN, until when, and the answer. -/
structure HeldAns where
  txn : Nat
  till : Nat
  pdu : Pdu
  deriving DecidableEq, Repr

/-- An association (R417): MGT 0-31, CAN 32-47, in-band 48-51. -/
structure Assoc where
  link : MalLink
  peer : MalPeer
  version : Nat
  subscribed : Bool := false
  lastFrame : Nat := 0
  held : List HeldAns := []
  /-- A response too long for its PDU, held for 600 s: handle, until when, bytes (R424). -/
  responses : List (Nat × Nat × Bytes) := []
  /-- TXNs of requests still being served (R418). -/
  serving : List Nat := []
  /-- CAN alive counters: last accepted with its time, next to send (R415). -/
  aliveRx : Option (Nat × Nat) := none
  aliveTx : Nat := 0
  deriving DecidableEq, Repr

/-- The Malath responder (R404-R431). -/
structure MalState where
  assocs : FMap Assoc := []
  xfers : FMap Xfer := []
  /-- Heartbeat SEQ of CAN and of MGT, the alive counter of the CAN identifier, and when each link's last heartbeat left
  (R425, R426). -/
  hbSeqCan : Nat := 0
  hbSeqMgt : Nat := 0
  hbAlive : Nat := 0
  hbLastCan : Option Nat := none
  hbLastMgt : Option Nat := none
  /-- MGT link up; MGT_MODE in effect since the last restart (R429). -/
  mgtUp : Bool := false
  mgtMode : Nat := 0
  deriving DecidableEq, Repr

end Sys2Proof
end

