-- ==== Sys2Proof/RigForms.lean ====
section
/-! DEFINITION. A rig image by its parts (R257-R284), as the custodian parses it, and the messages that run under it. -/

set_option linter.unusedVariables false

namespace Sys2Proof

/-- A section directory entry (R258). -/
structure RigDir where
  typ : Nat
  cls : Nat
  index : Nat
  offset : Nat
  length : Nat
  resv : Nat := 0
  deriving DecidableEq, Repr

/-- A test of a classifier rule (R261). -/
structure RigTest where
  offset : Nat
  mask : Bytes
  value : Bytes
  deriving DecidableEq, Repr

/-- A classifier rule (R261). -/
structure RigRule where
  listener : Nat
  cls : Nat
  tests : List RigTest
  resv : Nat := 0
  deriving DecidableEq, Repr

/-- A step of a PARSE or EMIT section (R263, R279). -/
structure RigStep where
  kind : Nat
  pfx : Nat
  cond : Nat
  entry : Nat
  min : Nat
  max : Nat
  deriving DecidableEq, Repr

/-- A field-map entry (R264). -/
structure RigField where
  fnum : Nat
  flags : Nat
  dest : Nat
  max : Nat
  resv : Nat := 0
  deriving DecidableEq, Repr

/-- An entry of a routing table with its bucket (R269). -/
structure RouteEntry where
  bucket : Nat
  key : Bytes
  valid : Bool
  handle : Nat
  handle2 : Nat
  aux : Nat
  resv : Nat := 0
  deriving DecidableEq, Repr

/-- A ROUTE section (R269). -/
structure RigRoute where
  /-- INDEX of its directory entry. -/
  idx : Nat
  entry : Nat
  koff : Nat
  klen : Nat
  k : Nat
  miss : Nat
  defHandle : Nat
  defHandle2 : Nat
  entries : List RouteEntry
  resv : Nat := 0
  deriving DecidableEq, Repr

/-- A slice header (R272). -/
structure RigSlice where
  slot : Nat
  flags : Nat
  jslots : Nat
  handoff : Nat
  deps : Nat
  start : Nat
  span : Nat
  codeOff : Nat
  codeLen : Nat
  jobs : Nat
  resv : Nat := 0
  deriving DecidableEq, Repr

/-- FLAGS of a slice (R272). -/
def RigSlice.isFinal (s : RigSlice) : Bool := bitOf s.flags 0
def RigSlice.isEmit (s : RigSlice) : Bool := bitOf s.flags 1
def RigSlice.afterEmit (s : RigSlice) : Bool := bitOf s.flags 2

/-- A class of an image: header (R259) and sections. -/
structure RigClass where
  cls : Nat
  reject : Nat
  j : Nat
  strings : Nat
  msgMax : Nat
  outMax : Nat
  faLen : Nat
  descOff : Nat
  w : Nat
  depth : Nat
  scratch : Nat
  dataLen : Nat
  hbmLen : Nat
  resv : Nat := 0
  parse : List RigStep
  fields : List RigField
  routes : List RigRoute
  slices : List RigSlice
  /-- The CODE section as 32-bit words. -/
  code : List Nat
  data : Bytes
  emit : Option (List RigStep)
  deriving DecidableEq, Repr

/-- One entry of the SIGNATURES section, with what verification under the officer's registered keys gives (R284). -/
structure RigSig where
  officer : Nat
  mldsaOk : Bool
  ecdsaOk : Bool
  resv : Nat := 0
  deriving DecidableEq, Repr

/-- A rig image (R257-R284). -/
structure RigImage where
  magic : Nat
  format : Nat
  domain : Nat
  classCount : Nat
  version : Nat
  len : Nat
  minFw : Nat
  resv : Nat := 0
  /-- The object is as long as IMAGE_LEN says. -/
  lenOk : Bool := true
  /-- The reserved bytes of the CLASSIFIER's and the SIGNATURES section's headers. -/
  ruleResv : Nat := 0
  sigResv : Nat := 0
  dir : List RigDir
  default : Nat
  rules : List RigRule
  classes : List RigClass
  sigs : List RigSig
  deriving DecidableEq, Repr

end Sys2Proof
end

