-- ==== Sys2Proof/Parts/Lope.lean ====
section
/-! DEFINITION. The parts of State of the Lope processors (R193-R232), their protection units and the violation queue
(R233-R256), and of rig images and the messages running under them (R257-R292). -/

set_option linter.unusedVariables false

namespace Sys2Proof

/-- A job slot of a processor (R222, R223). -/
structure JobSlot where
  /-- A job has been issued on it and not yet consumed by JWAIT. -/
  issued : Bool := false
  /-- The X register its result goes to, for JOBX. -/
  xd : Option (Fin 4) := none
  /-- The tag output takes (R225). -/
  secret : Bool := false
  tag : Option Nat := none
  /-- Generation its spans were checked under (R242). -/
  gen : Nat := 0
  deriving DecidableEq, Repr

/-- A wait in progress (R213-R215, R223). -/
inductive LopeWait where
  /-- WFE: destination, mask, and the time its limit expires. -/
  | wfe (rd : Fin 16) (mask : BitVec 32) (till : Option Nat) (len : Nat)
  /-- WTU: target and the time its limit expires. -/
  | wtu (target : Nat) (till : Nat)
  /-- JWAIT on a busy slot. -/
  | jwait (rd : Fin 16) (slot : Fin 8)
  /-- PSWAP held off by SLOCK or a LOAD (R243). -/
  | pswap
  deriving DecidableEq, Repr

/-- A Lope processor (R196, R197). -/
structure Proc where
  a : Vector (BitVec 32) 8 := Vector.replicate 8 0#32
  d : Vector (BitVec 64) 16 := Vector.replicate 16 0#64
  x : Vector (BitVec 256) 4 := Vector.replicate 4 0#256
  dTag : Vector Bool 16 := Vector.replicate 16 false
  xTag : Vector Bool 4 := Vector.replicate 4 false
  /-- XD pending on a job slot (R221). -/
  xPend : Vector Bool 4 := Vector.replicate 4 false
  pc : BitVec 32 := 0x200000#32
  sr : BitVec 32 := 0x80000000#32
  bk : BitVec 16 := 0x10#16
  ev : BitVec 32 := 0#32
  evm : BitVec 32 := 0#32
  rc : BitVec 32 := 0#32
  lrem : BitVec 32 := 0#32
  epc : BitVec 32 := 0#32
  esr : BitVec 32 := 0#32
  ecause : BitVec 8 := 0#8
  eaddr : BitVec 32 := 0#32
  vbr : BitVec 32 := 0x200000#32
  budget : BitVec 64 := 0#64
  cycle : BitVec 64 := 0#64
  instret : BitVec 64 := 0#64
  jstat : Vector (BitVec 64) 8 := Vector.replicate 8 0#64
  jobs : Vector JobSlot 8 := Vector.replicate 8 {}
  /-- Stopped: a custodian core held by a cluster reset. -/
  off : Bool := false
  /-- HALT has been executed. -/
  halted : Bool := false
  /-- Out of service after a double fault (R231). -/
  dead : Bool := false
  wait : Option LopeWait := none
  preempt : Bool := false
  haltReq : Bool := false
  /-- The message operation whose slice it runs, and the slice. -/
  slice : Option (Nat × Nat) := none
  /-- Custodian-dispatched work (R194), and such work that waits for the PREEMPT it was requested with (R229). -/
  custodianWork : Bool := false
  custDue : Bool := false
  /-- The address of the instruction that a repeat in progress repeats, and of a wait that was interrupted: the model's own, so
  that SR.REPA and SR.LRA, which stay set while a handler runs, act on that instruction alone (R215, R217). -/
  repAt : BitVec 32 := 0#32
  waitAt : BitVec 32 := 0#32
  deriving DecidableEq, Repr

/-- A protection region (R236). -/
structure Region where
  base : Nat := 0
  limit : Nat := 0
  hbase : Nat := 0
  rattr : Nat := 0
  deriving DecidableEq, Repr

/-- A rule set in image layout (R235); the reserved word at 0x00C reads zero (R10). -/
structure RuleSet where
  rsctl : Nat := 0
  codeBase : Nat := 0
  codeLimit : Nat := 0
  resv : Nat := 0
  regions : List Region := List.replicate 16 {}
  deriving DecidableEq, Repr

/-- A protection unit (R243-R249). -/
structure ProtUnit where
  active : RuleSet := {}
  standby : RuleSet := {}
  slock : Bool := false
  rerr : Bool := false
  loadBusy : Option Nat := none
  revokeBusy : Bool := false
  gen : Nat := 0
  fencedGen : Nat := 0
  sbySrc : Nat := 0xFF
  actSrc : Nat := 0xFF
  /-- A REVOKE waits for the end of a REPU (R247). -/
  revokePending : Bool := false
  /-- The class (domain, image version, class) each set was built for, as the string dispatcher knows it (R248). -/
  actFor : Option (Nat × Nat × Nat) := none
  sbyFor : Option (Nat × Nat × Nat) := none
  deriving DecidableEq, Repr

/-- A violation record (R250). -/
structure Violation where
  time : Nat
  source : Nat
  kind : Nat
  flags : Nat
  domain : Nat
  region : Nat
  gen : Nat
  last : Nat
  count : Nat
  addr : Nat
  deriving DecidableEq, Repr

/-- The violation queue (R252, R253). Ring entries are listed by entry number; `sealed` counts entries a read of
VQ_HEAD has sealed. -/
structure VioQueue where
  ctl : Nat := 0
  base : Nat := 0
  size : Nat := 4096
  head : Nat := 0
  tail : Nat := 0
  lost : Nat := 0
  /-- Records written so far, and how many of them are sealed. -/
  written : Nat := 0
  sealed : Nat := 0
  newest : Option Violation := none
  lostSince : Bool := false
  /-- The notification interrupt has been taken and VQ_TAIL not yet written. -/
  notified : Bool := false
  deriving DecidableEq, Repr

/-- Where a class stands on a string (R286): code, rule-table image and data areas. -/
structure ClassPlace where
  string : Nat
  cls : Nat
  codeBase : Nat
  image : Nat
  msgBase : Nat
  outBase : Nat
  faBase : Nat
  ctxBase : Nat
  dataBase : Nat
  routeBase : Nat
  scrBase : Nat
  hbmBase : Nat
  deriving DecidableEq, Repr

/-- An image in the device (R287, R288): current, or draining its last messages. -/
structure RigEntry where
  img : RigImage
  places : List ClassPlace
  deriving DecidableEq, Repr

/-- An admission held by QUIESCE (R289). -/
structure Quiesce where
  img : RigImage
  via : Via
  officer : Nat
  till : Nat
  deriving DecidableEq, Repr

/-- An admission that waits for another of its domain (R291). -/
structure RigReq where
  img : RigImage
  via : Via
  officer : Nat
  quiesce : Bool
  deriving DecidableEq, Repr

/-- A domain's images (R288-R290). -/
structure DomainRig where
  current : Option RigEntry := none
  draining : List RigEntry := []
  quiesce : Option Quiesce := none
  queued : List RigReq := []
  retired : Bool := false
  deriving DecidableEq, Repr

/-- What an arriving message came on, for ACTION 1 and correlation (R280, R343, R344). -/
structure MsgOrigin where
  /-- Connection number and incarnation, for TCP. -/
  conn : Option (Nat × Nat)
  listener : Nat
  chan : Nat
  port : Nat
  v6 : Bool
  /-- UDP peer, and the listener's local port. -/
  peerAddr : Bytes
  peerPort : Nat
  localPort : Nat
  vlan : Option Nat := none
  dscp : Nat := 0
  deriving DecidableEq, Repr

/-- Progress of a slice (R273, R275). -/
structure SliceRun where
  idx : Nat
  start : Nat
  deadline : Nat
  called : Option Nat := none
  ended : Option Nat := none
  deriving DecidableEq, Repr

/-- A message in a string (R271). -/
structure Msg where
  domain : Nat
  version : Nat
  cls : Nat
  string : Nat
  buf : Nat
  /-- The class and buffer that hold the input; after a parse failure the message runs as its REJECT class (R267). -/
  homeCls : Nat
  homeBuf : Nat
  origin : MsgOrigin
  bytes : Bytes
  /-- Written to its buffer, at T0. -/
  delivered : Bool := false
  t0 : Nat := 0
  t1 : Nat := 0
  /-- CORE frequency in MHz at T1 (R273, R276). -/
  mhz : Nat := 1600
  parsed : Bool := false
  deadline : Nat := 0
  miss : Nat := 0
  routes : List (Nat × Nat × Nat) := []
  slices : List SliceRun := []
  emitStart : Option Nat := none
  emitEnd : Option Nat := none
  outLen : Nat := 0
  /-- Handed to egress; its string buffers are free again (R280). -/
  released : Bool := false
  deriving DecidableEq, Repr

/-- A string's power state (R533, R534). -/
structure StringState where
  gated : Bool := false
  waking : Bool := false
  idleSince : Nat := 0
  deriving DecidableEq, Repr

/-- Rig processing (R257-R292). -/
structure RigState where
  domains : FMap DomainRig := []
  /-- The committed images of the NAND partition, by domain (R287). -/
  nand : FMap RigImage := []
  /-- Messages in strings, by op tag. -/
  msgs : FMap Msg := []
  strings : FMap StringState := []
  deriving DecidableEq, Repr

end Sys2Proof
end

