-- ==== Sys2Proof/Parts/Out.lean ====
section
/-! DEFINITION. What the device sends out: the model's own record of every posted write, interrupt, answer, frame and
card command, newest first. -/

set_option linter.unusedVariables false

namespace Sys2Proof

/-- One thing sent out of the device, or the value a register read returns. -/
inductive Emission where
  /-- A posted write of a function: bus address and bytes. -/
  | hostWrite (fn addr : Nat) (b : Bytes)
  | msix (fn vec : Nat)
  /-- A mailbox response: RSP_SEQ, STATUS, RSP_DATA; MB_DONE and vector 0 follow it (R374). -/
  | mailbox (fn seq : Nat) (st : Status) (resp : Bytes)
  /-- The answer to a custodian service request (R389). -/
  | answer (via : Via) (st : Status) (resp : Bytes)
  /-- The value a register read returned. -/
  | readValue (v : Nat)
  | readBytes (b : Bytes)
  /-- A Malath PDU to a peer; on CAN, as it is handed to the controller. -/
  | pdu (dest : MalPeer) (p : Pdu)
  /-- A frame sent on CAN: identifier and data (R414). -/
  | canFrame (ident : Nat) (b : Bytes)
  /-- A port event record delivered to the custodian (R321). -/
  | portEvent (b : Bytes)
  /-- A frame on the wire of a port: bytes without FCS, and whether it is ended with an inverted FCS (R311). -/
  | frame (port : Nat) (b : Bytes) (stomped : Bool)
  /-- The outcome of a dictionary entry's write: index, subindex, REASON of R420 or 0. -/
  | wrote (index sub reason : Nat)
  /-- An interrupt to the custodian cluster: 0 violation queue, 1 fault notification, 2 others. -/
  | custodianIrq (n : Nat)
  deriving DecidableEq, Repr

end Sys2Proof
end

