-- ==== Sys2Proof/Parts/Life.lean ====
section
/-! DEFINITION. The part of State that says how far the device has come up and what holds it back: boot (R386), gait and
reef level (R533, R536), the hobble (R498) and zeroisation (R502). -/

set_option linter.unusedVariables false

namespace Sys2Proof

/-- How the device stands as a whole. -/
structure LifeState where
  /-- Reset has been released and the boot chain has not ended (R386). -/
  booting : Bool := true
  /-- GSTATUS.READY: admission is open (R356, R386). -/
  ready : Bool := false
  /-- GSTATUS.CUSTODIAN_UP (R356). -/
  custUp : Bool := false
  /-- Gait: 0 Walk, 1 Trot, 2 Gallop, 3 Standby (R533). -/
  gait : Nat := 1
  /-- Reef level 0-3 (R536). -/
  reef : Nat := 0
  /-- CX9664-H: ports 32-63 and strings 16-31 are fused (R1-R3). -/
  variantH : Bool := false
  /-- The hobble latch (R498). -/
  hobbled : Bool := false
  /-- The dies are held in reset by a zeroisation (R502). -/
  zeroised : Bool := false
  /-- A service has been answered that ends in a full custodian-initiated reset (R501, R543). -/
  resetDue : Bool := false
  /-- A life-cycle transition awaits its LIFECYCLE record (R517): OTP bit to burn, old state, new state, ACTOR. -/
  burnDue : Option (Nat × Nat × Nat × Nat) := none
  /-- Power is off: PWR_KILL is asserted or the main rails are gone (R537, R544). -/
  powerOff : Bool := false
  /-- HBM channels that have failed since the last reset (R49). -/
  hbmFailed : List Nat := []
  /-- Aligned 8-byte words of engine memory that hold an uncorrectable error, by physical address / 8 (R229). -/
  badWords : List Nat := []
  /-- Units whose self-test at the next reset fails, with the test that does: cipher core n as n, big-number engine n as 64 + n
  (R124, R185). -/
  faulty : FMap Nat := []
  /-- Buffers treated as poisoned: physical address, length and the engine whose transfer mismatched (R475). -/
  poison : List (Nat × Nat × Nat) := []
  deriving DecidableEq, Repr

end Sys2Proof
end

