-- ==== Sys2Proof/Parts/Rng.lean ====
section
/-! DEFINITION. The parts of State of the random number pipeline (R452-R469) and the check-value units (R470-R475). -/

set_option linter.unusedVariables false

namespace Sys2Proof

/-- An entropy source (R452, R455). STATE: 0 healthy, 1 start-up, 2 failed and waiting, 3 retired, 4 stopped (R476). -/
structure EntropySource where
  state : Nat := 1
  /-- Times of its failures within the last 60 s. -/
  fails : List Nat := []
  failedAt : Nat := 0
  deriving DecidableEq, Repr

/-- A DRBG core (R467): 0 serving, 1 self-test, 2 retired. -/
structure DrbgCore where
  state : Nat := 0
  testAt : Nat := 0
  deriving DecidableEq, Repr

/-- A DRBG instance (R459-R465). `seed` numbers its instantiation or reseed. -/
structure DrbgInst where
  seeded : Bool := false
  seed : Nat := 0
  /-- Generate calls since its last reseed. -/
  calls : Nat := 0
  reseedAt : Nat := 0
  buf : Bytes := []
  overdue : Bool := false
  errEmpty : Bool := false
  errWidth : Bool := false
  reseeds : Nat := 0
  /-- RNG_CTL.RESEED: it reseeds before its next output. -/
  force : Bool := false
  /-- It has reseeded for a generation that waited (R462). -/
  ready : Bool := false
  /-- The personalisation string of a domain instance (R461). -/
  pers : Bytes := []
  /-- Last use, for the choice of an idle domain instance (R461). -/
  stamp : Nat := 0
  deriving DecidableEq, Repr

/-- What a key store generation creates once its instance has reseeded (R66, R399, R461). -/
inductive GenKind where
  | key (parent gen typ cls attr : Nat)
  | root (domain : Nat)
  deriving DecidableEq, Repr

/-- A generation that waits for entropy (R462). -/
structure GenWait where
  inst : Nat
  since : Nat
  kind : GenKind
  via : Via
  actor : Nat
  deriving DecidableEq, Repr

/-- The random number pipeline (R452-R469). -/
structure RngState where
  /-- ENTROPY_MODE in force (R456). -/
  mode : Nat := 0
  sources : FMap EntropySource := []
  /-- Complete blocks not yet released: number and time of the last raw bit (R454). -/
  unreleased : List (Nat × Nat) := []
  /-- The entropy queue, first in first out (R458). -/
  queue : List Nat := []
  nextBlock : Nat := 0
  cores : FMap DrbgCore := []
  insts : FMap DrbgInst := []
  /-- Reseeds that wait for blocks, in order of request: instance and time. -/
  wait : List (Nat × Nat) := []
  gens : List GenWait := []
  /-- Instances of domains (R461), and the next one never allocated. -/
  domains : FMap Nat := []
  nextDomain : Nat := 128
  stamp : Nat := 0
  deriving DecidableEq, Repr

/-- A check-value unit's registers (R471). -/
structure CvUnit where
  ctl : Nat := 0
  addr : Nat := 0
  seq : Nat := 0
  alive : Nat := 0
  state : Nat := 0
  len : Nat := 0
  deriving DecidableEq, Repr

end Sys2Proof
end

