-- ==== Sys2Proof/SvcForms.lean ====
section
/-! DEFINITION. The actions that requests of the custodian service interface carry (R389-R391, R563, R564). -/

set_option linter.unusedVariables false

namespace Sys2Proof

/-- The officer record of R564. -/
structure OfficerRec where
  officer : Nat
  role : Nat
  domain : Nat
  cardKey : Bytes
  rigEcdsa : Bytes
  rigMldsa : Bytes
  /-- OR of the reserved fields. -/
  resv : Nat
  /-- The object's length is 200, or 2,152 for a DM. -/
  lenOk : Bool
  deriving DecidableEq, Repr

/-- A firmware image (R387): its header, whether each vendor signature verifies under the keys in OTP, and the SHA-384 of
the whole image. -/
structure FwImage where
  magicOk : Bool
  version : Nat
  svn : Nat
  length : Nat
  mldsaOk : Bool
  ecdsaOk : Bool
  measurement : Bytes
  deriving DecidableEq, Repr, Inhabited

/-- The arguments of every service but the four of dual-control sessions (R563). -/
inductive SvcAction where
  | serviceInfo
  | keyDestroy (handle : Nat)
  | keyAttr (handle attr : Nat)
  | keyImport (unwrap form typ cls attr : Nat) (obj : ObjRef) (wrapped : Bytes)
  | keyInfo (handle : Nat)
  | keyGenerate (parent typ cls attr : Nat)
  | keyDerive (base typ cls attr : Nat) (label context : Bytes)
  | rxscSet (port rxsc window sci : Nat)
  | saCreate (port dir rxsc an key ssci pn : Nat) (salt : Bytes)
  | saEnable (port dir rxsc an : Nat)
  | txArm (port an : Nat)
  | saDelete (port dir rxsc an : Nat)
  | rigAdmit (obj : ObjRef) (image : RigImage)
  | rigRetire (domain : Nat)
  | domainCreate (domain : Nat)
  | domainDelete (domain : Nat)
  | officerEnrol (slot pinLen : Nat) (pin : Bytes) (obj : ObjRef) (record : OfficerRec) (card : CardReply)
  | officerRevoke (officer : Nat)
  | officerLogin (slot pinLen officer : Nat) (pin : Bytes) (card : CardReply)
  | officerLogout (officer : Nat)
  | fwStage (obj : ObjRef) (image : FwImage)
  | migrateBegin
  | migrateReady
  | migrateFinal
  | migrateAbandon
  | deviceReset
  | hobbleUnlock
  | dictWrite (index sub tcode : Nat) (obj : ObjRef) (value : Bytes)
  deriving DecidableEq, Repr

/-- A service request (R389). -/
structure SvcReq where
  hdr : SvcHdr
  action : SvcAction
  deriving DecidableEq, Repr

end Sys2Proof
end

