-- ==== Sys2Proof/Parts/Cust.lean ====
section
/-! DEFINITION. The part of State of the custodian: officers, logins, dual-control sessions, firmware slots and the boot
directory, the secure watchdog (R386-R403). -/

set_option linter.unusedVariables false

namespace Sys2Proof

/-- An enrolled officer (R396). A revoked ID stays listed, so that it is never issued again. -/
structure Officer where
  role : OfficerRole
  domain : Nat := 0
  cardKey : Bytes := []
  rigEcdsa : Bytes := []
  rigMldsa : Bytes := []
  revoked : Bool := false
  deriving DecidableEq, Repr

/-- A login of a slot (R395). -/
structure Login where
  officer : Nat
  lastUse : Nat
  /-- The association the officer is bound to (R417). -/
  bound : Option Nat := none
  deriving DecidableEq, Repr

/-- A dual-control session (R397, R565). -/
structure Session where
  req : SvcReq
  /-- Who opened it, with the officer its request named. -/
  opener : Via
  officer : Nat
  /-- Scope: device officer, or the officers of a domain. -/
  scope : Option Nat
  m : Nat
  officers : List Nat := []
  /-- Time base at which it expires; once executed, the time of execution. -/
  expires : Nat
  /-- 0 open, 1 executed, 2 expired, 3 cancelled; 255 while its action is checked at opening. -/
  state : Nat := 0
  actionStatus : Nat := 0
  /-- An authorisation has been counted, so that the window runs from the first. -/
  begun : Bool := false
  response : Bytes := []
  digest : Bytes := []
  /-- When it ended; its record is held for 600 s. -/
  endedAt : Nat := 0
  /-- The request that brought the count to M, to be answered with the action's result (R398). -/
  asker : Option Via := none
  deriving DecidableEq, Repr

/-- One copy of the boot directory (R388): slot 0 A, 1 B. -/
structure BootDir where
  primary : Nat := 0
  trial : Option Nat := none
  tries : Nat := 0
  dseq : Nat := 0
  /-- The copy authenticates (R51, R386). -/
  valid : Bool := true
  deriving DecidableEq, Repr

/-- The secure watchdog (R400, R401). -/
structure Watchdog where
  en : Bool := false
  period : Nat := 5000
  /-- WD_PERIOD has been written since the last cluster reset (WS). -/
  periodSet : Bool := false
  /-- When the period started. -/
  since : Nat := 0
  /-- 0xA5 has been written, at this time. -/
  armed : Option Nat := none
  /-- Times of the resets counted in CRESETS. -/
  resets : List Nat := []
  total : Nat := 0
  /-- A cluster reset is in progress. -/
  rebooting : Bool := false
  deriving DecidableEq, Repr

/-- A service whose use of a key waits for its lease's record (R68). -/
structure UseWait where
  seq : Nat
  hdr : SvcHdr
  act : SvcAction
  role : Role
  deriving DecidableEq, Repr

/-- The custodian. -/
structure CustState where
  officers : FMap Officer := []
  logins : FMap Login := []
  sessions : FMap Session := []
  /-- Firmware slots A and B. -/
  slotA : Option FwImage := none
  slotB : Option FwImage := none
  dirA : BootDir := {}
  dirB : BootDir := {}
  /-- The slot booted at the last reset, and the measurement latch (R386). -/
  booted : Nat := 0
  latch : Bytes := []
  /-- Domains that exist (R399). -/
  domains : List Nat := []
  bootStep : Nat := 0
  bootError : Nat := 0
  readyTime : Nat := 0
  wd : Watchdog := {}
  /-- A migration record has committed and what follows it is due (R402): 1 BEGIN, 2 READY, 3 FINAL, 4 ABANDON. -/
  pendingMig : Option Nat := none
  useWaits : List UseWait := []
  deriving DecidableEq, Repr

end Sys2Proof
end

