-- ==== Sys2Proof/Parts/Net.lean ====
section
/-! DEFINITION. The parts of State of the Ethernet ports, their PCS and MACsec (R293-R326), and of Message Transport:
neighbours, TCP connections, listeners, routes, correlation and held messages (R327-R350). -/

set_option linter.unusedVariables false

namespace Sys2Proof

/-- A frame received at a port (R305, R307): destination address to the end of the payload, without the FCS. -/
structure RxFrame where
  bytes : Bytes
  /-- The FCS verifies. -/
  fcsOk : Bool
  /-- No uncorrectable codeword overlaps it (R304). -/
  fecOk : Bool
  deriving DecidableEq, Repr

/-- Where a FEC lane stands in R301: bit positions in the received stream, and the marker period. -/
inductive LaneLock where
  | search (pos : Nat)
  | confirm (cand : Nat)
  /-- Boundary, consecutive misses, and the period of the last one. -/
  | locked (bound misses last : Nat)
  deriving DecidableEq, Repr

/-- A secure association (R314-R319). -/
structure MacSa where
  handle : Nat
  idx : Nat
  gen : Nat
  /-- The key is in the engine key slot. -/
  keyIn : Bool := true
  enabled : Bool := false
  /-- The key was invalidated (R322). -/
  lost : Bool := false
  /-- An attribute change is being resolved again, since this time (R322). -/
  resolving : Option Nat := none
  /-- Transmit: next PN. Receive: LowestPN. -/
  pn : Nat := 0
  /-- Transmit: end of the reservation in use (exclusive), and the reservation that follows it. -/
  stop : Nat := 0
  follow : Option Nat := none
  asked : Bool := false
  ssci : Nat := 0
  salt : Bytes := []
  warned : Bool := false
  /-- Installed once its IV_RESERVE record has committed and its key has been hoisted. -/
  ready : Bool := true
  deriving DecidableEq, Repr

/-- A receive secure channel (R314, R315). -/
structure RxSc where
  sci : Nat
  window : Nat
  deriving DecidableEq, Repr

/-- A frame waiting for a port's egress datapath, and the message whose last byte it carries (R23). -/
structure EgressFrame where
  bytes : Bytes
  tag : Option Nat := none
  deriving DecidableEq, Repr

/-- A port (R293-R325). Values a dictionary entry stores are in the dictionary. -/
structure Port where
  /-- STATE 1-7; a fused port reads 0 by the fuse. -/
  state : Nat := 1
  mode : Nat := 0
  fec : Nat := 0
  /-- Start of the present training, and end of the wait that follows a failed one (R297). -/
  trainSince : Nat := 0
  restartAt : Option Nat := none
  /-- FEC lanes listed where not at the start of search (R301). -/
  lanes : FMap LaneLock := []
  blockLocked : Bool := false
  /-- Down since (R303). -/
  downSince : Option Nat := none
  /-- It has been up since its last link-up record. -/
  linked : Bool := false
  txSas : FMap MacSa := []
  /-- Receive SAs at 4c + a. -/
  rxSas : FMap MacSa := []
  rxscs : FMap RxSc := []
  txAn : Option Nat := none
  nextAn : Option Nat := none
  /-- An SA_ENABLE on transmit takes effect at the next frame boundary (R319). -/
  switchTo : Option Nat := none
  exhaustedSent : Bool := false
  egress : List EgressFrame := []
  /-- LINK_UP and LINK_DOWN records that wait for room (R321). -/
  events : List Bytes := []
  deriving DecidableEq, Repr

/-- States of a TCP connection (RFC 9293). -/
inductive TcpState where
  | synSent | synRcvd | established | finWait1 | finWait2 | closeWait | closing | lastAck | timeWait
  deriving DecidableEq, Repr

/-- An output waiting for send-buffer room (R345): bytes with their prefix, since when, its op tag. -/
structure SendWait where
  bytes : Bytes
  since : Nat
  tag : Option Nat
  vlan : Option Nat := none
  dscp : Nat := 0
  deriving DecidableEq, Repr

/-- The end of a message in the send buffer: the sequence number after its last byte, the op tag that retires when that
byte first leaves, and the header fields of its segments (R345). -/
structure SendMark where
  stop : Nat
  tag : Option Nat
  vlan : Option Nat
  dscp : Nat
  deriving DecidableEq, Repr

/-- A TCP connection (R331, R332). -/
structure TcpConn where
  inc : Nat
  state : TcpState
  port : Nat
  v6 : Bool
  localAddr : Bytes
  localPort : Nat
  peerAddr : Bytes
  peerPort : Nat
  /-- Listener tag that classifies its messages, and its route. -/
  listener : Nat
  route : Option Nat := none
  vlan : Option Nat := none
  dscp : Nat := 0
  framing : Nat
  iss : Nat := 0
  sndUna : Nat := 0
  sndNxt : Nat := 0
  sndWnd : Nat := 0
  peerShift : Nat := 0
  mss : Nat := 536
  sack : Bool := false
  /-- Timestamps in use and the peer's most recent value. -/
  tsRecent : Option Nat := none
  rcvNxt : Nat := 0
  /-- Bytes received in order and not yet framed; segments held out of order. -/
  stream : Bytes := []
  ooo : List (Nat × Bytes) := []
  /-- Bytes from sndUna on: sent and not acknowledged, then not sent. -/
  sendBuf : Bytes := []
  /-- Ends of messages in the send buffer. -/
  marks : List SendMark := []
  finQueued : Bool := false
  cwnd : Nat := 0
  ssthresh : Nat := 65535
  dupAcks : Nat := 0
  /-- Loss recovery in progress (RFC 6675, RFC 6582), its recovery point, the highest sequence number sent again in it,
  and whether a timeout began it, so that everything below the recovery point counts as lost. -/
  recovering : Bool := false
  recover : Nat := 0
  highRxt : Nat := 0
  lost : Bool := false
  /-- Bytes the peer has reported by SACK, in order and disjoint: first sequence number, and the one after the last. -/
  sacked : List (Nat × Nat) := []
  srtt : Nat := 0
  rttvar : Nat := 0
  rto : Nat := 200000000
  retries : Nat := 0
  timer : Option Nat := none
  rttAt : Option (Nat × Nat) := none
  lastActive : Nat := 0
  probes : Nat := 0
  created : Nat := 0
  /-- Entered TIME-WAIT, or established, at. -/
  stateAt : Nat := 0
  /-- Complete messages not yet admitted, oldest first (R346). -/
  held : List Bytes := []
  waiting : List SendWait := []
  /-- The peer has sent FIN, or the listener is closing: FIN follows the last release (R348). -/
  closeAfter : Bool := false
  deriving DecidableEq, Repr

/-- A neighbour (R329): resolved address, last confirmed, request pending. -/
structure Neighbour where
  port : Nat
  addr : Bytes
  mac : Option Bytes
  confirmed : Nat
  /-- Unresolved: first request, next repeat, and frames waiting. -/
  since : Nat := 0
  nextTry : Nat := 0
  waiting : List EgressFrame := []
  deriving DecidableEq, Repr

/-- A route's connection and its reconnect wait (R337). -/
structure RouteConn where
  conn : Option Nat := none
  /-- Wait in seconds, and when it ends. -/
  wait : Nat := 1
  at_ : Option Nat := none
  /-- Local port a UDP route has taken (R336). -/
  lport : Nat := 0
  deriving DecidableEq, Repr

/-- A listener (R333): 0 disabled, 1 listening, 2 closing. -/
structure Listener where
  state : Nat := 0
  chan : Nat := 0
  closeAt : Nat := 0
  deriving DecidableEq, Repr

/-- A correlation entry (R344): the arrival it returns to, and when it expires. -/
structure CorrEntry where
  domain : Nat
  route : Nat
  key : Bytes
  origin : MsgOrigin
  till : Nat
  deriving DecidableEq, Repr

/-- A held UDP datagram (R347). -/
structure HeldUdp where
  port : Nat
  listener : Nat
  route : Option Nat
  peerAddr : Bytes
  peerPort : Nat
  localPort : Nat
  v6 : Bool
  vlan : Option Nat
  dscp : Nat
  bytes : Bytes
  deriving DecidableEq, Repr

/-- Message Transport and the ports. -/
structure NetState where
  ports : FMap Port := []
  conns : FMap TcpConn := []
  /-- Incarnation of each connection number. -/
  connIncs : FMap Nat := []
  connFree : FreeList := {}
  neighbours : List Neighbour := []
  listeners : FMap Listener := []
  routes : FMap RouteConn := []
  corr : List CorrEntry := []
  udp : List HeldUdp := []
  /-- Round robin over listeners (n) and routes (256 + r) with a held message (R346): the one served last, and the
  connection served last within each. -/
  lastTurn : Nat := 0
  turns : FMap Nat := []
  /-- Next ephemeral port, from 49,152 (R336). -/
  nextPort : Nat := 49152
  deriving DecidableEq, Repr

end Sys2Proof
end

