-- ==== Sys2Proof/Parts/Periph.lean ====
section
/-! DEFINITION. The parts of State of the ceremony card host, the officer card slots, the CAN controller and the
general-purpose pins (R432-R451). -/

set_option linter.unusedVariables false

namespace Sys2Proof

/-- A ceremony card as the host meets it (R433, R434, R437): it answers CMD8, is SDHC or SDXC and ready in time, accepts
1.8 V, its highest mode and capacity, the tuning results in SDR104 and SDR50 (width and centre of the widest run of passing
phases), its own password, and the 512-byte blocks that are not zero, by block number (R432, R435). -/
structure SdCard where
  cmd8 : Bool := true
  ready : Bool := true
  v18 : Bool := true
  maxMode : Nat := 7
  blocks : Nat := 0
  run7 : Nat := 0
  mid7 : Nat := 0
  run6 : Nat := 0
  mid6 : Nat := 0
  password : Bytes := []
  data : FMap Bytes := []
  deriving DecidableEq, Repr

/-- What interference does to a transfer (R436): a command CRC7 error or a missing response, a read data CRC16 error, a
negative CRC status token of a write. -/
inductive SdError where
  | command | read | write
  deriving DecidableEq, Repr

/-- One such error: the block of the transfer it meets, and the tuning result (width and centre) of the retune that follows. -/
structure SdFault where
  err : SdError
  block : Nat
  run : Nat
  mid : Nat
  deriving DecidableEq, Repr

/-- How far a transfer has come (R436): mode and phase, the block it stands at and how often that was tried again; retries and
retunes so far. -/
structure SdRun where
  mode : Nat
  phase : Nat := 0
  block : Nat := 0
  tries : Nat := 0
  retries : Nat := 0
  retunes : Nat := 0
  deriving DecidableEq, Repr

/-- The ceremony card host (R432-R438): STATE 0 empty, 1 identifying, 2 ready, 3 locked, 4 error, 5 erasing. -/
structure SdHost where
  state : Nat := 0
  mode : Nat := 0
  blocks : Nat := 0
  phase : Nat := 0
  /-- SD_PWR_EN and SD_VSEL. -/
  pwrEn : Bool := false
  vsel : Bool := false
  /-- Due time of the next retune (R434), and end of an erase (R437). -/
  retuneAt : Nat := 0
  eraseTill : Nat := 0
  /-- A transfer of this card has failed for good (R436). -/
  timedOut : Bool := false
  /-- The card in the slot (SD_CD_N low). -/
  card : Option SdCard := none
  deriving DecidableEq, Repr

/-- An officer card slot (R439-R442): STATE 0 empty, 1 activating, 2 ready, 3 deactivating, 4 error. -/
structure IccSlot where
  state : Nat := 0
  cls : Nat := 0
  fidi : Nat := 0
  atr : Bytes := []
  present : Bool := false
  /-- When the present activation started; class B has been tried. -/
  since : Nat := 0
  triedB : Bool := false
  /-- A PPS has failed once: the second activation goes on without one (R440). -/
  noPps : Bool := false
  ppsSent : Bool := false
  /-- T=1: R-blocks sent in a row, S(RESYNCH) sent, IFSC, IFSD announced, CRC in use, chained bytes so far (R441). -/
  rBlocks : Nat := 0
  resynch : Bool := false
  ifsc : Nat := 32
  ifsdSent : Bool := false
  crc : Bool := false
  chained : Nat := 0
  wtx : Nat := 0
  deriving DecidableEq, Repr

/-- A frame in the CAN transmit queue (R444). -/
structure CanFrame where
  ident : Nat
  bytes : Bytes
  queuedAt : Nat
  heartbeat : Bool := false
  deriving DecidableEq, Repr

/-- The CAN controller (R443-R445): STATE 0 error active, 1 error passive, 2 bus-off, 3 integrating. -/
structure CanCtl where
  state : Nat := 0
  tec : Nat := 0
  rec_ : Nat := 0
  queue : List CanFrame := []
  busoffAt : Nat := 0
  recovering : Bool := false
  deriving DecidableEq, Repr

/-- A general-purpose pin (R446-R450). -/
structure Pin_ where
  cfg : Nat := 0x40000040
  /-- PINCFG the pin returns to after a hobble or Standby (R450). -/
  saved : Option Nat := none
  /-- The switch window it is in ends at this time (R449); level and enable it holds. -/
  window : Option Nat := none
  heldLevel : Bool := false
  heldEnable : Bool := false
  deriving DecidableEq, Repr

/-- The pin block. -/
structure PinBlock where
  pins : FMap Pin_ := []
  out : Nat := 0
  aborts : Nat := 0
  /-- Stamps of FUNC 8, newest last (R446). -/
  captures : List Nat := []
  deriving DecidableEq, Repr

/-- The low-speed interfaces. -/
structure PeriphState where
  sd : SdHost := {}
  icc0 : IccSlot := {}
  icc1 : IccSlot := {}
  can : CanCtl := {}
  gp : PinBlock := {}
  deriving DecidableEq, Repr

end Sys2Proof
end

