-- ==== Sys2Proof/Parts/Guard.lean ====
section
/-! DEFINITION. The parts of State of the guard die: the Shroud's detectors and latches (R493-R511), OTP and the life
cycle, debug authorisation, the calibration set (R512-R529), and of power, gaits and reset (R530-R546). -/

set_option linter.unusedVariables false

namespace Sys2Proof

/-- The hobble or the zeroise latch (R498, R503), in the layout of R510. -/
structure TamperLatch where
  set : Bool := false
  monitor : Nat := 0
  detectors : Nat := 0
  item : Nat := 0
  power : Nat := 0
  value : Int := 0
  limit : Int := 0
  rtc : Nat := 0
  /-- Hobble-class events since it was set, saturating at 255. -/
  events : Nat := 0
  deriving DecidableEq, Repr

/-- OTP (R512-R521). A logical bit is its three cells as a number 0-7; bits 0-5 are the flags TL, FA, PR, CO, RE, SC,
8-15 the tokens' OPEN, 16-23 their CLOSE, 256 up the SVN floor, 1024 up ZEROISE_COUNT. -/
structure Otp where
  cells : FMap Nat := []
  serial : Nat := 0
  baseMac : Nat := 0
  tokenHashes : List Bytes := []
  /-- The factory seed, and whether it has been burned solid (R513). -/
  factorySeed : Bytes := []
  seedSolid : Bool := false
  /-- Trim, token, key hash and factory seed fields have been burned solid (R521). -/
  wiped : Bool := false
  deriving DecidableEq, Repr

/-- A consent to debug (R524). -/
structure Consent where
  level : Nat
  domain : Nat
  duration : Nat
  till : Nat
  deriving DecidableEq, Repr

/-- A debug challenge outstanding (R525): level, or target state for a vendor transition. -/
structure DbgChal where
  level : Nat
  target : Option Nat
  domain : Nat
  nonce : Bytes
  till : Nat
  deriving DecidableEq, Repr

/-- The guard die. -/
structure Guard where
  hobble : TamperLatch := {}
  zeroise : TamperLatch := {}
  /-- Asserted detectors: monitor × 2 + detector, with the time of assertion. -/
  asserted : FMap Nat := []
  /-- When a detector last asserted (R501). -/
  lastAssert : Option Nat := none
  /-- A single detector of a zeroise-class monitor awaits its partner: item, value, limit (R494). -/
  alone : FMap (Nat × Int × Int) := []
  /-- BBRAM: device root and memory-key seed; empty where blank. -/
  deviceRoot : Bytes := []
  seed : Bytes := []
  /-- The memory keys have been released (R386). -/
  memKeys : Bool := false
  /-- A zeroisation has not yet been counted in OTP (R503). -/
  zeroPending : Bool := false
  /-- External loop detectors run; a change that takes effect at a time (R508). -/
  loopOn : Bool := true
  loopChange : Option (Nat × Bool) := none
  vbatMv : Nat := 3000
  mainPower : Bool := true
  /-- The hottest sensor in m°C, as last reported. -/
  tj : Int := 25000
  otp : Otp := {}
  lcPending : Nat := 0
  tokenBlocked : Nat := 0
  debugLevel : Nat := 0
  debugDomain : Nat := 0
  debugTill : Nat := 0
  consent : Option Consent := none
  chal : Option DbgChal := none
  dbgStat : Nat := 0
  /-- Instruction of the test access port: 0 after its reset, 1 TOKEN, 2 TOKEN_CLOSE, 3 DBG_CHAL, 4 DBG_RESP (R520, R525). -/
  tap : Nat := 0
  /-- The two copies of the calibration set, and the set in force since boot. -/
  calA : Bytes := []
  calB : Bytes := []
  calNow : Bytes := []
  deriving DecidableEq, Repr

/-- Power, gaits and reset. -/
structure PowerState where
  /-- Cause of the present reef level (R536), a regulator fault (R531). -/
  reefCause : Nat := 0
  regFault : Bool := false
  /-- Gallop time in seconds: battery-domain register and the copy in NAND (R538). -/
  gallop : Nat := 0
  gallopSaved : Nat := 0
  ampsAvg : Nat := 0
  killN : Bool := false
  /-- Over-temperature: the next boot is hobbled with this reading (R536, R537). -/
  overtemp : Option (Nat × Int) := none
  resetCause : Nat := 0
  wakeSource : Nat := 0
  /-- Standby entry in progress since (R539). -/
  standbyAt : Option Nat := none
  deriving DecidableEq, Repr

end Sys2Proof
end

