-- ==== Sys2Proof/Syntax.lean ====
section
/-! DEFINITION. The commands of the block: one constructor for each row of spec/opcode_table.json, in the table's order, with
the operands that the row's command carries. -/

set_option linter.unusedVariables false

namespace Sys2Proof

/-- A command. The rule named is the row's own. -/
inductive Instr where
  /-- SUBMISSION_READ (R366). -/
  | submissionRead (fn slot : BitVec 12) (desc inList outList input : ReadResult)
  /-- JOB_COMPLETE (R33). -/
  | jobComplete (tag : BitVec 16)
  /-- TIME_SLEW (R37). -/
  | timeSlew (ppb : BitVec 32)
  /-- TIME_STEP (R38). -/
  | timeStep (ns : BitVec 64)
  /-- HBM_CHANNEL_FAIL (R49). -/
  | hbmChannelFail (c : Fin 32) (addr : BitVec 40)
  /-- LEASE (R68). -/
  | lease (n : Nat)
  /-- FILL (R84). -/
  | fill (n : Nat)
  /-- STALE (R84). -/
  | stale (n : Nat)
  /-- HOIST (R82). -/
  | hoist (tag : BitVec 16) (second : Bool)
  /-- KEYDATA (R82). -/
  | keydata (tag : BitVec 16) (second : Bool)
  /-- LINEAGE_INVAL (R76). -/
  | lineageInval (holder : Fin 257) (idx : BitVec 24)
  /-- INVAL (R83). -/
  | inval (holder : Fin 257) (idx : BitVec 24)
  /-- CACHE_SWEEP_DONE (R78). -/
  | cacheSweepDone (point : Fin 33) (idx : BitVec 24)
  /-- ACK (R78). -/
  | ack (holder : Fin 257) (idx : BitVec 24)
  /-- KEY_DESTROY (R76). -/
  | keyDestroy (h : SvcHdr) (handle : BitVec 32)
  /-- KEY_ATTR (R57). -/
  | keyAttr (h : SvcHdr) (handle : BitVec 32) (attr : BitVec 64)
  /-- KEY_IMPORT (R563). -/
  | keyImport (h : SvcHdr) (unwrap : BitVec 32) (form typ cls : BitVec 8) (attr : BitVec 64) (obj : ObjRef) (wrapped : Bytes)
  /-- KEY_INFO (R563). -/
  | keyInfo (h : SvcHdr) (handle : BitVec 32)
  /-- KEY_GENERATE (R66). -/
  | keyGenerate (h : SvcHdr) (parent : BitVec 32) (typ cls : BitVec 8) (attr : BitVec 64)
  /-- KEY_DERIVE (R562). -/
  | keyDerive (h : SvcHdr) (base : BitVec 32) (typ cls : BitVec 8) (attr : BitVec 64) (label context : Bytes)
  /-- CLEAR_WRITE (R66). -/
  | clearWrite (cu : Fin 4) (tenant : Bool) (parent : BitVec 32) (typ cls : BitVec 8) (attr : BitVec 64) (material : Bytes)
  /-- JOURNAL_PAGE_CLOSE (R89). -/
  | journalPageClose
  /-- JOURNAL_PAGE_PROGRAMMED (R90). -/
  | journalPageProgrammed (pageSeq : BitVec 64)
  /-- COMPACTION_BEGIN (R92). -/
  | compactionBegin
  /-- COMPACTION_COPY_DONE (R92). -/
  | compactionCopyDone
  /-- COMPACTION_ERASE_DONE (R92). -/
  | compactionEraseDone
  /-- MIGRATE_BEGIN (R93). -/
  | migrateBegin (h : SvcHdr)
  /-- MIGRATE_READY (R402). -/
  | migrateReady (h : SvcHdr)
  /-- MIGRATE_FINAL (R402). -/
  | migrateFinal (h : SvcHdr)
  /-- MIGRATE_ABANDON (R93). -/
  | migrateAbandon (h : SvcHdr)
  /-- OSTLER_DISPATCH (R119). -/
  | ostlerDispatch
  /-- CIPHER_JOB_DONE (R113). -/
  | cipherJobDone (tag : BitVec 16) (input : ReadResult)
  /-- CORE_SELFTEST_START (R120). -/
  | coreSelftestStart
  /-- CORE_DRAINED (R121). -/
  | coreDrained (n : Fin 64)
  /-- CORE_SELFTEST_DONE (R123). -/
  | coreSelftestDone (n : Fin 64) (test : Fin 5) (pass : Bool)
  /-- PARITY_MISMATCH (R125). -/
  | parityMismatch (n : Fin 64) (unit : Fin 3) (tag : Option (BitVec 16))
  /-- PIN_FAIL_INTERVAL (R143). -/
  | pinFailInterval
  /-- PIN_SUSPEND_END (R143). -/
  | pinSuspendEnd (idx : BitVec 24)
  /-- BN_DISPATCH (R180). -/
  | bnDispatch
  /-- BN_JOB_DONE (R171). -/
  | bnJobDone (tag : BitVec 16) (input : ReadResult) (outcome : Fin 4)
  /-- BN_JOB_TIMEOUT (R183). -/
  | bnJobTimeout (tag : BitVec 16)
  /-- BN_SELFTEST_START (R185). -/
  | bnSelftestStart
  /-- BN_SELFTEST_DONE (R185). -/
  | bnSelftestDone (n : Fin 48) (test : Fin 8) (pass : Bool)
  /-- BN_SLOTCFG (R190). -/
  | bnSlotcfg (n : Fin 48)
  /-- BN_LOAD (R190). -/
  | bnLoad (n : Fin 48)
  /-- BN_STORE (R190). -/
  | bnStore (n : Fin 48)
  /-- BN_MONTIN (R190). -/
  | bnMontin (n : Fin 48)
  /-- BN_MONTOUT (R190). -/
  | bnMontout (n : Fin 48)
  /-- BN_MODADD (R190). -/
  | bnModadd (n : Fin 48)
  /-- BN_MODSUB (R190). -/
  | bnModsub (n : Fin 48)
  /-- BN_MODMUL (R190). -/
  | bnModmul (n : Fin 48)
  /-- BN_MODSQR (R190). -/
  | bnModsqr (n : Fin 48)
  /-- BN_MODINV (R191). -/
  | bnModinv (n : Fin 48)
  /-- BN_MODEXP (R190). -/
  | bnModexp (n : Fin 48)
  /-- BN_MUL (R190). -/
  | bnMul (n : Fin 48)
  /-- BN_CMP (R191). -/
  | bnCmp (n : Fin 48)
  /-- BN_COPY (R190). -/
  | bnCopy (n : Fin 48)
  /-- BN_ZERO (R190). -/
  | bnZero (n : Fin 48)
  /-- BN_ECADD (R190). -/
  | bnEcadd (n : Fin 48)
  /-- BN_ECDBL (R190). -/
  | bnEcdbl (n : Fin 48)
  /-- BN_ECMUL (R190). -/
  | bnEcmul (n : Fin 48)
  /-- BN_ECCHECK (R191). -/
  | bnEccheck (n : Fin 48)
  /-- BN_NTT (R190). -/
  | bnNtt (n : Fin 48)
  /-- BN_INTT (R190). -/
  | bnIntt (n : Fin 48)
  /-- BN_PMUL (R190). -/
  | bnPmul (n : Fin 48)
  /-- BN_PADD (R190). -/
  | bnPadd (n : Fin 48)
  /-- BN_END (R190). -/
  | bnEnd (n : Fin 48)
  /-- MOV (R208). -/
  | mov (p : ProcId) (f : RFmt)
  /-- ADD (R208). -/
  | add (p : ProcId) (f : RFmt)
  /-- SUB (R208). -/
  | sub (p : ProcId) (f : RFmt)
  /-- AND (R208). -/
  | and (p : ProcId) (f : RFmt)
  /-- OR (R208). -/
  | or (p : ProcId) (f : RFmt)
  /-- XOR (R208). -/
  | xor (p : ProcId) (f : RFmt)
  /-- NOT (R208). -/
  | not (p : ProcId) (f : RFmt)
  /-- NEG (R208). -/
  | neg (p : ProcId) (f : RFmt)
  /-- SHL (R208). -/
  | shl (p : ProcId) (f : RFmt)
  /-- SHR (R208). -/
  | shr (p : ProcId) (f : RFmt)
  /-- SAR (R208). -/
  | sar (p : ProcId) (f : RFmt)
  /-- SHLI (R208). -/
  | shli (p : ProcId) (f : RFmt)
  /-- SHRI (R208). -/
  | shri (p : ProcId) (f : RFmt)
  /-- SARI (R208). -/
  | sari (p : ProcId) (f : RFmt)
  /-- MUL (R208). -/
  | mul (p : ProcId) (f : RFmt)
  /-- MULHU (R208). -/
  | mulhu (p : ProcId) (f : RFmt)
  /-- DIVU (R208). -/
  | divu (p : ProcId) (f : RFmt)
  /-- CMP (R208). -/
  | cmp (p : ProcId) (f : RFmt)
  /-- CMPEQM (R208). -/
  | cmpeqm (p : ProcId) (f : RFmt)
  /-- CMPLTM (R208). -/
  | cmpltm (p : ProcId) (f : RFmt)
  /-- SEL (R208). -/
  | sel (p : ProcId) (f : RFmt)
  /-- BSWAP (R208). -/
  | bswap (p : ProcId) (f : RFmt)
  /-- POPC (R208). -/
  | popc (p : ProcId) (f : RFmt)
  /-- SETT (R225). -/
  | sett (p : ProcId) (f : RFmt)
  /-- CLT (R225). -/
  | clt (p : ProcId) (f : RFmt)
  /-- ADDI (R208). -/
  | addi (p : ProcId) (f : IFmt)
  /-- ANDI (R208). -/
  | andi (p : ProcId) (f : IFmt)
  /-- ORI (R208). -/
  | ori (p : ProcId) (f : IFmt)
  /-- XORI (R208). -/
  | xori (p : ProcId) (f : IFmt)
  /-- MOVI (R208). -/
  | movi (p : ProcId) (f : IFmt)
  /-- CMPI (R208). -/
  | cmpi (p : ProcId) (f : IFmt)
  /-- MOVA (R208). -/
  | mova (p : ProcId) (f : RFmt)
  /-- MOVAD (R227). -/
  | movad (p : ProcId) (f : RFmt)
  /-- MOVDA (R208). -/
  | movda (p : ProcId) (f : RFmt)
  /-- ADDA (R208). -/
  | adda (p : ProcId) (f : RFmt)
  /-- SUBA (R208). -/
  | suba (p : ProcId) (f : RFmt)
  /-- CMPA (R208). -/
  | cmpa (p : ProcId) (f : RFmt)
  /-- ADDAI (R208). -/
  | addai (p : ProcId) (f : IFmt)
  /-- MOVAI (R208). -/
  | movai (p : ProcId) (f : IFmt)
  /-- LD_B (R238). -/
  | ldB (p : ProcId) (f : MFmt)
  /-- LD_H (R238). -/
  | ldH (p : ProcId) (f : MFmt)
  /-- LD_W (R238). -/
  | ldW (p : ProcId) (f : MFmt)
  /-- LD_D (R238). -/
  | ldD (p : ProcId) (f : MFmt)
  /-- ST_B (R238). -/
  | stB (p : ProcId) (f : MFmt)
  /-- ST_H (R238). -/
  | stH (p : ProcId) (f : MFmt)
  /-- ST_W (R238). -/
  | stW (p : ProcId) (f : MFmt)
  /-- ST_D (R238). -/
  | stD (p : ProcId) (f : MFmt)
  /-- LDA (R208). -/
  | lda (p : ProcId) (f : MFmt)
  /-- STA (R227). -/
  | sta (p : ProcId) (f : MFmt)
  /-- LDX (R208). -/
  | ldx (p : ProcId) (f : MFmt)
  /-- STX (R208). -/
  | stx (p : ProcId) (f : MFmt)
  /-- MFLD (R209). -/
  | mfld (p : ProcId) (f : MFFmt)
  /-- MFST (R210). -/
  | mfst (p : ProcId) (f : MFFmt)
  /-- XMOV (R208). -/
  | xmov (p : ProcId) (f : RFmt)
  /-- XAND (R208). -/
  | xand (p : ProcId) (f : RFmt)
  /-- X_OR (R208). -/
  | xOr (p : ProcId) (f : RFmt)
  /-- XXOR (R208). -/
  | xxor (p : ProcId) (f : RFmt)
  /-- XADDB (R208). -/
  | xaddb (p : ProcId) (f : RFmt)
  /-- XSUBB (R208). -/
  | xsubb (p : ProcId) (f : RFmt)
  /-- XCMPEQB (R208). -/
  | xcmpeqb (p : ProcId) (f : RFmt)
  /-- XCMPLTB (R208). -/
  | xcmpltb (p : ProcId) (f : RFmt)
  /-- XSEL (R208). -/
  | xsel (p : ProcId) (f : RFmt)
  /-- XINS (R208). -/
  | xins (p : ProcId) (f : RFmt)
  /-- XEXT (R208). -/
  | xext (p : ProcId) (f : RFmt)
  /-- XSHLB (R208). -/
  | xshlb (p : ProcId) (f : RFmt)
  /-- XSHRB (R208). -/
  | xshrb (p : ProcId) (f : RFmt)
  /-- XZERO (R208). -/
  | xzero (p : ProcId) (f : RFmt)
  /-- XBCAST (R208). -/
  | xbcast (p : ProcId) (f : RFmt)
  /-- XREV (R208). -/
  | xrev (p : ProcId) (f : RFmt)
  /-- XMASKL (R208). -/
  | xmaskl (p : ProcId) (f : RFmt)
  /-- B (R207). -/
  | b (p : ProcId) (f : BFmt)
  /-- BL (R208). -/
  | bl (p : ProcId) (f : BFmt)
  /-- JR (R208). -/
  | jr (p : ProcId) (f : RFmt) (sub : BitVec 5)
  /-- BZ (R227). -/
  | bz (p : ProcId) (f : BZFmt)
  /-- BNZ (R227). -/
  | bnz (p : ProcId) (f : BZFmt)
  /-- WFE (R213). -/
  | wfe (p : ProcId) (f : EvFmt)
  /-- WFE_WAKE (R213). -/
  | wfeWake (p : ProcId)
  /-- WFE_LIMIT_EXPIRE (R213). -/
  | wfeLimitExpire (p : ProcId)
  /-- SEV (R216). -/
  | sev (p : ProcId) (f : SevFmt)
  /-- SEV_ALL (R216). -/
  | sevAll (p : ProcId) (f : SevFmt)
  /-- WTU (R214). -/
  | wtu (p : ProcId) (f : EvFmt)
  /-- WTU_TARGET_REACHED (R214). -/
  | wtuTargetReached (p : ProcId)
  /-- WTU_LIMIT_EXPIRE (R214). -/
  | wtuLimitExpire (p : ProcId)
  /-- REP (R217). -/
  | rep (p : ProcId) (f : RepFmt)
  /-- REPU (R218). -/
  | repu (p : ProcId) (f : RepuFmt)
  /-- TIME (R208). -/
  | time (p : ProcId) (f : CFmt)
  /-- JOB (R220). -/
  | job (p : ProcId) (f : JFmt)
  /-- JOBX (R221). -/
  | jobx (p : ProcId) (f : JXFmt)
  /-- JWAIT (R223). -/
  | jwait (p : ProcId) (f : JwFmt)
  /-- JOB_SLOT_COMPLETE (R223). -/
  | jobSlotComplete (p : ProcId) (k : Fin 8)
  /-- MFC (R197). -/
  | mfc (p : ProcId) (f : CFmt)
  /-- MTC (R197). -/
  | mtc (p : ProcId) (f : CFmt)
  /-- NOP (R208). -/
  | nop (p : ProcId) (f : RFmt)
  /-- RFE (R198). -/
  | rfe (p : ProcId) (f : RFmt)
  /-- HALT (R208). -/
  | halt (p : ProcId) (f : RFmt)
  /-- FENCE (R202). -/
  | fence (p : ProcId) (f : RFmt)
  /-- PSWAP (R243). -/
  | pswap (p : ProcId) (f : RFmt)
  /-- GFENCE (R245). -/
  | gfence (p : ProcId) (f : RFmt)
  /-- CALL (R228). -/
  | call (p : ProcId) (f : RFmt)
  /-- INTERRUPT_ENTRY (R228). -/
  | interruptEntry (p : ProcId)
  /-- BUDGET_EXPIRE (R230). -/
  | budgetExpire (p : ProcId)
  /-- HALT_REQ (R229). -/
  | haltReq (p : ProcId)
  /-- ENGINE_RESTART (R541). -/
  | engineRestart (p : Fin 512)
  /-- CUSTODIAN_SIGNAL (R212). -/
  | custodianSignal (p : ProcId)
  /-- REVOKE (R246). -/
  | revoke (p : Fin 512) (v : BitVec 32)
  /-- REVOKE_FENCE_DONE (R246). -/
  | revokeFenceDone (p : Fin 512)
  /-- LOAD (R249). -/
  | load (p : Fin 512) (k : Fin 64)
  /-- LOAD_DONE (R249). -/
  | loadDone (p : Fin 512)
  /-- VQ_HEAD_READ (R252). -/
  | vqHeadRead
  /-- VQ_TAIL_WRITE (R253). -/
  | vqTailWrite (v : BitVec 32)
  /-- VQ_LOST_READ (R253). -/
  | vqLostRead (full : Bool)
  /-- MESSAGE_DELIVER (R234). -/
  | messageDeliver (tag : BitVec 16)
  /-- PARSE_END (R268). -/
  | parseEnd (tag : BitVec 16)
  /-- SLICE_START (R273). -/
  | sliceStart (tag : BitVec 16) (i : Fin 32)
  /-- SLICE_DEADLINE (R275). -/
  | sliceDeadline (tag : BitVec 16) (i : Fin 32)
  /-- EMIT_END (R279). -/
  | emitEnd (tag : BitVec 16)
  /-- MESSAGE_RELEASE (R280). -/
  | messageRelease (tag : BitVec 16)
  /-- RIG_ADMIT (R285). -/
  | rigAdmit (h : SvcHdr) (obj : ObjRef) (image : RigImage)
  /-- QUIESCE_DRAINED (R289). -/
  | quiesceDrained (dom : BitVec 12)
  /-- QUIESCE_TIMEOUT (R289). -/
  | quiesceTimeout (dom : BitVec 12)
  /-- RIG_RETIRE (R290). -/
  | rigRetire (h : SvcHdr) (domain : BitVec 16)
  /-- PORT_ENABLE (R296). -/
  | portEnable (p : Fin 64) (on : Bool)
  /-- PORT_CONFIG_CHANGE (R299). -/
  | portConfigChange (p : Fin 64) (field : Fin 5) (v : BitVec 16)
  /-- AN_COMPLETE (R296). -/
  | anComplete (p : Fin 64) (partner : BitVec 9) (partnerFec : Bool)
  /-- TRAINING_DONE (R297). -/
  | trainingDone (p : Fin 64)
  /-- TRAINING_TIMEOUT (R297). -/
  | trainingTimeout (p : Fin 64)
  /-- AN_RESTART (R297). -/
  | anRestart (p : Fin 64)
  /-- BLOCK_LOCK (R300). -/
  | blockLock (p : Fin 64) (gained mid : Bool)
  /-- AM_CANDIDATE (R301). -/
  | amCandidate (p : Fin 64) (lane : Fin 8) (pos : BitVec 64)
  /-- AM_CONFIRM (R301). -/
  | amConfirm (p : Fin 64) (lane : Fin 8) (ok skewOk : Bool)
  /-- AM_MISS (R301). -/
  | amMiss (p : Fin 64) (lane : Fin 8) (k : BitVec 64) (mid : Bool)
  /-- LINK_DOWN_TIMEOUT (R303). -/
  | linkDownTimeout (p : Fin 64)
  /-- FEC_WINDOW (R304). -/
  | fecWindow (p : Fin 64) (codewords corrected uncorrected symbols : BitVec 32) (mid : Bool)
  /-- FRAME_RECEIVE (R307). -/
  | frameReceive (p : Fin 64) (f : RxFrame)
  /-- FRAME_TRANSMIT (R317). -/
  | frameTransmit (p : Fin 64) (frame : Bytes)
  /-- RXSC_SET (R315). -/
  | rxscSet (h : SvcHdr) (port rxsc : BitVec 8) (window : BitVec 32) (sci : BitVec 64)
  /-- SA_CREATE (R316). -/
  | saCreate (h : SvcHdr) (port dir rxsc an : BitVec 8) (key ssci : BitVec 32) (pn : BitVec 64) (salt : Bytes)
  /-- SA_ENABLE (R315). -/
  | saEnable (h : SvcHdr) (port dir rxsc an : BitVec 8)
  /-- TX_ARM (R319). -/
  | txArm (h : SvcHdr) (port an : BitVec 8)
  /-- SA_DELETE (R315). -/
  | saDelete (h : SvcHdr) (port dir rxsc an : BitVec 8)
  /-- MACSEC_ENABLE_WRITE (R326). -/
  | macsecEnableWrite (p : Fin 64) (v : BitVec 8)
  /-- SA_KEY_RESOLVE_TIMEOUT (R322). -/
  | saKeyResolveTimeout (p : Fin 64) (tx : Bool) (i : Fin 64)
  /-- NEIGHBOUR_RETRY (R329). -/
  | neighbourRetry (p : Fin 64) (addr : Bytes)
  /-- NEIGHBOUR_TIMEOUT (R329). -/
  | neighbourTimeout (p : Fin 64) (addr : Bytes)
  /-- NEIGHBOUR_LAPSE (R329). -/
  | neighbourLapse (p : Fin 64) (addr : Bytes)
  /-- HELD_MESSAGE_ADMIT (R346). -/
  | heldMessageAdmit
  /-- TCP_RETRANSMIT_TIMEOUT (R331). -/
  | tcpRetransmitTimeout (c : Fin 32768)
  /-- TCP_KEEPALIVE (R331). -/
  | tcpKeepalive (c : Fin 32768)
  /-- TIME_WAIT_EXPIRE (R331). -/
  | timeWaitExpire (c : Fin 32768)
  /-- HALF_OPEN_LAPSE (R334). -/
  | halfOpenLapse (c : Fin 32768)
  /-- ROUTE_RECONNECT (R337). -/
  | routeReconnect (r : Fin 4096)
  /-- ROUTE_WRITE (R337). -/
  | routeWrite (r : Fin 4096) (b : Bytes)
  /-- LISTENER_ENABLE (R333). -/
  | listenerEnable (n : Fin 224) (on : Bool)
  /-- LISTENER_CLOSE_TIMEOUT (R348). -/
  | listenerCloseTimeout (n : Fin 224)
  /-- SEND_BUFFER_TIMEOUT (R345). -/
  | sendBufferTimeout (c : Fin 32768)
  /-- SQ_TAIL_WRITE (R363). -/
  | sqTailWrite (fn slot : BitVec 12) (v : BitVec 32)
  /-- BQ_TAIL_WRITE (R363). -/
  | bqTailWrite (fn slot : BitVec 12) (v : BitVec 32)
  /-- DQ_HEAD_WRITE (R363). -/
  | dqHeadWrite (fn slot : BitVec 12) (v : BitVec 32)
  /-- DELIVERY (R369). -/
  | delivery (c : Nat) (bufs : ReadResult)
  /-- DELIVERY_TIMEOUT (R370). -/
  | deliveryTimeout (c : Nat)
  /-- NEGOTIATE (R377). -/
  | negotiate (fn : BitVec 12) (seq versions : BitVec 32)
  /-- CHANNEL_OPEN (R364). -/
  | channelOpen (fn : BitVec 12) (seq : BitVec 32) (slot share dom resv : BitVec 16) (kib : BitVec 32)
  /-- CHANNEL_CLOSE (R365). -/
  | channelClose (fn : BitVec 12) (seq handle : BitVec 32)
  /-- CHANNEL_CLOSE_SQUASH (R365). -/
  | channelCloseSquash (c : BitVec 16)
  /-- REDELIVER (R376). -/
  | redeliver (fn : BitVec 12) (seq handle first : BitVec 32) (count flags : BitVec 16) (dest : BitVec 64)
  /-- MAILBOX_JOB (R377). -/
  | mailboxJob (fn : BitVec 12) (seq : BitVec 32) (desc : Bytes) (input : ReadResult)
  /-- FLR (R380). -/
  | flr (fn : BitVec 12)
  /-- FLR_SQUASH (R380). -/
  | flrSquash (kind : Fin 4) (origin : BitVec 12)
  /-- FLR_CLOSE (R380). -/
  | flrClose (kind : Fin 4) (origin : BitVec 12)
  /-- FLR_DONE (R380). -/
  | flrDone (kind : Fin 4) (origin : BitVec 12)
  /-- VF_ENABLE_CHANGE (R379). -/
  | vfEnableChange (pf : Fin 4) (n : BitVec 11)
  /-- HOST_LINK_DOWN (R379). -/
  | hostLinkDown (half : Fin 4)
  /-- MSIX_COAL_TIMER (R383). -/
  | msixCoalTimer (fn slot : BitVec 12) (delivery : Bool)
  /-- MSIX_UNMASK (R383). -/
  | msixUnmask (fn : BitVec 12) (vec : BitVec 11)
  /-- BAD_ACCESS_READ (R356). -/
  | badAccessRead (at_ : BarRead)
  /-- REGISTER_WRITE (R360). -/
  | registerWrite (fn : BitVec 12) (off : BitVec 23) (data : Bytes) (poisoned : Bool)
  /-- SERVICE_INFO (R563). -/
  | serviceInfo (h : SvcHdr)
  /-- DOMAIN_CREATE (R399). -/
  | domainCreate (h : SvcHdr) (domain : BitVec 16)
  /-- DOMAIN_DELETE (R399). -/
  | domainDelete (h : SvcHdr) (domain : BitVec 16)
  /-- OFFICER_ENROL (R396). -/
  | officerEnrol (h : SvcHdr) (slot pinLen : BitVec 8) (pin : Bytes) (obj : ObjRef) (record : OfficerRec) (card : CardReply)
  /-- OFFICER_REVOKE (R396). -/
  | officerRevoke (h : SvcHdr) (officer : BitVec 16)
  /-- OFFICER_LOGIN (R394). -/
  | officerLogin (h : SvcHdr) (slot pinLen : BitVec 8) (officer : BitVec 16) (pin : Bytes) (card : CardReply)
  /-- OFFICER_LOGOUT (R395). -/
  | officerLogout (h : SvcHdr) (officer : BitVec 16)
  /-- LOGIN_IDLE_EXPIRE (R395). -/
  | loginIdleExpire (slot : Fin 2)
  /-- SESSION_OPEN (R397). -/
  | sessionOpen (h : SvcHdr) (req : SvcReq)
  /-- SESSION_AUTHORISE (R398). -/
  | sessionAuthorise (h : SvcHdr) (slot : BitVec 8) (resv : BitVec 24) (card : CardReply)
  /-- SESSION_CANCEL (R398). -/
  | sessionCancel (h : SvcHdr)
  /-- SESSION_STATUS (R563). -/
  | sessionStatus (h : SvcHdr)
  /-- SESSION_EXPIRE (R398). -/
  | sessionExpire (session : BitVec 32)
  /-- FW_STAGE (R402). -/
  | fwStage (h : SvcHdr) (obj : ObjRef) (image : FwImage)
  /-- DEVICE_RESET (R543). -/
  | deviceReset (h : SvcHdr)
  /-- HOBBLE_UNLOCK (R501). -/
  | hobbleUnlock (h : SvcHdr)
  /-- DICT_WRITE (R408). -/
  | dictWrite (h : SvcHdr) (index : BitVec 16) (sub tcode : BitVec 8) (obj : ObjRef) (given : Bytes)
  /-- WD_KICK (R400). -/
  | wdKick (v : BitVec 32)
  /-- WATCHDOG_EXPIRE (R401). -/
  | watchdogExpire
  /-- CLUSTER_REBOOT_DONE (R401). -/
  | clusterRebootDone
  /-- HELLO (R417). -/
  | hello (h : MalHdr) (offer hflags : BitVec 8) (maxp : BitVec 16)
  /-- READ (R408). -/
  | read (h : MalHdr) (index : BitVec 16) (sub resv : BitVec 8)
  /-- WRITE (R421). -/
  | write (h : MalHdr) (index : BitVec 16) (sub tcode : BitVec 8) (vlenOk : Bool) (value : Bytes)
  /-- SEG_INIT (R422). -/
  | segInit (h : MalHdr) (xdir resv : BitVec 8) (index : BitVec 16) (sub tcode : BitVec 8) (total : BitVec 32)
  /-- SEG_DATA (R423). -/
  | segData (h : MalHdr) (xfer resv : BitVec 8) (offset : BitVec 32) (data : Bytes)
  /-- SEG_ACK (R423). -/
  | segAck (h : MalHdr) (xfer resv : BitVec 8) (next : BitVec 32)
  /-- SEG_ABORT (R423). -/
  | segAbort (h : MalHdr) (xfer status : BitVec 8)
  /-- SEG_ACK_TIMEOUT (R423). -/
  | segAckTimeout (assoc : Fin 52) (xfer : BitVec 8)
  /-- SEG_PROGRESS_TIMEOUT (R423). -/
  | segProgressTimeout (assoc : Fin 52) (xfer : BitVec 8)
  /-- STAGING_EXPIRE (R422). -/
  | stagingExpire (assoc : Fin 52) (xfer : BitVec 8)
  /-- HEARTBEAT (R426). -/
  | heartbeat (can : Bool)
  /-- ASSOC_IDLE_EXPIRE (R417). -/
  | assocIdleExpire (assoc : Fin 52)
  /-- CAN_ERROR_FRAME (R444). -/
  | canErrorFrame (tx : Bool)
  /-- CAN_FRAME_ABANDON (R444). -/
  | canFrameAbandon
  /-- CAN_BUSOFF (R445). -/
  | canBusoff
  /-- BUSOFF_RECOVERY (R445). -/
  | busoffRecovery
  /-- BUSOFF_AUTO (R451). -/
  | busoffAuto (on : Bool)
  /-- CAN_TIMING_WRITE (R443). -/
  | canTimingWrite (data : Bool) (v : BitVec 32)
  /-- SD_CARD_DETECT (R433). -/
  | sdCardDetect (card : SdCard)
  /-- SD_RETUNE (R434). -/
  | sdRetune (run mid : Fin 64)
  /-- SD_CARD_REMOVE (R438). -/
  | sdCardRemove
  /-- SD_UNLOCK (R437). -/
  | sdUnlock (pwd : Bytes)
  /-- SD_SET_PWD (R437). -/
  | sdSetPwd (value : Bytes)
  /-- SD_FORCE_ERASE (R437). -/
  | sdForceErase (on : Bool)
  /-- SD_ERASE_DONE (R437). -/
  | sdEraseDone
  /-- ICC_CARD_INSERT (R439). -/
  | iccCardInsert (slot : Fin 2)
  /-- ICC_ATR (R439). -/
  | iccAtr (slot : Fin 2) (atr : Bytes)
  /-- ICC_ATR_TIMEOUT (R439). -/
  | iccAtrTimeout (slot : Fin 2)
  /-- ICC_PPS_RESPONSE (R440). -/
  | iccPpsResponse (slot : Fin 2) (echo : Bool)
  /-- ICC_BLOCK_ERROR (R441). -/
  | iccBlockError (slot : Fin 2)
  /-- ICC_CARD_REMOVE (R442). -/
  | iccCardRemove (slot : Fin 2)
  /-- PINCFG_WRITE (R449). -/
  | pincfgWrite (n : Fin 16) (v : BitVec 32) (busy : Bool)
  /-- PIN_SWITCH_WINDOW_CLOSE (R449). -/
  | pinSwitchWindowClose (n : Fin 16)
  /-- TIME_CAPTURE (R446). -/
  | timeCapture
  /-- PIN_ABORTS_READ (R447). -/
  | pinAbortsRead (full : Bool)
  /-- ENTROPY_TEST_FAIL (R455). -/
  | entropyTestFail (k : Fin 8) (adaptive : Bool)
  /-- SOURCE_RESTART (R455). -/
  | sourceRestart (k : Fin 8)
  /-- SOURCE_REJOIN (R455). -/
  | sourceRejoin (k : Fin 8)
  /-- BLOCK_COMPLETE (R456). -/
  | blockComplete
  /-- BLOCK_RELEASE (R454). -/
  | blockRelease
  /-- RESEED (R462). -/
  | reseed
  /-- RESEED_INTERVAL (R462). -/
  | reseedInterval (i : Fin 4096)
  /-- RESEED_WAIT_TIMEOUT (R462). -/
  | reseedWaitTimeout (i : Fin 4096)
  /-- GENERATE_CALL (R463). -/
  | generateCall (i : Fin 4096)
  /-- DRBG_KAT (R467). -/
  | drbgKat (k : Fin 4)
  /-- DRBG_KAT_DONE (R467). -/
  | drbgKatDone (k : Fin 4) (pass : Bool)
  /-- RNG_DATA_READ (R466). -/
  | rngDataRead (cu : Fin 4) (off : Fin 8) (n : Fin 9)
  /-- RNG_CTL_RESEED (R464). -/
  | rngCtlReseed (cu : Fin 4) (v : BitVec 32)
  /-- CV_START (R473). -/
  | cvStart (k : Fin 16) (v : BitVec 32)
  /-- CV_DATA (R473). -/
  | cvData (k : Fin 16) (b : Bytes)
  /-- CV_CTL_WRITE (R472). -/
  | cvCtlWrite (k : Fin 16) (v : BitVec 32)
  /-- TRANSFER_CHECK (R475). -/
  | transferCheck (engine : BitVec 16) (addr : BitVec 40) (len : BitVec 32)
  /-- AUDIT_EVENT (R34). -/
  | auditEvent
  /-- AUDIT_MERGE_WINDOW_CLOSE (R42). -/
  | auditMergeWindowClose
  /-- STORM_RECORD_CLOSE (R489). -/
  | stormRecordClose
  /-- STORM_TIMEOUT (R491). -/
  | stormTimeout
  /-- AUDIT_PAGE_CLOSE (R484). -/
  | auditPageClose
  /-- AUDIT_PAGE_DURABLE (R484). -/
  | auditPageDurable
  /-- CURSOR (R486). -/
  | cursor (assoc : Fin 52) (v : BitVec 64)
  /-- BATCH (R486). -/
  | batch (assoc : Fin 52)
  /-- FCURSOR (R486). -/
  | fcursor (assoc : Fin 52) (v : BitVec 16)
  /-- FBATCH (R486). -/
  | fbatch (assoc : Fin 52)
  /-- FAULT_ACK (R492). -/
  | faultAck (seq : BitVec 64)
  /-- FN_TAIL_WRITE (R490). -/
  | fnTailWrite (v : BitVec 32)
  /-- FN_OVER_READ (R490). -/
  | fnOverRead (full : Bool)
  /-- DETECTOR_ASSERT (R494). -/
  | detectorAssert (monitor : BitVec 8) (det : Fin 2) (item : BitVec 8) (value limit : BitVec 32)
  /-- DETECTOR_DISAGREE_TIMEOUT (R494). -/
  | detectorDisagreeTimeout
  /-- DETECTOR_SELF_CHECK (R495). -/
  | detectorSelfCheck (monitor : BitVec 8) (det : Fin 2) (pass inside : Bool)
  /-- SHADOW_MISMATCH (R505). -/
  | shadowMismatch (cls : Fin 7) (unit : BitVec 16) (offset : BitVec 32) (latch : Fin 3)
  /-- VBAT_THRESHOLD (R507). -/
  | vbatThreshold (mv : BitVec 16)
  /-- EXT_LOOP_ENABLE (R508). -/
  | extLoopEnable (on : Bool)
  /-- EXT_LOOP_EFFECT (R508). -/
  | extLoopEffect
  /-- LC_REQUEST (R517). -/
  | lcRequest (target : BitVec 8) (hd : Bool)
  /-- TOKEN (R520). -/
  | token (value : BitVec 256)
  /-- TOKEN_CLOSE (R517). -/
  | tokenClose
  /-- DBG_CHAL (R525). -/
  | dbgChal (isTarget : Bool) (code : BitVec 8) (domain : BitVec 16)
  /-- DBG_RESP (R525). -/
  | dbgResp (mldsaOk ecdsaOk : Bool)
  /-- DEBUG_CONSENT (R524). -/
  | debugConsent (level : BitVec 8) (domain : BitVec 16) (duration : BitVec 32)
  /-- DEBUG_GRANT_EXPIRE (R523). -/
  | debugGrantExpire
  /-- CAL_SET (R527). -/
  | calSet (set : Bytes)
  /-- GAIT_REQUEST (R533). -/
  | gaitRequest (v : BitVec 8)
  /-- WALK_IDLE_GATE (R533). -/
  | walkIdleGate (string : Fin 32)
  /-- STRING_WAKE_DONE (R534). -/
  | stringWakeDone (string : Fin 32)
  /-- REEF_STEP_UP (R536). -/
  | reefStepUp (tj : BitVec 32) (amps peak : BitVec 16) (excursion : Bool)
  /-- REEF_STEP_DOWN (R536). -/
  | reefStepDown (tj : BitVec 32) (amps : BitVec 16)
  /-- OVERTEMP_POWER_OFF (R536). -/
  | overtempPowerOff (sensor : BitVec 8) (temp : BitVec 32)
  /-- PWR_KILL_RELEASE (R537). -/
  | pwrKillRelease (temp : BitVec 32)
  /-- PMBUS_FAULT (R531). -/
  | pmbusFault
  /-- GALLOP_WEAR_TICK (R538). -/
  | gallopWearTick
  /-- GALLOP_COUNT_SAVE (R538). -/
  | gallopCountSave
  /-- STANDBY_ENTRY_DONE (R539). -/
  | standbyEntryDone
  /-- WAKE_N (R540). -/
  | wakeN
  /-- POWER_ON_RESET (R543). -/
  | powerOnReset (rails : Bool)
  /-- WARM_RESET (R543). -/
  | warmReset
  /-- JTAG_RESET (R543). -/
  | jtagReset
  /-- HOST_LINK_UP (R351). -/
  | hostLinkUp (half : Fin 4) (rate : Fin 6) (w : Fin 5) (flit : Bool)
  /-- MGT_LINK_CHANGE (R429). -/
  | mgtLinkChange (up : Bool)
  /-- CORR_ENTRY_EXPIRE (R344). -/
  | corrEntryExpire
  /-- CRESETS_EXPIRE (R400). -/
  | cresetsExpire
  /-- PCTL_WRITE (R249). -/
  | pctlWrite (p : Fin 512) (v : BitVec 32)
  /-- STANDBY_SET_WRITE (R249). -/
  | standbySetWrite (p : Fin 512) (word : Fin 68) (v : BitVec 32)
  /-- ICC_BLOCK_RECEIVE (R441). -/
  | iccBlockReceive (slot : Fin 2) (wtx : Option (BitVec 16)) (len : BitVec 8) (more : Bool)
  /-- RNG_STAT_WRITE (R465). -/
  | rngStatWrite (cu : Fin 4) (v : BitVec 32)
  deriving DecidableEq, Repr

end Sys2Proof
end

