-- ==== Sys2Proof/Decode.lean ====
section
/-! DEFINITION. What words spell: a word of the command table, and a word of a Lope instruction store (R204-R208). -/

set_option linter.unusedVariables false

namespace Sys2Proof

/-- The command that a word of the table spells. No row of spec/opcode_table.json gives bits, so no word spells one. -/
def decodeTableWord (nbits w : Nat) : Option Instr := none

/-! Lope words. Bits [31:26] hold OP and bit [25] holds E (R204); `w` is the word, `x` the word that follows it: the extension
word where E is set, and the instruction that REP and REPU repeat. -/

/-- OP and E of a word (R204). -/
def wordOp (w : BitVec 32) : Nat := (w.extractLsb' 26 6).toNat
def wordE (w : BitVec 32) : Bool := w.getLsbD 25

/-- The fields of bits [24:0] in each format (R205). -/
def rOf (w : BitVec 32) : RFmt :=
  { rd := w.extractLsb' 21 4, ra := w.extractLsb' 17 4, rb := w.extractLsb' 13 4, aux := w.extractLsb' 0 8, e := wordE w }
def iOf (w x : BitVec 32) : IFmt :=
  { rd := w.extractLsb' 21 4, ra := w.extractLsb' 17 4, resv := w.getLsbD 16, imm16 := w.extractLsb' 0 16, e := wordE w,
    ext := x }
def mOf (w x : BitVec 32) : MFmt :=
  { rd := w.extractLsb' 21 4, ab := w.extractLsb' 18 3, mode := w.extractLsb' 16 2, imm16 := w.extractLsb' 0 16,
    e := wordE w, ext := x }
def mfOf (w : BitVec 32) : MFFmt :=
  { xd := w.extractLsb' 23 2, ab := w.extractLsb' 20 3, dl := w.extractLsb' 16 4, max1 := w.extractLsb' 10 6,
    s := w.getLsbD 9, off := w.extractLsb' 0 9, e := wordE w }
def bOf (w : BitVec 32) : BFmt := { cond := w.extractLsb' 21 4, off := w.extractLsb' 0 21, e := wordE w }
def bzOf (w : BitVec 32) : BZFmt := { ds := w.extractLsb' 21 4, off := w.extractLsb' 0 20, e := wordE w }
def jOf (w : BitVec 32) : JFmt :=
  { js := w.extractLsb' 22 3, at_ := w.extractLsb' 19 3, dk := w.extractLsb' 15 4, kp := w.getLsbD 14,
    dk2 := w.extractLsb' 10 4, k2p := w.getLsbD 9, dl := w.extractLsb' 5 4, lp := w.getLsbD 4, s := w.getLsbD 3,
    resv := w.extractLsb' 0 3, e := wordE w }
def jxOf (w : BitVec 32) : JXFmt :=
  { xd := w.extractLsb' 23 2, xs := w.extractLsb' 21 2, dk := w.extractLsb' 17 4, len := w.extractLsb' 15 2,
    js := w.extractLsb' 12 3, s := w.getLsbD 11, resv := w.extractLsb' 8 3, func := w.extractLsb' 0 8, e := wordE w }
def evOf (w x : BitVec 32) : EvFmt :=
  { rd := w.extractLsb' 21 4, ra := w.extractLsb' 17 4, resv := w.extractLsb' 0 17, e := wordE w, ext := x }
def cOf (w : BitVec 32) : CFmt :=
  { r := w.extractLsb' 21 4, resv := w.extractLsb' 12 9, num := w.extractLsb' 0 12, e := wordE w }
def sevOf (w : BitVec 32) : SevFmt := { slot := w.extractLsb' 20 4, resv := w.extractLsb' 0 20, e := wordE w }
def repOf (w x : BitVec 32) : RepFmt :=
  { reg := w.getLsbD 24, dc := w.extractLsb' 20 4, resv := w.extractLsb' 16 4, n := w.extractLsb' 0 16, e := wordE w,
    nextOp := x.extractLsb' 26 6, nextE := wordE x }
def repuOf (w x : BitVec 32) : RepuFmt :=
  { n1 := w.extractLsb' 0 6, resv := w.extractLsb' 6 19, e := wordE w, nextOp := x.extractLsb' 26 6 }
def jwOf (w : BitVec 32) : JwFmt :=
  { rd := w.extractLsb' 21 4, resv := w.extractLsb' 3 18, js := w.extractLsb' 0 3, e := wordE w }

/-- OP 0x01 by SUB (R208). -/
def aluWord (p : ProcId) (f : RFmt) (sub : Nat) : Option Instr :=
  match sub with
  | 0x00 => some (.mov p f)
  | 0x01 => some (.add p f)
  | 0x02 => some (.sub p f)
  | 0x03 => some (.and p f)
  | 0x04 => some (.or p f)
  | 0x05 => some (.xor p f)
  | 0x06 => some (.not p f)
  | 0x07 => some (.neg p f)
  | 0x08 => some (.shl p f)
  | 0x09 => some (.shr p f)
  | 0x0A => some (.sar p f)
  | 0x0B => some (.shli p f)
  | 0x0C => some (.shri p f)
  | 0x0D => some (.sari p f)
  | 0x0E => some (.mul p f)
  | 0x0F => some (.mulhu p f)
  | 0x10 => some (.divu p f)
  | 0x11 => some (.cmp p f)
  | 0x12 => some (.cmpeqm p f)
  | 0x13 => some (.cmpltm p f)
  | 0x14 => some (.sel p f)
  | 0x15 => some (.bswap p f)
  | 0x16 => some (.popc p f)
  | 0x17 => some (.sett p f)
  | 0x18 => some (.clt p f)
  | _ => none

/-- OP 0x08 by SUB (R208). -/
def addrWord (p : ProcId) (f : RFmt) (sub : Nat) : Option Instr :=
  match sub with
  | 0x00 => some (.mova p f)
  | 0x01 => some (.movad p f)
  | 0x02 => some (.movda p f)
  | 0x03 => some (.adda p f)
  | 0x04 => some (.suba p f)
  | 0x05 => some (.cmpa p f)
  | _ => none

/-- OP 0x20, XOP, by SUB (R208). -/
def xopWord (p : ProcId) (f : RFmt) (sub : Nat) : Option Instr :=
  match sub with
  | 0x00 => some (.xmov p f)
  | 0x01 => some (.xand p f)
  | 0x02 => some (.xOr p f)
  | 0x03 => some (.xxor p f)
  | 0x04 => some (.xaddb p f)
  | 0x05 => some (.xsubb p f)
  | 0x06 => some (.xcmpeqb p f)
  | 0x07 => some (.xcmpltb p f)
  | 0x08 => some (.xsel p f)
  | 0x09 => some (.xins p f)
  | 0x0A => some (.xext p f)
  | 0x0B => some (.xshlb p f)
  | 0x0C => some (.xshrb p f)
  | 0x0D => some (.xzero p f)
  | 0x0E => some (.xbcast p f)
  | 0x0F => some (.xrev p f)
  | 0x10 => some (.xmaskl p f)
  | _ => none

/-- OP 0x3E, the SYS group, by SUB (R208). -/
def sysWord (p : ProcId) (f : RFmt) (sub : Nat) : Option Instr :=
  match sub with
  | 0x00 => some (.nop p f)
  | 0x01 => some (.rfe p f)
  | 0x02 => some (.halt p f)
  | 0x03 => some (.fence p f)
  | 0x04 => some (.pswap p f)
  | 0x05 => some (.gfence p f)
  | 0x06 => some (.call p f)
  | _ => none

/-- The instruction that a word spells on a processor; none for an OP or SUB the table does not list, which is ILLEGAL (R204,
R208). -/
def decodeLope (p : ProcId) (w x : BitVec 32) : Option Instr :=
  let sub := (w.extractLsb' 8 5).toNat
  match wordOp w with
  | 0x01 => aluWord p (rOf w) sub
  | 0x02 => some (.addi p (iOf w x))
  | 0x03 => some (.andi p (iOf w x))
  | 0x04 => some (.ori p (iOf w x))
  | 0x05 => some (.xori p (iOf w x))
  | 0x06 => some (.movi p (iOf w x))
  | 0x07 => some (.cmpi p (iOf w x))
  | 0x08 => addrWord p (rOf w) sub
  | 0x09 => some (.addai p (iOf w x))
  | 0x0A => some (.movai p (iOf w x))
  | 0x10 => some (.ldB p (mOf w x))
  | 0x11 => some (.ldH p (mOf w x))
  | 0x12 => some (.ldW p (mOf w x))
  | 0x13 => some (.ldD p (mOf w x))
  | 0x14 => some (.stB p (mOf w x))
  | 0x15 => some (.stH p (mOf w x))
  | 0x16 => some (.stW p (mOf w x))
  | 0x17 => some (.stD p (mOf w x))
  | 0x18 => some (.lda p (mOf w x))
  | 0x19 => some (.sta p (mOf w x))
  | 0x1A => some (.ldx p (mOf w x))
  | 0x1B => some (.stx p (mOf w x))
  | 0x1C => some (.mfld p (mfOf w))
  | 0x1D => some (.mfst p (mfOf w))
  | 0x20 => xopWord p (rOf w) sub
  | 0x28 => some (.b p (bOf w))
  | 0x29 => some (.bl p (bOf w))
  | 0x2A => some (.jr p (rOf w) (w.extractLsb' 8 5))
  | 0x2B => some (if w.getLsbD 20 then .bnz p (bzOf w) else .bz p (bzOf w))
  | 0x30 => some (.wfe p (evOf w x))
  | 0x31 => some (if w.getLsbD 24 then .sevAll p (sevOf w) else .sev p (sevOf w))
  | 0x32 => some (.wtu p (evOf w x))
  | 0x33 => some (.rep p (repOf w x))
  | 0x34 => some (.repu p (repuOf w x))
  | 0x36 => some (.time p (cOf w))
  | 0x38 => some (.job p (jOf w))
  | 0x39 => some (.jobx p (jxOf w))
  | 0x3A => some (.jwait p (jwOf w))
  | 0x3C => some (.mfc p (cOf w))
  | 0x3D => some (.mtc p (cOf w))
  | 0x3E => sysWord p (rOf w) sub
  | _ => none

end Sys2Proof
end

