-- ==== Sys2Proof/Config.lean ====
section
/-! DEFINITION. What an implementation fixes and the specification leaves open, and the algorithms of outside standards
the specification names without restating them. Every one is a constant without a body: nothing can evaluate it, so a
statement holds whatever it is. Where a length is fixed by the specification, the caller cuts the value to it. -/

set_option linter.unusedVariables false

namespace Sys2Proof.Config

/-- The free values: the n-th value the specification does not state (applied to State's counter `free`). -/
opaque freeNat : Nat → Nat

/-- Random bytes drawn from a DRBG: draw number and position. -/
opaque randomByte : Nat → Nat → Byte

/-- What reaches the device at a tick of the time base with no command of its own: the aligned 8-byte word of engine memory that
takes an uncorrectable error (R229), the big-number engine that corrects a single-bit error (R161), and the message engine to
which the string dispatcher sends custodian-dispatched work (R233). -/
opaque memError : Nat → Option Nat
/-- Whether an HBM channel that has failed also fails the memory test of the next reset (R49), by free value and channel. -/
opaque memTestFails : Nat → Nat → Bool
/-- Whether an OTP cell burns in three attempts (R514), by free value and cell. -/
opaque cellBurns : Nat → Nat → Bool
/-- The event codes of the fault record of an OTP bit that will not burn (R514) and of the notice of a low battery (R507): R488
lists none for either. -/
opaque otpFaultEvent : Nat
opaque batteryEvent : Nat
/-- Whether the read of a journal page fails at recovery (R90), by free value and page sequence. -/
opaque pageReadFails : Nat → Nat → Bool
opaque corrected : Nat → Option Nat
/-- A unit that has become faulty at a tick, and the test that its next self-test at a reset fails (R124, R185). -/
opaque unitFault : Nat → Option (Nat × Nat)
opaque dispatched : Nat → Option Nat

/-- The set a key index falls in, in a string cache and in the central cache, before reduction (R86). -/
opaque stringSet : Nat → Nat
opaque centralSet : Nat → Nat

/-- The way a pseudo-LRU tree names, before reduction (R86). -/
opaque centralVictim : Nat → Nat

/-- Extra cycles of an access to string data memory, by address and cycle of issue, before reduction to 0-16 (R203). -/
opaque stringLatency : Nat → Nat → Nat

/-- Extra nanoseconds of an access through the HBM window, by address and time, before reduction to 0-250 (R203). -/
opaque hbmLatency : Nat → Nat → Nat

/-- Block ciphers: key, block. -/
opaque aesEnc : Bytes → Bytes → Bytes
opaque aesDec : Bytes → Bytes → Bytes
opaque tdeaEnc : Bytes → Bytes → Bytes
opaque tdeaDec : Bytes → Bytes → Bytes

/-- Hash functions: 1 SHA-256, 2 SHA-384, 3 SHA-512, 4 SHA3-256, 5 SHA3-384, 6 SHA3-512, 7 SHA-1. -/
opaque hash : Nat → Bytes → Bytes

/-- SHAKE128 (128) and SHAKE256 (256): message, output length. -/
opaque shake : Nat → Bytes → Nat → Bytes

/-- HMAC over hash 1-3: key, message. -/
opaque hmac : Nat → Bytes → Bytes → Bytes

/-- AES-CMAC: key, message. -/
opaque cmac : Bytes → Bytes → Bytes

/-- AES-GCM: key, 96-bit IV, data: the data enciphered or deciphered; key, IV, AAD, ciphertext: the 16-byte tag. -/
opaque gcmCrypt : Bytes → Bytes → Bytes → Bytes
opaque gcmTag : Bytes → Bytes → Bytes → Bytes → Bytes

/-- ISO 9797-1 MAC: key TYPE, which fixes the block cipher, algorithm 1 or 3, padding method, key, data. -/
opaque isoMac : Nat → Nat → Nat → Bytes → Bytes → Bytes

/-- SP 800-38F KW (false) and KWP (true): wrap and unwrap. -/
opaque kwWrap : Bool → Bytes → Bytes → Bytes
opaque kwUnwrap : Bool → Bytes → Bytes → Option Bytes

/-- SP 800-38G FF1: encipher or decipher, key, radix, tweak, numerals. -/
opaque ff1 : Bool → Bytes → Nat → Bytes → Bytes → Bytes

/-- X9.24-3 AES DUKPT: initial key from BDK and initial key ID; working key from initial key, counter, usage, type. -/
opaque dukptInitial : Bytes → Bytes → Bytes
opaque dukptWorking : Bytes → Nat → Nat → Nat → Bytes

/-- EMV: ICC master key (method, key, PAN digits, PSN), session key (key TYPE, key, ATC). -/
opaque emvMaster : Nat → Bytes → List Nat → Bytes → Bytes
opaque emvSession : Nat → Bytes → Bytes → Bytes

/-- X9.143: MAC over a block under a KBPK (version, key, header and ciphertext), and the key enciphered or recovered. -/
opaque x9Mac : Bytes → Bytes → Bytes
opaque x9Wrap : Bytes → Bytes → Bytes → Bytes
opaque x9Unwrap : Bytes → Bytes → Option Bytes
/-- Key check value of a KP block: method, KBPK, key. -/
opaque x9Kcv : Nat → Bytes → Bytes → Bytes

/-- ML-DSA and ML-KEM by TYPE (R164): sign (type, mode and context length, seed, representative, rnd), verify, the public key
and the expanded private key of a seed, encapsulate, decapsulate. -/
opaque mldsaSign : Nat → Nat → Bytes → Bytes → Bytes → Bytes
opaque mldsaVerify : Nat → Nat → Bytes → Bytes → Bytes → Bool
opaque pkPublic : Nat → Bytes → Bytes
opaque pkExpand : Nat → Bytes → Bytes
opaque kemEncaps : Nat → Bytes → Bytes → Bytes × Bytes
opaque kemDecaps : Nat → Bytes → Bytes → Bytes
/-- The probable primes that a search finds from its draws: modulus bytes, seed (R172). -/
opaque rsaPrimes : Nat → Bytes → Nat × Nat
/-- The modulus check of FIPS 203 on an encapsulation key (R166). -/
opaque kemKeyOk : Nat → Bytes → Bool

/-- How a slot holds a polynomial, which is not stated: the coefficient at a place of a slot's value, by modulus; the value that
holds 256 coefficients. -/
opaque polyCoeff : Nat → Nat → Nat → Nat
opaque polySlot : Nat → List Nat → Nat
/-- Whether PMUL multiplies transforms, place by place, or polynomials, which is not stated (R190). -/
opaque pmulOfTransforms : Bool

/-- Cost units of a big-number job whose typical time the rate table of R186 does not give: FUNC, TYPE. -/
opaque bnUnits : Nat → Nat → Nat

/-- CTR_DRBG and entropy: bytes of an instance's generate call by instance, personalisation string, seeding and call;
conditioned block from raw bits. -/
opaque drbgOut : Nat → Bytes → Nat → Nat → Bytes
opaque conditioned : Nat → Bytes

/-- The n-th random session ID drawn (R397). -/
opaque sessionId : Nat → BitVec 32

/-- Values fixed by the device that the manual does not give: SILICON_REV and PCI_VENDOR_ID (R429), by subindex. -/
opaque deviceId : Nat → Nat

/-- Readings of the rails by rail and time (R511), the level at a general-purpose pin by pin and time (R447), and whether a
transfer is under way there (R449). -/
opaque railMv : Nat → Nat → Nat
opaque pinSample : Nat → Nat → Bool
opaque pinBusy : Nat → Nat → Bool

/-- The bytes of THRESHOLDS for the THRESHOLDS field of a calibration set; the layout is not stated (R511, R526). -/
opaque thresholds : Bytes → Bytes

/-- The interference that a transfer of the ceremony card host meets, in order (R436), by the n-th free value; the image that the
bytes of a file spell (R387, R388). -/
opaque sdFaults : Nat → List SdFault
opaque firmwareOf : Bytes → FwImage

end Sys2Proof.Config
end

