-- ==== Sys2Proof/Machine/State.lean ====
section
/-! DEFINITION. State: everything the specification gives the device, as plain data, the queue of waiting commands, and the
state right after reset. -/

set_option linter.unusedVariables false

namespace Sys2Proof.Machine

open Sys2Proof

/-- The faults of the block. The device answers an error by a status, a report, an interrupt or a trap of its own, which are
effects on State, so no command ends in one. -/
inductive Fault where
  /-- Raised by no command. It would be safe: it stops the machine and proves nothing. -/
  | outsideManual
  deriving DecidableEq, Repr

/-- Why a command has no meaning. -/
inductive Refusal where
  /-- Raised by an arm of the dispatch for a command without a meaning; safe. No arm is left that does. -/
  | notModelled (mnemonic : String)
  deriving DecidableEq, Repr

/-- The device, its memories apart. -/
structure Dev where
  /-- Boot, gait, hobble, zeroisation (R386, R498, R502, R533). -/
  life : LifeState := {}
  /-- Time base and RTC (R35-R39). -/
  tb : TimeBase := {}
  /-- Stored dictionary values (R404-R408). -/
  dict : DictState := {}
  /-- The audit recorder (R477-R492). -/
  audit : AuditState := {}
  /-- Op tags and the operations that hold them (R21-R28). -/
  op : OpState := {}
  /-- The key store, its journal and caches (R51-R93). -/
  ks : KeyStore := {}
  /-- The cipher pool (R94-R160). -/
  pool : Pool := {}
  /-- The big-number engines (R161-R192). -/
  bn : BnUnit := {}
  /-- The host interface (R351-R385). -/
  host : HostState := {}
  /-- The Malath responder (R404-R431). -/
  mal : MalState := {}
  /-- The message engines have been released (R386). -/
  lopeOn : Bool := false
  /-- The Lope processors (R193-R232): message engines 0-511, custodian cores 512-515. -/
  procs : FMap Proc := []
  /-- The protection units (R233-R249). -/
  prot : FMap ProtUnit := []
  /-- The violation queue (R250-R253). -/
  vq : VioQueue := {}
  /-- Rig images, messages, strings (R257-R292). -/
  rig : RigState := {}
  /-- The custodian (R386-R403). -/
  cust : CustState := {}
  /-- The random number pipeline (R452-R469). -/
  rng : RngState := {}
  /-- Ports, MACsec and transport (R293-R350). -/
  net : NetState := {}
  /-- SD, card slots, CAN and pins (R432-R451). -/
  per : PeriphState := {}
  /-- The guard die (R493-R529). -/
  guard : Guard := {}
  /-- Power and reset (R530-R546). -/
  pow : PowerState := {}
  /-- The check-value units (R470-R473). -/
  cv : FMap CvUnit := []
  /-- Sequence number of each transfer engine (R475), by source ID. -/
  xferSeq : FMap Nat := []
  /-- The model's own record of what the device has sent, newest first. -/
  out : List Emission := []
  /-- The model's own count of free values used. -/
  free : Nat := 0
  deriving DecidableEq, Repr

/-- The state of the block. -/
structure State where
  dev : Dev := {}
  /-- The bytes of every memory that is not zero: scratch, string data and instruction memory, custodian SRAM, HBM (R46, R47,
  R195, R199, R234). -/
  mem : FMap Byte := []
  /-- The secret tags that are set, by 8-byte word (R226). -/
  memTags : FMap Bool := []
  /-- Commands that wait, first in, first out. -/
  pending : List Instr := []
  deriving DecidableEq, Repr

/-- The production firmware image that a new device holds in slot A. -/
def factoryImage : FwImage :=
  { magicOk := true, version := 1, svn := 1, length := 65536, mldsaOk := true, ecdsaOk := true, measurement := zeros 48 }

/-- Right after reset, before the boot chain (R386, R543): every register at its reset value, every memory zero, no command
waiting. What survives resets is that of a device in life-cycle state FACTORY: TL and FA burned, a production image in slot
A, nothing written since. -/
def State.reset : State :=
  { dev := { cust := { slotA := some factoryImage },
             guard := { otp := { cells := [(0, 7), (1, 7)] } } },
    mem := [],
    memTags := [],
    pending := [] }

end Sys2Proof.Machine
end

