-- ==== Sys2Proof/Machine/Ops.lean ====
section
/-! DEFINITION. The operations every command is written over: byte memory and its secret tags, the time base, the
dictionary's counters, what leaves the device, and the raising of audit events and fault reports. -/

set_option linter.unusedVariables false

namespace Sys2Proof.Machine

open Sys2Proof

/-! Byte memory. Every on-die and HBM memory is one list of bytes over disjoint physical ranges; a byte not listed is
zero. -/

/-- Physical base of a processor's scratch (R199), of a string's data memory and instruction store (R234), of the
custodian SRAM (R195) and of the HBM data space (R47). -/
def scratchBase (p : Nat) : Nat := p * 0x8000
def sdataBase (s : Nat) : Nat := 0x10000000 + s * 0x100000
def istoreBase (s : Nat) : Nat := 0x20000000 + s * 0x80000
def sramBase : Nat := 0x30000000
def hbmBase : Nat := 0x1000000000

/-- The regions of the HBM data space (R47): message buffers, host job buffers, the warm key store, the redelivery store,
admitted rig images, the custodian's workspace, the audit staging ring, TCP state. -/
def hbmMessages : Nat := hbmBase
def hbmHostJobs : Nat := hbmBase + 0x200000000
def hbmWarmKeys : Nat := hbmBase + 0x400000000
def hbmRedelivery : Nat := hbmBase + 0x500000000
def hbmRigImages : Nat := hbmBase + 0x580000000
def hbmWorkspace : Nat := hbmBase + 0x600000000
def hbmStaging : Nat := hbmBase + 0x640000000
def hbmTcp : Nat := hbmBase + 0x644000000

/-- Where a key's warm-store entry, a channel's held completion record and a staged audit record stand. -/
def warmEntry (idx : Nat) : Nat := hbmWarmKeys + 128 * idx
def heldEntry (chan seq : Nat) : Nat := hbmRedelivery + 8192 * chan + 32 * (seq % 256)
def stagedEntry (seq : Nat) : Nat := hbmStaging + 128 * (seq % 65536)

/-- Read one byte. -/
def readByte (m : FMap Byte) (a : Nat) : Byte := lookD 0#8 m a

/-- Write one byte; writing zero removes the entry. -/
def writeByte (m : FMap Byte) (a : Nat) (b : Byte) : FMap Byte := put 0#8 m a b

/-- Read `n` bytes upward. -/
def readBytes (m : FMap Byte) (a : Nat) : Nat → Bytes
  | 0 => []
  | n + 1 => readByte m a :: readBytes m (a + 1) n

/-- Write bytes upward. -/
def writeBytes (m : FMap Byte) (a : Nat) : Bytes → FMap Byte
  | [] => m
  | b :: bs => writeBytes (writeByte m a b) (a + 1) bs

/-- Memory is in its one canonical form: addresses strictly rising, no entry zero. -/
def memWf (m : FMap Byte) : Bool := rising m && m.all (fun c => !(c.2 == 0#8))

/-- The secret tag of the aligned 8-byte word that holds an address (R226). -/
def readTag (t : FMap Bool) (a : Nat) : Bool := lookD false t (a / 8)

/-- Set the tag of the word that holds an address. -/
def writeTag (t : FMap Bool) (a : Nat) (v : Bool) : FMap Bool := put false t (a / 8) v

/-- OR of the tags of the words that `n` bytes at `a` touch (R225). -/
def readTags (t : FMap Bool) (a n : Nat) : Bool :=
  if n = 0 then false
  else (List.range ((a + n - 1) / 8 - a / 8 + 1)).any (fun i => lookD false t (a / 8 + i))

/-- The tag a word takes from a store of `n` bytes at `a` (R226): the data's, when the store covers the whole word;
the OR of old and new otherwise. -/
def storedTag (t : FMap Bool) (a n : Nat) (w : Nat) (v : Bool) : Bool :=
  if a ≤ w * 8 ∧ w * 8 + 8 ≤ a + n then v else (lookD false t w || v)

/-- Tags after a store of `n` bytes at `a` of data tagged `v` (R226). -/
def storeTags (t : FMap Bool) (a n : Nat) (v : Bool) : FMap Bool :=
  if n = 0 then t
  else (List.range ((a + n - 1) / 8 - a / 8 + 1)).foldl
    (fun u i => put false u (a / 8 + i) (storedTag t a n (a / 8 + i) v)) t

/-- Tags with every word that `n` bytes at `a` touch set to `v` (R225, R226: job output, message delivery). -/
def fillTags (t : FMap Bool) (a n : Nat) (v : Bool) : FMap Bool :=
  if n = 0 then t
  else (List.range ((a + n - 1) / 8 - a / 8 + 1)).foldl (fun u i => put false u (a / 8 + i) v) t

/-! Time. -/

/-- The replicas take the master's count, unless Standby has halted them (R35, R39). -/
def showTime (t : TimeBase) : TimeBase := if t.halted then t else { t with replica := t.now }

/-- One tick of the master counter (R35, R37, R39): a nanosecond stretched or shrunk by the slew; in Standby a cycle of SLOW,
which adds 10. The RTC runs on. -/
def tick (t : TimeBase) : TimeBase :=
  let acc := ((t.slewAcc : Int) + 1000000000 + t.slewPpb).toNat
  if t.halted then { t with now := w64 (t.now + 10), rtc := t.rtc + 10 }
  else showTime { t with now := w64 (t.now + acc / 1000000000), slewAcc := acc % 1000000000, rtc := t.rtc + 1 }

/-- The time base moved forward to a moment, if it has not reached it; the RTC moves as far (R36). -/
def reachTime (t : TimeBase) (target : Nat) : TimeBase :=
  if t.now < target then showTime { t with now := w64 target, rtc := t.rtc + (target - t.now) } else t

/-- A timer's own event happens no earlier than its moment. -/
def reach (target : Nat) (d : Dev) : Dev := { d with tb := reachTime d.tb target }

/-- Nanoseconds in a microsecond, a millisecond, a second. -/
def us (n : Nat) : Nat := n * 1000
def ms (n : Nat) : Nat := n * 1000000
def sec (n : Nat) : Nat := n * 1000000000

/-! Dictionary counters. -/

/-- The dictionary number of index:sub. -/
def dk (index sub : Nat) : Nat := index * 256 + sub

/-- The stored value of a number entry whose Default is `d0`. -/
def numOf (d0 : Nat) (d : Dev) (key : Nat) : Nat := lookD d0 d.dict.nums key

/-- Store a number entry whose Default is `d0`. -/
def setNum (d0 : Nat) (key v : Nat) (d : Dev) : Dev :=
  { d with dict := { d.dict with nums := put d0 d.dict.nums key v } }

/-- A counter with Default 0, raised by `n`. -/
def bumpBy (n : Nat) (key : Nat) (d : Dev) : Dev := setNum 0 key (numOf 0 d key + n) d

/-- A counter with Default 0, raised by one. -/
def bump (key : Nat) (d : Dev) : Dev := bumpBy 1 key d

/-- A stored blob; an entry not listed is empty. -/
def blobOf (d : Dev) (key : Nat) : Bytes := lookD [] d.dict.blobs key

/-- Store a blob. -/
def setBlob (key : Nat) (v : Bytes) (d : Dev) : Dev :=
  { d with dict := { d.dict with blobs := put [] d.dict.blobs key v } }

/-- Record something sent out. -/
def emit (e : Emission) (d : Dev) : Dev := { d with out := e :: d.out }

/-- A fresh number for a free value; each is used once. -/
def freshFree (d : Dev) : Nat × Dev := (d.free, { d with free := d.free + 1 })

/-! Audit events. -/

/-- Severity of an event code (R488). -/
def severityOf (ev : Nat) : Nat :=
  if ev = 0x0001 then 1 else if ev = 0x0002 then 3 else if ev = 0x0003 then 0 else if ev = 0x0004 then 2
  else if ev = 0x0005 ∨ ev = 0x0006 then 0
  else if ev = 0x0007 ∨ ev = 0x0008 ∨ ev = 0x0009 then 1
  else if 0x0103 ≤ ev ∧ ev ≤ 0x0105 then 1
  else if 0x0100 ≤ ev ∧ ev ≤ 0x0140 then 3
  else if 0x0200 ≤ ev ∧ ev ≤ 0x0204 then 1
  else if 0x0210 ≤ ev ∧ ev ≤ 0x0212 then 3
  else if ev = 0x0220 ∨ ev = 0x0221 then 0
  else if ev = 0x0222 ∨ ev = 0x0230 ∨ ev = 0x0240 then 1
  else if ev = 0x0250 ∨ ev = 0x0300 then 3
  else if 0x0400 ≤ ev ∧ ev ≤ 0x040C then 2
  else if 0x0500 ≤ ev ∧ ev ≤ 0x0504 then 3
  else if ev = 0x0600 then 1
  else 3

/-- The foundation class (R488, column F). -/
def isFoundation (ev : Nat) : Bool :=
  has [0x0002, 0x0100, 0x0101, 0x0102, 0x0111, 0x0112, 0x0113, 0x0114, 0x0115, 0x0120, 0x0121, 0x0130, 0x0140,
       0x0502] ev

/-- Fault and security reports carry the eight common bytes (R479). -/
def isFaultCode (ev : Nat) : Bool := decide (0x0300 ≤ ev ∧ ev ≤ 0x05FF)

/-- An ACTOR word (R478). -/
def actorOf (kind id : Nat) : Nat := kind * 8192 + id % 8192

/-- Raise an event: stamped now, handed to VC3 (R34). -/
def raise (source event domain actor : Nat) (param : List (Nat × Nat)) (d : Dev) : Dev :=
  { d with audit := { d.audit with vc3 := d.audit.vc3 ++
      [{ time := d.tb.now, source := source, event := event, domain := domain, actor := actor,
         severity := severityOf event, param := param }] } }

/-- Raise a record whose event code R488 does not list, with its severity given. -/
def raiseUnlisted (source event severity : Nat) (param : List (Nat × Nat)) (d : Dev) : Dev :=
  { d with audit := { d.audit with vc3 := d.audit.vc3 ++
      [{ time := d.tb.now, source := source, event := event, actor := actorOf 5 0, severity := severity, param := param }] } }

/-- Raise an event that an event of another unit has caused, 5 ns of path away from it (R40). -/
def raiseAfter (source event domain actor : Nat) (param : List (Nat × Nat)) (d : Dev) : Dev :=
  { d with audit := { d.audit with vc3 := d.audit.vc3 ++
      [{ time := w64 (d.tb.now + 5), source := source, event := event, domain := domain, actor := actor,
         severity := severityOf event, param := param }] } }

/-- Raise a fault report that names the unit whose failure caused it (R479). -/
def report (source event cause : Nat) (param : List (Nat × Nat)) (d : Dev) : Dev :=
  { d with audit := { d.audit with vc3 := d.audit.vc3 ++
      [{ time := d.tb.now, source := source, event := event, actor := actorOf 5 0,
         severity := severityOf event, cause := cause, param := param }] } }

/-- Staged records not yet durable (STAGED, R492). -/
def staged (d : Dev) : Nat := d.audit.staging.length

/-- THROTTLE_ON is in force (R491). -/
def isThrottled (d : Dev) : Bool := d.audit.throttled.isSome

/-- From 4,032 foundation copies on, actions of the foundation class are refused (R481). -/
def foundationShut (d : Dev) : Bool := decide (4032 ≤ d.audit.foundation.length)

/-- The foundation area is full (R481). -/
def foundationFull (d : Dev) : Bool := decide (4096 ≤ d.audit.foundation.length)

/-! Source IDs (R44). -/

def srcCore (n : Nat) : Nat := 0x0200 + n
def srcBn (n : Nat) : Nat := 0x0240 + n
def srcPort (p : Nat) : Nat := 0x0280 + p
def srcProc (p : Nat) : Nat := if p < 512 then p else 0x0270 + (p - 512)
/-- The source ID of a function: its link for a physical function, 0x0300 + VF otherwise (R352, R353). -/
def srcFn (fn : Nat) : Nat := if fn < 4 then 0x02C0 + fn / 2 else 0x0300 + (fn - 4)
def srcKeyStore : Nat := 0x0B40
def srcHalyard : Nat := 0x0B41
def srcOstler : Nat := 0x0B42
def srcAudit : Nat := 0x0B43
def srcGuard : Nat := 0x0B00
def srcCustodian : Nat := 0x0270
def srcPmc : Nat := 0x0B90
def srcClock : Nat := 0x0BA0
def srcHbm (c : Nat) : Nat := 0x0B50 + c
def srcNand : Nat := 0x0B70
def srcMgt : Nat := 0x0B80
def srcJtag : Nat := 0x0B85
def srcEntropy (n : Nat) : Nat := 0x0B48 + n
def srcDrbg (n : Nat) : Nat := 0x0B44 + n
def srcCan : Nat := 0x0B81
def srcIcc (n : Nat) : Nat := 0x0B82 + n
def srcSd : Nat := 0x0B84

/-- The ACTOR of a function (R478). -/
def actorFn (fn : Nat) : Nat := if fn < 4 then actorOf 2 fn else actorOf 3 (fn - 4)

/-- The ACTOR of custodian firmware, of an officer, of hardware (R478). -/
def actorFw : Nat := actorOf 4 0
def actorOfficer (id : Nat) : Nat := actorOf 1 id
def actorHw : Nat := actorOf 5 0

/-- The outcome of a command that always has one: the next state. -/
abbrev Out := Host.Outcome State Fault Refusal

/-- The state that an outcome leaves, for a command that runs within another. -/
def nextState (s : State) (o : Out) : State :=
  match o with
  | .next t => t
  | _ => s

/-- A command whose effect lies outside memory. -/
def onDev (f : Dev → Dev) (s : State) : Out := .next { s with dev := f s.dev }

/-! A write of a dictionary entry, as the custodian executes it (R408, R420). -/

/-- The model's own REASON of a write refused with BUSY_RETRY: a journalled action without journal space (R92). -/
def busyReason : Nat := 256

/-- The model's own REASON of a write that ends with TIMEOUT, and when one does: an action on a ceremony card whose transfer
failed (R436). -/
def timeoutReason : Nat := 257
def cardTimedOut (index sub : Nat) (d : Dev) : Bool :=
  index == 0x7800 && (sub == 9 || sub == 0xA || sub == 0xB) && d.per.sd.timedOut

/-- Run a write; it is recorded as DICT_WRITE with the first 16 bytes of its value. Answers REASON, 0 for success. -/
def entryWrite (index sub : Nat) (value : Bytes) (actor : Nat) (f : Dev → Except Nat Dev) (d : Dev) : Nat × Dev :=
  match f d with
  | .ok d =>
    if cardTimedOut index sub d then (timeoutReason, emit (.wrote index sub timeoutReason) d)
    else (0, emit (.wrote index sub 0)
      (raise srcCustodian 0x0240 0 actor [(2, index), (1, sub), (16, leVal (value.take 16))] d))
  | .error r => (r, emit (.wrote index sub r) d)

/-- The write as a command of its own, made by custodian firmware. -/
def writeRow (index sub : Nat) (value : Bytes) (f : Dev → Except Nat Dev) (s : State) : Out :=
  onDev (fun d => (entryWrite index sub value actorFw f d).2) s

end Sys2Proof.Machine
end

