-- ==== Sys2Proof/Machine/Tags.lean ====
section
/-! DEFINITION. Key caches and their pins (R81-R86), engine key slots (R83), and op tags: allocation, retirement and
squash (R21-R28). -/

set_option linter.unusedVariables false

namespace Sys2Proof.Machine

open Sys2Proof

/-! Key caches. -/

/-- The central cache's admission point number (R68). -/
def central : Nat := 32

/-- The table key of the set a key index falls in at a point (R86): 512 sets of a string cache; of the 32,768 central
sets the last 8,192 hold the 131,072 extension lines. -/
def setKey (point idx : Nat) : Nat :=
  point * 65536 + (if point < 32 then Config.stringSet idx % 512 else Config.centralSet idx % 24576)

/-- The lines of a set, least recently used first. -/
def cacheSet (ks : KeyStore) (point idx : Nat) : List CacheLine := lookD [] ks.caches (setKey point idx)

/-- Whether a lookup at a point hits: the point holds the index and no invalidation makes it a miss (R76). -/
def cacheHit (ks : KeyStore) (point idx : Nat) : Option CacheLine :=
  (cacheSet ks point idx).find? (fun l => l.idx == idx && !l.stale)

/-- Change the set a key index falls in. -/
def onSet (point idx : Nat) (f : List CacheLine → List CacheLine) (ks : KeyStore) : KeyStore :=
  { ks with caches := upd [] ks.caches (setKey point idx) f }

/-- Move a line to the most recently used place of its set. -/
def touchLine (idx : Nat) (ls : List CacheLine) : List CacheLine :=
  ls.filter (fun l => !(l.idx == idx && !l.stale)) ++ ls.filter (fun l => l.idx == idx && !l.stale)

/-- Pin the live line of an index at a point (R81). A key with extension lines becomes the most recently used of them at the
central cache (R86). -/
def pinLine (point idx : Nat) (ks : KeyStore) : KeyStore :=
  onSet point idx (fun ls => (touchLine idx ls).map
    (fun l => if l.idx == idx && !l.stale then { l with pins := l.pins + 1 } else l))
    { ks with centralLru := if point == central && has ks.centralLru idx then without ks.centralLru idx ++ [idx]
                            else ks.centralLru }

/-- Release one pin; a stale line whose last pin goes is zeroed and leaves the cache (R78, R84). -/
def unpinLine (p : Pin) (ks : KeyStore) : KeyStore :=
  onSet p.point p.idx (fun ls =>
    (ls.map (fun l => if l.idx == p.idx && l.key.gen == p.gen then { l with pins := l.pins - 1 } else l)).filter
      (fun l => !(l.stale && l.pins == 0 && l.idx == p.idx))) ks

/-- Pins that a destruction waits for, at every point: on the destroyed generation, and on keys below it, whose record names the
index with an older generation (R78; step 8 of the key store's worked example). -/
def pinCount (d : Dev) (idx gen : Nat) : Nat :=
  let below := fun (p : Pin) => match look d.ks.keys p.idx with
    | some k => k.gen == p.gen && k.lineage.any (fun e => e.1 == idx && decide (e.2 ≤ gen))
    | none => false
  (d.op.ops.map (fun e => (e.2.pins.filter (fun p => (p.idx == idx && p.gen == gen) || below p)).length)).foldl (· + ·) 0

/-! Engine key slots. -/

/-- Release a key slot from a job: a slot told to clear is emptied with its last user (R83). -/
def releaseSlot (idx gen : Nat) (slots : List KeySlot) : List KeySlot :=
  (slots.map (fun k => if k.idx == idx && k.gen == gen then { k with users := k.users - 1 } else k)).filter
    (fun k => !(k.clearWhenFree && k.users == 0))

/-- Clear the slots an invalidation matches, those in use when their job retires (R83). -/
def invalidateSlots (hit : Nat → Nat → Bool) (slots : List KeySlot) : List KeySlot :=
  (slots.map (fun k => if hit k.idx k.gen then { k with clearWhenFree := true } else k)).filter
    (fun k => !(k.clearWhenFree && k.users == 0))

/-- A cipher core as it stands; one not listed is as at reset. -/
def coreOf (d : Dev) (n : Nat) : CipherCore := lookD {} d.pool.cores n

/-- Change a cipher core. -/
def onCore (n : Nat) (f : CipherCore → CipherCore) (d : Dev) : Dev :=
  { d with pool := { d.pool with cores := upd {} d.pool.cores n f } }

/-- A big-number engine as it stands. -/
def engineOf (d : Dev) (n : Nat) : BnEngine := lookD {} d.bn.engines n

/-- Change a big-number engine. -/
def onEngine (n : Nat) (f : BnEngine → BnEngine) (d : Dev) : Dev :=
  { d with bn := { d.bn with engines := upd {} d.bn.engines n f } }

/-! Op tags. -/

/-- Tags in FREE (TAGS_FREE, R431). -/
def freeTags (d : Dev) : Nat := FreeList.count 65536 d.op.free

/-- Tags another source than the custodian may take: the unused part of the reserve is kept back (R26). -/
def openTags (d : Dev) : Nat := freeTags d - (1024 - d.op.custodianUsed)

/-- The operation that holds a tag. -/
def opOf (d : Dev) (tag : Nat) : Option Op := look d.op.ops tag

/-- Change the operation that holds a tag. -/
def onOp (tag : Nat) (f : Op → Op) (d : Dev) : Dev :=
  match look d.op.ops tag with
  | none => d
  | some o => { d with op := { d.op with ops := ins d.op.ops tag (f o) } }

/-- TAGS_FREE_MIN keeps the fewest free since reset (R431). -/
def noteTags (d : Dev) : Dev :=
  let m := numOf 65536 d (dk 0x8000 4)
  if freeTags d < m then setNum 65536 (dk 0x8000 4) (freeTags d) d else d

/-- Take the tag at the front of the free list; its epoch advances (R24). -/
def takeTag (d : Dev) : Option (Nat × Dev) :=
  match FreeList.take 65536 d.op.free with
  | none => none
  | some (t, f) =>
    some (t, noteTags { d with op := { d.op with free := f, epochs := upd 0 d.op.epochs t (fun e => (e + 1) % 16) } })

/-- Take `n` tags (R25). -/
def takeTags : Nat → Dev → Option (List Nat × Dev)
  | 0, d => some ([], d)
  | n + 1, d =>
    match takeTag d with
    | none => none
    | some (t, d) =>
      match takeTags n d with
      | none => none
      | some (ts, d) => some (t :: ts, d)

/-- Put an operation under a tag. -/
def putOp (tag : Nat) (o : Op) (d : Dev) : Dev := { d with op := { d.op with ops := ins d.op.ops tag o } }

/-- Give tags back to the tail of the free list, in order (R24). -/
def giveTags (ts : List Nat) (d : Dev) : Dev :=
  { d with op := { d.op with free := ts.foldl FreeList.give d.op.free } }

/-- The pool or the big-number engines serve a service (R100). -/
def isBnService (svc : Nat) : Bool := svc == 3 || svc == 4

/-- The channel a host or mailbox job runs on. -/
def srcChan (d : Dev) (src : OpSrc) : Option Nat :=
  match src with
  | .host c _ => some c
  | .mailbox fn => match look d.host.fns fn with
    | some h => h.implicitChan
    | none => none
  | _ => none

/-- Count a job's tag on its channel (R117): pool tags and BN tags apart (R181). -/
def countChan (d : Dev) (o : Op) (up : Bool) : Dev :=
  match srcChan d o.req.src with
  | none => d
  | some c =>
    match look d.host.chans c with
    | none => d
    | some ch =>
      let step := fun n => if up then n + 1 else n - 1
      let ch := if isBnService o.req.job.service then { ch with bnTags := step ch.bnTags }
        else { ch with poolTags := step ch.poolTags }
      { d with host := { d.host with chans := ins d.host.chans c ch } }

/-- Contexts of each unit that jobs hold (R96). -/
def unitBusy (c : CipherCore) (u : CoreUnit) : Nat := (c.jobs.filter (fun e => e.2 == u)).length

/-- No job is on a core: none holds a context, none waits between two units. -/
def coreEmpty (c : CipherCore) : Bool := c.jobs.isEmpty && c.unitWait.isEmpty

/-- Jobs that wait for a unit take its free contexts, in order (R134). -/
def serveUnits : List (Nat × CoreUnit) → CipherCore → CipherCore
  | [], c => c
  | (t, u) :: r, c =>
    serveUnits r (if unitBusy c u < u.contexts then
      { c with jobs := c.jobs ++ [(t, u)], unitWait := c.unitWait.erase (t, u) } else c)

/-- A job leaves its core, or its unit: the context it held is free for those that wait. -/
def freeContext (tag : Nat) (c : CipherCore) : CipherCore :=
  let c := { c with jobs := c.jobs.filter (fun e => !(e.1 == tag)), unitWait := c.unitWait.filter (fun e => !(e.1 == tag)) }
  serveUnits c.unitWait c

/-- Release what an operation holds in caches and in its engine, its material overwritten (R78, R83, R134). -/
def releaseHolds (tag : Nat) (o : Op) (d : Dev) : Dev :=
  let d := { d with ks := o.pins.foldl (fun ks p => unpinLine p ks) d.ks }
  match o.unit with
  | none => d
  | some n =>
    if isBnService o.req.job.service then
      onEngine n (fun e => { e with
        slots := o.pins.foldl (fun sl p => releaseSlot p.idx p.gen sl) (if e.state == .draining then [] else e.slots),
        state := if e.state == .draining then .testing else e.state, job := none, work := [], prog := none })
        { d with pool := { d.pool with
          cores := mapV (fun _ c => { c with transient := c.transient.filter (fun t => !(t.1 == tag)) }) d.pool.cores } }
    else
      onCore n (fun c => { c with slots := o.pins.foldl (fun sl p => releaseSlot p.idx p.gen sl) c.slots }) d

/-- Retire one tag: undrawn reserved children enter the free list first, the tag itself follows (R24). -/
def retireOne (tag : Nat) (o : Op) (d : Dev) : Dev :=
  let d := releaseHolds tag o d
  let d := countChan d o false
  let d := { d with op := { d.op with
    ops := del d.op.ops tag,
    custodianUsed := if o.reserve then d.op.custodianUsed - 1 else d.op.custodianUsed } }
  giveTags (o.resv ++ [tag]) d

/-- No child of an operation holds a tag (R23). -/
def childless (o : Op) : Bool := o.kids.isEmpty && o.drawn.isEmpty

/-- A parent with one child fewer; it retires when it has waited for the last of them (R23). -/
def settleParent (p : Nat) (f : Op → Op) (d : Dev) : Dev :=
  match look d.op.ops p with
  | none => d
  | some po =>
    let po := f po
    if po.retiring && childless po then retireOne p po d
    else { d with op := { d.op with ops := ins d.op.ops p po } }

/-- Retire a tag (R23): a parent waits for its children, and goes with the last of them. -/
def retire (tag : Nat) (d : Dev) : Dev :=
  match look d.op.ops tag with
  | none => d
  | some o =>
    if childless o then
      let d := retireOne tag o d
      match o.parent with
      | none => d
      | some p => settleParent p (fun po => { po with kids := without po.kids tag }) d
    else onOp tag (fun o => { o with retiring := true, phase := .completing }) d

/-- A child job draws a tag of its parent's reservation at issue (R25). -/
def drawTag (p tag : Nat) (d : Dev) : Dev :=
  onOp p (fun o => { o with resv := without o.resv tag, drawn := o.drawn ++ [tag] }) d

/-- A child refused at admission has taken no tag: the one it drew stands in the reservation again (R16, R24). -/
def undrawTag (p tag : Nat) (d : Dev) : Dev :=
  settleParent p (fun o => { o with resv := tag :: o.resv, drawn := without o.drawn tag }) d

/-- A read returns poisoned data (R49, R475): a byte lies in a failed channel of HBM, whose data space is interleaved at 256
bytes over 32 channels (R47), or in a transfer's destination that failed its check. -/
def poisonedAt (phys n : Nat) (d : Dev) : Bool :=
  (decide (hbmBase ≤ phys) &&
    ((List.range n).any (fun i => has d.life.hbmFailed ((phys + i - hbmBase) / 256 % 32)))) ||
    d.life.poison.any (fun r => decide (r.1 < phys + n ∧ phys < r.1 + r.2.1))

/-- The first poisoned byte of a read and the unit whose failure caused it (R479). -/
def poisonSource (phys n : Nat) (d : Dev) : Option (Nat × Nat) :=
  (((List.range n).map (fun i => phys + i)).find? (fun a => poisonedAt a 1 d)).map (fun a =>
    (a, match d.life.poison.find? (fun r => decide (r.1 ≤ a ∧ a < r.1 + r.2.1)) with
        | some r => r.2.2
        | none => srcHbm ((a - hbmBase) / 256 % 32)))

/-- A unit that reads poisoned data reports POISON, naming the failed unit (R49, R479, R488). -/
def reportPoison (src phys n : Nat) (d : Dev) : Dev :=
  match poisonSource phys n d with
  | some (a, cause) => report src 0x0405 cause [(8, a)] d
  | none => d

/-- The reports of a job of an engine whose input lies in memory that returns poisoned data (R49). -/
def poisonInput (src : Nat) (o : Op) (d : Dev) : Dev :=
  match o.req.src, o.req.inPhys.find? (fun e => poisonedAt e.1 e.2 d) with
  | .engine .., some e => reportPoison src e.1 e.2 d
  | _, _ => d

/-- The input of a running job: as its read answers it, or what an engine's job held at issue; none where the read fails
or finds poisoned data (R49, R368). -/
def jobInput (o : Op) (answer : Option Bytes) (d : Dev) : Option Bytes :=
  match o.req.src with
  | .host .. => answer
  | .mailbox _ => answer
  | .engine .. => if o.req.inPhys.any (fun e => poisonedAt e.1 e.2 d) then none else some o.req.input
  | _ => some o.req.input

/-- Queues of the Ostler and of the BN dispatcher without a job. -/
def dropQueued (tag : Nat) (qs : FMap ClassQueue) : FMap ClassQueue :=
  mapV (fun _ q => { q with jobs := q.jobs.filter (fun j => !(j.tag == tag)) }) qs

/-- Take a squashed job out of its queue or its unit; work in a pipeline runs on and its output is discarded (R28). -/
def unqueue (tag : Nat) (o : Op) (d : Dev) : Dev :=
  let d := { d with pool := { d.pool with queues := dropQueued tag d.pool.queues },
                    bn := { d.bn with queues := dropQueued tag d.bn.queues } }
  match o.unit with
  | none => d
  | some n =>
    if isBnService o.req.job.service then d
    else onCore n (fun c => { freeContext tag c with
      late := c.late ++ (c.jobs.filter (fun j => j.1 == tag)).map (fun j => (j.1, lookD 0 d.op.epochs tag)) }) d

/-- Move one operation to COMPLETING with SQUASHED (R28). (DESIGN CHOICE: JOBS_DONE of R128 counts the jobs that a core has
ended, not those squashed.) -/
def squashOne (tag : Nat) (d : Dev) : Dev :=
  match look d.op.ops tag with
  | none => d
  | some o =>
    match o.phase with
    | .completing => d
    | _ =>
      let d := unqueue tag o d
      onOp tag (fun o => { o with phase := .completing, status := .squashed, out := [], outlen := 0, nonce := [],
                                  untrusted := false, ivPrefix := false, produced := true, waitSeq := none }) d

/-- The engines that run a slice of an operation are sent PREEMPT (R224). -/
def preemptEngines (tag : Nat) (d : Dev) : Dev :=
  { d with procs := mapV (fun _ q => match q.slice with
    | some (t, _) => if t == tag then { q with preempt := true } else q
    | none => q) d.procs }

/-- Squash an operation with its children (R28): the engines at work on it are preempted (R224). -/
def squash (tag : Nat) (d : Dev) : Dev :=
  match look d.op.ops tag with
  | none => d
  | some o => preemptEngines tag (o.kids.foldl (fun d k => squashOne k d) (squashOne tag d))

/-- Squash every operation at once, delivering nothing: every tag returns to FREE and the list is rebuilt in
ascending order (R24, R28). -/
def squashAll (d : Dev) : Dev :=
  let op := { d.op with ops := [], free := {}, custodianUsed := 0, waitFill := [], waitLease := [], waitTag := [] }
  let pool := { d.pool with
    queues := mapV (fun _ q => { q with jobs := [] }) d.pool.queues,
    cores := mapV (fun _ c => { c with jobs := [], unitWait := [], transient := [], slots := c.slots.map (fun k => { k with users := 0 }) })
      d.pool.cores }
  let bn := { d.bn with
    queues := mapV (fun _ q => { q with jobs := [] }) d.bn.queues,
    engines := mapV (fun _ e => { e with job := none, prog := none, work := [],
                                         slots := e.slots.map (fun k => { k with users := 0 }) }) d.bn.engines }
  let ks := { d.ks with
    caches := mapV (fun _ ls => (ls.filter (fun l => !l.stale)).map (fun l => { l with pins := 0 })) d.ks.caches }
  { d with op := op, pool := pool, bn := bn, ks := ks }

end Sys2Proof.Machine
end

