-- ==== Sys2Proof/Machine/KeyOps.lean ====
section
/-! DEFINITION. The key store's shared operations: resolving a handle, types and usage rows, the journal, creating and
destroying keys (R52-R80, R87-R92, R135, R136, R562). -/

set_option linter.unusedVariables false

namespace Sys2Proof.Machine

open Sys2Proof

/-- Current generation of an index (R55). -/
def genOf (ks : KeyStore) (idx : Nat) : Nat := lookD 0 ks.gens idx

/-- A key is orphaned when an ancestor's current generation differs from the one its LINEAGE records (R64). -/
def orphaned (ks : KeyStore) (k : KeyRec) : Bool := k.lineage.any (fun e => !(genOf ks e.1 == e.2))

/-- A record is live: not destroyed, expired or orphaned. -/
def liveKey (ks : KeyStore) (k : KeyRec) : Bool := !k.destroyed && !k.expired && !orphaned ks k

/-- The tests of R53 on a copy of a record: every test but expiry, then expiry. -/
def resolveCopy (ks : KeyStore) (k : KeyRec) (custodian : Bool) (domain h : Nat) : Except Status KeyRec :=
  if !k.committed || k.destroyed || !(k.cls == handleClass h) || !(k.gen % 16 == handleGen h) ||
      (!custodian && !(k.domain == domain)) || ks.locked then .error .keyInvalid
  else if k.expired then .error .keyExpired
  else .ok k

/-- Resolve a handle in the key store itself (R53, R64). -/
def resolve (ks : KeyStore) (custodian : Bool) (domain h : Nat) : Except Status (Nat × KeyRec) :=
  match look ks.keys (handleIndex h) with
  | none => .error .keyInvalid
  | some k =>
    if orphaned ks k then .error .keyInvalid
    else match resolveCopy ks k custodian domain h with
    | .error e => .error e
    | .ok k => .ok (handleIndex h, k)

/-- The handle of a record (R52). -/
def handleOf (idx : Nat) (k : KeyRec) : Nat := mkHandle k.cls idx k.gen

/-! Types and usage. -/

def isAes (t : Nat) : Bool := decide (1 ≤ t ∧ t ≤ 3)
def isTdea (t : Nat) : Bool := t == 4 || t == 5
def isHmac (t : Nat) : Bool := t == 6
def isRsa (t : Nat) : Bool := decide (0x10 ≤ t ∧ t ≤ 0x12)
def isEcc (t : Nat) : Bool := t == 0x18 || t == 0x19
def isEd (t : Nat) : Bool := t == 0x1A
def isMldsa (t : Nat) : Bool := decide (0x20 ≤ t ∧ t ≤ 0x22)
def isMlkem (t : Nat) : Bool := decide (0x28 ≤ t ∧ t ≤ 0x2A)
def isPk (t : Nat) : Bool := isRsa t || isEcc t || isEd t || isMldsa t || isMlkem t

/-- RSA modulus length in bytes (R164). -/
def rsaBytes (t : Nat) : Nat := if t = 0x10 then 256 else if t = 0x11 then 384 else 512

/-- Private and public material lengths of the public-key types (R164). -/
def privLen (t : Nat) : Nat :=
  if isRsa t then 4 + rsaBytes t + 5 * (rsaBytes t / 2)
  else if t = 0x18 then 32 else if t = 0x19 then 48 else if t = 0x1A then 32
  else if isMldsa t then 32 else 64

def pubLen (t : Nat) : Nat :=
  if isRsa t then 4 + rsaBytes t
  else if t = 0x18 then 64 else if t = 0x19 then 96 else if t = 0x1A then 32
  else if t = 0x20 then 1312 else if t = 0x21 then 1952 else if t = 0x22 then 2592
  else if t = 0x28 then 800 else if t = 0x29 then 1184 else 1568

/-- Signature or ciphertext length (R164). -/
def sigLen (t : Nat) : Nat :=
  if isRsa t then rsaBytes t
  else if t = 0x18 then 64 else if t = 0x19 then 96 else if t = 0x1A then 64
  else if t = 0x20 then 2420 else if t = 0x21 then 3309 else if t = 0x22 then 4627
  else if t = 0x28 then 768 else if t = 0x29 then 1088 else 1568

/-- A type matches a class (R58). -/
def typeMatches (t cls : Nat) : Bool :=
  if isAes t then cls == 0 || cls == 3 || cls == 4
  else if isTdea t then cls == 0 || cls == 4
  else if isHmac t then cls == 0 || cls == 3
  else if isPk t then cls == 1 || cls == 2
  else false

/-- A material length is a type's (R58, R164). -/
def materialLenOk (t cls n : Nat) : Bool :=
  if t = 1 then n == 16 else if t = 2 then n == 24 else if t = 3 then n == 32
  else if t = 4 then n == 16 else if t = 5 then n == 24
  else if t = 6 then decide (16 ≤ n ∧ n ≤ 128)
  else if cls = 1 then n == privLen t else n == pubLen t

/-- Material length a symmetric type is generated or derived with; 32 bytes for HMAC. -/
def symLen (t : Nat) : Nat :=
  if t = 1 then 16 else if t = 2 then 24 else if t = 3 then 32 else if t = 4 then 16 else if t = 5 then 24 else 32

/-- The rows of R135: class, mask of USAGE bits, types. -/
def usageRows : List (Nat × Nat × (Nat → Bool)) :=
  [(0, 0x0003, fun t => isAes t || isTdea t),
   (0, 0x000C, fun t => isAes t || isTdea t || isHmac t),
   (0, 0x0030, fun t => isAes t || isTdea t),
   (0, 0x4000, isAes),
   (1, 0x0080, fun t => isRsa t || isEcc t || isEd t || isMldsa t),
   (1, 0x0220, fun t => isRsa t || isEcc t || isMlkem t),
   (2, 0x0100, fun t => isRsa t || isEcc t || isEd t || isMldsa t),
   (2, 0x0010, fun t => isRsa t || isMlkem t),
   (2, 0x0200, isEcc),
   (3, 0x0040, fun t => isAes t || isHmac t),
   (4, 0x0C00, fun t => isAes t || isTdea t),
   (4, 0x1000, fun t => isAes t || isTdea t),
   (4, 0x2000, fun t => isAes t || t == 4)]

/-- A key's USAGE is a subset of one row of R135 for its class, with its TYPE in that row. -/
def usageOk (cls usage t : Nat) : Bool :=
  usageRows.any (fun r => r.1 == cls && Nat.land usage r.2.1 == usage && r.2.2 t)

/-! The key derivation function. -/

/-- The fixed input of block i of an SP 800-108 counter-mode derivation (R562). -/
def kdfInput (i : Nat) (label context : Bytes) (outBits : Nat) : Bytes :=
  be 4 i ++ label ++ [0#8] ++ context ++ be 4 outBits

/-- The derivation of R562: PRF outputs in order of i, cut to the output length. -/
def kdf (prf : Bytes → Bytes) (prfLen : Nat) (label context : Bytes) (outLen : Nat) : Bytes :=
  (((List.range ((outLen + prfLen - 1) / prfLen)).map
    (fun i => padTo prfLen (prf (kdfInput (i + 1) label context (8 * outLen))))).flatten).take outLen

/-- HMAC-SHA-384 as the PRF. -/
def kdfHmac (key label context : Bytes) (outLen : Nat) : Bytes := kdf (Config.hmac 2 key) 48 label context outLen

/-- AES-CMAC as the PRF. -/
def kdfCmac (key label context : Bytes) (outLen : Nat) : Bytes := kdf (Config.cmac key) 16 label context outLen

/-! Keys at rest. -/

/-- The bytes of wrapped material: AES-256 KWP (R63). -/
def wrapBytes (w : Wrapped) : Bytes := padTo ((w.plain.length + 7) / 8 * 8 + 8) (Config.kwWrap true w.kek w.plain)

/-- Unwrap: the material under its own wrapping key, nothing under another (R62, R63; DESIGN CHOICE: KWP's integrity check
never passes under a wrong key). -/
def unwrapWith (kek : Bytes) (w : Wrapped) : Option Bytes := if !kek.isEmpty && w.kek == kek then some w.plain else none

/-- The material of a domain's root. -/
def rootMaterial (ks : KeyStore) (dom : Nat) : Bytes := ((look ks.keys (dom + 1)).map (fun k => k.material)).getD []

/-- The storage wrapping key of a domain (R63): label "CXSW", empty context, 256 bits, keyed with the domain root. -/
def storageWrapKey (ks : KeyStore) (dom : Nat) : Bytes := kdfHmac (rootMaterial ks dom) [0x43#8, 0x58#8, 0x53#8, 0x57#8] [] 32

/-- The personalisation string of a domain's instance (R461): label "CXDR", context the instance number and the boot count. -/
def domainPers (ks : KeyStore) (dom inst : Nat) : Bytes :=
  kdfHmac (rootMaterial ks dom) [0x43#8, 0x58#8, 0x44#8, 0x52#8] (le 2 inst ++ le 4 ks.bootCount) 48

/-- A record without its material: its length stays in MLEN. -/
def bareRec (k : KeyRec) : KeyRec := { k with material := zeros k.material.length }

/-- A record as NAND holds it: a domain root under the storage root, every other key under its domain's storage wrapping
key (R63); of a volatile key no material, counter or IVCTR (R72). -/
def storeKey (ks : KeyStore) (idx : Nat) (k : KeyRec) : StoredKey :=
  if k.volatileKey then { kr := { bareRec k with uses := 0, ivctr := 0 } }
  else if idx ≤ 0x1000 then { kr := bareRec k, wrapped := look ks.atRest idx }
  else { kr := bareRec k, wrapped := some { kek := storageWrapKey ks k.domain, plain := k.material } }

/-! The journal. -/

/-- Bytes of a record's payload as stored, 8-byte aligned with its header (R88). -/
def jrecSize (b : JBody) : Nat :=
  16 + match b with
  | .create k => 128 + (k.kr.material.length + 7) / 8 * 8 + 8
  | .migrateBegin _ => 48
  | .migrateReady _ => 48
  | .migrateFinal _ => 48
  | .migrateWrap _ w => 8 + (w.plain.length + 7) / 8 * 8 + 8
  | .volatileAlloc .. => 16
  | .migrateAbandon => 0
  | .compactBegin .. => 16
  | .compactEnd .. => 16
  | _ => 8

def jpageSize (p : JPage) : Nat := (p.recs.map (fun r => jrecSize r.body)).foldl (· + ·) 0

/-- Bytes a record takes in a snapshot: a CREATE record, or of a volatile key a VOLATILE_ALLOC record (R72, R92). -/
def snapRecSize (k : KeyRec) : Nat :=
  if k.volatileKey then jrecSize (.volatileAlloc 0 0 0 0 0 0) else jrecSize (.create { kr := k })

/-- Pages of a snapshot (DESIGN CHOICE: R92 does not say how many it takes; its records fill pages of 16,336 bytes). -/
def snapPagesOf (b : Snapshot) : Nat := ((b.keys.map (fun e => snapRecSize e.2.kr)).foldl (· + ·) 0 + 16335) / 16336

/-- Pages of the snapshot that a running compaction is writing, or has written beside the old one. -/
def copyPages (ks : KeyStore) : Nat :=
  match ks.compact with
  | .copying => (ks.building.map snapPagesOf).getD 0
  | .erasing => ((if ks.building.isSome then ks.building else ks.snap).map snapPagesOf).getD 0
  | _ => 0

/-- Data pages that are open, being programmed or programmed, those a reset cut off among them (R95). -/
def usedPages (ks : KeyStore) : Nat :=
  ks.pages.length + ks.voided.length + ks.snapPages + copyPages ks + ks.journal.length

/-- Free journal bytes as JOURNAL_FREE counts them: a used page takes 8/7 of 16 KiB (R95). DESIGN CHOICE: the whole used space
is rounded down to a byte. -/
def journalFree (ks : KeyStore) : Nat := 12288 * 2 ^ 20 - usedPages ks * 16384 * 8 / 7

/-- N of R92: bytes a snapshot of the live records takes. -/
def snapshotSize (ks : KeyStore) : Nat :=
  ((ks.keys.filter (fun e => liveKey ks e.2)).map (fun e => snapRecSize e.2)).foldl (· + ·) 0

/-- Room for creation, import, leases and IV reservations; for every other journalled action (R92). -/
def roomToCreate (ks : KeyStore) : Bool := decide (snapshotSize ks + 256 * 2 ^ 20 ≤ journalFree ks)
def roomToJournal (ks : KeyStore) : Bool := decide (snapshotSize ks + 64 * 2 ^ 20 ≤ journalFree ks)

/-- Append a record to the open page; a page too full for it closes and the next one opens (R89). Answers the record's
journal sequence. -/
def queueRec (idx : Nat) (b : JBody) (d : Dev) : Nat × Dev :=
  let ks := d.ks
  let r : JRec := { idx := idx, seq := ks.nextSeq, body := b }
  let fits := fun (p : JPage) => !p.closed && decide (jpageSize p + jrecSize b ≤ 16336)
  let fresh : JPage := { pageSeq := ks.nextPage, boot := ks.bootCount, recs := [r], since := d.tb.now }
  let (journal, np) := match ks.journal.getLast? with
    | none => ([fresh], ks.nextPage + 1)
    | some p =>
      if fits p then (ks.journal.dropLast ++ [{ p with recs := p.recs ++ [r] }], ks.nextPage)
      else (ks.journal.dropLast ++ [{ p with closed := true }] ++ [fresh], ks.nextPage + 1)
  (ks.nextSeq, { d with ks := { ks with journal := journal, nextSeq := ks.nextSeq + 1, nextPage := np } })

/-- The last journal sequence of a page. -/
def pageLast (p : JPage) : Nat := (p.recs.getLast?.map (fun r => r.seq)).getD 0

/-- Step 4 of R92 done: the pages with records before S only are erased, the snapshot's epoch is the last completed one. -/
def erasedStore (ks : KeyStore) : KeyStore :=
  match ks.snap with
  | none => { ks with compact := .idle }
  | some b =>
    let pages := ks.pages.filter (fun p => decide (b.seq < pageLast p))
    { ks with compact := .idle, epoch := b.epoch, snapPages := snapPagesOf b, pages := pages,
              voided := ks.voided.filter (fun x => decide (b.seq < x)),
              parity := ks.parity.filter (fun t => pages.any (fun p => p.pageSeq / 7 == t)) }

/-- Wait for a record to commit (R90). -/
def waitFor (seq : Nat) (k : WaitKind) (d : Dev) : Dev :=
  { d with ks := { d.ks with waits := d.ks.waits ++ [{ seq := seq, kind := k }] } }

/-! Creating keys. -/

/-- Live keys of a domain (DOMAIN_KEYS, R95). -/
def domainKeys (ks : KeyStore) (dom : Nat) : Nat :=
  (ks.keys.filter (fun e => e.2.domain == dom && liveKey ks e.2)).length

/-- Records that count against a domain's quota: orphaned records count until a compaction sweeps them (R80). -/
def quotaUsed (ks : KeyStore) (dom : Nat) : Nat :=
  (ks.keys.filter (fun e => e.2.domain == dom && !e.2.destroyed)).length

/-- The quota of a domain (DOMAIN_QUOTA, R95). -/
def domainQuota (d : Dev) (dom : Nat) : Nat := numOf 16777216 d (dk 0x2210 0 + dom)

/-- Extension lines of a material (R56). -/
def extLines (n : Nat) : Nat := if n ≤ 48 then 0 else (n + 127) / 128

/-- The runs of extension lines that records hold. -/
def extRuns (ks : KeyStore) : List (Nat × Nat) :=
  (ks.keys.filter (fun e => decide (0 < e.2.extCount))).map (fun e => (e.2.extFirst, e.2.extCount))

/-- The first line of the lowest free run of `n` extension lines of the 12,582,912 (R56; DESIGN CHOICE: which free run). -/
def allocExt (ks : KeyStore) (n : Nat) : Option Nat :=
  if n = 0 then some 0
  else
    let runs := extRuns ks
    let fits := fun c => decide (c + n ≤ 12582912) && runs.all (fun r => decide (c + n ≤ r.1 ∨ r.1 + r.2 ≤ c))
    minBy? id ((0 :: runs.map (fun r => r.1 + r.2)).filter fits)

/-- What a creation names. -/
structure NewKey where
  /-- The ACTOR of the record that the creation raises (R478). -/
  actor : Nat := actorFw
  typ : Nat
  cls : Nat
  usage : Nat
  exportPol : Nat
  dual : Bool
  volatileKey : Bool
  counted : Bool
  uses : Nat
  clearOrigin : Bool
  material : Bytes
  /-- The event recorded: KEY_CREATE, or KEY_IMPORT (R488). -/
  event : Nat := 0x0200
  /-- Further audit parameters: the TS time of an imported key block. -/
  extra : List (Nat × Nat) := []

/-- The checks of a creation under a parent that resolves (R58, R65, R135, R136, R172). -/
def newKeyStatus (d : Dev) (parent : KeyRec) (n : NewKey) : Status :=
  if !typeMatches n.typ n.cls || !materialLenOk n.typ n.cls n.material.length then .format
  else if decide (3 < n.exportPol) || (n.counted && n.uses == 0) || (!n.counted && !(n.uses == 0)) then .format
  else if !usageOk n.cls n.usage n.typ then .policy
  else if decide (6 < parent.level + 1) || decide (parent.exportPol < n.exportPol) then .policy
  else if (n.cls == 3 || n.cls == 4) && decide (1 < n.exportPol) then .policy
  else if decide (domainQuota d parent.domain ≤ quotaUsed d.ks parent.domain) then .policy
  else if (allocExt d.ks (extLines n.material.length)).isNone then .policy
  else if !roomToCreate d.ks || FreeList.count 16773119 d.ks.free == 0 then .busyRetry
  else .ok

/-- Create a key under a parent (R54, R55, R65, R67, R72): the next free index, the index's current generation, the
parent's level plus 1, domain, DUAL and VOLATILE; a CREATE or VOLATILE_ALLOC record. Answers index, handle and the
record's sequence. -/
def createKey (pidx : Nat) (parent : KeyRec) (n : NewKey) (d : Dev) : Except Status (Nat × Nat × Nat × Dev) :=
  match newKeyStatus d parent n with
  | .ok =>
    match FreeList.take 16773119 d.ks.free with
    | none => .error .busyRetry
    | some (i, free) =>
      let idx := 0x1001 + i
      let vol := n.volatileKey || parent.volatileKey
      let k : KeyRec :=
        { cls := n.cls, level := parent.level + 1, gen := genOf d.ks idx, usage := n.usage, exportPol := n.exportPol,
          dual := n.dual || parent.dual, volatileKey := vol, counted := n.counted, clearOrigin := n.clearOrigin,
          domain := parent.domain, typ := n.typ, uses := if n.counted then n.uses else 0, boot := d.ks.bootCount,
          lineage := parent.lineage ++ [(pidx, parent.gen)], material := n.material,
          extFirst := (allocExt d.ks (extLines n.material.length)).getD 0,
          extCount := extLines n.material.length, committed := false }
      let ks := { d.ks with
        free := free, keys := ins d.ks.keys idx k, extUsed := d.ks.extUsed + k.extCount }
      let body := if vol then .volatileAlloc k.gen k.cls k.domain d.ks.bootCount k.extFirst k.extCount
        else .create (storeKey d.ks idx k)
      let (seq, d) := queueRec idx body { d with ks := ks }
      let d := waitFor seq (.keyReady idx) d
      let d := raise srcKeyStore n.event k.domain n.actor ([(4, handleOf idx k), (1, k.cls), (1, k.typ)] ++ n.extra) d
      .ok (idx, handleOf idx k, seq, d)
  | e => .error e

/-- The record of a parent that a request resolved, as long as it lives: a creation that has waited finds it destroyed or
orphaned and completes with KEY_INVALID (R65, R84). -/
def liveParent (d : Dev) (idx gen : Nat) : Option KeyRec :=
  (look d.ks.keys idx).filter (fun k => k.gen == gen && liveKey d.ks k && k.committed)

/-! Destroying keys. -/

/-- The record of an index as its key is destroyed: it resolves no more, and waits for a compaction (R80). -/
def killRec (k : KeyRec) : KeyRec := { k with destroyed := true }

/-- A destroyed record's material is overwritten once its pins are released (R78). -/
def zeroRec (k : KeyRec) : KeyRec := { k with material := zeros k.material.length }

/-- The ACTOR of a request (R478). -/
def actorVia (d : Dev) (v : Via) : Nat :=
  match v with
  | .mailbox fn => actorFn fn
  | .malath a _ => if 48 ≤ a then actorFn (a - 48) else 0
  | .firmware _ => actorFw
  | .authorise i _ _ => (match look d.cust.sessions i with
    | some s => actorOfficer (s.officers.getLast?.getD 0)
    | none => actorFw)

/-- The ACTOR of a service request: the officer it names, or its sender (R390, R478). -/
def actorReq (d : Dev) (h : SvcHdr) : Nat := if h.officer = 0 then actorVia d h.via else actorOfficer h.officer

/-- The function a host request comes from. -/
def fnOfSrc (d : Dev) (src : OpSrc) : Option Nat :=
  match src with
  | .host c _ => match look d.host.chans c with
    | some ch => (match ch.kind with
      | .slot fn _ => some fn
      | _ => none)
    | none => none
  | .mailbox fn => some fn
  | _ => none

/-- The ACTOR of a job (R478): the function that submitted it, custodian firmware, or device hardware for a message engine and
for the rig's messages; none for a transport channel. -/
def actorJob (d : Dev) (q : Req) : Nat :=
  match fnOfSrc d q.src with
  | some fn => actorFn fn
  | none => (match q.src with
    | .host .. => 0
    | _ => if q.custodian then actorFw else actorHw)

/-- The record a pin holds: the pinned cache entry, stale or not, or the key store's own (R81, R84). -/
def pinnedRec (d : Dev) (p : Pin) : Option KeyRec :=
  if 32 < p.point then look d.ks.keys p.idx
  else ((cacheSet d.ks p.point p.idx).find? (fun l => l.idx == p.idx && l.key.gen == p.gen)).map (fun l => l.key)

/-- KEY_EXPORT (R488): a job has exported this key. -/
def noteExport (q : Req) (p : Pin) (k : KeyRec) (d : Dev) : Dev :=
  raise srcKeyStore 0x0204 k.domain (actorJob d q) [(4, handleOf p.idx k), (1, k.cls), (1, k.typ)] d

/-- The first key of a job has left the device in its output. -/
def exported (o : Op) (out : Bytes) (d : Dev) : Dev :=
  match out, o.pins with
  | _ :: _, p :: _ => (match pinnedRec d p with
    | some k => noteExport o.req p k d
    | none => d)
  | _, _ => d

/-- Destruction (R76): the generation rises, LINEAGE_INVAL goes out, a DESTROY record is queued. Answers the record's
sequence. -/
def destroyKey (idx : Nat) (via : Option Via) (actor : Nat) (d : Dev) : Nat × Dev :=
  let g := genOf d.ks idx + 1
  let keys := match look d.ks.keys idx with
    | none => d.ks.keys
    | some k => ins d.ks.keys idx (killRec k)
  let ks := { d.ks with
    gens := put 0 d.ks.gens idx g, keys := keys,
    invals := d.ks.invals ++ [{ idx := idx, gen := g, destroy := true, via := via }] }
  let (seq, d) := queueRec idx (.destroy g) { d with ks := ks }
  let d := waitFor seq (.destroy idx) d
  let d := match look d.ks.keys idx with
    | none => d
    | some k => raise srcKeyStore 0x0202 k.domain actor [(4, handleOf idx k), (1, k.cls), (1, k.typ)] d
  (seq, d)

/-- Every holder of keys: 33 admission points, 64 cipher cores, 48 engines, 64 ports, the DRBG instances (R81). -/
def keyHolders : List Nat :=
  List.range 33 ++ (List.range 64).map (fun n => 64 + n) ++ (List.range 48).map (fun n => 128 + n) ++
    (List.range 64).map (fun n => 192 + n) ++ [256]

end Sys2Proof.Machine
end

