-- ==== Sys2Proof/Machine/Rng.lean ====
section
/-! DEFINITION. Random numbers and check values (R452-R475): the operations other files draw with, and the commands of the
entropy sources, the DRBG cores and instances, and the check-value units. -/

set_option linter.unusedVariables false

namespace Sys2Proof.Machine

open Sys2Proof

def srcOf (d : Dev) (k : Nat) : EntropySource := lookD {} d.rng.sources k
def onSrc (k : Nat) (f : EntropySource → EntropySource) (d : Dev) : Dev :=
  { d with rng := { d.rng with sources := upd {} d.rng.sources k f } }
def drbgOf (d : Dev) (k : Nat) : DrbgCore := lookD {} d.rng.cores k
def onDrbg (k : Nat) (f : DrbgCore → DrbgCore) (d : Dev) : Dev :=
  { d with rng := { d.rng with cores := upd {} d.rng.cores k f } }
def instOf (d : Dev) (i : Nat) : DrbgInst := lookD {} d.rng.insts i
def onInst (i : Nat) (f : DrbgInst → DrbgInst) (d : Dev) : Dev :=
  { d with rng := { d.rng with insts := upd {} d.rng.insts i f } }

/-- Healthy sources (SOURCES_HEALTHY, R476). -/
def healthy (d : Dev) : Nat := ((List.range 8).filter (fun k => (srcOf d k).state == 0)).length

/-- The core an instance lives on: its own, or the next one still in service (R459, R467). -/
def instCore (d : Dev) (i : Nat) : Option Nat :=
  ([i % 4, (i + 1) % 4, (i + 2) % 4, (i + 3) % 4]).find? (fun k => !((drbgOf d k).state == 2))

/-- Instances with prediction resistance at every generation (R460). -/
def isPr (i : Nat) : Bool := i == 116 || decide (128 ≤ i)

/-- Blocks a reseed takes, and an instantiation with its nonce (R456). -/
def reseedBlocks (d : Dev) : Nat := if d.rng.mode = 0 then 3 else 4
def seedBlocks (d : Dev) : Nat := reseedBlocks d + 1

/-- One generate call of 64 bytes (R459); none completes for an instance that is zeroed, stopped at 2^20 calls, waiting
to reseed, or without a core (R462, R463). -/
def genCall (i : Nat) (d : Dev) : Option Dev :=
  let x := instOf d i
  if !x.seeded || x.force || decide (2 ^ 20 ≤ x.calls) || (instCore d i).isNone then none
  else some (onInst i (fun x => { x with buf := x.buf ++ padTo 64 (Config.drbgOut i x.pers x.seed x.calls),
                                         calls := x.calls + 1 }) d)

/-- Generate calls until `n` bytes are buffered. -/
def genUntil : Nat → Nat → Nat → Dev → Option Dev
  | 0, i, n, d => if n ≤ (instOf d i).buf.length then some d else none
  | fuel + 1, i, n, d =>
    if n ≤ (instOf d i).buf.length then some d
    else match genCall i d with
      | none => none
      | some d => genUntil fuel i n d

/-- Draw bytes from an instance (R463): it waits for the calls it needs; none where no call can complete. -/
def draw (i n : Nat) (d : Dev) : Option (Bytes × Dev) :=
  match genUntil (n / 64 + 1) i n d with
  | none => none
  | some d => some ((instOf d i).buf.take n, onInst i (fun x => { x with buf := x.buf.drop n }) d)

/-- The personalisation string an instance is instantiated with: a domain instance's comes from its domain's root (R461). -/
def persOf (d : Dev) (i : Nat) : Bytes :=
  match d.rng.domains.find? (fun e => e.2 == i) with
  | some (dom, _) => domainPers d.ks dom i
  | none => []

/-- An instance reseeds or is instantiated from fresh blocks (R461, R462). -/
def reseedInst (i : Nat) (d : Dev) : Dev :=
  let (n, d) := freshFree d
  bump (dk 0x2806 2) (onInst i (fun x =>
    { x with seeded := true, seed := n, pers := if x.seeded then x.pers else persOf d i, calls := 0, reseedAt := d.tb.now, buf := [], overdue := false, force := false,
             reseeds := x.reseeds + 1 }) d)

/-- Take whole counts of blocks from the entropy queue, or none (R458). -/
def takeBlocks (n : Nat) (d : Dev) : Option Dev :=
  if n ≤ d.rng.queue.length then some { d with rng := { d.rng with queue := d.rng.queue.drop n } } else none

/-- An instance takes its blocks and reseeds, or is instantiated when it has no state. -/
def tryReseed (i : Nat) (d : Dev) : Option Dev :=
  if (instCore d i).isNone then none
  else match takeBlocks (if (instOf d i).seeded then reseedBlocks d else seedBlocks d) d with
    | none => none
    | some d => some (reseedInst i d)

/-- Zero an instance's state (R468). -/
def zeroInst (i : Nat) (d : Dev) : Dev :=
  { d with rng := { d.rng with insts := del d.rng.insts i, wait := d.rng.wait.filter (fun w => !(w.1 == i)) } }

/-- Draw for one generation of an instance with prediction resistance (R462): discard, reseed, generate, zero the rest. Its reseed
takes blocks after those that wait already (R458). -/
def drawPr (i n : Nat) (d : Dev) : Option (Bytes × Dev) :=
  match (if (instOf d i).ready then some d else if d.rng.wait.isEmpty then tryReseed i d else none) with
  | none => none
  | some d =>
    match draw i n d with
    | none => none
    | some (b, d) => some (b, onInst i (fun x => { x with buf := [], ready := false }) d)

/-- The instance of a domain (R461): its own, the next free one, or the least recently used one, zeroed. -/
def domainInst (dom : Nat) (d : Dev) : Nat × Dev :=
  let stamp := d.rng.stamp + 1
  let mark := fun (i : Nat) (d : Dev) => onInst i (fun x => { x with stamp := stamp }) d
  let d := { d with rng := { d.rng with stamp := stamp } }
  match look d.rng.domains dom with
  | some i => (i, mark i d)
  | none =>
    if d.rng.nextDomain < 4096 then
      let i := d.rng.nextDomain
      (i, mark i { d with rng := { d.rng with nextDomain := i + 1, domains := ins d.rng.domains dom i } })
    else
      let idle := d.rng.domains.filter (fun e => !(d.rng.wait.any (fun w => w.1 == e.2)) && !(d.rng.gens.any (fun g => g.inst == e.2)))
      match minBy? (fun (e : Nat × Nat) => (instOf d e.2).stamp) idle with
      | none => (128, d)
      | some (old, i) =>
        let d := bump (dk 0x2806 5) (zeroInst i d)
        (i, mark i { d with rng := { d.rng with domains := ins (del d.rng.domains old) dom i } })

/-! Entropy sources. -/

/-- ENTROPY_TEST_FAIL (R454, R455, R457): a source in service or in start-up fails a test. -/
def execEntropyTestFail (k : Fin 8) (adaptive : Bool) (s : State) : Out :=
  onDev (fun d =>
    let x := srcOf d k.val
    if !(x.state == 0 || x.state == 1) then d
    else
      let before := healthy d
      let lost := d.rng.unreleased.length + b2n (decide (4 ≤ before))
      let d := bumpBy lost (dk 0x2804 2) { d with rng := { d.rng with unreleased := [] } }
      let d := bump (dk (if adaptive then 0x2803 else 0x2802) (k.val + 1)) d
      let now := d.tb.now
      let fails := x.fails.filter (fun t => decide (now < t + sec 60)) ++ [now]
      let d := onSrc k.val (fun x => { x with fails := fails, failedAt := now,
                                              state := if 3 ≤ fails.length then 3 else 2 }) d
      let d := report (srcEntropy k.val) 0x0408 (srcEntropy k.val) [(2, srcEntropy k.val), (1, b2n adaptive)] d
      if 4 ≤ before ∧ healthy d < 4 then
        report (srcEntropy k.val) 0x0409 (srcEntropy k.val) [(2, srcEntropy k.val), (1, healthy d)] d
      else d) s

/-- SOURCE_RESTART (R455): one second after its failure a source starts its start-up test. -/
def execSourceRestart (k : Fin 8) (s : State) : Out :=
  onDev (fun d =>
    let x := srcOf d k.val
    if x.state == 2 then onSrc k.val (fun x => { x with state := 1 }) (reach (x.failedAt + sec 1) d) else d) s

/-- SOURCE_REJOIN (R455, R457): the start-up test passes. -/
def execSourceRejoin (k : Fin 8) (s : State) : Out :=
  onDev (fun d =>
    if (srcOf d k.val).state == 1 then
      let before := healthy d
      let d := onSrc k.val (fun x => { x with state := 0 }) d
      if before < 4 ∧ 4 ≤ healthy d ∧ !d.life.booting then
        report (srcEntropy k.val) 0x0409 (srcEntropy k.val) [(2, srcEntropy k.val), (1, healthy d)] d
      else d
    else d) s

/-- BLOCK_COMPLETE (R456, R457): a block is built only while four sources are healthy. -/
def execBlockComplete (s : State) : Out :=
  onDev (fun d =>
    if healthy d < 4 then d
    else { d with rng := { d.rng with unreleased := d.rng.unreleased ++ [(d.rng.nextBlock, d.tb.now)],
                                      nextBlock := d.rng.nextBlock + 1 } }) s

/-- BLOCK_RELEASE (R454, R458): 10.24 µs after its last bit; a full queue discards the block uncounted. -/
def execBlockRelease (s : State) : Out :=
  onDev (fun d =>
    match d.rng.unreleased with
    | [] => d
    | (b, t) :: r =>
      let d := reach (t + 10240) { d with rng := { d.rng with unreleased := r } }
      if d.rng.queue.length < 64 then
        bump (dk 0x2804 1) { d with rng := { d.rng with queue := d.rng.queue ++ [b] } }
      else d) s

/-! Instances. -/

/-- RESEED_INTERVAL (R462): the interval or 2^16 calls have elapsed for an instance without prediction resistance. -/
def execReseedInterval (i : Fin 4096) (s : State) : Out :=
  onDev (fun d =>
    let x := instOf d i.val
    if !x.seeded || isPr i.val || d.rng.wait.any (fun w => w.1 == i.val) then d
    else
      let due := x.reseedAt + ms (numOf 100 d (dk 0x2800 3))
      let d := if 2 ^ 16 ≤ x.calls then d else reach due d
      { d with rng := { d.rng with wait := d.rng.wait ++ [(i.val, d.tb.now)] } }) s

/-- The core an instance lives on serves it now: it runs no known-answer test (R467). -/
def coreServes (d : Dev) (i : Nat) : Bool := (instCore d i).any (fun k => (drbgOf d k).state == 0)

/-- GENERATE_CALL (R463): a buffer holding 64 bytes or fewer is refilled by one call. -/
def execGenerateCall (i : Fin 4096) (s : State) : Out :=
  onDev (fun d =>
    if (instOf d i.val).buf.length ≤ 64 ∧ !isPr i.val ∧ coreServes d i.val then (genCall i.val d).getD d else d) s

/-- DRBG_KAT (R467): a core in service starts its known-answer tests. -/
def execDrbgKat (k : Fin 4) (s : State) : Out :=
  onDev (fun d =>
    let c := drbgOf d k.val
    if c.state == 0 then
      let d := reach (c.testAt + sec 10) d
      onDrbg k.val (fun c => { c with state := 1, testAt := d.tb.now }) d
    else d) s

/-- The instances that live on a core are instantiated afresh elsewhere; with no core left they serve nothing (R467). -/
def evictCore (k : Nat) (d : Dev) : Dev :=
  ((keysOf d.rng.insts).filter (fun i => instCore d i == some k)).foldl (fun d i =>
    let d := zeroInst i d
    { d with rng := { d.rng with wait := d.rng.wait ++ [(i, d.tb.now)] } }) d

/-- DRBG_KAT_DONE (R467): a core that fails is retired; with the last core gone, no instance is served. -/
def execDrbgKatDone (k : Fin 4) (pass : Bool) (s : State) : Out :=
  onDev (fun d =>
    if (drbgOf d k.val).state == 1 then
      if pass then onDrbg k.val (fun c => { c with state := 0 }) d
      else
        let d := evictCore k.val (onDrbg k.val (fun c => { c with state := 0 }) d)
        let d := onDrbg k.val (fun c => { c with state := 2 }) d
        let d := report (srcDrbg k.val) 0x040A (srcDrbg k.val) [(1, k.val)] d
        if (List.range 4).all (fun j => (drbgOf d j).state == 2) then
          report (srcDrbg k.val) 0x0401 (srcDrbg k.val) [(1, 3)] d
        else d
    else d) s

/-- RNG_DATA_READ of a custodian core's own instance (R463, R466): a full-width read consumes 8 bytes; a narrower read
returns `n` bytes from `off` and consumes nothing; a read of an empty buffer returns zero. -/
def execRngDataRead (cu : Fin 4) (off : Fin 8) (n : Fin 9) (s : State) : Out :=
  onDev (fun d =>
    let i := 112 + cu.val
    let x := instOf d i
    let full := off.val == 0 && n.val == 8
    let d := if full then d else onInst i (fun x => { x with errWidth := true }) d
    if x.buf.length < 8 || x.force || (instCore d i).isNone then
      emit (.readValue 0) (onInst i (fun x => { x with errEmpty := true }) d)
    else
      let d := emit (.readValue (leAt (x.buf.take 8) off.val n.val)) d
      if full then onInst i (fun x => { x with buf := x.buf.drop 8 }) d else d) s

/-- RNG_CTL_RESEED (R464): the buffer is discarded and a reseed is asked for. -/
def execRngCtlReseed (cu : Fin 4) (v : BitVec 32) (s : State) : Out :=
  onDev (fun d =>
    let i := 112 + cu.val
    if v.getLsbD 0 then
      let d := onInst i (fun x => { x with buf := [], force := true }) d
      if d.rng.wait.any (fun w => w.1 == i) then d
      else { d with rng := { d.rng with wait := d.rng.wait ++ [(i, d.tb.now)] } }
    else d) s

/-- RNG_STAT_WRITE (R465): write 1 to clear ERR_WIDTH or ERR_EMPTY. -/
def execRngStatWrite (cu : Fin 4) (v : BitVec 32) (s : State) : Out :=
  onDev (onInst (112 + cu.val) (fun x =>
    { x with errWidth := x.errWidth && !v.getLsbD 2, errEmpty := x.errEmpty && !v.getLsbD 1 })) s

/-- RNG_STAT (R465). -/
def rngStat (d : Dev) (cu : Nat) : Nat :=
  let x := instOf d (112 + cu)
  let level := min 16 (x.buf.length / 8)
  level * 256 + 16 * b2n (!x.seeded) + 8 * b2n x.overdue + 4 * b2n x.errWidth + 2 * b2n x.errEmpty +
    b2n (decide (1 ≤ level))

/-! Check values. -/

/-- A running CRC over bytes by POLY (R470). -/
def crcRun (poly c : Nat) (b : Bytes) : Nat :=
  match poly with
  | 0 => b.foldl (crcByteR 0x82F63B78) c
  | 1 => b.foldl (crcByteR 0xEDB88320) c
  | 2 => b.foldl (crcByteF 64 0x42F0E1EBA9EA3693) c
  | _ => b.foldl (crcByteF 16 0x1021) c

/-- Initial value and final XOR by POLY (R470). -/
def crcInit (poly : Nat) : Nat :=
  match poly with | 0 => 0xFFFFFFFF | 1 => 0xFFFFFFFF | 2 => 0 | _ => 0xFFFF
def crcXor (poly : Nat) : Nat :=
  match poly with | 0 => 0xFFFFFFFF | 1 => 0xFFFFFFFF | _ => 0
def crcWidth (poly : Nat) : Nat := match poly with | 0 => 32 | 1 => 32 | 2 => 64 | _ => 16

/-- The whole CRC of a byte string (R470). -/
def crcOf (poly : Nat) (b : Bytes) : Nat := crcRun poly (crcInit poly) b ^^^ crcXor poly

/-- Change a check-value unit. -/
def onCv (k : Nat) (f : CvUnit → CvUnit) (d : Dev) : Dev := { d with cv := upd {} d.cv k f }

/-- POLY and FOLD of CV_CTL (R472). -/
def cvPoly (u : CvUnit) : Nat := fieldOf u.ctl 0 3
def cvFold (u : CvUnit) : Nat := fieldOf u.ctl 4 2

/-- The fold prefix (R473). -/
def foldPrefix (u : CvUnit) : Bytes :=
  match cvFold u with
  | 1 => le 8 u.addr ++ le 4 u.seq
  | 2 => le 1 u.alive
  | _ => []

/-- CV_START (R473): a write of 1 loads the initial value, clears CV_LEN and absorbs the fold prefix. -/
def execCvStart (k : Fin 16) (v : BitVec 32) (s : State) : Out :=
  onDev (fun d => if v == 1#32 then
    onCv k.val (fun u => { u with state := crcRun (cvPoly u) (crcInit (cvPoly u)) (foldPrefix u), len := 0 }) d
    else d) s

/-- CV_DATA (R473): absorbs 1, 2, 4 or 8 bytes in ascending address order; another width is a partial write, which a
register ignores. -/
def execCvData (k : Fin 16) (b : Bytes) (s : State) : Out :=
  onDev (fun d => if has [1, 2, 4, 8] b.length then
    onCv k.val (fun u => { u with state := crcRun (cvPoly u) u.state b, len := w64 (u.len + b.length) }) d
    else d) s

/-- CV_CTL_WRITE (R472): discarded whole with POLY 4-7 or FOLD 3. -/
def execCvCtlWrite (k : Fin 16) (v : BitVec 32) (s : State) : Out :=
  onDev (fun d =>
    let n := v.toNat
    if 4 ≤ fieldOf n 0 3 ∨ fieldOf n 4 2 = 3 then d
    else onCv k.val (fun u => { u with ctl := fieldOf n 0 3 + 16 * fieldOf n 4 2 }) d) s

/-- TRANSFER_CHECK (R475): a transfer of the engine with this source ID mismatches; its destination is poisoned. -/
def execTransferCheck (engine : BitVec 16) (addr : BitVec 40) (len : BitVec 32) (s : State) : Out :=
  onDev (fun d =>
    let e := engine.toNat
    let seq := lookD 0 d.xferSeq e
    let d := { d with xferSeq := put 0 d.xferSeq e (seq + 1),
                      life := { d.life with poison := d.life.poison ++ [(addr.toNat, len.toNat, e)] } }
    report e 0x040B e [(2, e), (4, seq)] (bump (dk 0x2A00 1) d)) s

end Sys2Proof.Machine
end

