-- ==== Sys2Proof/Machine/Flags.lean ====
section
/-! DEFINITION. The NZCV flags of the Lope processors (R198, R207, R208): their computation, their places in SR, and the
branch conditions. -/

set_option linter.unusedVariables false

namespace Sys2Proof.Machine

open Sys2Proof

/-- Places of the fields of SR (R198). -/
def srPriv : Nat := 31
def srWorld : Nat := 30
def srIe : Nat := 29
def srRepa : Nat := 28
def srRepu : Nat := 27
def srLra : Nat := 26
def srFt : Nat := 25

/-- One bit of a register. -/
def bitAt (r : BitVec 32) (i : Nat) : Bool := r.getLsbD i

/-- A register with one bit written. -/
def withBit (r : BitVec 32) (i : Nat) (v : Bool) : BitVec 32 :=
  if v then r ||| (1#32 <<< i) else r &&& ~~~(1#32 <<< i)

/-- SR with NZCV and FT written (R198). -/
def withFlags (sr : BitVec 32) (n z c v ft : Bool) : BitVec 32 :=
  withBit (withBit (withBit (withBit (withBit sr 3 n) 2 z) 1 c) 0 v) srFt ft

/-- NZCV of a - b at width w: C is the absence of a borrow, V the signed overflow (R208 CMP, CMPI, CMPA). -/
def subFlags {w : Nat} (a b : BitVec w) : Bool × Bool × Bool × Bool :=
  ((a - b).msb, a - b == 0#w, decide (b.toNat ≤ a.toNat), decide (a.toInt - b.toInt ≠ (a - b).toInt))

/-- SR after a compare of a with b whose sources are tagged `ft` (R225). -/
def cmpSr {w : Nat} (sr : BitVec 32) (a b : BitVec w) (ft : Bool) : BitVec 32 :=
  withFlags sr (subFlags a b).1 (subFlags a b).2.1 (subFlags a b).2.2.1 (subFlags a b).2.2.2 ft

/-- Whether a branch condition holds; none for 0xF, which is ILLEGAL (R207). -/
def condHolds (sr : BitVec 32) (cond : Nat) : Option Bool :=
  let n := bitAt sr 3
  let z := bitAt sr 2
  let c := bitAt sr 1
  let v := bitAt sr 0
  match cond with
  | 0x0 => some true
  | 0x1 => some z
  | 0x2 => some (!z)
  | 0x3 => some c
  | 0x4 => some (!c)
  | 0x5 => some n
  | 0x6 => some (!n)
  | 0x7 => some v
  | 0x8 => some (!v)
  | 0x9 => some (c && !z)
  | 0xA => some (!c || z)
  | 0xB => some (n == v)
  | 0xC => some (n != v)
  | 0xD => some (!z && (n == v))
  | 0xE => some (z || (n != v))
  | _ => none

end Sys2Proof.Machine
end

