-- ==== Sys2Proof/Machine/Operands.lean ====
section
/-! DEFINITION. The operand forms of Lope instructions: register fields (R196), effective addresses (R206), immediates
(R205), lanes and bytes of the accumulators. -/

set_option linter.unusedVariables false

namespace Sys2Proof.Machine

open Sys2Proof

/-- The outcome of an instruction's own effect: a result, a fault with its cause and EADDR (R229), or a stall. -/
inductive LRes (α : Type) where
  | ok (v : α)
  | flt (cause addr : Nat)
  | hold

/-- Fault codes (R229). -/
def fIllegal : Nat := 0x01
def fPriv : Nat := 0x02
def fAlign : Nat := 0x03
def fUnmapped : Nat := 0x04
def fTagBranch : Nat := 0x05
def fTagAddr : Nat := 0x06
def fTagTime : Nat := 0x07
def fTagStore : Nat := 0x08
def fTagJob : Nat := 0x09
def fJobOver : Nat := 0x0A
def fJobSlot : Nat := 0x0B
def fRepIllegal : Nat := 0x0C
def fBudget : Nat := 0x0D
def fMemUe : Nat := 0x0E
def fPoison : Nat := 0x0F
def fFetch : Nat := 0x10

/-- A D register field: every value names one (R196). -/
def dReg (f : BitVec 4) : Fin 16 := ⟨f.toNat, by have := f.isLt; omega⟩

/-- An A register field: bit 3 must be zero (R196). -/
def aReg (f : BitVec 4) : Option (Fin 8) := if h : f.toNat < 8 then some ⟨f.toNat, h⟩ else none

/-- An X register field: bits [3:2] must be zero (R196). -/
def xReg (f : BitVec 4) : Option (Fin 4) := if h : f.toNat < 4 then some ⟨f.toNat, h⟩ else none

/-- A 3-bit address base field (R205). -/
def abReg (f : BitVec 3) : Fin 8 := ⟨f.toNat, by have := f.isLt; omega⟩

/-- A 2-bit X register field (R205). -/
def xReg2 (f : BitVec 2) : Fin 4 := ⟨f.toNat, by have := f.isLt; omega⟩

/-- A 3-bit job slot field (R222). -/
def jsReg (f : BitVec 3) : Fin 8 := ⟨f.toNat, by have := f.isLt; omega⟩

/-- A processor right after reset; a custodian core is always in the custodian world (R194, R197). -/
def procReset (p : Nat) : Proc := if p < 512 then {} else { sr := 0xC0000000#32 }

/-- A processor as it stands; one not listed is as at reset. -/
def procOf (d : Dev) (p : Nat) : Proc := lookD (procReset p) d.procs p

/-- Put a processor back. -/
def setProc (p : Nat) (q : Proc) (d : Dev) : Dev := { d with procs := put (procReset p) d.procs p q }

/-- Change a processor. -/
def onProc (p : Nat) (f : Proc → Proc) (d : Dev) : Dev := setProc p (f (procOf d p)) d

/-- A protection unit as it stands. -/
def protOf (d : Dev) (p : Nat) : ProtUnit := lookD {} d.prot p

/-- Change a protection unit. -/
def onProt (p : Nat) (f : ProtUnit → ProtUnit) (d : Dev) : Dev :=
  { d with prot := put {} d.prot p (f (protOf d p)) }

/-- Privileged mode, custodian world, interrupt enable (R198). -/
def isPriv (q : Proc) : Bool := bitAt q.sr srPriv
def inWorld (q : Proc) : Bool := bitAt q.sr srWorld
def intOn (q : Proc) : Bool := bitAt q.sr srIe
/-- The instruction at the program counter is being repeated, uninterruptibly (R217, R218): SR.REPA and SR.REPU stay set while
a handler runs, and act on the repeated instruction alone. -/
def repOn (q : Proc) : Bool := bitAt q.sr srRepa && q.pc == q.repAt
def repuOn (q : Proc) : Bool := bitAt q.sr srRepu && repOn q
/-- The instruction at the program counter is a wait that was interrupted: LREM holds its limit (R215). -/
def lraOn (q : Proc) : Bool := bitAt q.sr srLra && q.pc == q.waitAt
/-- SR.DOMAIN (R198). -/
def srDomain (q : Proc) : Nat := fieldOf q.sr.toNat 12 12

/-- Write a D register with its tag (R225). -/
def putD (q : Proc) (r : Fin 16) (v : BitVec 64) (t : Bool) : Proc :=
  { q with d := q.d.set r v, dTag := q.dTag.set r t }

/-- Write an A register. -/
def putA (q : Proc) (r : Fin 8) (v : BitVec 32) : Proc := { q with a := q.a.set r v }

/-- Write an X register with its tag; it is no longer pending. -/
def putX (q : Proc) (r : Fin 4) (v : BitVec 256) (t : Bool) : Proc :=
  { q with x := q.x.set r v, xTag := q.xTag.set r t, xPend := q.xPend.set r false }

/-- The immediate of format I (R205): with E = 1 the extension word, and IMM16 must then be zero; `sx` sign-extends. -/
def immOf (w : Nat) (sx : Bool) (f : IFmt) : Option (BitVec w) :=
  if f.resv then none
  else if f.e then
    if f.imm16 == 0#16 then some (if sx then f.ext.signExtend w else f.ext.zeroExtend w) else none
  else some (if sx then f.imm16.signExtend w else f.imm16.zeroExtend w)

/-- The effective address of format M, and the base register's value afterwards (R206). -/
def effAddr (q : Proc) (f : MFmt) : LRes (BitVec 32 × Option (Fin 8 × BitVec 32)) :=
  if f.e && !(f.imm16 == 0#16) then .flt fIllegal 0
  else match f.mode.toNat with
  | 0 =>
    if f.ab == 0#3 then .ok (if f.e then f.ext else q.bk ++ f.imm16, none) else .flt fIllegal 0
  | 1 => .ok (q.a[abReg f.ab] + (if f.e then f.ext else f.imm16.signExtend 32), none)
  | 2 =>
    if f.e then .flt fIllegal 0
    else .ok (q.a[abReg f.ab], some (abReg f.ab, q.a[abReg f.ab] + f.imm16.signExtend 32))
  | _ => .flt fIllegal 0

/-- Byte i of a value, least significant first. -/
def byteAt {w : Nat} (v : BitVec w) (i : Nat) : BitVec 8 := v.extractLsb' (8 * i) 8

/-- The 32-byte value with the given bytes, byte 0 least significant. -/
def ofBytes32 (f : Nat → BitVec 8) : BitVec 256 :=
  (List.range 32).foldl (fun acc i => acc ||| ((f i).zeroExtend 256 <<< (8 * i))) 0#256

/-- The bytes of an accumulator, byte 0 first. -/
def bytesOfX (v : BitVec 256) : Bytes := (List.range 32).map (byteAt v)

/-- The accumulator a byte string fills from byte 0, zero beyond it. -/
def xOfBytes (b : Bytes) : BitVec 256 := ofBytes32 (fun i => nth 0#8 b i)

/-- Lane k of an accumulator (R196). -/
def laneOf (v : BitVec 256) (k : Nat) : BitVec 64 := v.extractLsb' (64 * k) 64

/-- An accumulator with lane k replaced. -/
def putLane (v : BitVec 256) (k : Nat) (w : BitVec 64) : BitVec 256 :=
  (v &&& ~~~(BitVec.zeroExtend 256 (BitVec.allOnes 64) <<< (64 * k))) ||| (w.zeroExtend 256 <<< (64 * k))

end Sys2Proof.Machine
end

