-- ==== Sys2Proof/Machine/LopeCore.lean ====
section
/-! DEFINITION. Issuing a Lope instruction: the fetch checks, taking a fault or an interrupt and what follows from it,
repeats, counters (R193-R232, R240, R278). -/

set_option linter.unusedVariables false

namespace Sys2Proof.Machine

open Sys2Proof

/-! Messages whose schedule ends early (R278, R280). -/

/-- Images whose last message has retired leave the strings (R288). -/
def rigGc (d : Dev) : Dev :=
  let inFlight := fun (dom ver : Nat) => d.rig.msgs.any (fun m => m.2.domain == dom && m.2.version == ver)
  let doms := mapV (fun dom r => { r with draining := r.draining.filter (fun e => inFlight dom e.img.version) })
    d.rig.domains
  { d with rig := { d.rig with domains := doms } }

/-- A message leaves its string and its tag retires; counted where its drop is counted. -/
def dropMsg (tag counter : Nat) (d : Dev) : Dev :=
  match look d.rig.msgs tag with
  | none => d
  | some m =>
    let d := bump counter d
    let d := { d with rig := { d.rig with msgs := del d.rig.msgs tag } }
    rigGc (retire tag d)

/-- The engines running slices of a message. -/
def enginesOn (d : Dev) (tag : Nat) : List Nat :=
  (d.procs.filter (fun e => match e.2.slice with | some (t, _) => t == tag | none => false)).map (fun e => e.1)

/-- A fault in user mode ends the message's schedule: it is dropped and counted, its other running slices are
sent PREEMPT, and its jobs complete with SQUASHED (R224, R231, R278). -/
def userFaultDrop (p : Nat) (d : Dev) : Dev :=
  match (procOf d p).slice with
  | none => d
  | some (tag, _) => dropMsg tag (dk 0x5002 6) (squash tag (onProc p (fun q => { q with slice := none }) d))

/-- The job operations a processor has issued and not consumed. -/
def jobTags (q : Proc) : List Nat := q.jobs.toList.filterMap (fun j => j.tag)

/-- Messages with a slice due on an engine: their class has a slice of its slot that has not started (R278). -/
def messagesDue (p : Nat) (d : Dev) : List Nat :=
  let due := fun (m : Msg) =>
    let r := lookD {} d.rig.domains m.domain
    m.string == p / 16 && !m.released &&
      match (r.current.toList ++ r.draining).find? (fun e => e.img.version == m.version) with
      | none => false
      | some e => e.img.classes.any (fun c => c.cls == m.cls &&
          ((List.range c.slices.length).zip c.slices).any (fun x =>
            x.2.slot == p % 16 && !m.slices.any (fun r => r.idx == x.1)))
  (d.rig.msgs.filter (fun e => due e.2)).map (fun e => e.1)

/-- An operation of an engine that left service completes with FAULT_DETECTED; one that is completing keeps its
status (R231, R278). -/
def failOne (tag : Nat) (d : Dev) : Dev :=
  match look d.op.ops tag with
  | none => d
  | some o =>
    match o.phase with
    | .completing => d
    | _ =>
      onOp tag (fun o => { o with phase := .completing, status := .faultDetected, out := [], outlen := 0, nonce := [],
                                  untrusted := false, ivPrefix := false, produced := true, waitSeq := none })
        (unqueue tag o d)

/-- Revocation in place (R246): the standby set is copied over the active set, GEN rises by 1, a fence starts. -/
def revokeNow (p : Nat) (d : Dev) : Dev :=
  onProt p (fun u => { u with active := u.standby, actSrc := u.sbySrc, sbySrc := 0xFF, gen := w32 (u.gen + 1),
                              revokeBusy := true, revokePending := false }) d

/-- A revocation that waited for a REPU runs at the boundary after its last iteration, or where the engine has halted; the
standby set it finds then must be valid and of the active set's domain (R247). -/
def lateRevoke (p : Nat) (d : Dev) : Dev :=
  let u := protOf d p
  if u.revokePending && (!bitAt (procOf d p).sr srRepu || (procOf d p).dead) then
    if bitOf u.standby.rsctl 31 && fieldOf u.standby.rsctl 0 12 == fieldOf u.active.rsctl 0 12 then revokeNow p d
    else onProt p (fun u => { u with revokePending := false, rerr := true }) d
  else d

/-- An engine leaves service after a double fault: its operations complete with FAULT_DETECTED, one report goes out on
VC3, the messages with a slice on it are dropped (R231, R278). -/
def engineOut (p cause : Nat) (d : Dev) : Dev :=
  let q := procOf d p
  let d := (jobTags q).foldl (fun d t => failOne t d) d
  let d := match q.slice with
    | none => d
    | some (tag, _) => dropMsg tag (dk 0x5002 7) d
  let d := onProc p (fun q => { q with dead := true, slice := none, wait := none }) d
  let d := lateRevoke p ((messagesDue p d).foldl (fun d t => dropMsg t (dk 0x5002 7) d) d)
  report (srcProc p) 0x0407 (srcProc p) [(2, srcProc p), (1, cause)] d

/-- Enter an exception (R228): EPC, ESR, ECAUSE and EADDR are written, privileged mode is entered with interrupts
disabled, execution continues at VBR + the vector's offset. The marks of a repeat or wait in progress stay set (R215, R217,
R218). -/
def enterException (vector cause addr : Nat) (epc : BitVec 32) (q : Proc) : Proc :=
  { q with
    epc := epc, esr := q.sr, ecause := BitVec.ofNat 8 cause, eaddr := BitVec.ofNat 32 addr,
    sr := withBit (withBit q.sr srPriv true) srIe false,
    pc := q.vbr + BitVec.ofNat 32 vector, wait := none }

/-- Take a fault: vector 0x40, EPC at the faulting instruction; in user mode the message ends; with PRIV set and IE
clear it is a double fault (R228, R231). -/
def takeFault (p cause addr : Nat) (d : Dev) : Dev :=
  let q := procOf d p
  if isPriv q && !intOn q then engineOut p cause d
  else
    let d := onProc p (enterException 0x40 cause addr q.pc) d
    if isPriv q then d else userFaultDrop p d

/-- Take an interrupt: vector 0x80, EPC at the instruction to run next (R228). A wait in progress keeps its remaining
limit in LREM, with SR.LRA set (R215). -/
def takeInterrupt (p cause : Nat) (d : Dev) : Dev :=
  let now := d.tb.now
  onProc p (fun q =>
    let q := match q.wait with
      | some (.wfe _ _ (some till) _) =>
        { q with lrem := BitVec.ofNat 32 (till - now), sr := withBit q.sr srLra true, waitAt := q.pc }
      | some (.wtu _ till) => { q with lrem := BitVec.ofNat 32 (till - now), sr := withBit q.sr srLra true, waitAt := q.pc }
      | _ => q
    enterException 0x80 cause 0 q.pc q) d

/-- The processor exists: strings 16-31 are fused off on the CX9664-H (R1). -/
def procThere (d : Dev) (p : Nat) : Bool := !(d.life.variantH && decide (256 ≤ p ∧ p < 512))

/-- The processor issues instructions: it exists, is released at boot, not halted, not out of service, not waiting. -/
def canIssue (d : Dev) (p : Nat) (q : Proc) : Bool :=
  d.lopeOn && procThere d p && !q.off && !q.halted && !q.dead && q.wait.isNone

/-- One word is fetched from the string instruction store, from custodian SRAM on a custodian core, at a word
aligned address; in user mode inside the code window of the active set, which must lie in the schedule area (R195,
R200, R237, R240). -/
def wordOk (d : Dev) (p : Nat) (q : Proc) (a : Nat) : Bool :=
  if p < 512 then
    let rs := (protOf d p).active
    decide (a % 4 = 0 ∧ 0x00200000 ≤ a ∧ a ≤ 0x0027FFFF) &&
      (isPriv q || decide (0x00201000 ≤ rs.codeBase ∧ rs.codeLimit + 3 ≤ 0x0026FFFF ∧ rs.codeBase ≤ rs.codeLimit ∧
        rs.codeBase % 4 = 0 ∧ rs.codeBase ≤ a ∧ a ≤ rs.codeLimit))
  else decide (a % 4 = 0 ∧ a < 0x00400000)

/-- The words of an instruction of `len` bytes at the program counter may be fetched; an extension word is a fetch of its own
(R200, R204, R240). -/
def fetchOk (d : Dev) (p : Nat) (q : Proc) (len : Nat) : Bool :=
  wordOk d p q q.pc.toNat && (decide (len ≤ 4) || wordOk d p q (q.pc.toNat + 4))

/-- Physical address a processor fetches an instruction address from (R195, R234). -/
def codePhys (p a : Nat) : Nat := if p < 512 then istoreBase (p / 16) + (a - 0x200000) else sramBase + a

/-- Bytes of engine memory with an uncorrectable error (R229). -/
def memBad (d : Dev) (phys n : Nat) : Bool :=
  d.life.badWords.any (fun w => decide (w * 8 < phys + n ∧ phys < w * 8 + 8))

/-- A store that covers a whole word of engine memory writes it anew: it holds no error any more. -/
def healWords (phys n : Nat) (d : Dev) : Dev :=
  { d with life := { d.life with badWords := d.life.badWords.filter (fun w =>
    !(decide (phys ≤ w * 8 ∧ w * 8 + 8 ≤ phys + n))) } }

/-- CYCLE has reached a nonzero BUDGET in user mode (R195, R230). -/
def overBudget (p : Nat) (q : Proc) : Bool :=
  decide (p < 512) && !isPriv q && !(q.budget == 0#64) && decide (q.budget.toNat ≤ q.cycle.toNat)

/-- What stops an instruction of `len` bytes at its boundary: fault BUDGET, a fetch that is not allowed, or an instruction word
with an uncorrectable error (R200, R229, R230). -/
def boundaryFault (d : Dev) (p : Nat) (q : Proc) (len : Nat) : Option (Nat × Nat) :=
  if overBudget p q then some (fBudget, 0)
  else if !fetchOk d p q len then some (fFetch, if wordOk d p q q.pc.toNat then q.pc.toNat + 4 else q.pc.toNat)
  else if memBad d (codePhys p q.pc.toNat) len then some (fMemUe, q.pc.toNat)
  else none

/-- Count a retired instruction; the counters stand still in the custodian world (R197, R256). -/
def countInstr (cycles : Nat) (q : Proc) : Proc :=
  if inWorld q then q
  else { q with cycle := q.cycle + BitVec.ofNat 64 cycles, instret := q.instret + 1#64 }

/-- Move past an instruction of `len` bytes. While a repeat is in progress the program counter stays until RC has
counted down (R217). -/
def stepPc (len : Nat) (q : Proc) : Proc :=
  if repOn q then
    let rc := q.rc - 1#32
    if rc == 0#32 then
      { q with rc := 0#32, sr := withBit (withBit q.sr srRepa false) srRepu false, pc := q.pc + BitVec.ofNat 32 len }
    else { q with rc := rc }
  else { q with pc := q.pc + BitVec.ofNat 32 len }



/-- The boundary before an instruction of `len` bytes of processor `p`: nothing happens while it does not issue; what stops the
instruction there is a fault, taken before it has any effect; otherwise the instruction runs. -/
def atBoundary (p : ProcId) (len : Nat) (run : Proc → Out) (s : State) : Out :=
  let q := procOf s.dev p.val
  if !canIssue s.dev p.val q then .next s
  else match boundaryFault s.dev p.val q len with
  | some (c, a) => .next { s with dev := takeFault p.val c a s.dev }
  | none => run q

/-- Issue one instruction of processor `p`: at its boundary the body's fault, or its result counted as one instruction of `len`
bytes and `cycles` cycles. -/
def issue (p : ProcId) (len cycles : Nat) (body : State → Proc → LRes (State × Proc)) (s : State) : Out :=
  atBoundary p len (fun q => match body s q with
    | .hold => .next s
    | .flt c a => .next { s with dev := takeFault p.val c a s.dev }
    | .ok (s', q') =>
      let dev := setProc p.val (stepPc len (countInstr cycles q')) s'.dev
      .next { s' with dev := lateRevoke p.val dev }) s

/-- Issue an instruction that changes only its processor's registers. -/
def issueReg (p : ProcId) (len cycles : Nat) (body : Proc → LRes Proc) (s : State) : Out :=
  issue p len cycles (fun s q => match body q with
    | .ok q' => .ok (s, q')
    | .flt c a => .flt c a
    | .hold => .hold) s

/-- Issue an instruction that sets the program counter itself. -/
def issueJump (p : ProcId) (body : Proc → LRes (Proc × Nat × Option (BitVec 32))) (s : State) : Out :=
  atBoundary p 4 (fun q => match body q with
    | .hold => .next s
    | .flt c a => .next { s with dev := takeFault p.val c a s.dev }
    | .ok (q', cycles, target) =>
      let q' := countInstr cycles q'
      let q' := match target with
        | some t => { q' with pc := t }
        | none => { q' with pc := q'.pc + 4#32 }
      .next { s with dev := setProc p.val q' s.dev }) s

/-- An instruction of a format without an extension word: E = 1 is ILLEGAL (R204). -/
def noExt (e : Bool) (r : LRes α) : LRes α := if e then .flt fIllegal 0 else r

/-- A privileged instruction in user mode is fault PRIV (R229). -/
def needPriv (q : Proc) (r : LRes α) : LRes α := if isPriv q then r else .flt fPriv 0

/-- An A register operand; an encoding that names none is ILLEGAL (R196). -/
def withA (f : BitVec 4) (k : Fin 8 → LRes α) : LRes α :=
  match aReg f with
  | some r => k r
  | none => .flt fIllegal 0

/-- An X register operand; an encoding that names none is ILLEGAL (R196). -/
def withX (f : BitVec 4) (k : Fin 4 → LRes α) : LRes α :=
  match xReg f with
  | some r => k r
  | none => .flt fIllegal 0

/-- An X register that waits for a JOBX result stalls the instruction (R221). -/
def readyX (q : Proc) (r : Fin 4) (k : LRes α) : LRes α := if q.xPend[r] then .hold else k

end Sys2Proof.Machine
end

