-- ==== Sys2Proof/Machine/Protect.lean ====
section
/-! DEFINITION. Memory protection: regions, the check of an access, violation records (R199, R233-R242, R249-R253), and
the commands of the protection block and the violation queue. -/

set_option linter.unusedVariables false

namespace Sys2Proof.Machine

open Sys2Proof

/-- Fields of RATTR and RSCTL (R235, R236). -/
def rValid (r : Region) : Bool := bitOf r.rattr 31
def rCustodian (r : Region) : Bool := bitOf r.rattr 30
def rDomain (r : Region) : Nat := fieldOf r.rattr 18 12
def rHbm (r : Region) : Bool := bitOf r.rattr 5
def rSecret (r : Region) : Bool := bitOf r.rattr 4
def rUser (r : Region) : Bool := bitOf r.rattr 3
def rWrite (r : Region) : Bool := bitOf r.rattr 1
def rRead (r : Region) : Bool := bitOf r.rattr 0
def rsValid (s : RuleSet) : Bool := bitOf s.rsctl 31
def rsDomain (s : RuleSet) : Nat := fieldOf s.rsctl 0 12

/-- First offset above each HBM region boundary of R47. -/
def hbmBounds : List Nat :=
  [0x200000000, 0x400000000, 0x500000000, 0x580000000, 0x600000000, 0x640000000, 0x644000000, 0x6C4000000,
   0x700000000]

/-- The HBM region of R47 an offset of the data space lies in, 9 past its end. -/
def hbmRegion (off : Nat) : Nat := (hbmBounds.filter (fun b => decide (b ≤ off))).length

/-- A valid region is malformed (R237). -/
def malformed (r : Region) : Bool :=
  let lo := r.hbase * 64
  let hi := r.hbase * 64 + (r.limit - r.base)
  rValid r &&
    (decide (r.limit < r.base) || !(r.base % 64 == 0) || !(r.limit % 64 == 63) || !(fieldOf r.rattr 6 12 == 0) ||
      bitOf r.rattr 2 ||
      (if rHbm r then
        !(decide (0x40000000 ≤ r.base ∧ r.limit ≤ 0xBFFFFFFF)) || decide (0x700000000 ≤ hi) ||
          !(hbmRegion lo == hbmRegion hi)
      else
        !(decide (r.limit ≤ 0x7FFF)) && !(decide (0x100000 ≤ r.base ∧ r.limit ≤ 0x1EFFFF))))

/-- PSTAT.BADREG of the standby set (R249). -/
def badReg (s : RuleSet) : Nat :=
  ((List.range 16).filter (fun i => malformed (nth {} s.regions i))).foldl (fun acc i => acc + 2 ^ i) 0

/-- The lowest-numbered valid, well-formed region that holds an address (R237, R238). -/
def matchRegion (s : RuleSet) (a : Nat) : Option (Nat × Region) :=
  ((List.range 16).zip s.regions).find? (fun e => rValid e.2 && !malformed e.2 &&
    decide (e.2.base ≤ a ∧ a ≤ e.2.limit))

/-- The parts of an engine's address space (R199, R234). -/
inductive Space where
  | scratch | general | system | istore | hbm | reserved
  deriving DecidableEq, Repr

def spaceOf (a : Nat) : Space :=
  if a ≤ 0x7FFF then .scratch
  else if 0x100000 ≤ a ∧ a ≤ 0x1EFFFF then .general
  else if 0x1F0000 ≤ a ∧ a ≤ 0x1FFFFF then .system
  else if 0x200000 ≤ a ∧ a ≤ 0x27FFFF then .istore
  else if 0x40000000 ≤ a ∧ a ≤ 0xBFFFFFFF then .hbm
  else .reserved

/-- The instruction store holds no tags (R226). -/
def untaggedStore (phys : Nat) : Bool := decide (istoreBase 0 ≤ phys ∧ phys < istoreBase 32)

/-- What the check of an access decides (R238): granted with the physical address and whether the region's SECRET
attribute applies; denied with the violation's KIND and region; or fault UNMAPPED. -/
inductive Access where
  | granted (phys : Nat) (hbm secret : Bool)
  | denied (kind region : Nat)
  | unmapped
  deriving DecidableEq, Repr

/-- Physical address of an engine address outside HBM. -/
def physOf (p a : Nat) : Nat :=
  if p < 512 then
    match spaceOf a with
    | .scratch => scratchBase p + a
    | .istore => istoreBase (p / 16) + (a - 0x200000)
    | _ => sdataBase (p / 16) + (a - 0x100000)
  else sramBase + a

/-- The default map, for a privileged access that matches no region (R239): every byte of it must be granted. -/
def defaultAccess (p : Nat) (q : Proc) (a n : Nat) : Access :=
  let granted := Access.granted (physOf p a) false false
  match spaceOf a with
  | .scratch => if a + n ≤ 0x8000 then granted else .unmapped
  | .general =>
    if a + n ≤ 0x1F0000 then granted
    else if 0x200000 < a + n then .unmapped
    else if inWorld q then granted else .denied 0x02 0xFF
  | .system => if 0x200000 < a + n then .unmapped else if inWorld q then granted else .denied 0x02 0xFF
  | _ => .unmapped

/-- The check of a data access of `n` bytes, step by step (R238, R239). -/
def checkAccess (d : Dev) (p : Nat) (q : Proc) (a n : Nat) (rd wr : Bool) : Access :=
  if 512 ≤ p then (if a + n ≤ 0x400000 then .granted (sramBase + a) false false else .unmapped)
  else
  let sp := spaceOf a
  if sp = .reserved then .unmapped
  else if sp = .istore then (if isPriv q && decide (a + n ≤ 0x280000) then .granted (physOf p a) false false else .unmapped)
  else match matchRegion (protOf d p).active a with
  | none => if isPriv q then defaultAccess p q a n else .unmapped
  | some (i, r) =>
    if r.limit < a + n - 1 then .denied 0x06 i
    else if !isPriv q && !rUser r then .denied 0x01 i
    else if !inWorld q && rCustodian r then .denied 0x02 i
    else if !inWorld q && !(rDomain r == srDomain q) then .denied 0x03 i
    else if wr && !rWrite r then .denied 0x04 i
    else if rd && !rRead r then .denied 0x05 i
    else if rHbm r then .granted (hbmBase + r.hbase * 64 + (a - r.base)) true (rSecret r)
    else .granted (physOf p a) false (rSecret r)

/-! Violations. -/

/-- The 32 bytes of a violation record (R250). -/
def violationBytes (v : Violation) : Bytes :=
  le 8 v.time ++ le 2 v.source ++ le 1 v.kind ++ le 1 v.flags ++ le 2 v.domain ++ le 1 v.region ++ le 1 v.gen ++
    le 8 v.last ++ le 4 v.count ++ le 4 v.addr

/-- SRAM address of a ring entry (R253). -/
def vqEntry (q : VioQueue) (n : Nat) : Nat := sramBase + q.base + 32 * (n % q.size)

/-- A violation is counted into the newest record when that is not sealed, names the same offender and page, and is
less than 1 ms old (R252). -/
def coalesces (q : VioQueue) (v : Violation) : Bool :=
  match q.newest with
  | none => false
  | some w =>
    decide (q.sealed < q.written) && w.source == v.source && w.kind == v.kind && w.domain == v.domain &&
      w.region == v.region && w.addr / 4096 == v.addr / 4096 && decide (v.time ≤ w.time + 1000000)

/-- A violation (R250-R253): counted in VQ_LOST while the queue is disabled or full; otherwise written as a record, or
counted into the newest one; a new record is also an audit event. -/
def violate (v : Violation) (s : State) : State :=
  let q := s.dev.vq
  if !bitOf q.ctl 0 then { s with dev := { s.dev with vq := { q with lost := w32 (q.lost + 1) } } }
  else if coalesces q v then
    match q.newest with
    | none => s
    | some w =>
      let w := { w with count := satTo 32 (w.count + 1), flags := setBit w.flags 2 true, last := v.time }
      { s with
        dev := { s.dev with vq := { q with newest := some w } },
        mem := writeBytes s.mem (vqEntry q (q.written - 1)) (violationBytes w) }
  else if q.size ≤ w32 (q.head + 2 ^ 32 - q.tail) then
    { s with dev := { s.dev with vq := { q with lost := w32 (q.lost + 1), lostSince := true } } }
  else
    let v := { v with flags := setBit v.flags 3 q.lostSince }
    let empty := q.head == q.tail
    let irq := bitOf q.ctl 1 && empty && !q.notified
    let q' := { q with head := w32 (q.head + 1), written := q.written + 1, newest := some v, lostSince := false,
                       notified := q.notified || irq }
    let d := { s.dev with vq := q' }
    let d := if irq then emit (.custodianIrq 0) d else d
    let d := report v.source 0x0300 v.source
      [(8, v.time), (2, v.source), (1, v.kind), (1, v.flags), (2, v.domain), (1, v.region), (1, v.gen), (8, v.last),
       (4, v.count), (4, v.addr)] d
    { s with dev := d, mem := writeBytes s.mem (vqEntry q q.head) (violationBytes v) }

/-- The violation of an engine's denied access (R241, R250). -/
def denyAccess (p kind region a : Nat) (wr : Bool) (s : State) : State :=
  let q := procOf s.dev p
  violate { time := s.dev.tb.now, source := srcProc p, kind := kind, flags := b2n wr + 2 * b2n (isPriv q),
            domain := srDomain q, region := region, gen := (protOf s.dev p).gen % 256, last := s.dev.tb.now,
            count := 1, addr := a } s

/-! Commands of the violation queue. -/

/-- VQ_HEAD_READ (R252): returns VQ_HEAD and seals every record below it. -/
def execVqHeadRead (s : State) : Out :=
  onDev (fun d => emit (.readValue d.vq.head) { d with vq := { d.vq with sealed := d.vq.written } }) s

/-- VQ_TAIL_WRITE (R253): the custodian consumes records; the notification re-arms. -/
def execVqTailWrite (v : BitVec 32) (s : State) : Out :=
  onDev (fun d => { d with vq := { d.vq with tail := v.toNat, notified := false } }) s

/-- VQ_LOST_READ (R9, R253): a read at full width returns and clears the count; a narrower one clears nothing. -/
def execVqLostRead (full : Bool) (s : State) : Out :=
  onDev (fun d => emit (.readValue d.vq.lost) { d with vq := { d.vq with lost := if full then 0 else d.vq.lost } }) s

/-! Commands of the protection block. -/

/-- Busy job slots of a processor (R223). -/
def busySlots (q : Proc) : List (Fin 8) := (List.finRange 8).filter (fun k => q.jstat[k].getLsbD 16)

/-- A job slot is busy whose spans were checked under a generation older than the current one (R245). -/
def oldJobs (u : ProtUnit) (q : Proc) : Bool := (busySlots q).any (fun k => !(q.jobs[k].gen == u.gen))

/-- REVOKE (R246, R247): refused with RERR while a revocation runs, when the standby set is not valid or its DOMAIN
differs; during a REPU it waits for the last iteration; otherwise it takes effect at the boundary. -/
def execRevoke (p : Fin 512) (v : BitVec 32) (s : State) : Out :=
  onDev (fun d =>
    if !v.getLsbD 0 then d
    else
      let u := protOf d p.val
      if u.revokeBusy || u.revokePending || !rsValid u.standby || !(rsDomain u.standby == rsDomain u.active) then
        onProt p.val (fun u => { u with rerr := true }) d
      else if repuOn (procOf d p.val) && !(procOf d p.val).dead && !(procOf d p.val).halted then
        onProt p.val (fun u => { u with rerr := false, revokePending := true }) d
      else revokeNow p.val (onProt p.val (fun u => { u with rerr := false }) d)) s

/-- REVOKE_FENCE_DONE (R246): the fence returns once no job checked under an older generation is outstanding. -/
def execRevokeFenceDone (p : Fin 512) (s : State) : Out :=
  onDev (fun d =>
    let u := protOf d p.val
    if u.revokeBusy && !oldJobs u (procOf d p.val) then
      onProt p.val (fun u => { u with revokeBusy := false, fencedGen := u.gen }) d
    else d) s

/-- LOAD (R249): the copy of rule-table image k into the standby set starts; RERR clears. -/
def execLoad (p : Fin 512) (k : Fin 64) (s : State) : Out :=
  onDev (fun d =>
    let u := protOf d p.val
    if u.loadBusy.isSome then d else onProt p.val (fun u => { u with loadBusy := some k.val, rerr := false }) d) s

/-- The rule set a protection unit holds of 272 bytes (R235): reserved bits of RSCTL and the reserved word ignore the write
(R10); those of RATTR are kept, since they make a region malformed (R237). -/
def ruleSetOf (b : Bytes) : RuleSet :=
  { rsctl := fieldOf (leAt b 0 4) 31 1 * 2 ^ 31 + fieldOf (leAt b 0 4) 0 12, codeBase := leAt b 4 4, codeLimit := leAt b 8 4,
    resv := 0,
    regions := (List.range 16).map (fun i =>
      { base := leAt b (16 + 16 * i) 4, limit := leAt b (20 + 16 * i) 4, hbase := leAt b (24 + 16 * i) 4,
        rattr := leAt b (28 + 16 * i) 4 }) }

/-- The 272 bytes of a rule set (R235). -/
def ruleSetBytes (r : RuleSet) : Bytes :=
  le 4 r.rsctl ++ le 4 r.codeBase ++ le 4 r.codeLimit ++ le 4 r.resv ++
    (r.regions.map (fun g => le 4 g.base ++ le 4 g.limit ++ le 4 g.hbase ++ le 4 g.rattr)).flatten

/-- Exchange the active and standby sets (R243): GEN rises by 1, SR.DOMAIN takes the new active set's DOMAIN, the
stalled instruction completes. -/
def swapSets (p : Nat) (d : Dev) : Dev :=
  let u := protOf d p
  let d := onProt p (fun u => { u with active := u.standby, standby := u.active, actSrc := u.sbySrc,
                                       sbySrc := u.actSrc, actFor := u.sbyFor, sbyFor := u.actFor,
                                       gen := w32 (u.gen + 1) }) d
  onProc p (fun q => { q with sr := BitVec.ofNat 32 (setField q.sr.toNat 12 12 (rsDomain u.standby)) }) d

/-- A PSWAP that SLOCK or a LOAD held off proceeds once both have ended (R243). -/
def resumeSwap (p : Nat) (d : Dev) : Dev :=
  let u := protOf d p
  if (procOf d p).wait == some .pswap && !u.slock && u.loadBusy.isNone then
    onProc p (fun q => stepPc 4 (countInstr 4 { q with wait := none })) (swapSets p d)
  else d

/-- The class whose rule-set image stands at a place of a string's rule table (R248, R286). -/
def classOfImage (d : Dev) (string k : Nat) : Option (Nat × Nat × Nat) :=
  d.rig.domains.findSome? (fun e => (e.2.current.toList ++ e.2.draining).findSome? (fun x =>
    (x.places.find? (fun p => p.string == string && p.image == k)).map (fun p => (e.1, x.img.version, p.cls))))

/-- Image `k` of the string's rule table copied into the standby set (R249). -/
def copyImage (p k : Nat) (s : State) (d : Dev) : Dev :=
  let b := readBytes s.mem (sdataBase (p / 16) + 0xF0000 + 512 * k) 272
  onProt p (fun u => { u with standby := ruleSetOf b, loadBusy := none, sbySrc := k,
                              sbyFor := classOfImage d (p / 16) k }) d

/-- LOAD_DONE (R249): the standby set holds the image; a stalled PSWAP proceeds. -/
def execLoadDone (p : Fin 512) (s : State) : Out :=
  let u := protOf s.dev p.val
  match u.loadBusy with
  | none => .next s
  | some k => onDev (fun d => resumeSwap p.val (copyImage p.val k s d)) s

/-- PCTL_WRITE (R249): SLOCK; clearing it lets a stalled PSWAP proceed. -/
def execPctlWrite (p : Fin 512) (v : BitVec 32) (s : State) : Out :=
  onDev (fun d => resumeSwap p.val (onProt p.val (fun u => { u with slock := v.getLsbD 0 }) d)) s

/-- STANDBY_SET_WRITE (R249): a direct write of one 32-bit word of the standby set; SBY_SRC becomes 0xFE. -/
def execStandbySetWrite (p : Fin 512) (word : Fin 68) (v : BitVec 32) (s : State) : Out :=
  onDev (fun d => onProt p.val (fun u =>
    { u with standby := ruleSetOf (overwrite (ruleSetBytes u.standby) (4 * word.val) (le 4 v.toNat)),
             sbySrc := 0xFE }) d) s

end Sys2Proof.Machine
end

