-- ==== Sys2Proof/Machine/LopeSys.lean ====
section
/-! DEFINITION. Lope events, waits, repeats, control registers and system instructions (R197, R198, R202, R212-R219,
R223, R227-R231, R243-R245), and the events that end a wait or interrupt a processor. -/

set_option linter.unusedVariables false

namespace Sys2Proof.Machine

open Sys2Proof

/-- The cycles an instruction took whose count the table leaves open. -/
def openCycles (d : Dev) : Nat := Config.freeNat d.free

/-- A wait ends: the instruction of `len` bytes completes, LRA clears (R215). -/
def endWait (p len : Nat) (f : Proc → Proc) (d : Dev) : Dev :=
  let c := openCycles d
  let d := { d with free := d.free + 1 }
  onProc p (fun q =>
    stepPc len (countInstr c (f { q with wait := none, sr := if lraOn q then withBit q.sr srLra false else q.sr }))) d

/-- EV bits a processor has (R195, R212). -/
def evMask (p : Nat) : BitVec 32 := if p < 512 then 0x03FFFFFF#32 else 0x03FF0000#32

/-- Set bits of a processor's EV (R212). -/
def setEv (p : Nat) (bits : BitVec 32) (d : Dev) : Dev :=
  onProc p (fun q => { q with ev := (q.ev ||| bits) &&& evMask p }) d

/-- WFE consumes the selected bits (R213). -/
def consumeEv (rd : Fin 16) (mask : BitVec 32) (q : Proc) : Proc :=
  { putD q rd ((q.ev &&& mask).zeroExtend 64) false with ev := q.ev &&& ~~~mask }

/-- The limit of a wait that starts now: LREM when the wait was interrupted, else the instruction's (R215). -/
def waitLimit (q : Proc) (own : Nat) : Nat := if lraOn q then q.lrem.toNat else own

/-- Put a processor into a wait. -/
def startWait (p : Nat) (w : LopeWait) (s : State) : State :=
  { s with dev := onProc p (fun q => { q with wait := some w }) s.dev }

/-- Issue an instruction that completes now or waits. -/
def issueWait (p : ProcId) (len : Nat) (body : Proc → LRes (LopeWait ⊕ (Proc → Proc))) (s : State) : Out :=
  atBoundary p len (fun q => match body q with
    | .hold => .next s
    | .flt c a => .next { s with dev := takeFault p.val c a s.dev }
    | .ok (.inl w) => .next (startWait p.val w s)
    | .ok (.inr f) => .next { s with dev := endWait p.val len f s.dev }) s

/-- Length in bytes of WFE (R205). -/
def lenEv (f : EvFmt) : Nat := if f.e then 8 else 4

/-- WFE Dd, Dm (R213): consumes the selected bits at once, or waits until one is set or the limit expires. -/
def execWfe (p : ProcId) (f : EvFmt) (s : State) : Out :=
  issueWait p (lenEv f) (fun q =>
    if !(f.resv == 0#17) then .flt fIllegal 0
    else if q.dTag[dReg f.ra] then .flt fTagTime 0
    else
      let mask : BitVec 32 := q.d[dReg f.ra].truncate 32
      if !(q.ev &&& mask == 0#32) then .ok (.inr (consumeEv (dReg f.rd) mask))
      else .ok (.inl (.wfe (dReg f.rd) mask
        (if f.e then some (s.dev.tb.now + waitLimit q f.ext.toNat) else none) (lenEv f)))) s

/-- A limit has passed before now. -/
def limitGone (till : Option Nat) (d : Dev) : Bool := till.any (fun t => decide (t < d.tb.now))

/-- WFE_WAKE (R213): a selected bit is set while WFE waits; the bits are consumed and the instruction completes. Where the limit
has passed by then it expired first: Dd = 0. -/
def execWfeWake (p : ProcId) (s : State) : Out :=
  onDev (fun d =>
    match (procOf d p.val).wait with
    | some (.wfe rd mask till len) =>
      if (procOf d p.val).ev &&& mask == 0#32 then d
      else if limitGone till d then endWait p.val len (fun q => putD q rd 0#64 false) d
      else endWait p.val len (consumeEv rd mask) d
    | _ => d) s

/-- WFE_LIMIT_EXPIRE (R213): the limit expires with no selected bit set: Dd = 0 and the instruction completes. A selected bit
that has been set came first: step 1 runs. -/
def execWfeLimitExpire (p : ProcId) (s : State) : Out :=
  onDev (fun d =>
    match (procOf d p.val).wait with
    | some (.wfe rd mask (some till) len) =>
      if (procOf d p.val).ev &&& mask == 0#32 || limitGone (some till) d then
        endWait p.val len (fun q => putD q rd 0#64 false) (reach till d)
      else endWait p.val len (consumeEv rd mask) d
    | _ => d) s

/-- SEV #slot (R195, R216): sets the sender's bit in the EV of the named slot of its string. -/
def execSev (p : ProcId) (f : SevFmt) (s : State) : Out :=
  issue p 4 1 (fun s q =>
    if f.e || !(f.resv == 0#20) || decide (512 ≤ p.val) then .flt fIllegal 0
    else
      let n := p.val % 16
      let target := p.val / 16 * 16 + f.slot.toNat
      if target = p.val then .ok (s, { q with ev := q.ev ||| (1#32 <<< n) })
      else .ok ({ s with dev := setEv target (1#32 <<< n) s.dev }, q)) s

/-- SEV ALL (R216): sets the bit in every other engine of the string. -/
def execSevAll (p : ProcId) (f : SevFmt) (s : State) : Out :=
  issue p 4 1 (fun s q =>
    if f.e || !(f.resv == 0#20) || decide (512 ≤ p.val) then .flt fIllegal 0
    else
      let n := p.val % 16
      let others := (List.range 16).filter (fun k => !(k == n))
      let dev := others.foldl (fun d k => setEv (p.val / 16 * 16 + k) (1#32 <<< n) d) s.dev
      .ok ({ s with dev := dev }, q)) s

/-- WTU Dt, Dl (R214): completes with C clear when the target has passed, with C set when the limit is zero; otherwise
waits. -/
def execWtu (p : ProcId) (f : EvFmt) (s : State) : Out :=
  issueWait p 4 (fun q =>
    if f.e || !(f.resv == 0#17) then .flt fIllegal 0
    else if q.dTag[dReg f.rd] || q.dTag[dReg f.ra] then .flt fTagTime 0
    else
      let target := q.d[dReg f.rd].toNat
      let limit := waitLimit q (q.d[dReg f.ra].truncate 32 : BitVec 32).toNat
      if target ≤ s.dev.tb.now then .ok (.inr (fun q => { q with sr := withBit q.sr 1 false }))
      else if limit = 0 then .ok (.inr (fun q => { q with sr := withBit q.sr 1 true }))
      else .ok (.inl (.wtu target (s.dev.tb.now + limit)))) s

/-- WTU_TARGET_REACHED (R214): C is cleared and the instruction completes. -/
def execWtuTargetReached (p : ProcId) (s : State) : Out :=
  onDev (fun d =>
    match (procOf d p.val).wait with
    | some (.wtu target till) =>
      if target ≤ till then endWait p.val 4 (fun q => { q with sr := withBit q.sr 1 false }) (reach target d) else d
    | _ => d) s

/-- WTU_LIMIT_EXPIRE (R214): the limit expires first and C is set. -/
def execWtuLimitExpire (p : ProcId) (s : State) : Out :=
  onDev (fun d =>
    match (procOf d p.val).wait with
    | some (.wtu target till) =>
      if till < target then endWait p.val 4 (fun q => { q with sr := withBit q.sr 1 true }) (reach till d) else d
    | _ => d) s

/-- Instructions REP must not repeat (R219): B, BL, JR, BZ, REP, REPU, WFE, WTU, JWAIT, MTC and the SYS group. -/
def repForbidden (op : Nat) : Bool := has [0x28, 0x29, 0x2A, 0x2B, 0x33, 0x34, 0x30, 0x32, 0x3A, 0x3D, 0x3E] op

/-- Instructions REPU may repeat (R219). -/
def repuAllowed (op : Nat) : Bool :=
  decide (0x01 ≤ op ∧ op ≤ 0x0A) || decide (0x10 ≤ op ∧ op ≤ 0x1D) || op == 0x20

/-- REP (R217, R219): the next instruction runs N or Dc[31:0] times; a count of zero skips it. -/
def execRep (p : ProcId) (f : RepFmt) (s : State) : Out :=
  issueReg p 4 1 (fun q =>
    if f.e || !(f.resv == 0#4) then .flt fIllegal 0
    else if f.reg && q.dTag[dReg f.dc] then .flt fTagTime 0
    else if repForbidden f.nextOp.toNat then .flt fRepIllegal 0
    else
      let n : BitVec 32 := if f.reg then q.d[dReg f.dc].truncate 32 else f.n.zeroExtend 32
      if n == 0#32 then .ok { q with pc := q.pc + (if f.nextE then 8#32 else 4#32) }
      else .ok { q with rc := n, sr := withBit (withBit q.sr srRepa true) srRepu false, repAt := q.pc + 4#32 }) s

/-- REPU (R218, R219): the next instruction runs n times with interrupts deferred. -/
def execRepu (p : ProcId) (f : RepuFmt) (s : State) : Out :=
  issueReg p 4 1 (fun q =>
    if f.e || !(f.resv == 0#19) then .flt fIllegal 0
    else if !repuAllowed f.nextOp.toNat then .flt fRepIllegal 0
    else .ok { q with rc := f.n1.zeroExtend 32 + 1#32, sr := withBit (withBit q.sr srRepa true) srRepu true,
                      repAt := q.pc + 4#32 }) s

/-- TIME Dd: the time base, untagged (R208). -/
def execTime (p : ProcId) (f : CFmt) (s : State) : Out :=
  issueReg p 4 2 (fun q =>
    if f.e || !(f.resv == 0#9) then .flt fIllegal 0
    else .ok (putD q (dReg f.r) (BitVec.ofNat 64 s.dev.tb.now) false)) s

/-- JWAIT consumes a slot that is no longer busy (R223): JSTAT to Dd untagged, the EV bit cleared, the slot freed. -/
def consumeSlot (rd : Fin 16) (k : Fin 8) (q : Proc) : Proc :=
  { putD q rd q.jstat[k] false with
    ev := q.ev &&& ~~~(1#32 <<< (16 + k.val)), jobs := q.jobs.set k {} }

/-- JWAIT Dd, #k (R223): JOB_SLOT when no job has been issued on the slot; stalls while it is busy. -/
def execJwait (p : ProcId) (f : JwFmt) (s : State) : Out :=
  issueWait p 4 (fun q =>
    if f.e || !(f.resv == 0#18) then .flt fIllegal 0
    else if !q.jobs[jsReg f.js].issued then .flt fJobSlot 0
    else if q.jstat[jsReg f.js].getLsbD 16 then .ok (.inl (.jwait (dReg f.rd) (jsReg f.js)))
    else .ok (.inr (consumeSlot (dReg f.rd) (jsReg f.js)))) s

/-- A control register's value (R197); none for a reserved number. -/
def crRead (p : Nat) (q : Proc) (n : Nat) : Option (BitVec 64) :=
  if n = 0x000 then some (q.sr.zeroExtend 64)
  else if n = 0x001 then some (q.bk.zeroExtend 64)
  else if n = 0x002 then some ((q.ev &&& evMask p).zeroExtend 64)
  else if n = 0x003 then some (q.evm.zeroExtend 64)
  else if n = 0x004 then some (q.rc.zeroExtend 64)
  else if n = 0x005 then some (q.lrem.zeroExtend 64)
  else if n = 0x006 then some (q.epc.zeroExtend 64)
  else if n = 0x007 then some (q.esr.zeroExtend 64)
  else if n = 0x008 then some (q.ecause.zeroExtend 64)
  else if n = 0x009 then some (q.eaddr.zeroExtend 64)
  else if n = 0x00A then some (q.vbr.zeroExtend 64)
  else if n = 0x00B then some q.budget
  else if n = 0x00C then some q.cycle
  else if n = 0x00D then some q.instret
  else if n = 0x00E then some (BitVec.ofNat 64 (srcProc p))
  else if n = 0x00F then
    some (BitVec.ofNat 64
      (((List.range 16).filter (fun i => nth false q.dTag.toList i)).foldl (fun a i => a + 2 ^ i) 0 +
       ((List.range 4).filter (fun i => nth false q.xTag.toList i)).foldl (fun a i => a + 2 ^ (16 + i)) 0 +
       b2n (bitAt q.sr srFt) * 2 ^ 20))
  else if 0x010 ≤ n ∧ n ≤ 0x017 then some (nth 0#64 q.jstat.toList (n - 0x010))
  else none

/-- Registers user mode may read (R197). -/
def userReads (n : Nat) : Bool :=
  has [0x000, 0x001, 0x002, 0x00C, 0x00D, 0x00E, 0x00F] n || decide (0x010 ≤ n ∧ n ≤ 0x017)

/-- MFC Dd, cr (R197): ILLEGAL for a reserved number, PRIV for a register user mode may not read. -/
def execMfc (p : ProcId) (f : CFmt) (s : State) : Out :=
  issueReg p 4 2 (fun q =>
    if f.e || !(f.resv == 0#9) then .flt fIllegal 0
    else match crRead p.val q f.num.toNat with
    | none => .flt fIllegal 0
    | some v => if isPriv q || userReads f.num.toNat then .ok (putD q (dReg f.r) v false) else .flt fPriv 0) s

/-- A control register written (R197, R198): SR takes NZCV and, in privileged mode, IE; EV is write-1-to-clear;
read-only registers ignore the write. -/
def crWrite (q : Proc) (n : Nat) (v : BitVec 64) (t : Bool) : Proc :=
  let w : BitVec 32 := v.truncate 32
  if n = 0x000 then
    let sr := withFlags q.sr (w.getLsbD 3) (w.getLsbD 2) (w.getLsbD 1) (w.getLsbD 0) t
    { q with sr := if isPriv q then withBit sr srIe (w.getLsbD 29) else sr }
  else if n = 0x001 then { q with bk := v.truncate 16 }
  else if n = 0x002 then { q with ev := q.ev &&& ~~~w }
  else if n = 0x003 then { q with evm := w }
  else if n = 0x004 then { q with rc := w }
  else if n = 0x005 then { q with lrem := w }
  else if n = 0x006 then { q with epc := w }
  else if n = 0x007 then { q with esr := w }
  else if n = 0x00A then { q with vbr := w &&& 0xFFFFFF00#32 }
  else if n = 0x00B then { q with budget := v }
  else q

/-- MTC cr, Da (R197, R198, R227): user mode writes BK, EV and the flags of SR only; a tagged source to SR, BK or EV is
TAG_ADDR. -/
def execMtc (p : ProcId) (f : CFmt) (s : State) : Out :=
  issueReg p 4 2 (fun q =>
    let n := f.num.toNat
    if f.e || !(f.resv == 0#9) || (crRead p.val q n).isNone then .flt fIllegal 0
    else if !isPriv q && !has [0x000, 0x001, 0x002] n then .flt fPriv 0
    else if has [0x000, 0x001, 0x002] n && q.dTag[dReg f.r] then .flt fTagAddr 0
    else .ok (crWrite q n q.d[dReg f.r] q.dTag[dReg f.r])) s

/-- NOP (R208). -/
def execNop (p : ProcId) (f : RFmt) (s : State) : Out := issueReg p 4 1 (fun q => noExt f.e (.ok q)) s

/-- Return from an exception: every field of SR from ESR except WORLD and DOMAIN, the reserved bits zero, and EPC to the
program counter; a repeat or wait that ESR marks is the instruction at EPC (R10, R198, R215, R217, R228). -/
def leaveException (q : Proc) : Proc :=
  { q with sr := (q.esr &&& 0xBE00000F#32) ||| (q.sr &&& 0x40FFF000#32), pc := q.epc, repAt := q.epc, waitAt := q.epc }

/-- RFE; privileged (R198, R208). -/
def execRfe (p : ProcId) (f : RFmt) (s : State) : Out :=
  issueJump p (fun q => noExt f.e (needPriv q (.ok (leaveException q, 4, some q.epc)))) s

/-- HALT: stops until the dispatcher restarts the engine; privileged (R208). -/
def execHalt (p : ProcId) (f : RFmt) (s : State) : Out :=
  issueWait p 4 (fun q => noExt f.e (needPriv q (.ok (.inr (fun q => { q with halted := true }))))) s

/-- FENCE: the fabric FENCE returns when every write issued before it is visible (R32, R202); every write of this model
is visible at once. -/
def execFence (p : ProcId) (f : RFmt) (s : State) : Out :=
  issueWait p 4 (fun q => noExt f.e (.ok (.inr (fun q => q)))) s

/-- PSWAP; privileged (R243): JOB_SLOT while a job slot is busy; stalls while SLOCK is set or a LOAD runs. -/
def execPswap (p : ProcId) (f : RFmt) (s : State) : Out :=
  let u := protOf s.dev p.val
  atBoundary p 4 (fun q =>
    if f.e then .next { s with dev := takeFault p.val fIllegal 0 s.dev }
    else if !isPriv q then .next { s with dev := takeFault p.val fPriv 0 s.dev }
    else if !(busySlots q).isEmpty then .next { s with dev := takeFault p.val fJobSlot 0 s.dev }
    else if u.slock || u.loadBusy.isSome then .next (startWait p.val .pswap s)
    else .next { s with dev := onProc p.val (fun q => stepPc 4 (countInstr 4 q)) (swapSets p.val s.dev) }) s

/-- GFENCE; privileged (R245): completes once no job issued under an older generation is outstanding. -/
def execGfence (p : ProcId) (f : RFmt) (s : State) : Out :=
  let u := protOf s.dev p.val
  issue p 4 1 (fun s q => noExt f.e (needPriv q
    (if oldJobs u q then .hold
     else .ok ({ s with dev := onProt p.val (fun u => { u with fencedGen := u.gen }) s.dev }, q)))) s

/-- CALL #1 ends a slice (R275): at once for the engine; for its dependants at the later of now and the deadline. A
CALL #1 after the deadline is an overrun. -/
def endSlice (p : Nat) (d : Dev) : Dev :=
  match (procOf d p).slice with
  | none => d
  | some (tag, i) =>
    let d := onProc p (fun q => { q with slice := none }) d
    match look d.rig.msgs tag with
    | none => d
    | some m =>
      let now := d.tb.now
      let late := m.slices.any (fun r => r.idx == i && decide (r.deadline < now))
      let m := { m with slices := m.slices.map (fun r =>
        if r.idx == i then { r with called := some now, ended := if r.deadline ≤ now then some now else none }
        else r) }
      let d := { d with rig := { d.rig with msgs := ins d.rig.msgs tag m } }
      if late then bump (dk 0x5002 4) d else d

/-- Custodian-dispatched work starts on an engine: SR.WORLD is set, and CYCLE and INSTRET stand still from here on (R194,
R256). -/
def startWorld (p : Nat) (d : Dev) : Dev :=
  onProc p (fun q => { q with custodianWork := true, custDue := false, sr := withBit q.sr srWorld true }) d

/-- Custodian-dispatched work ends: SR.WORLD is cleared (R194). -/
def endWorld (p : Nat) (d : Dev) : Dev :=
  onProc p (fun q => { q with custodianWork := false, sr := withBit q.sr srWorld false }) d

/-- The string dispatcher requests an engine for custodian-dispatched work, by interrupt PREEMPT (R229, R233). -/
def requestWorld (p : Nat) (d : Dev) : Dev :=
  let q := procOf d p
  if 512 ≤ p ∨ q.dead ∨ q.off ∨ q.custodianWork ∨ !procThere d p ∨ !d.lopeOn then d
  else onProc p (fun q => { q with preempt := true, custDue := true }) d

/-- CALL #n (R228, R275): exception to vector 3 with ECAUSE = AUX; in user mode CALL #1 ends the slice; in
custodian-dispatched work it ends that work. -/
def execCall (p : ProcId) (f : RFmt) (s : State) : Out :=
  atBoundary p 4 (fun q =>
    if f.e then .next { s with dev := takeFault p.val fIllegal 0 s.dev }
    else
      let d := onProc p.val (fun q => enterException 0xC0 f.aux.toNat 0 (q.pc + 4#32) (countInstr 4 q)) s.dev
      .next { s with dev := if f.aux == 1#8 then (if q.custodianWork then endWorld p.val d
        else if isPriv q then d else endSlice p.val d) else d }) s

/-! Events of a processor. -/

/-- The interrupt a processor takes at a boundary, if any (R218, R228, R229): HALT_REQ even with IE clear. -/
def pendingInterrupt (q : Proc) : Option Nat :=
  if q.dead || q.halted || q.off || repuOn q then none
  else if q.haltReq then some 0x82
  else if !intOn q then none
  else if q.preempt then some 0x81
  else if !(q.ev &&& q.evm == 0#32) then some 0x80
  else none

/-- INTERRUPT_ENTRY (R228): the PREEMPT that custodian-dispatched work was requested with starts that work (R194, R229). -/
def execInterruptEntry (p : ProcId) (s : State) : Out :=
  onDev (fun d =>
    match pendingInterrupt (procOf d p.val) with
    | none => d
    | some c =>
      let work := c == 0x81 && (procOf d p.val).custDue
      let d := onProc p.val (fun q => { q with
        haltReq := if c == 0x82 then false else q.haltReq, preempt := if c == 0x81 then false else q.preempt }) d
      let d := takeInterrupt p.val c d
      if work then startWorld p.val d else d) s

/-- BUDGET_EXPIRE (R195, R230): in user mode, CYCLE has reached a nonzero BUDGET; fault BUDGET at the boundary, during
a wait or a REPU too. BUDGET has no effect on a custodian core. Cycles pass during a wait with no command of their own:
there the command says that CYCLE has come to BUDGET. -/
def execBudgetExpire (p : ProcId) (s : State) : Out :=
  onDev (fun d =>
    let q := procOf d p.val
    if p.val < 512 && !q.dead && !isPriv q && !(q.budget == 0#64) &&
        (q.wait.isSome || decide (q.budget.toNat ≤ q.cycle.toNat)) then
      takeFault p.val fBudget 0
        (if q.budget.toNat ≤ q.cycle.toNat then d else onProc p.val (fun q => { q with cycle := q.budget }) d)
    else d) s

/-- HALT_REQ (R229): the custodian stops an engine; taken even with IE clear, after a REPU's last iteration. -/
def haltReq (p : Nat) (d : Dev) : Dev :=
  let q := procOf d p
  if q.dead || q.halted || q.off then d
  else if repuOn q then onProc p (fun q => { q with haltReq := true }) d
  else takeInterrupt p 0x82 d

/-- HALT_REQ (R232). -/
def execHaltReq (p : ProcId) (s : State) : Out := onDev (haltReq p.val) s

/-- CUSTODIAN_SIGNAL (R212): EV.CUST. -/
def execCustodianSignal (p : ProcId) (s : State) : Out := onDev (setEv p.val (1#32 <<< 25)) s

/-- Memory without the bytes of a range, which read as zero again. -/
def zeroRange (m : FMap Byte) (a n : Nat) : FMap Byte := keep (fun k _ => !(decide (a ≤ k ∧ k < a + n))) m

/-- Tags without the words of a range. -/
def zeroTags (t : FMap Bool) (a n : Nat) : FMap Bool := keep (fun k _ => !(decide (a / 8 ≤ k ∧ k < (a + n) / 8))) t

/-- ENGINE_RESTART (R541): the custodian restarts an engine after a double fault: scratch zeroed, both rule sets
invalid, job slots freed, GEN raised; it starts at VBR in privileged mode with its registers zero (R196, R228). -/
def execEngineRestart (p : Fin 512) (s : State) : Out :=
  if (procOf s.dev p.val).dead then
    .next { s with
      dev := onProt p.val (fun u => { ({} : ProtUnit) with gen := w32 (u.gen + 1), fencedGen := u.fencedGen })
        (setProc p.val (procReset p.val) (healWords (scratchBase p.val) 0x8000 s.dev)),
      mem := zeroRange s.mem (scratchBase p.val) 0x8000,
      memTags := zeroTags s.memTags (scratchBase p.val) 0x8000 }
  else .next s

end Sys2Proof.Machine
end

