-- ==== Sys2Proof/Machine/Deliver.lean ====
section
/-! DEFINITION. How a result leaves: completion records and their rings, interrupts, the mailbox answer, an engine's job
slot (R15, R33, R105-R107, R223, R366-R374, R382, R383). -/

set_option linter.unusedVariables false

namespace Sys2Proof.Machine

open Sys2Proof

/-! Functions and slots. -/

/-- A host function as it stands. -/
def fnOf (d : Dev) (fn : Nat) : HostFn := lookD {} d.host.fns fn

/-- Change a host function. -/
def onFn (fn : Nat) (f : HostFn → HostFn) (d : Dev) : Dev :=
  { d with host := { d.host with fns := upd {} d.host.fns fn f } }

/-- A channel slot as it stands. -/
def slotOf (d : Dev) (fn s : Nat) : Slot := lookD {} (fnOf d fn).slots s

/-- Change a channel slot. -/
def onSlot (fn s : Nat) (f : Slot → Slot) (d : Dev) : Dev :=
  onFn fn (fun h => { h with slots := upd {} h.slots s f }) d

/-- The half of a link a function lies on, 2k + half, which is also its physical function's number (R352, R353). -/
def halfOf (d : Dev) (fn : Nat) : Nat :=
  if fn < 4 then fn
  else
    let k := (fn - 4) / 1024
    let n := (fn - 4) % 1024
    if lookD 0 d.host.bifurcated k = 1 ∧ lookD 512 d.host.vfSplit k ≤ n then 2 * k + 1 else 2 * k

/-- The link of a function. -/
def linkOf (d : Dev) (fn : Nat) : Nat := halfOf d fn / 2

/-- The place of a VF among the VFs of its physical function (R352, R354). -/
def vfPlace (d : Dev) (fn : Nat) : Nat :=
  let n := (fn - 4) % 1024
  if halfOf d fn % 2 = 1 then n - lookD 512 d.host.vfSplit ((fn - 4) / 1024) else n

/-- A physical function, or a VF that its physical function has enabled (R378). -/
def fnEnabled (d : Dev) (fn : Nat) : Bool :=
  decide (fn < 4) || (decide (fn < 2052) && decide (vfPlace d fn < lookD 0 d.host.numVfs (halfOf d fn)))

/-- A function may issue DMA and messages: its link is up and no reset of it is in progress (R380). -/
def fnLive (d : Dev) (fn : Nat) : Bool :=
  (lookD {} d.host.links (halfOf d fn)).state == 2 && (fnOf d fn).flr.isNone && fnEnabled d fn

/-- Count a discarded register access (R360, R384). -/
def badAccess (fn n : Nat) (d : Dev) : Dev :=
  bumpBy n (dk (0x3800 + linkOf d fn) 0x13) (onFn fn (fun h => { h with badAccess := w32 (h.badAccess + n) }) d)

/-- Change a channel. -/
def onChan (c : Nat) (f : Chan → Chan) (d : Dev) : Dev :=
  match look d.host.chans c with
  | none => d
  | some ch => { d with host := { d.host with chans := ins d.host.chans c (f ch) } }

/-- The handle of a channel (R361). -/
def chanHandle (c : Nat) (ch : Chan) : Nat := c * 65536 + ch.inc

/-- Entries of a slot's submission and completion rings, and of its buffer and delivery rings (R362). -/
def sqSize (s : Slot) : Nat := 2 ^ fieldOf s.sizes 0 5
def dqSize (s : Slot) : Nat := 2 ^ fieldOf s.sizes 8 5

/-! Interrupts. -/

/-- Send a message of a vector; a masked vector keeps it pending (R383). -/
def sendMsix (fn vec : Nat) (d : Dev) : Dev :=
  if !fnLive d fn then d
  else if (lookD {} (fnOf d fn).vectors vec).masked then
    onFn fn (fun h => { h with vectors := upd {} h.vectors vec (fun v => { v with pending := true }) }) d
  else emit (.msix fn vec) d

/-- COUNT and TIME of a slot (R362); COUNT 0 acts as 1 (R383). -/
def coalCount (s : Slot) : Nat := max 1 (fieldOf s.coal 0 8)
def coalTime (s : Slot) : Nat := us (fieldOf s.coal 16 16)

/-- One more record makes the completion interrupt due (R383). -/
def dueCompletion (fn s : Nat) (d : Dev) : Dev :=
  let sl := slotOf d fn s
  if coalCount sl ≤ sl.cqDue + 1 then
    sendMsix fn (fieldOf sl.vector 0 11) (onSlot fn s (fun x => { x with cqDue := 0 }) d)
  else
    onSlot fn s (fun x => { x with cqDue := x.cqDue + 1, cqSince := if x.cqDue = 0 then d.tb.now else x.cqSince }) d

/-- One more record makes the delivery interrupt due (R383). -/
def dueDelivery (fn s : Nat) (d : Dev) : Dev :=
  let sl := slotOf d fn s
  if coalCount sl ≤ sl.dqDue + 1 then
    sendMsix fn (fieldOf sl.vector 16 11) (onSlot fn s (fun x => { x with dqDue := 0 }) d)
  else
    onSlot fn s (fun x => { x with dqDue := x.dqDue + 1, dqSince := if x.dqDue = 0 then d.tb.now else x.dqSince }) d

/-! Completion records. -/

/-- CRC-32C with its standard parameters (R107). -/
def crc32c (b : Bytes) : Nat := (b.foldl (crcByteR 0x82F63B78) 0xFFFFFFFF) ^^^ 0xFFFFFFFF

/-- What a completion says (R105, R106). -/
structure Done where
  tag : Option Nat
  status : Status
  outlen : Nat := 0
  out : Bytes := []
  nonce : Bytes := []
  untrusted : Bool := false
  ivPrefix : Bool := false

/-- CFLAGS without PHASE and REDELIVERED (R106). -/
def cflagsOf (x : Done) : Nat := b2n x.untrusted + 2 * b2n x.ivPrefix + 8 * b2n x.tag.isNone

/-- The 32 bytes of a completion record (R105). -/
def recordBytes (tag status cflags handle outlen : Nat) (iv : Bytes) (seq : Nat) : Bytes :=
  let b := le 2 tag ++ le 1 status ++ le 1 cflags ++ le 4 handle ++ le 4 outlen ++ padTo 12 iv ++ le 4 seq
  b ++ le 4 (crc32c b)

/-- The record of a completion on a channel. -/
def doneBytes (x : Done) (phase : Bool) (handle seq : Nat) : Bytes :=
  recordBytes (x.tag.getD 0xFFFF) x.status.code (cflagsOf x + 128 * b2n phase) handle x.outlen x.nonce seq

/-- Output bytes cut over the spans they are written to. -/
def spread : List (Nat × Nat) → Bytes → List (Nat × Bytes)
  | [], _ => []
  | (a, n) :: r, b => if b.isEmpty then [] else (a, b.take n) :: spread r (b.drop n)

/-- The spans of a job's output (R100, R102). -/
def outSpans (q : Req) : List (Nat × Nat) :=
  if q.job.outSgl then q.outSgl.map (fun e => (e.addr, e.len)) else [(q.job.outAddr, q.job.outLen)]

/-- The spans of a job's input. -/
def inSpans (q : Req) : List (Nat × Nat) :=
  if q.job.inSgl then q.inSgl.map (fun e => (e.addr, e.len)) else [(q.job.inAddr, q.job.inLen)]

/-- Posted writes of a function, in order. -/
def hostWrites (fn : Nat) (ws : List (Nat × Bytes)) (d : Dev) : Dev :=
  ws.foldl (fun d w => emit (.hostWrite fn w.1 w.2) d) d

/-- Evict retained output, oldest first, until `n` bytes fit (R372). -/
def evictRetained (limit n : Nat) (used : Nat) : List HeldRec → List HeldRec × Nat
  | [] => ([], used)
  | h :: t =>
    if used + n ≤ limit then (h :: t, used)
    else match h.retained with
    | some b =>
      let (t', u) := evictRetained limit n (used - b.length) t
      ({ h with retained := none } :: t', u)
    | none =>
      let (t', u) := evictRetained limit n used t
      (h :: t', u)

/-- Hold a record for redelivery with its output where it is retained: the last 256 of a channel (R372). -/
def holdRec (q : Req) (x : Done) (seq : Nat) (bytes : Bytes) (ch : Chan) : Chan :=
  let keepOut := decide (0 < ch.retainBytes) && !x.untrusted && decide (x.outlen ≤ ch.retainBytes)
  let n := if keepOut then x.out.length else 0
  let (held, used) := if keepOut then evictRetained ch.retainBytes n ch.retainUsed ch.held
    else (ch.held, ch.retainUsed)
  let h : HeldRec := { seq := seq, bytes := bytes, outAddr := q.job.outAddr,
                       outSgl := if q.job.outSgl then q.outSgl else [],
                       retained := if keepOut then some x.out else none }
  let all := held ++ [h]
  let drop := all.length - 256
  let gone := ((all.take drop).map (fun h => match h.retained with | some b => b.length | none => 0)).foldl (· + ·) 0
  { ch with held := all.drop drop, retainUsed := used + n - gone }

/-- Deliver a host job's completion (R367, R371): output, OUT_CTL on a failed authentication, the record in the slot's
own place, the interrupt. While the function is being reset nothing is delivered (R380). -/
def deliverHost (c slot : Nat) (q : Req) (x : Done) (d : Dev) : Dev :=
  match look d.host.chans c with
  | none => d
  | some ch =>
    match ch.kind with
    | .slot fn s =>
      let sl := slotOf d fn s
      let pass := ((sl.busy.find? (fun e => e.1 == slot)).map (fun e => e.2)).getD 0
      let d := onSlot fn s (fun y => { y with busy := y.busy.filter (fun e => !(e.1 == slot)) }) d
      if !fnLive d fn then d
      else
        let seq := ch.nextSeq
        let bytes := doneBytes x (pass % 2 == 0) (chanHandle c ch) seq
        let d := hostWrites fn (spread (outSpans q) x.out) d
        let d := if x.untrusted then emit (.hostWrite fn (q.descAddr + 0x39) [1#8]) d else d
        let d := emit (.hostWrite fn (sl.cqBase + 32 * slot) bytes) d
        let d := onChan c (fun ch => { holdRec q x seq bytes ch with nextSeq := w32 (seq + 1) }) d
        let d := onSlot fn s (fun y => { y with lastSeq := seq }) d
        if q.job.intr then dueCompletion fn s d else d
    | _ => d

/-! The mailbox. -/

/-- Bytes of a mailbox page from an offset. -/
def mboxBytes (h : HostFn) (o n : Nat) : Bytes := (List.range n).map (fun i => BitVec.ofNat 8 (lookD 0 h.mbox (o + i)))

/-- A mailbox page with bytes written from an offset. -/
def mboxPut (o : Nat) (b : Bytes) (m : FMap Nat) : FMap Nat :=
  ((List.range b.length).zip b).foldl (fun m e => put 0 m (o + e.1) e.2.toNat) m

/-- Answer a mailbox request (R374): response fields, then MB_DONE, then vector 0. -/
def answerMailbox (fn : Nat) (st : Status) (resp : Bytes) (d : Dev) : Dev :=
  match (fnOf d fn).mbBusy with
  | none => d
  | some seq =>
    let page := le 4 seq ++ le 1 st.code ++ le 1 0 ++ le 2 resp.length ++ zeros 8 ++ resp
    let d := onFn fn (fun h => { h with mbox := mboxPut 0xFFC (le 4 seq) (mboxPut 0x800 page h.mbox), mbBusy := none,
                                        mbTaken := false, mbDone := seq }) d
    sendMsix fn 0 (emit (.mailbox fn seq st resp) d)

/-- Deliver the completion of a JOB request of ABI v1 (R377): the output's writes, then the record as the response. -/
def deliverMailbox (fn : Nat) (q : Req) (x : Done) (d : Dev) : Dev :=
  match (fnOf d fn).implicitChan with
  | none => d
  | some c =>
    match look d.host.chans c with
    | none => d
    | some ch =>
      if !fnLive d fn then d
      else
        let d := hostWrites fn (spread (outSpans q) x.out) d
        let d := if x.untrusted then onFn fn (fun h => { h with mbox := mboxPut 0x49 [1#8] h.mbox }) d else d
        let bytes := doneBytes x false (chanHandle c ch) ch.nextSeq
        let d := onChan c (fun ch => { ch with nextSeq := w32 (ch.nextSeq + 1) }) d
        answerMailbox fn Status.ok bytes d

/-! Job slots. -/

/-- EV bit 16 + k of a processor is set (R212, R223). -/
def setJobEv (k : Nat) (q : Proc) : Proc := { q with ev := q.ev ||| (1#32 <<< (16 + k)) }

/-- JSTATk of a completion (R223). -/
def jstatOf (x : Done) : BitVec 64 := BitVec.ofNat 64 (x.outlen * 2 ^ 32 + cflagsOf x * 256 + x.status.code)

/-- A JWAIT that stalled on a slot goes on once the slot is no longer busy (R223). -/
def releaseJwait (p : Nat) (d : Dev) : Dev :=
  match (procOf d p).wait with
  | some (.jwait rd k) =>
    if (procOf d p).jstat[k].getLsbD 16 then d else endWait p 4 (consumeSlot rd k) d
  | _ => d

/-- A job slot takes its completion (R221, R223): the pending X register, JSTAT, the event bit; a stalled JWAIT goes
on. -/
def deliverSlot (p k : Nat) (x : Done) (d : Dev) : Dev :=
  if h : k < 8 then
    releaseJwait p <| onProc p (fun q =>
      let js := q.jobs[k]
      let q := match js.xd with
        | none => q
        | some r =>
          if x.status == Status.ok then putX q r (xOfBytes x.out) js.secret
          else putX q r 0#256 (js.secret && !(x.status == Status.squashed))
      let q := { q with jstat := q.jstat.set k (jstatOf x),
                        jobs := q.jobs.set k { js with tag := none, xd := none } }
      setJobEv k q) d
  else d

/-- Write a job's output over its physical spans with its tag (R225, R226). -/
def writeSpans (secret : Bool) (ws : List (Nat × Bytes)) (s : State) : State :=
  ws.foldl (fun s w =>
    { s with mem := writeBytes s.mem w.1 w.2,
             memTags := if w.1 < hbmBase && !untaggedStore w.1 then fillTags s.memTags w.1 w.2.length secret
               else s.memTags }) s

/-- The spans from an offset on. -/
def skipSpans : Nat → List (Nat × Nat) → List (Nat × Nat)
  | _, [] => []
  | o, (a, n) :: r => if n ≤ o then skipSpans (o - n) r else (a + o, n - o) :: r

/-- Deliver a request's completion to where it came from. -/
def deliver (q : Req) (x : Done) (d : Dev) : Dev :=
  match q.src with
  | .host c slot => deliverHost c slot q x d
  | .mailbox fn => deliverMailbox fn q x d
  | .engine p k => deliverSlot p k x d
  | .message .. => d

/-- A request refused at admission (R17, R24, R106): NOTAG, no output; a child tag it drew stands in the reservation again. -/
def refuse (st : Status) (q : Req) (d : Dev) : Dev :=
  let d := match q.parent, q.childTag with
    | some p, some t => undrawTag p t d
    | _, _ => d
  deliver q { tag := none, status := st } (bump (dk 0x8000 2) d)

/-- A child on its way through admission whose parent is squashed: the busy slot completes with SQUASHED (R28, R224), and the
tag the child drew retires (R23). -/
def squashChild (q : Req) (d : Dev) : Dev :=
  let d := deliver q { tag := q.childTag, status := .squashed } d
  match q.parent, q.childTag with
  | some p, some t => settleParent p (fun o => { o with drawn := without o.drawn t }) (giveTags [t] d)
  | _, _ => d

end Sys2Proof.Machine
end

