-- ==== Sys2Proof/Machine/SymFns.lean ====
section
/-! DEFINITION. Service 0x01, the symmetric service: its functions, what admission checks of them, and what each computes
(R97-R99, R108-R114). -/

set_option linter.unusedVariables false

namespace Sys2Proof.Machine

open Sys2Proof

/-- Kinds of function (R97). -/
inductive SymKind where
  | ecb | cbc | ctr | gcm | gmac | cmac | hash | shake | hmac
  deriving DecidableEq, Repr

/-- A function of R97: `gen` encrypts or generates, `tdea` runs in the TDEA unit, `alg` is the hash number of Config. -/
structure SymFn where
  kind : SymKind
  gen : Bool
  tdea : Bool := false
  alg : Nat := 0
  deriving DecidableEq, Repr

/-- The functions of R97 by FUNC. -/
def symFn (f : Nat) : Option SymFn :=
  match f with
  | 0x01 => some { kind := .ecb, gen := true }
  | 0x02 => some { kind := .ecb, gen := false }
  | 0x03 => some { kind := .cbc, gen := true }
  | 0x04 => some { kind := .cbc, gen := false }
  | 0x05 => some { kind := .ctr, gen := true }
  | 0x06 => some { kind := .ctr, gen := false }
  | 0x07 => some { kind := .gcm, gen := true }
  | 0x08 => some { kind := .gcm, gen := false }
  | 0x09 => some { kind := .gmac, gen := true }
  | 0x0A => some { kind := .gmac, gen := false }
  | 0x0B => some { kind := .cmac, gen := true }
  | 0x0C => some { kind := .cmac, gen := false }
  | 0x10 => some { kind := .ecb, gen := true, tdea := true }
  | 0x11 => some { kind := .ecb, gen := false, tdea := true }
  | 0x12 => some { kind := .cbc, gen := true, tdea := true }
  | 0x13 => some { kind := .cbc, gen := false, tdea := true }
  | 0x20 => some { kind := .hash, gen := true, alg := 1 }
  | 0x21 => some { kind := .hash, gen := true, alg := 2 }
  | 0x22 => some { kind := .hash, gen := true, alg := 3 }
  | 0x23 => some { kind := .hash, gen := true, alg := 4 }
  | 0x24 => some { kind := .hash, gen := true, alg := 5 }
  | 0x25 => some { kind := .hash, gen := true, alg := 6 }
  | 0x26 => some { kind := .shake, gen := true, alg := 128 }
  | 0x27 => some { kind := .shake, gen := true, alg := 256 }
  | 0x28 => some { kind := .hmac, gen := true, alg := 1 }
  | 0x29 => some { kind := .hmac, gen := false, alg := 1 }
  | 0x2A => some { kind := .hmac, gen := true, alg := 2 }
  | 0x2B => some { kind := .hmac, gen := false, alg := 2 }
  | 0x2C => some { kind := .hmac, gen := true, alg := 3 }
  | 0x2D => some { kind := .hmac, gen := false, alg := 3 }
  | _ => none

/-- Digest length of a hash number: 1 SHA-256, 2 SHA-384, 3 SHA-512, 4-6 SHA-3, 7 SHA-1. -/
def digestLen (alg : Nat) : Nat :=
  match alg with
  | 1 => 32 | 2 => 48 | 3 => 64 | 4 => 32 | 5 => 48 | 6 => 64 | 7 => 20 | _ => 0

/-- Block size of the function's cipher. -/
def symBlock (f : SymFn) : Nat := if f.tdea then 8 else 16

/-- The USAGE bit a function needs (R97); none for a hash. -/
def symUsage (f : SymFn) : Option Nat :=
  match f.kind with
  | .ecb | .cbc | .ctr | .gcm => some (if f.gen then 0 else 1)
  | .gmac | .cmac | .hmac => some (if f.gen then 2 else 3)
  | .hash | .shake => none

/-- The key TYPEs of a function (R97). -/
def symType (f : SymFn) (t : Nat) : Bool :=
  match f.kind with
  | .hmac => isHmac t
  | .hash | .shake => false
  | _ => if f.tdea then isTdea t else isAes t

/-- A function that takes AAD (R98). -/
def takesAad (f : SymFn) : Bool := f.kind == .gcm || f.kind == .gmac

/-- The received tag at the end of the input (R98). -/
def tagIn (f : SymFn) (j : Job) : Nat :=
  match f.kind with
  | .gcm | .gmac | .cmac | .hmac => if f.gen then 0 else j.taglen
  | _ => 0

/-- Data bytes: the input after the AAD and before a received tag. -/
def symData (f : SymFn) (j : Job) : Nat := j.inLen - j.aadLen - tagIn f j

/-- Output bytes of a function (R97, R109). -/
def symOut (f : SymFn) (j : Job) : Nat :=
  match f.kind with
  | .ecb | .ctr => symData f j
  | .cbc => if f.gen then symBlock f + symData f j else symData f j
  | .gcm => if f.gen then symData f j + j.taglen else symData f j
  | .gmac | .cmac | .hmac => if f.gen then j.taglen else 0
  | .hash => digestLen f.alg
  | .shake => 8 * j.taglen

/-- Tag lengths (R98); for SHAKE the output length (R97). (DESIGN CHOICE: a function without a tag ignores TAGLEN, for which R98
gives it no limit.) -/
def taglenOk (f : SymFn) (j : Job) : Bool :=
  match f.kind with
  | .gcm | .gmac => decide (12 ≤ j.taglen ∧ j.taglen ≤ 16)
  | .cmac => decide (8 ≤ j.taglen ∧ j.taglen ≤ 16)
  | .hmac => decide (16 ≤ j.taglen ∧ j.taglen ≤ digestLen f.alg)
  | .shake => decide (1 ≤ j.taglen)
  | _ => true

/-- Data lengths (R97). -/
def dataLenOk (f : SymFn) (n : Nat) : Bool :=
  match f.kind with
  | .ecb => decide (symBlock f ≤ n ∧ n ≤ 4096 ∧ n % symBlock f = 0)
  | .cbc => decide (symBlock f ≤ n ∧ n ≤ 16777216 ∧ n % symBlock f = 0)
  | .ctr | .cmac => decide (1 ≤ n ∧ n ≤ 16777216)
  | .gmac => n == 0
  | .gcm | .hash | .shake | .hmac => decide (n ≤ 16777216)

/-- AAD lengths (R97, R98). -/
def aadOk (f : SymFn) (n : Nat) : Bool :=
  match f.kind with
  | .gcm => decide (n ≤ 65536)
  | .gmac => decide (1 ≤ n ∧ n ≤ 65536)
  | _ => n == 0

/-- The lengths of R97 and R98, all at check 4. -/
def symLengthOk (f : SymFn) (j : Job) : Bool :=
  taglenOk f j && aadOk f j.aadLen && decide (j.aadLen + tagIn f j ≤ j.inLen) && dataLenOk f (symData f j) &&
    decide (symOut f j ≤ j.outLen)

/-- Bytes of the IV field a function takes: its decryption form (R111). -/
def ivForm (f : SymFn) : Nat :=
  if f.gen then 0 else
  match f.kind with
  | .gcm | .gmac => 12
  | .ctr => 16
  | .cbc => symBlock f
  | _ => 0

/-- A function whose nonzero IV field is refused with POLICY: encryption, GMAC generation, ECB (R110). -/
def ivPolicy (f : SymFn) : Bool :=
  match f.kind with
  | .ecb => true
  | .cbc | .ctr | .gcm | .gmac => f.gen
  | _ => false

/-- A function that draws a nonce (R108). -/
def drawsNonce (f : SymFn) : Bool :=
  match f.kind with
  | .cbc | .ctr | .gcm | .gmac => f.gen
  | _ => false

/-- A byte string is all zero. -/
def allZero (b : Bytes) : Bool := b.all (fun x => x == 0#8)

/-- The form of a symmetric descriptor beyond the common part, at check 3 (R99, R111). -/
def symFormatOk (f : SymFn) (j : Job) : Bool :=
  (match f.kind with
   | .hash | .shake => j.key == 0
   | _ => true) && (ivPolicy f || allZero (j.iv.drop (ivForm f)))

/-- The unit of a cipher core a function runs in (R96). -/
def symUnit (f : SymFn) : CoreUnit :=
  match f.kind with
  | .hash => if 4 ≤ f.alg then .sha3 else .sha2
  | .shake => .sha3
  | .hmac => .sha2
  | _ => if f.tdea then .tdea else .aes

/-! What the functions compute. -/

/-- One block of a cipher by key TYPE: AES for 0x01-0x03, TDEA for 0x04 and 0x05. -/
def blockEnc (t : Nat) (k b : Bytes) : Bytes :=
  if isTdea t then padTo 8 (Config.tdeaEnc k b) else padTo 16 (Config.aesEnc k b)
def blockDec (t : Nat) (k b : Bytes) : Bytes :=
  if isTdea t then padTo 8 (Config.tdeaDec k b) else padTo 16 (Config.aesDec k b)

/-- A byte string in blocks of `n` bytes. -/
def blocksOf (n : Nat) (b : Bytes) : List Bytes := (List.range ((b.length + n - 1) / n)).map (fun i => slice b (n * i) n)

def ecbCrypt (enc : Bool) (t : Nat) (k b : Bytes) : Bytes :=
  ((blocksOf (if isTdea t then 8 else 16) b).map (if enc then blockEnc t k else blockDec t k)).flatten

def cbcEncBlocks (t : Nat) (k iv : Bytes) : List Bytes → List Bytes
  | [] => []
  | b :: r =>
    let c := blockEnc t k (xorBytes iv b)
    c :: cbcEncBlocks t k c r

def cbcDecBlocks (t : Nat) (k iv : Bytes) : List Bytes → List Bytes
  | [] => []
  | c :: r => xorBytes iv (blockDec t k c) :: cbcDecBlocks t k c r

/-- The counter block after `i` increments with m = 32 (R111). -/
def ctrBlock (icb : Bytes) (i : Nat) : Bytes := icb.take 12 ++ be 4 ((beAt icb 12 4 + i) % 2 ^ 32)

def ctrCrypt (k icb b : Bytes) : Bytes :=
  (((List.range ((b.length + 15) / 16)).zip (blocksOf 16 b)).map
    (fun e => xorBytes (padTo 16 (Config.aesEnc k (ctrBlock icb e.1))) e.2)).flatten

/-- The 96-bit nonce of a counter value (R108). -/
def nonceOf (core idx ctr : Nat) : Bytes := be 4 (core * 2 ^ 26 + idx) ++ be 8 ctr

/-- The tag or MAC a function computes over AAD and data, cut to `n` bytes. -/
def symMac (f : SymFn) (k iv aad data : Bytes) (n : Nat) : Bytes :=
  match f.kind with
  | .gcm | .gmac => padTo n (padTo 16 (Config.gcmTag k iv aad data))
  | .cmac => padTo n (padTo 16 (Config.cmac k data))
  | .hmac => padTo n (padTo (digestLen f.alg) (Config.hmac f.alg k data))
  | _ => []

/-- The result of a symmetric job on its input (R97, R109, R113, R114): `nonce` is the value drawn, if any. -/
def symRun (f : SymFn) (j : Job) (t : Nat) (k nonce input : Bytes) : Done :=
  let aad := input.take j.aadLen
  let data := slice input j.aadLen (symData f j)
  let tag := (input.drop (j.aadLen + symData f j)).take (tagIn f j)
  let iv := if f.gen then nonce else j.iv.take 12
  let done := fun (out : Bytes) => ({ tag := none, status := .ok, outlen := out.length, out := out, nonce := nonce } : Done)
  match f.kind with
  | .ecb => done (ecbCrypt f.gen t k data)
  | .cbc =>
    if f.gen then
      let iv := if f.tdea then blockEnc t k (slice nonce 4 8) else blockEnc t k (nonce ++ zeros 4)
      { done (iv ++ (cbcEncBlocks t k iv (blocksOf (symBlock f) data)).flatten) with ivPrefix := true }
    else done (cbcDecBlocks t k (j.iv.take (symBlock f)) (blocksOf (symBlock f) data)).flatten
  | .ctr => done (ctrCrypt k (if f.gen then nonce ++ be 4 1 else j.iv) data)
  | .gcm =>
    if f.gen then
      let c := padTo data.length (Config.gcmCrypt k iv data)
      done (c ++ symMac f k iv aad c j.taglen)
    else
      let p := padTo data.length (Config.gcmCrypt k iv data)
      if symMac f k iv aad data j.taglen == tag then done p
      else { done (if j.zeroOnFail then zeros p.length else p) with status := .authFail, untrusted := true }
  | .gmac | .cmac | .hmac =>
    if f.gen then done (symMac f k iv aad data j.taglen)
    else if symMac f k iv aad data j.taglen == tag then done []
    else { done [] with status := .authFail }
  | .hash => done (padTo (digestLen f.alg) (Config.hash f.alg data))
  | .shake => done (padTo (8 * j.taglen) (Config.shake f.alg data (8 * j.taglen)))

end Sys2Proof.Machine
end

