-- ==== Sys2Proof/Machine/PayFns.lean ====
section
/-! DEFINITION. Service 0x02, payment functions: what admission checks of each and what each computes (R129-R157). -/

set_option linter.unusedVariables false

namespace Sys2Proof.Machine

open Sys2Proof

/-- The functions of R129. -/
def isPayFn (f : Nat) : Bool := has [0x01, 0x02, 0x10, 0x20, 0x21, 0x22, 0x30, 0x31, 0x40, 0x41, 0x50, 0x51] f

def isPinFn (f : Nat) : Bool := f == 0x01 || f == 0x02
def isMacFn (f : Nat) : Bool := f == 0x20 || f == 0x21 || f == 0x22

/-- MODE fields (R130): DUKPT, DK_TYPE, options. -/
def isDukpt (j : Job) : Bool := bitOf j.mode 15
def dkType (j : Job) : Nat := fieldOf j.mode 12 3
def payOpt (j : Job) : Nat := fieldOf j.mode 0 12

/-- The key TYPE a DK_TYPE stands for (R145). -/
def dkKeyType (n : Nat) : Nat := n + 1

/-- KSN bytes at the start of the input (R144). -/
def ksnLen (j : Job) : Nat := if isDukpt j then 12 else 0

/-- PIN block formats (R137): known, block size, uses a PAN field, key TYPE. -/
def fmtKnown (f : Nat) : Bool := has [0, 1, 3, 4] f
def fmtLen (f : Nat) : Nat := if f = 4 then 16 else 8
def fmtPan (f : Nat) : Bool := !(f == 1)
def fmtType (f t : Nat) : Bool := if f = 4 then isAes t else isTdea t

/-- Blocks before the PAN in the input of a PIN function (R138). -/
def pinBlocks (j : Job) : Nat := ksnLen j + fmtLen j.fmtIn + if j.func = 0x02 then fmtLen j.fmtOut else 0

/-- MAC parameters: algorithm, padding, length (R147, R148). -/
def macIn (j : Job) : Nat × Nat × Nat := (fieldOf j.mode 0 4, fieldOf j.mode 4 4, j.taglen)
def macOut (j : Job) : Nat × Nat × Nat := (fieldOf (j.argByte 0) 0 4, fieldOf (j.argByte 0) 4 4, j.argByte 1)

/-- Algorithm and padding stand in a row of R147. -/
def macRow (alg pad : Nat) : Bool := ((alg == 1 || alg == 3) && decide (1 ≤ pad ∧ pad ≤ 3)) || (alg == 6 && pad == 0)

/-- Lengths of all rows of an algorithm together (R147). -/
def macLenAny (alg n : Nat) : Bool :=
  if alg = 1 then decide (4 ≤ n ∧ n ≤ 16) else if alg = 3 then decide (4 ≤ n ∧ n ≤ 8) else decide (8 ≤ n ∧ n ≤ 16)

/-- The row of R147 for a key TYPE. -/
def macTypeOk (alg n t : Nat) : Bool :=
  if alg = 1 then (isTdea t && decide (n ≤ 8)) || (isAes t && decide (8 ≤ n))
  else if alg = 3 then t == 4
  else isAes t

/-- EMV options of MODE (R149). -/
def emvMkd (j : Job) : Nat := fieldOf j.mode 0 2
def emvSession (j : Job) : Nat := fieldOf j.mode 2 2
def emvPad (j : Job) : Nat := fieldOf j.mode 4 2
def emvArpc (j : Job) : Nat := fieldOf j.mode 6 2
def emvArpcKey (j : Job) : Bool := bitOf j.mode 8

def emvModeOk (j : Job) : Bool :=
  fieldOf j.mode 9 3 == 0 && decide (emvMkd j ≤ 2) && decide (emvSession j ≤ 1) &&
    (if emvMkd j = 2 then emvPad j == 0 else emvPad j == 1 || emvPad j == 2) &&
    (if j.func = 0x30 then emvArpc j == 0 else emvArpc j == 1 || emvArpc j == 2) &&
    (emvArpc j == 1 || !emvArpcKey j)

/-- The EMV block's fields (R150): `n` is PAN_LEN. (DESIGN CHOICE: PAN_LEN outside 12-19 and RESP_LEN outside its values are
FORMAT, as fields of the EMV block; R132 gives LENGTH_ERROR for a length outside its limit.) -/
def emvBlockOk (j : Job) (b : Bytes) : Bool :=
  let n := leAt b 0 1
  let digits := nibbles (slice b 4 10)
  let r := leAt b 0x0E 1
  decide (12 ≤ n ∧ n ≤ 19) && (digits.take n).all (fun x => decide (x < 10)) && (digits.drop n).all (fun x => x == 15) &&
    (if j.func = 0x30 then r == 0 else if emvArpc j = 1 then r == 2 else decide (4 ≤ r ∧ r ≤ 12)) &&
    allZero (slice b 0x0F 1) && allZero (slice b 0x24 4) && allZero ((slice b 0x18 12).drop r)

/-- FF1 parameters (R152). -/
def ffRadix (j : Job) : Nat := leAt j.iv 8 2
def ffTweak (j : Job) : Nat := leAt j.iv 10 2
/-- The least n with radix^n at least 1,000,000 (R152). -/
def minLen (radix : Nat) : Nat := (firstBelow 21 (fun n => decide (1000000 ≤ radix ^ n))).getD 20

/-! X9.143 headers. -/

/-- An ASCII character. -/
def chr (b : Bytes) (i : Nat) : Nat := leAt b i 1
def isDigit (c : Nat) : Bool := decide (0x30 ≤ c ∧ c ≤ 0x39)
def digitVal (c : Nat) : Nat := c - 0x30
def isHex (c : Nat) : Bool := isDigit c || decide (0x41 ≤ c ∧ c ≤ 0x46)
def hexVal (c : Nat) : Nat := if isDigit c then c - 0x30 else c - 0x37
/-- A decimal number in ASCII. -/
def decAt (b : Bytes) (o n : Nat) : Nat := (slice b o n).foldl (fun acc c => acc * 10 + digitVal c.toNat) 0
/-- Bytes spelled in ASCII hexadecimal. -/
def unhex (b : Bytes) : Bytes := packNibbles (b.map (fun c => hexVal c.toNat))
def hexDigit (n : Nat) : Byte := BitVec.ofNat 8 (if n < 10 then 0x30 + n else 0x37 + n)
def toHex (b : Bytes) : Bytes := (nibbles b).map hexDigit
/-- A decimal number of `n` ASCII digits. -/
def toDec : Nat → Nat → Bytes
  | 0, _ => []
  | n + 1, v => toDec n (v / 10) ++ [BitVec.ofNat 8 (0x30 + v % 10)]

/-- Key usage codes of R155: code, class, algorithms (A, T, H), modes with their USAGE. -/
structure X9Usage where
  code : Nat
  cls : Nat
  algs : List Nat
  modes : List (Nat × Nat)

/-- Two ASCII characters as a code. -/
def code2 (a b : Nat) : Nat := a * 256 + b

def x9Usages : List X9Usage :=
  let aes := 0x41
  let tdea := 0x54
  let mac := [(0x47, 0x4), (0x56, 0x8), (0x43, 0xC)]
  let kek := [(0x45, 0x10), (0x44, 0x20), (0x42, 0x30)]
  [{ code := code2 0x42 0x30, cls := 3, algs := [aes], modes := [(0x58, 0x40)] },
   { code := code2 0x42 0x31, cls := 3, algs := [aes], modes := [(0x58, 0x40)] },
   { code := code2 0x44 0x30, cls := 0, algs := [aes, tdea], modes := [(0x45, 1), (0x44, 2), (0x42, 3)] },
   { code := code2 0x45 0x30, cls := 4, algs := [aes, tdea], modes := [(0x58, 0x2000)] },
   { code := code2 0x4B 0x30, cls := 0, algs := [aes, tdea], modes := kek },
   { code := code2 0x4B 0x31, cls := 0, algs := [aes, tdea], modes := kek },
   { code := code2 0x4D 0x31, cls := 0, algs := [aes, tdea], modes := mac },
   { code := code2 0x4D 0x33, cls := 0, algs := [tdea], modes := mac },
   { code := code2 0x4D 0x36, cls := 0, algs := [aes], modes := mac },
   { code := code2 0x4D 0x37, cls := 0, algs := [0x48], modes := mac },
   { code := code2 0x50 0x30, cls := 4, algs := [aes, tdea], modes := [(0x45, 0x800), (0x44, 0x400), (0x42, 0xC00)] },
   { code := code2 0x56 0x30, cls := 4, algs := [aes, tdea], modes := [(0x56, 0x1000), (0x43, 0x1000)] }]

def x9Usage (code : Nat) : Option X9Usage := x9Usages.find? (fun u => u.code == code)

/-- EXPORT an exportability stands for (R155). -/
def x9Export (c : Nat) : Option Nat := if c = 0x4E then some 0 else if c = 0x45 then some 1 else if c = 0x53 then some 2 else none

/-- The optional blocks of a key block: identifiers and data, none where their syntax fails (R156). -/
def x9Opts : Nat → Bytes → Option (List (Nat × Bytes) × Bytes)
  | 0, b => some ([], b)
  | n + 1, b =>
    let l := hexVal (chr b 2) * 16 + hexVal (chr b 3)
    if !isHex (chr b 2) || !isHex (chr b 3) || decide (l < 4) || decide (b.length < l) then none
    else match x9Opts n (b.drop l) with
      | none => none
      | some (os, r) => some ((code2 (chr b 0) (chr b 1), slice b 4 (l - 4)) :: os, r)

/-- What a key block's header says (R154-R156). -/
structure X9Block where
  version : Nat
  usage : Nat
  alg : Nat
  mode : Nat
  exportability : Nat
  opts : List (Nat × Bytes)
  header : Bytes
  cipher : Bytes
  mac : Bytes

/-- MAC bytes of a version: 'D' 16, 'B' 8, 'A' and 'C' 4; and the bytes of a block of its cipher (PRESUMED: X9.143). -/
def x9MacLen (v : Nat) : Nat := if v = 0x44 then 16 else if v = 0x42 then 8 else 4
def x9CipherLen (v : Nat) : Nat := if v = 0x44 then 16 else 8

/-- Parse a key block; none where the header syntax, the length field or an optional block fails (R156). -/
def x9Parse (b : Bytes) : Option X9Block :=
  let v := chr b 0
  let n := decAt b 12 2
  if b.length < 16 || !has [0x41, 0x42, 0x43, 0x44] v || !(((slice b 1 4) ++ (slice b 12 2)).all (fun c => isDigit c.toNat)) ||
      !(decAt b 1 4 == b.length) || !(slice b 14 2 == [0x30#8, 0x30#8]) || decide (8 < n) then none
  else match x9Opts n (b.drop 16) with
    | none => none
    | some (os, r) =>
      let m := 2 * x9MacLen v
      if !(os.all (fun o => has [code2 0x4B 0x53, code2 0x4B 0x50, code2 0x50 0x42, code2 0x54 0x53] o.1)) ||
          !(r.all (fun c => isHex c.toNat)) || decide (r.length ≤ m) ||
          !((r.length - m) % (2 * x9CipherLen v) == 0) then none
      else some { version := v, usage := code2 (chr b 5) (chr b 6), alg := chr b 7, mode := chr b 8,
                  exportability := chr b 11, opts := os, header := b.take (b.length - r.length),
                  cipher := unhex (r.take (r.length - m)), mac := unhex (r.drop (r.length - m)) }

/-- Strength by TYPE, strongest last (R145, R156). -/
def strength (t : Nat) : Nat :=
  if t = 3 then 5 else if t = 2 then 4 else if t = 1 then 3 else if t = 5 then 2 else if t = 4 then 1 else 0

/-- A key of TYPE and length may be protected under a KBPK TYPE (R156). -/
def kbpkStrong (kt t n : Nat) : Bool :=
  if isHmac t then isAes kt && decide (min n 32 ≤ symLen kt) else decide (strength t ≤ strength kt)

/-- The TYPE of an algorithm code and key length. -/
def x9Type (alg n : Nat) : Option Nat :=
  if alg = 0x41 then (if n = 16 then some 1 else if n = 24 then some 2 else if n = 32 then some 3 else none)
  else if alg = 0x54 then (if n = 16 then some 4 else if n = 24 then some 5 else none)
  else if alg = 0x48 then (if 16 ≤ n ∧ n ≤ 128 then some 6 else none)
  else none

/-- Bytes of an enciphered key of `n` bytes: its two length bytes, and padding to the cipher's block (R157; PRESUMED: X9.143). -/
def x9Body (v n : Nat) : Nat := (2 + n + x9CipherLen v - 1) / x9CipherLen v * x9CipherLen v

/-- Characters of the block that export writes: header, KP block with its padding, enciphered key, MAC (R157). -/
def x9Size (v n : Nat) : Nat := 32 + 2 * x9Body v n + 2 * x9MacLen v

/-- The key in a block, where the block's MAC verifies (R156 steps 3 and 4). -/
def x9Open (kbpk : KeyRec) (x : X9Block) : Option Bytes :=
  if padTo x.mac.length (Config.x9Mac kbpk.material (x.header ++ x.cipher)) == x.mac then
    Config.x9Unwrap kbpk.material (x.header ++ x.cipher ++ x.mac)
  else none

/-- The mode of use that a key's USAGE gives under a usage code (R157). -/
def x9Mode (u : X9Usage) (usage : Nat) : Option Nat := (u.modes.find? (fun m => m.2 == usage)).map (fun m => m.1)

def x9Alg (t : Nat) : Nat := if isAes t then 0x41 else if isTdea t then 0x54 else 0x48

/-! Checks 3 and 4. -/

/-- The PAN at the end of a PIN function's input. -/
def panOf (j : Job) (b : Bytes) : Bytes := b.drop (pinBlocks j)

/-- The transaction counter of a KSN is not zero and has at most 16 bits set (R144). -/
def ksnOk (b : Bytes) : Bool :=
  let c := beAt b 8 4
  !(c == 0) && decide (((List.range 32).filter (bitOf c)).length ≤ 16)

/-- Fields a payment function does not use are zero; codes are defined (R130, R144, R145, R147, R149). (DESIGN CHOICE: TAGLEN
is none of the fields of R130, so that its value is ignored where a function has no use for it.) -/
def payFieldsOk (j : Job) : Bool :=
  let two := isPinFn j.func || j.func == 0x22 || j.func == 0x51
  (two || j.key2 == 0) &&
  (if isPinFn j.func then fmtKnown j.fmtIn && fmtKnown j.fmtOut else j.fmtIn == 0 && j.fmtOut == 0) &&
  (if isDukpt j then (isPinFn j.func || isMacFn j.func) && decide (dkType j ≤ 4) else dkType j == 0) &&
  (if isMacFn j.func then
     macRow (macIn j).1 (macIn j).2.1 && fieldOf j.mode 8 3 == 0 && (isDukpt j || !bitOf j.mode 11)
   else if j.func = 0x30 ∨ j.func = 0x31 then emvModeOk j
   else payOpt j == 0) &&
  (if j.func = 0x22 then macRow (macOut j).1 (macOut j).2.1 && leAt j.iv 10 6 == 0
   else if j.func = 0x40 ∨ j.func = 0x41 then leAt j.iv 12 4 == 0
   else if j.func = 0x51 then leAt j.iv 13 3 == 0
   else j.arg == 0)

/-- Check 3 of a payment function on its descriptor and input (R130, R132). -/
def payFormatOk (j : Job) (b : Bytes) : Bool :=
  isPayFn j.func && payFieldsOk j && (!isDukpt j || decide (b.length < 12) || ksnOk b) &&
  (if isPinFn j.func then (panOf j b).all (fun c => isDigit c.toNat)
   else if j.func = 0x30 ∨ j.func = 0x31 then decide (b.length < 40) || emvBlockOk j b
   else if j.func = 0x40 ∨ j.func = 0x41 then
     decide (2 ≤ ffRadix j ∧ ffRadix j ≤ 256) && (b.drop (ffTweak j)).all (fun x => decide (x.toNat < ffRadix j))
   else if j.func = 0x50 then
     match x9Parse b with
     | none => false
     | some x => (x9Usage x.usage).isSome && has [0x41, 0x54, 0x48] x.alg && (x9Export x.exportability).isSome
   else if j.func = 0x51 then (x9Usage (code2 (j.argByte 0) (j.argByte 1))).isSome && (x9Export (j.argByte 2)).isSome
   else true)

/-- Output of a payment function where its size is known without the key (R129, R132). -/
def payOut (j : Job) : Nat :=
  if j.func = 0x01 then fmtLen j.fmtOut
  else if j.func = 0x10 ∨ j.func = 0x50 then 4
  else if j.func = 0x20 then j.taglen
  else if j.func = 0x22 then (macOut j).2.2
  else if j.func = 0x31 then (if emvArpc j = 1 then 8 else 4)
  else if j.func = 0x40 ∨ j.func = 0x41 then j.inLen - ffTweak j
  else 0

/-- Check 4 of a payment function (R132, R138, R147, R150, R152); `expKey` is the length of the key FUNC 0x51 names and
its KBPK's TYPE, where they resolve. -/
def payLengthOk (j : Job) (expKey : Option (Nat × Nat)) : Bool :=
  j.aadLen == 0 && decide (payOut j ≤ j.outLen) &&
  (if isPinFn j.func then
     let pan := j.inLen - pinBlocks j
     decide (pinBlocks j ≤ j.inLen) &&
       (if fmtPan j.fmtIn || fmtPan j.fmtOut then decide (12 ≤ pan ∧ pan ≤ 19) else pan == 0)
   else if isMacFn j.func then
     let n := j.inLen - ksnLen j - (if j.func = 0x20 then 0 else j.taglen)
     macLenAny (macIn j).1 j.taglen && (!(j.func == 0x22) || macLenAny (macOut j).1 (macOut j).2.2) &&
       decide (ksnLen j + (if j.func = 0x20 then 0 else j.taglen) ≤ j.inLen) && decide (1 ≤ n ∧ n ≤ 1048576)
   else if j.func = 0x10 then j.inLen == 8
   else if j.func = 0x30 ∨ j.func = 0x31 then decide (41 ≤ j.inLen ∧ j.inLen ≤ 40 + 256)
   else if j.func = 0x40 ∨ j.func = 0x41 then
     let n := j.inLen - ffTweak j
     decide (ffTweak j ≤ 64 ∧ ffTweak j ≤ j.inLen) && decide (minLen (ffRadix j) ≤ n ∧ n ≤ 256)
   else if j.func = 0x51 then
     j.inLen == 0 &&
       (match expKey with
        | none => true
        | some (n, kt) => decide (x9Size (if isAes kt then 0x44 else 0x42) n ≤ j.outLen))
   else true)

/-- The input length admission reads before it checks lengths; a longer input fails them. -/
def payReads (j : Job) : Bool := !(j.func == 0x51)

/-! Checks 9 and 10. -/

/-- Whether a key serves KEY of a payment function (R129, R133, R144, R145, R147, R149, R154). -/
def payKeyOk (j : Job) (b : Bytes) (k : KeyRec) : Bool :=
  let wt := dkKeyType (dkType j)
  if isDukpt j then
    k.cls == 3 && isAes k.typ && bitOf k.usage 6 && decide (strength wt ≤ strength k.typ) &&
      (if isPinFn j.func then fmtType j.fmtIn wt else macTypeOk (macIn j).1 j.taglen wt)
  else if isPinFn j.func then k.cls == 4 && fmtType j.fmtIn k.typ && bitOf k.usage 10
  else if j.func = 0x10 then k.cls == 3 && isAes k.typ && bitOf k.usage 6
  else if j.func = 0x20 then k.cls == 0 && bitOf k.usage 2 && macTypeOk (macIn j).1 j.taglen k.typ
  else if j.func = 0x21 ∨ j.func = 0x22 then k.cls == 0 && bitOf k.usage 3 && macTypeOk (macIn j).1 j.taglen k.typ
  else if j.func = 0x30 ∨ j.func = 0x31 then
    k.cls == 4 && bitOf k.usage 13 && (if emvMkd j = 2 then isAes k.typ else k.typ == 4)
  else if j.func = 0x40 ∨ j.func = 0x41 then k.cls == 0 && isAes k.typ && bitOf k.usage 14
  else if j.func = 0x50 then
    k.cls == 0 && bitOf k.usage 5 &&
      (match x9Parse b with
       | some x => if x.version = 0x42 then isTdea k.typ else if x.version = 0x44 then isAes k.typ
         else isAes k.typ || isTdea k.typ
       | none => false)
  else has [0, 3, 4] k.cls && (isAes k.typ || isTdea k.typ || isHmac k.typ)

/-- Whether a key serves KEY2 of a payment function. -/
def payKey2Ok (j : Job) (k : KeyRec) : Bool :=
  if j.func = 0x01 then k.cls == 4 && fmtType j.fmtOut k.typ && bitOf k.usage 11
  else if j.func = 0x02 then k.cls == 4 && fmtType j.fmtOut k.typ && bitOf k.usage 12
  else if j.func = 0x22 then k.cls == 0 && bitOf k.usage 2 && macTypeOk (macOut j).1 (macOut j).2.2 k.typ
  else k.cls == 0 && bitOf k.usage 4 && (isAes k.typ || isTdea k.typ)

/-- The payment policy of a domain (0x2310, R160). -/
def payPolicy (d : Dev) (dom : Nat) : Nat := numOf 0 d (dk 0x2310 0 + dom)

/-- Translations of R140; `open4` is bit 0 of the domain's payment policy. -/
def translationOk (src dst : Nat) (open4 : Bool) : Bool :=
  if dst = 1 then src == 1
  else if src = 4 then dst == 4 || open4
  else true

/-- The key a key block import creates, as its header and length give it. -/
def x9NewKey (x : X9Block) (typ : Nat) (material : Bytes) : Option NewKey :=
  match x9Usage x.usage, x9Export x.exportability with
  | some u, some e =>
    match u.modes.find? (fun m => m.1 == x.mode) with
    | none => none
    | some m =>
      if has u.algs x.alg then
        some { typ := typ, cls := u.cls, usage := m.2, exportPol := e, dual := false, volatileKey := false,
               counted := false, uses := 0, clearOrigin := false, material := material, event := 0x0201,
               extra := (x.opts.filter (fun o => o.1 == code2 0x54 0x53)).map (fun o => (o.2.length, leVal o.2)) }
      else none
  | _, _ => none

/-- The initial key of FUNC 0x10 under a BDK (R146). -/
def initialKey (bdk : KeyRec) (material : Bytes) : NewKey :=
  { typ := bdk.typ, cls := 3, usage := 0x40, exportPol := min bdk.exportPol 1, dual := false, volatileKey := false,
    counted := false, uses := 0, clearOrigin := false, material := material }

/-- A creation's POLICY conditions, found at admission (R65, R135, R136). -/
def createPolicyOk (d : Dev) (parent : KeyRec) (n : NewKey) : Bool :=
  !(newKeyStatus d parent n == .policy)

/-- Check 10 of a payment function (R140, R143, R154-R157). An imported key's strength and attributes are those of the key that
the block holds, where its MAC verifies (DEDUCED: R156 puts their checks at admission, and the header does not give the key's
length). (DESIGN CHOICES: a recognised usage code with an algorithm that its row does not list is POLICY, like an unlisted mode
of use (R155); a key of EXPORT 1 leaves in a block under either kind of KBPK, though R60 speaks of an AES one.) -/
def payPolicyOk (d : Dev) (j : Job) (b : Bytes) (idx1 : Nat) (k1 : KeyRec) (k2 : Option KeyRec) : Bool :=
  let pol := payPolicy d k1.domain
  (match k2 with | some k => k.domain == k1.domain | none => true) &&
  (if isPinFn j.func then
     (match look d.pool.pinSuspended idx1 with | some till => decide (till ≤ d.tb.now) | none => true) &&
       (if j.func = 0x01 then
          translationOk j.fmtIn j.fmtOut (bitOf pol 0) && !(j.key == j.key2 && j.fmtIn == j.fmtOut)
        else true)
   else if j.func = 0x10 then createPolicyOk d k1 (initialKey k1 (zeros (symLen k1.typ)))
   else if j.func = 0x50 then
     match x9Parse b with
     | none => false
     | some x =>
       (x.version == 0x44 || (x.version == 0x42 && bitOf pol 1)) &&
         (x9Usage x.usage).any (fun u => has u.algs x.alg && u.modes.any (fun m => m.1 == x.mode)) &&
         (match x9Open k1 x with
          | none => true
          | some key => match x9Type x.alg key.length with
            | none => true
            | some t => kbpkStrong k1.typ t key.length &&
              (match x9NewKey x t key with
               | none => false
               | some nk => createPolicyOk d k1 nk))
   else if j.func = 0x51 then
     let e := (x9Export (j.argByte 2)).getD 3
     !(k1.exportPol == 0) && decide (e ≤ k1.exportPol) && !(k1.usage == 0) &&
       (match x9Usage (code2 (j.argByte 0) (j.argByte 1)), k2 with
        | some u, some kb =>
          u.cls == k1.cls && has u.algs (x9Alg k1.typ) && (x9Mode u k1.usage).isSome &&
            kbpkStrong kb.typ k1.typ k1.material.length && (isAes kb.typ || bitOf pol 1)
        | _, _ => false)
   else true)

/-- The unit of a key TYPE. -/
def cipherUnit (t : Nat) : CoreUnit := if isTdea t then .tdea else .aes

/-- Consecutive steps in one unit are one stay there (R134). -/
def stays : List CoreUnit → List CoreUnit
  | [] => []
  | [u] => [u]
  | u :: v :: r => if u = v then stays (v :: r) else u :: stays (v :: r)

/-- The units that the steps of a payment job use, in order (R134, R145, R149): the derivation of a DUKPT key, the source side,
the target side; the SHA-1 step of Option B; a key block under its KBPK. -/
def paySteps (j : Job) (k1 : KeyRec) (k2 : Option KeyRec) (b : Bytes) : List CoreUnit :=
  let t1 := if isDukpt j then dkKeyType (dkType j) else k1.typ
  let dk := if isDukpt j then [CoreUnit.aes] else []
  let second := (k2.map (fun k => cipherUnit k.typ)).toList
  stays (
    if isPinFn j.func || j.func == 0x22 then dk ++ [cipherUnit t1] ++ second
    else if isMacFn j.func then dk ++ [cipherUnit t1]
    else if j.func = 0x30 ∨ j.func = 0x31 then
      (if emvMkd j = 1 ∧ 16 < leAt b 0 1 then [.sha2] else []) ++ [cipherUnit k1.typ]
    else if j.func = 0x51 then second
    else [cipherUnit k1.typ])

/-! What the functions compute. -/

/-- The PAN field of formats 0 and 3, as 16 nibbles (R137). -/
def panField (pan : List Nat) : List Nat :=
  let d := pan.dropLast
  let r := d.drop (d.length - 12)
  List.replicate (16 - r.length) 0 ++ r

/-- The PAN field of format 4, as 32 nibbles (R137). -/
def panField4 (pan : List Nat) : List Nat :=
  let n := (pan.length - 12) :: pan
  n ++ List.replicate (32 - n.length) 0

/-- XOR of two nibble lists. -/
def xorNib (a b : List Nat) : List Nat := List.zipWith Nat.xor a b

/-- Decipher a PIN block to its plaintext nibbles (R137). -/
def pinOpen (fmt : Nat) (t : Nat) (key : Bytes) (block : Bytes) (pan : List Nat) : List Nat :=
  if fmt = 4 then
    nibbles (blockDec t key (packNibbles (xorNib (nibbles (blockDec t key block)) (panField4 pan))))
  else
    let p := nibbles (blockDec t key block)
    if fmt = 1 then p else xorNib p (panField pan)

/-- The checks of R139; a block that passes gives the PIN's digits. -/
def pinCheck (fmt : Nat) (p : List Nat) : Option (List Nat) :=
  let n := nth 0 p 1
  let pin := (p.drop 2).take n
  let fill := (p.drop (2 + n)).take (14 - n)
  if nth 0 p 0 == fmt && decide (4 ≤ n ∧ n ≤ 12) && pin.all (fun x => decide (x < 10)) &&
      (if fmt = 0 then fill.all (fun x => x == 15)
       else if fmt = 3 then fill.all (fun x => decide (10 ≤ x))
       else if fmt = 4 then fill.all (fun x => x == 10) else true)
  then some pin else none

/-- Whether a target format draws random fill (R141). -/
def needsFill (fmt : Nat) : Bool := !(fmt == 0)

/-- Encipher a PIN in a format with random bytes (R137, R141). -/
def pinSeal (fmt t : Nat) (key : Bytes) (pin pan : List Nat) (rnd : Bytes) : Bytes :=
  let r := nibbles rnd
  let head := [fmt, pin.length] ++ pin
  if fmt = 4 then
    let p := head ++ List.replicate (16 - head.length) 10 ++ (List.range 16).map (fun i => nth 0 r i)
    let a := blockEnc t key (packNibbles p)
    blockEnc t key (packNibbles (xorNib (nibbles a) (panField4 pan)))
  else
    let fill := (List.range (16 - head.length)).map (fun i =>
      if fmt = 0 then 15 else if fmt = 3 then 10 + nth 0 r i % 6 else nth 0 r i)
    let p := head ++ fill
    blockEnc t key (packNibbles (if fmt = 1 then p else xorNib p (panField pan)))

/-- The working key of a DUKPT job (R145): usage code 0 PIN encryption, 1 MAC generation, 2 MAC verification, 3 both. -/
def workingKey (j : Job) (bdk ksn : Bytes) : Bytes :=
  let usage := if isPinFn j.func then 0 else if bitOf j.mode 11 then 3 else if j.func = 0x20 then 1 else 2
  padTo (symLen (dkKeyType (dkType j)))
    (Config.dukptWorking (Config.dukptInitial bdk (ksn.take 8)) (beAt ksn 8 4) usage (dkType j))

/-- A MAC of R147 under a key of TYPE `t`. -/
def payMac (t alg pad n : Nat) (key data : Bytes) : Bytes :=
  if alg = 6 then padTo n (padTo 16 (Config.cmac key data)) else padTo n (Config.isoMac t alg pad key data)

/-- What a payment job ends with: a completion, a key to create under KEY whose handle is the output, or no data from
the DRBG. -/
inductive PayRes where
  | done (x : Done)
  | create (n : NewKey)
  | noRandom
  | structFail

/-- A completion with output, and one without. -/
def okOut (b : Bytes) : PayRes := .done { tag := none, status := .ok, outlen := b.length, out := b }
def authFailed : PayRes := .done { tag := none, status := .authFail }

/-- The EMV cryptogram check and ARPC (R151). (DESIGN CHOICES: the MAC of Method 2 takes the padding that PAD names, as the
cryptogram does; with SESSION 0 the ICC master key stands for the session key that Method 2 and ARPC_KEY = 1 name.) -/
def emvRun (j : Job) (k : KeyRec) (b : Bytes) : PayRes :=
  let digits := (nibbles (slice b 4 10)).take (leAt b 0 1)
  let method := if emvMkd j = 1 ∧ digits.length ≤ 16 then 0 else emvMkd j
  let mk := padTo (symLen k.typ) (Config.emvMaster method k.material digits (slice b 1 1))
  let sk := if emvSession j = 1 then padTo (symLen k.typ) (Config.emvSession k.typ mk (slice b 2 2)) else mk
  let data := b.drop 40
  let mac := fun (x : Bytes) =>
    if isAes k.typ then padTo 8 (padTo 16 (Config.cmac sk x)) else padTo 8 (Config.isoMac k.typ 3 (emvPad j) sk x)
  let arqc := slice b 0x10 8
  let resp := (slice b 0x18 12).take (leAt b 0x0E 1)
  if !(mac data == arqc) then authFailed
  else if j.func = 0x30 then okOut []
  else if emvArpc j = 1 then
    let key := if emvArpcKey j then sk else mk
    let x := xorBytes arqc (padTo 8 resp)
    okOut (if isTdea k.typ then blockEnc k.typ key x else (blockEnc k.typ key (padTo 16 x)).take 8)
  else okOut ((mac (arqc ++ resp)).take 4)

/-- The data of a KP block: two characters for the method, then the leading bytes of the key check value (R156). -/
def kpOk (kbpk : KeyRec) (key data : Bytes) : Bool :=
  let want := unhex (data.drop 2)
  let got := Config.x9Kcv (hexVal (chr data 0) * 16 + hexVal (chr data 1)) kbpk.material key
  !want.isEmpty && want == padTo want.length got

/-- Key block import after admission (R156 steps 3 to 5). -/
def x9Import (kbpk : KeyRec) (b : Bytes) : PayRes :=
  match x9Parse b with
  | none => authFailed
  | some x =>
    match x9Open kbpk x with
    | none => authFailed
    | some key =>
      match x9Type x.alg key.length with
      | none => authFailed
      | some t =>
        let kps := x.opts.filter (fun o => o.1 == code2 0x4B 0x50)
        if !kbpkStrong kbpk.typ t key.length || !(kps.all (fun o => kpOk kbpk key o.2)) then authFailed
        else match x9NewKey x t key with
          | none => authFailed
          | some n => .create n

/-- Key block export (R157): the header with its KP block and padding, the enciphered key, the MAC. -/
def x9Make (j : Job) (k kbpk : KeyRec) : PayRes :=
  let v := if isAes kbpk.typ then 0x44 else 0x42
  let len := x9Size v k.material.length
  let mode := match x9Usage (code2 (j.argByte 0) (j.argByte 1)) with
    | some u => (x9Mode u k.usage).getD 0
    | none => 0
  let kcv := if v = 0x44 then toHex (padTo 5 (Config.x9Kcv 1 kbpk.material k.material))
    else toHex (padTo 3 (Config.x9Kcv 0 kbpk.material k.material))
  let opts := if v = 0x44 then le 2 0x504B ++ [0x31#8, 0x30#8, 0x30#8, 0x31#8] ++ kcv
    else le 2 0x504B ++ [0x30#8, 0x43#8, 0x30#8, 0x30#8] ++ kcv ++ [0x50#8, 0x42#8, 0x30#8, 0x34#8]
  let header := le 1 v ++ toDec 4 len ++ slice j.iv 8 2 ++ le 1 (x9Alg k.typ) ++ le 1 mode ++ slice j.iv 11 2 ++
    slice j.iv 10 1 ++ toDec 2 (if v = 0x44 then 1 else 2) ++ [0x30#8, 0x30#8] ++ opts
  let m := x9MacLen v
  let cipher := padTo (x9Body v k.material.length) (Config.x9Wrap kbpk.material header k.material)
  okOut (header ++ toHex cipher ++ toHex (padTo m (Config.x9Mac kbpk.material (header ++ cipher))))

/-- The result of a payment job on its input (R131-R157): `rnd` are eight bytes of the core's DRBG, if it has them. -/
def payRun (j : Job) (k1 : KeyRec) (k2 : Option KeyRec) (b : Bytes) (rnd : Option Bytes) : PayRes :=
  let ksn := b.take (ksnLen j)
  let t1 := if isDukpt j then dkKeyType (dkType j) else k1.typ
  let key1 := if isDukpt j then workingKey j k1.material ksn else k1.material
  let t2 := match k2 with | some k => k.typ | none => 0
  let key2 := match k2 with | some k => k.material | none => []
  let body := b.drop (ksnLen j)
  let pan := (panOf j b).map (fun c => digitVal c.toNat)
  if j.func = 0x01 then
    match pinCheck j.fmtIn (pinOpen j.fmtIn t1 key1 (body.take (fmtLen j.fmtIn)) pan) with
    | none => .structFail
    | some pin =>
      match needsFill j.fmtOut, rnd with
      | true, none => .noRandom
      | _, r => okOut (pinSeal j.fmtOut t2 key2 pin pan (r.getD []))
  else if j.func = 0x02 then
    let a := pinCheck j.fmtIn (pinOpen j.fmtIn t1 key1 (body.take (fmtLen j.fmtIn)) pan)
    let c := pinCheck j.fmtOut (pinOpen j.fmtOut t2 key2 (slice body (fmtLen j.fmtIn) (fmtLen j.fmtOut)) pan)
    match a, c with
    | some p, some q => if p == q then okOut [] else authFailed
    | _, _ => .structFail
  else if j.func = 0x10 then
    .create (initialKey k1 (padTo (symLen k1.typ) (Config.dukptInitial k1.material b)))
  else if isMacFn j.func then
    let (alg, pad, n) := macIn j
    let data := if j.func = 0x20 then body else body.take (body.length - n)
    let mac := payMac t1 alg pad n key1 data
    if j.func = 0x20 then okOut mac
    else if !(mac == body.drop (body.length - n)) then authFailed
    else if j.func = 0x21 then okOut []
    else okOut (payMac t2 (macOut j).1 (macOut j).2.1 (macOut j).2.2 key2 data)
  else if j.func = 0x30 ∨ j.func = 0x31 then emvRun j k1 b
  else if j.func = 0x40 ∨ j.func = 0x41 then
    let x := b.drop (ffTweak j)
    okOut (padTo x.length (Config.ff1 (j.func == 0x40) k1.material (ffRadix j) (b.take (ffTweak j)) x))
  else if j.func = 0x50 then x9Import k1 b
  else match k2 with
    | some kb => x9Make j k1 kb
    | none => authFailed

end Sys2Proof.Machine
end

