-- ==== Sys2Proof/Machine/Curves.lean ====
section
/-! DEFINITION. Modular and elliptic-curve arithmetic of the big-number engines on plain numbers (R161, R166, R190). -/

set_option linter.unusedVariables false

namespace Sys2Proof.Machine

open Sys2Proof

/-- b^e mod m by squaring over the bits of e. -/
def powModGo : Nat → Nat → Nat → Nat → Nat
  | 0, _, _, m => 1 % m
  | fuel + 1, b, e, m =>
    if e = 0 then 1 % m
    else
      let h := powModGo fuel (b * b % m) (e / 2) m
      if e % 2 = 1 then b * h % m else h

/-- b^e mod m. -/
def powMod (b e m : Nat) : Nat := powModGo (Nat.log2 e + 1) (b % m) e m

/-- The coefficient of a in the extended Euclidean algorithm. -/
def egcd : Nat → Int → Int → Int → Int → Int × Int
  | 0, r, _, x, _ => (r, x)
  | fuel + 1, r, r', x, x' => if r' = 0 then (r, x) else egcd fuel r' (r % r') x' (x - r / r' * x')

/-- The inverse of a modulo m, where it has one. -/
def modInv (a m : Nat) : Option Nat :=
  let (g, x) := egcd (2 * Nat.log2 (m + 1) + 4) (a % m : Nat) (m : Int) 1 0
  if m = 0 then none else if g = 1 then some ((x % (m : Int)).toNat) else none

/-- A curve: y² = x³ - 3x + b modulo p, or for Ed25519 -x² + y² = 1 + d·x²·y²; coordinates of `len` bytes. -/
structure Curve where
  edwards : Bool
  p : Nat
  b : Nat
  n : Nat
  gx : Nat
  gy : Nat
  len : Nat

def p256 : Curve :=
  { edwards := false, p := 2 ^ 256 - 2 ^ 224 + 2 ^ 192 + 2 ^ 96 - 1,
    b := 0x5AC635D8AA3A93E7B3EBBD55769886BC651D06B0CC53B0F63BCE3C3E27D2604B,
    n := 0xFFFFFFFF00000000FFFFFFFFFFFFFFFFBCE6FAADA7179E84F3B9CAC2FC632551,
    gx := 0x6B17D1F2E12C4247F8BCE6E563A440F277037D812DEB33A0F4A13945D898C296,
    gy := 0x4FE342E2FE1A7F9B8EE7EB4A7C0F9E162BCE33576B315ECECBB6406837BF51F5, len := 32 }

def p384 : Curve :=
  { edwards := false, p := 2 ^ 384 - 2 ^ 128 - 2 ^ 96 + 2 ^ 32 - 1,
    b := 0xB3312FA7E23EE7E4988E056BE3F82D19181D9C6EFE8141120314088F5013875AC656398D8A2ED19D2A85C8EDD3EC2AEF,
    n := 0xFFFFFFFFFFFFFFFFFFFFFFFFFFFFFFFFFFFFFFFFFFFFFFFFC7634D81F4372DDF581A0DB248B0A77AECEC196ACCC52973,
    gx := 0xAA87CA22BE8B05378EB1C71EF320AD746E1D3B628BA79B9859F741E082542A385502F25DBF55296C3A545E3872760AB7,
    gy := 0x3617DE4A96262C6F5D9E98BF9292DC29F8F41DBD289A147CE9DA3113B5F0B8C00A60B1CE1D7E819D7A431D7C90EA0E5F,
    len := 48 }

def ed25519 : Curve :=
  { edwards := true, p := 2 ^ 255 - 19, b := 0x52036CEE2B6FFE738CC740797779E89800700A4D4141D8AB75EB4DCA135978A3,
    n := 2 ^ 252 + 27742317777372353535851937790883648493,
    gx := 15112221349535400772501151409588531511454012693041857206046113283949847762202,
    gy := 46316835694926478169428394003475163141307993866256225615783033603165251855960, len := 32 }

/-- The curve of an IMM field (R190). -/
def curveOf (i : Nat) : Option Curve := match i with | 1 => some p256 | 2 => some p384 | 3 => some ed25519 | _ => none

/-- a/b modulo p; 0 where b has no inverse. -/
def modDiv (a b p : Nat) : Nat := a * (modInv b p).getD 0 % p

/-- Sum of two points; none stands for the identity of a Weierstrass curve. -/
def ptAdd (c : Curve) (P Q : Option (Nat × Nat)) : Option (Nat × Nat) :=
  match P, Q with
  | none, q => q
  | p, none => p
  | some (x1, y1), some (x2, y2) =>
    let p := c.p
    if c.edwards then
      let t := c.b * (x1 * x2 % p) % p * (y1 * y2 % p) % p
      some (modDiv (x1 * y2 + x2 * y1) (1 + t) p, modDiv (y1 * y2 + x1 * x2) (1 + p - t) p)
    else if x1 = x2 ∧ (y1 + y2) % p = 0 then none
    else
      let l := if x1 = x2 then modDiv (3 * x1 * x1 + p - 3) (2 * y1) p else modDiv (y2 + p - y1) (x2 + p - x1) p
      let x3 := (l * l + 2 * p - x1 - x2) % p
      some (x3, (l * (x1 + p - x3) + p - y1) % p)

/-- [k]P over the bits of k. -/
def ptMulGo (c : Curve) : Nat → Nat → Option (Nat × Nat) → Option (Nat × Nat)
  | 0, _, _ => none
  | fuel + 1, k, P =>
    if k = 0 then none
    else
      let h := ptMulGo c fuel (k / 2) (ptAdd c P P)
      if k % 2 = 1 then ptAdd c P h else h

def ptMul (c : Curve) (k : Nat) (P : Nat × Nat) : Option (Nat × Nat) :=
  match ptMulGo c (Nat.log2 k + 1) k (some P) with
  | none => if c.edwards then some (0, 1) else none
  | r => r

/-- A point lies on the curve. -/
def onCurve (c : Curve) (P : Nat × Nat) : Bool :=
  let (x, y) := P
  let p := c.p
  decide (x < p) && decide (y < p) &&
    (if c.edwards then (y * y + p - x * x % p) % p == (1 + c.b * (x * x % p * (y * y % p) % p)) % p
     else y * y % p == (x * x * x + 3 * p - 3 * x + c.b) % p)

/-- A point lies on the curve and is not the identity (R166, R190). -/
def ptValid (c : Curve) (P : Nat × Nat) : Bool := onCurve c P && !(c.edwards && P.1 == 0 && P.2 == 1)

/-- X ‖ Y as octets, and back. -/
def ptOfBytes (c : Curve) (b : Bytes) : Nat × Nat := (beAt b 0 c.len, beAt b c.len c.len)
def ptBytes (c : Curve) (P : Nat × Nat) : Bytes := be c.len P.1 ++ be c.len P.2

/-- The curve of an ECC TYPE (R58). -/
def eccCurve (t : Nat) : Curve := if t = 0x19 then p384 else p256

/-- Odd, `k` bytes long with the top bit set. -/
def oddTop (v k : Nat) : Bool := v % 2 == 1 && decide (2 ^ (8 * k - 1) ≤ v ∧ v < 2 ^ (8 * k))

/-- RSA exponent (R165). -/
def rsaExpOk (e : Nat) : Bool := e % 2 == 1 && decide (3 ≤ e ∧ e < 2 ^ 32)

/-- The checks of R166 on material of a public-key TYPE and class; lengths are checked apart. -/
def materialOk (t cls : Nat) (m : Bytes) : Bool :=
  if isRsa t then
    let k := rsaBytes t
    let h := k / 2
    let e := beAt m 0 4
    let n := beAt m 4 k
    if cls = 2 then rsaExpOk e && oddTop n k
    else
      let p := beAt m (4 + k) h
      let q := beAt m (4 + k + h) h
      let dp := beAt m (4 + k + 2 * h) h
      let dq := beAt m (4 + k + 3 * h) h
      let qi := beAt m (4 + k + 4 * h) h
      rsaExpOk e && oddTop p h && oddTop q h && n == p * q && e * dp % (p - 1) == 1 % (p - 1) &&
        e * dq % (q - 1) == 1 % (q - 1) && qi * q % p == 1 % p
  else if isEcc t then
    if cls = 2 then ptValid (eccCurve t) (ptOfBytes (eccCurve t) m)
    else decide (1 ≤ beVal m ∧ beVal m < (eccCurve t).n)
  else if isMlkem t && cls == 2 then Config.kemKeyOk t m
  else true

end Sys2Proof.Machine
end

