-- ==== Sys2Proof/Machine/SignFns.lean ====
section
/-! DEFINITION. The public-key schemes on numbers and octets: RSA (RFC 8017), ECDSA (FIPS 186-5), Ed25519 (RFC 8032), and the
expansions of keys (R163-R177). What they compute is PRESUMED from the standards that the chapter names; ML-DSA and ML-KEM stay
constants of Config. -/

set_option linter.unusedVariables false

namespace Sys2Proof.Machine

open Sys2Proof

/-- A digest at its full length. -/
def digestOf (h : Nat) (b : Bytes) : Bytes := padTo (digestLen h) (Config.hash h b)

/-! RSA. -/

/-- Public operation: x^e mod n. -/
def rsaPublic (t : Nat) (pub : Bytes) (x : Nat) : Nat := powMod x (beAt pub 0 4) (beAt pub 4 (rsaBytes t))

/-- Private operation by CRT (R165, R174: blinding leaves the result unchanged). -/
def rsaPrivate (t : Nat) (m : Bytes) (x : Nat) : Nat :=
  let k := rsaBytes t
  let h := k / 2
  let p := beAt m (4 + k) h
  let q := beAt m (4 + k + h) h
  let a := powMod x (beAt m (4 + k + 2 * h) h) p
  let b := powMod x (beAt m (4 + k + 3 * h) h) q
  b + q * (beAt m (4 + k + 4 * h) h * (a + p - b % p) % p)

/-- DigestInfo of a SHA-2 digest. -/
def digestInfo (h : Nat) (digest : Bytes) : Bytes :=
  le 1 0x30 ++ le 1 (17 + digest.length) ++
    [0x30#8, 0x0D#8, 0x06#8, 0x09#8, 0x60#8, 0x86#8, 0x48#8, 0x01#8, 0x65#8, 0x03#8, 0x04#8, 0x02#8] ++ le 1 h ++
    [0x05#8, 0x00#8, 0x04#8] ++ le 1 digest.length ++ digest

/-- The encoded message of PKCS #1 v1.5. -/
def encodeV15 (k h : Nat) (digest : Bytes) : Bytes :=
  let t := digestInfo h digest
  [0x00#8, 0x01#8] ++ List.replicate (k - 3 - t.length) 0xFF#8 ++ [0x00#8] ++ t

/-- MGF1. -/
def mgf1 (h : Nat) (seed : Bytes) (n : Nat) : Bytes :=
  (((List.range ((n + digestLen h - 1) / digestLen h)).map (fun i => digestOf h (seed ++ be 4 i))).flatten).take n

/-- The first byte with its top bit clear. -/
def clearTop : Bytes → Bytes
  | [] => []
  | b :: r => (b &&& 0x7F#8) :: r

/-- The encoded message of PSS with MGF1 over the same hash. -/
def encodePss (k h : Nat) (digest salt : Bytes) : Bytes :=
  let x := digestOf h (zeros 8 ++ digest ++ salt)
  let db := zeros (k - salt.length - digestLen h - 2) ++ [0x01#8] ++ salt
  clearTop (xorBytes db (mgf1 h x (k - digestLen h - 1))) ++ x ++ [0xBC#8]

/-- A PSS encoding verifies for a digest, its salt as long as the digest (R169). -/
def pssOk (k h : Nat) (digest em : Bytes) : Bool :=
  let n := digestLen h
  let x := slice em (k - n - 1) n
  let db := clearTop (xorBytes (em.take (k - n - 1)) (mgf1 h x (k - n - 1)))
  em == encodePss k h digest (db.drop (k - 2 * n - 1))

/-- RSA-OAEP with SHA-256, an empty label and the given seed (R167). -/
def oaepEnc (t : Nat) (pub m seed : Bytes) : Bytes :=
  let k := rsaBytes t
  let db := digestOf 1 [] ++ zeros (k - m.length - 66) ++ [0x01#8] ++ m
  let masked := xorBytes db (mgf1 1 seed (k - 33))
  be k (rsaPublic t pub (beVal ([0x00#8] ++ xorBytes seed (mgf1 1 masked 32) ++ masked)))

/-- OAEP decoding of the integer that the private operation gives (R171, R176). -/
def oaepOpen (t : Nat) (x : Nat) : Option Bytes :=
  let k := rsaBytes t
  let em := be k x
  let masked := em.drop 33
  let db := xorBytes masked (mgf1 1 (xorBytes (slice em 1 32) (mgf1 1 masked 32)) (k - 33))
  let rest := (db.drop 32).dropWhile (fun b => b == 0#8)
  if em.headD 1#8 == 0#8 && db.take 32 == digestOf 1 [] && rest.headD 0#8 == 1#8 then some (rest.drop 1) else none

/-- RSA-OAEP decryption; a ciphertext that is not below the modulus does not decode. -/
def oaepDec (t : Nat) (priv c : Bytes) : Option Bytes :=
  if beVal c < beAt priv 4 (rsaBytes t) then oaepOpen t (rsaPrivate t priv (beVal c)) else none

/-- RSA private material from two primes, with e = 65,537 and |p - q| > 2^(4k - 100); none where the primes do not serve and the
search goes on (R165, R172). -/
def rsaMake (t p q : Nat) : Option Bytes :=
  let k := rsaBytes t
  let h := k / 2
  match modInv 65537 (p - 1), modInv 65537 (q - 1), modInv q p with
  | some dp, some dq, some qi =>
    if oddTop p h && oddTop q h && oddTop (p * q) k && decide (2 ^ (4 * k - 100) < (if p < q then q - p else p - q)) then
      some (be 4 65537 ++ be k (p * q) ++ be h p ++ be h q ++ be h dp ++ be h dq ++ be h qi)
    else none
  | _, _, _ => none

/-! ECDSA. -/

/-- The first scalar in 1 to n - 1 among the blocks of random bytes: rejection sampling (R169). -/
def firstScalar (c : Curve) (rnd : Bytes) : Option Nat :=
  ((List.range (rnd.length / c.len)).map (fun i => beAt rnd (i * c.len) c.len)).find? (fun k => decide (1 ≤ k ∧ k < c.n))

/-- A digest as an integer: its leftmost bits, as many as the order has. -/
def digestInt (c : Curve) (h : Bytes) : Nat := beVal h / 2 ^ (8 * h.length - 8 * c.len)

/-- r ‖ s with the scalar k; none where r or s is zero and another scalar is drawn. -/
def ecdsaSign (c : Curve) (d : Nat) (h : Bytes) (k : Nat) : Option Bytes :=
  match ptMul c k (c.gx, c.gy), modInv k c.n with
  | some P, some ki =>
    let r := P.1 % c.n
    let s := ki * (digestInt c h + r * d) % c.n
    if r = 0 ∨ s = 0 then none else some (be c.len r ++ be c.len s)
  | _, _ => none

/-- An ECDSA signature verifies; a component outside 1 to n - 1 does not (R171). -/
def ecdsaOk (c : Curve) (pub : Nat × Nat) (h sig : Bytes) : Bool :=
  let r := beAt sig 0 c.len
  let s := beAt sig c.len c.len
  if decide (1 ≤ r ∧ r < c.n) && decide (1 ≤ s ∧ s < c.n) then
    match modInv s c.n with
    | none => false
    | some w =>
      match ptAdd c (ptMul c (digestInt c h * w % c.n) (c.gx, c.gy)) (ptMul c (r * w % c.n) pub) with
      | none => false
      | some P => P.1 % c.n == r
  else false

/-! Ed25519. -/

/-- The secret scalar: the low half of the key's digest with its fixed bits. -/
def edScalar (key : Bytes) : Nat := leVal ((digestOf 3 key).take 32) % 2 ^ 254 / 8 * 8 + 2 ^ 254

/-- A point as 32 octets, and back. -/
def edBytes (P : Nat × Nat) : Bytes := le 32 (P.2 + 2 ^ 255 * (P.1 % 2))

def edPoint (b : Bytes) : Option (Nat × Nat) :=
  let c := ed25519
  let v := leVal b
  let y := v % 2 ^ 255
  let sign := v / 2 ^ 255 % 2
  if c.p ≤ y then none
  else
    let x2 := modDiv (y * y + c.p - 1) (c.b * (y * y % c.p) + 1) c.p
    let r := powMod x2 ((c.p + 3) / 8) c.p
    let x := if r * r % c.p = x2 then r else r * powMod 2 ((c.p - 1) / 4) c.p % c.p
    if !(x * x % c.p == x2) || (x == 0 && sign == 1) then none
    else some (if x % 2 = sign then x else c.p - x, y)

/-- The prefix that Ed25519ph hashes. -/
def edDom (ph : Bool) : Bytes :=
  if ph then [0x53#8, 0x69#8, 0x67#8, 0x45#8, 0x64#8, 0x32#8, 0x35#8, 0x35#8, 0x31#8, 0x39#8, 0x20#8, 0x6E#8, 0x6F#8, 0x20#8,
    0x45#8, 0x64#8, 0x32#8, 0x35#8, 0x35#8, 0x31#8, 0x39#8, 0x20#8, 0x63#8, 0x6F#8, 0x6C#8, 0x6C#8, 0x69#8, 0x73#8, 0x69#8,
    0x6F#8, 0x6E#8, 0x73#8, 0x01#8, 0x00#8]
  else []

/-- The base point times a scalar. -/
def edBase (k : Nat) : Nat × Nat := (ptMul ed25519 k (ed25519.gx, ed25519.gy)).getD (0, 1)

/-- The encoded public key of a private key. -/
def edPublic (key : Bytes) : Bytes := edBytes (edBase (edScalar key))

/-- A digest as a scalar. -/
def edHash (ph : Bool) (b : Bytes) : Nat := leVal (digestOf 3 (edDom ph ++ b)) % ed25519.n

/-- An Ed25519 signature: no random value enters it. -/
def edSign (ph : Bool) (key m : Bytes) : Bytes :=
  let r := edHash ph ((digestOf 3 key).drop 32 ++ m)
  let R := edBytes (edBase r)
  R ++ le 32 ((r + edHash ph (R ++ edPublic key ++ m) * edScalar key) % ed25519.n)

/-- An Ed25519 signature verifies; one whose S is not below the order, or whose points do not decode, does not (R171). -/
def edOk (ph : Bool) (pub m sig : Bytes) : Bool :=
  let c := ed25519
  let s := leAt sig 32 32
  match edPoint pub, edPoint (sig.take 32) with
  | some A, some R =>
    decide (s < c.n) &&
      ptMul c 8 (edBase s) == (ptAdd c (ptMul c 8 R) (ptMul c 8 ((ptMul c (edHash ph (sig.take 32 ++ pub ++ m)) A).getD (0, 1))))
  | _, _ => false

/-! Keys. -/

/-- The public material of a private key (R163, R165, R173). -/
def publicOf (t : Nat) (m : Bytes) : Bytes :=
  if isRsa t then m.take (4 + rsaBytes t)
  else if isEcc t then
    match ptMul (eccCurve t) (beVal m) ((eccCurve t).gx, (eccCurve t).gy) with
    | some P => ptBytes (eccCurve t) P
    | none => zeros (pubLen t)
  else if isEd t then edPublic m
  else padTo (pubLen t) (Config.pkPublic t m)

/-- Montgomery constants of a modulus of `k` bytes: R and R² mod m (DESIGN CHOICE: which constants R163 means). -/
def montConsts (m k : Nat) : Bytes :=
  let r := 2 ^ (512 * ((8 * k + 511) / 512))
  be k (r % m) ++ be k (r * r % m)

/-- A key's expansion; none for the keys that the table of R163 leaves out (DESIGN CHOICE: the order of its parts). -/
def expansionOf (t cls : Nat) (m : Bytes) : Option Bytes :=
  let k := rsaBytes t
  let h := k / 2
  if isRsa t then
    let n := montConsts (beAt m 4 k) k
    if cls = 2 then some n
    else
      let p := beAt m (4 + k) h
      let q := beAt m (4 + k + h) h
      some (n ++ montConsts p h ++ montConsts q h ++ be h (p - 1) ++ be h (q - 1))
  else if cls = 1 then
    if isEcc t then some (publicOf t m)
    else if isEd t then some (le 32 (edScalar m) ++ (digestOf 3 m).drop 32 ++ edPublic m)
    else if isMldsa t || isMlkem t then some (Config.pkExpand t m ++ publicOf t m)
    else none
  else if cls = 2 && (isEcc t || isMldsa t || isMlkem t) then some m
  else none

/-- Material of a new private key from the bytes drawn for it; none where the draw does not serve and another follows (R172). -/
def newPrivate (t : Nat) (seed : Bytes) : Option Bytes :=
  if isRsa t then
    let (p, q) := Config.rsaPrimes (rsaBytes t) seed
    rsaMake t p q
  else if isEcc t then (firstScalar (eccCurve t) seed).map (be (eccCurve t).len)
  else some (padTo (privLen t) seed)

/-! Signing and verifying (R169, R171). -/

/-- The signature of a representative: `mode` is MODE[1:0], `ctx` the context length, `rnd` the salt, the scalar's draw or the
hedge. None where the draw gives no scalar. -/
def signOf (t h mode ctx : Nat) (priv rep rnd : Bytes) : Option Bytes :=
  if isRsa t then
    let k := rsaBytes t
    let em := if mode = 0 then encodeV15 k h rep else encodePss k h rep (padTo (digestLen h) rnd)
    some (be k (rsaPrivate t priv (beVal em)))
  else if isEcc t then
    (firstScalar (eccCurve t) rnd).bind (ecdsaSign (eccCurve t) (beVal priv) rep)
  else if isEd t then some (edSign (mode == 1) priv rep)
  else some (padTo (sigLen t) (Config.mldsaSign t (mode + 4 * ctx) priv rep (rnd.take 32)))

/-- Whether a signature verifies under public material. -/
def verifyOf (t h mode ctx : Nat) (pub rep sig : Bytes) : Bool :=
  if isRsa t then
    let k := rsaBytes t
    let em := be k (rsaPublic t pub (beVal sig))
    decide (beVal sig < beAt pub 4 k) && (if mode = 0 then em == encodeV15 k h rep else pssOk k h rep em)
  else if isEcc t then ecdsaOk (eccCurve t) (ptOfBytes (eccCurve t) pub) rep sig
  else if isEd t then edOk (mode == 1) pub rep sig
  else Config.mldsaVerify t (mode + 4 * ctx) pub rep sig

/-- The pairwise test of a new pair (R177): one signature and its verification, one encapsulation and decapsulation, or an OAEP
round trip of 32 random bytes; none where the draw gives no scalar. (DESIGN CHOICE: what is signed; a key for agreement alone
has no test of its own.) -/
def pairwiseOk (t usage : Nat) (priv pub rnd : Bytes) : Option Bool :=
  let rep := if isRsa t || isEcc t then digestOf 1 rnd else rnd
  if bitOf usage 7 then
    (signOf t (if isRsa t || isEcc t then 1 else 0) 0 0 priv rep rnd).map
      (verifyOf t (if isRsa t || isEcc t then 1 else 0) 0 0 pub rep)
  else if isRsa t then
    let m := rnd.take 32
    some (oaepDec t priv (oaepEnc t pub m (padTo 32 (rnd.drop 32))) == some m)
  else if isMlkem t then
    let (ct, key) := Config.kemEncaps t pub rnd
    some (padTo 32 (Config.kemDecaps t priv ct) == padTo 32 key)
  else some true

end Sys2Proof.Machine
end

