-- ==== Sys2Proof/Machine/PkFns.lean ====
section
/-! DEFINITION. Service 0x03, public-key functions: what admission checks of each and what each computes (R164-R178). -/

set_option linter.unusedVariables false

namespace Sys2Proof.Machine

open Sys2Proof

/-- The functions of R167. -/
def isPkFn (f : Nat) : Bool := has [0x01, 0x02, 0x10, 0x11, 0x12, 0x20, 0x21, 0x30, 0x31] f

/-- Functions that create keys from the attribute argument (R172). -/
def pkCreates (f : Nat) : Bool := has [0x10, 0x11, 0x12, 0x20, 0x30] f

/-- KEY may be 0 on Verify and encapsulate (R170). -/
def pkInline (j : Job) : Bool := (j.func == 0x02 || j.func == 0x11) && j.key == 0

/-- The peer point of ECDH stands in the input. -/
def pkPeerInline (j : Job) : Bool := j.func == 0x10 && j.key2 == 0

/-- TYPEs that sign and verify (R169). -/
def signs (t : Nat) : Bool := isRsa t || isEcc t || isEd t || isMldsa t

/-- Scheme, HASH and MODE[1:0] agree for a TYPE (R169). -/
def schemeOk (j : Job) (t : Nat) : Bool :=
  let m := fieldOf j.mode 0 2
  let ctx := fieldOf j.mode 8 8
  if isRsa t then decide (m ≤ 1) && decide (1 ≤ j.hash ∧ j.hash ≤ 3) && ctx == 0
  else if isEcc t then m == 0 && decide (1 ≤ j.hash ∧ j.hash ≤ 6) && ctx == 0
  else if isEd t then ((m == 0 && j.hash == 0) || (m == 1 && j.hash == 3)) && ctx == 0
  else isMldsa t && decide (m ≤ 1) && j.hash == 0 && (m == 0 || ctx == 0)

/-- Whether the representative of a scheme has a length the scheme allows (R169). -/
def repLenOk (j : Job) (t n : Nat) : Bool :=
  let m := fieldOf j.mode 0 2
  if isRsa t || isEcc t then n == digestLen j.hash
  else if isEd t then (if m = 1 then n == 64 else decide (n ≤ 65536))
  else if m = 1 then n == 64 else decide (fieldOf j.mode 8 8 ≤ n ∧ n ≤ fieldOf j.mode 8 8 + 65536)

/-- The attribute argument is well formed (R60, R59, R172). (DESIGN CHOICE: here the reserved bit 15 of USAGE is FORMAT, as a
reserved bit of the argument; R59 does not give the status.) -/
def attrOk (a : AttrArg) : Bool :=
  a.resv == 0 && decide (a.exportPol ≤ 3) && !bitOf a.usage 15 &&
    (if a.counted then decide (1 ≤ a.uses) else a.uses == 0)

/-- Check 3 of a public-key function (R167, R168, R170); `t` is the TYPE of the key that serves it, where it is known: HASH, MODE
and the context length are codes of its scheme (R169). -/
def pkFormatOk (j : Job) (t : Option Nat) : Bool :=
  let f := j.func
  let sig := f == 0x01 || f == 0x02
  isPkFn f && j.taglen == 0 && decide (j.hash ≤ 6) &&
    (if sig then (match t with | some t => !(signs t) || schemeOk j t | none => true) else j.hash == 0) &&
    (if sig then fieldOf j.mode 2 6 == 0 && decide (fieldOf j.mode 0 2 ≤ 1)
     else f == 0x20 || j.mode == 0) &&
    (if pkCreates f then attrOk (AttrArg.ofNat j.arg) else j.arg == 0) &&
    (has [0x10, 0x21] f || (f == 0x11 && j.key == 0) || j.key2 == 0) &&
    (if f = 0x02 ∧ j.key = 0 then signs j.pset
     else if f = 0x11 ∧ j.key = 0 then isMlkem j.pset
     else if pkPeerInline j then isEcc j.pset
     else if f = 0x20 then typeMatches j.pset j.mode
     else if f = 0x30 then isPk j.pset
     else j.pset == 0)

/-- Bytes of a KWP blob for a material length. -/
def kwpLen (n : Nat) : Nat := (n + 7) / 8 * 8 + 8

/-- Output of a public-key function by the TYPE of its key (R164, R167); `n` is the length of a transported key. -/
def pkOut (j : Job) (t n : Nat) : Nat :=
  let f := j.func
  if f = 0x01 then sigLen t
  else if f = 0x02 then 0
  else if f = 0x11 then 4 + sigLen t
  else if f = 0x21 then (if isRsa t then rsaBytes t else 1088 + kwpLen n)
  else if f = 0x30 then 8
  else if f = 0x31 then pubLen t
  else 4

/-- Check 4 of a public-key function (R164, R169, R170). `t` is the TYPE the lengths follow from, of the key that serves
the function or of the inline key, where it is known; `n` the length of the material FUNC 0x21 exports. -/
def pkLengthOk (j : Job) (t : Option Nat) (n : Nat) : Bool :=
  let f := j.func
  j.aadLen == 0 &&
  (if has [0x21, 0x30, 0x31] f then j.inLen == 0 else true) &&
  (if f = 0x30 then decide (8 ≤ j.outLen) else if has [0x10, 0x12, 0x20] f then decide (4 ≤ j.outLen) else true) &&
  (match t with
   | none => true
   | some t =>
     decide (pkOut j t n ≤ j.outLen) &&
     (if f = 0x01 then repLenOk j t j.inLen
      else if f = 0x02 then
        let k := if j.key = 0 then pubLen t else 0
        decide (k + sigLen t ≤ j.inLen) && repLenOk j t (j.inLen - k - sigLen t)
      else if f = 0x10 then j.inLen == (if j.key2 = 0 then pubLen t else 0)
      else if f = 0x11 then j.inLen == (if j.key = 0 then pubLen t else 0)
      else if f = 0x12 then j.inLen == sigLen t
      else if f = 0x20 then
        if isRsa t then j.inLen == rsaBytes t
        else decide (1088 + 24 ≤ j.inLen ∧ (j.inLen - 1088) % 8 = 0)
      else if f = 0x21 then !isRsa t || decide (n + 66 ≤ rsaBytes t)
      else true))

/-- Whether a key serves KEY of a public-key function (R133, R167, R169, R170). -/
def pkKeyOk (j : Job) (k : KeyRec) : Bool :=
  let f := j.func
  if f = 0x01 then k.cls == 1 && bitOf k.usage 7 && signs k.typ
  else if f = 0x02 then k.cls == 2 && bitOf k.usage 8 && signs k.typ
  else if f = 0x10 then k.cls == 1 && isEcc k.typ && bitOf k.usage 9 && (!pkPeerInline j || j.pset == k.typ)
  else if f = 0x11 then k.cls == 2 && isMlkem k.typ && bitOf k.usage 4
  else if f = 0x12 then k.cls == 1 && isMlkem k.typ && bitOf k.usage 9
  else if f = 0x20 then k.cls == 1 && (isRsa k.typ || k.typ == 0x29) && bitOf k.usage 5
  else if f = 0x31 then k.cls == 1 || k.cls == 2
  else true

/-- Whether a key serves KEY2; `k1` is KEY where one is named. -/
def pkKey2Ok (j : Job) (k1 : Option KeyRec) (k : KeyRec) : Bool :=
  let f := j.func
  if f = 0x10 then k.cls == 2 && bitOf k.usage 9 && (match k1 with | some a => a.typ == k.typ | none => false)
  else if f = 0x21 then k.cls == 2 && (isRsa k.typ || k.typ == 0x29) && bitOf k.usage 4
  else true

/-- A key made from the attribute argument (R172). -/
def keyOfAttr (a : AttrArg) (typ cls : Nat) (m : Bytes) : NewKey :=
  { typ := typ, cls := cls, usage := a.usage, exportPol := a.exportPol, dual := a.dual, volatileKey := a.volatileKey,
    counted := a.counted, uses := a.uses, clearOrigin := false, material := m }

/-- The public key of a new pair (R172). -/
def publicHalf (a : AttrArg) (typ : Nat) (m : Bytes) : NewKey :=
  { typ := typ, cls := 2,
    usage := if bitOf a.usage 7 then 0x100 else if isEcc typ then 0x200 else 0x10,
    exportPol := 0, dual := a.dual, volatileKey := a.volatileKey, counted := false, uses := 0, clearOrigin := false,
    material := m }

/-- Length of a shared secret (R172). -/
def secretLen (t : Nat) : Nat := if t = 0x19 then 48 else 32

/-- Check 10 of a public-key function (R60, R65, R133, R135, R172): keys of one domain, what creation allows, EXPORT 3
for transport; a domain root is never exported (R136). -/
def pkPolicyOk (d : Dev) (j : Job) (keys : List (Nat × KeyRec)) : Bool :=
  let f := j.func
  let a := AttrArg.ofNat j.arg
  let one := match keys with
    | [x, y] => x.2.domain == y.2.domain
    | _ => true
  one &&
  (match keys with
   | [] => true
   | (i, k) :: _ =>
     if f = 0x10 ∨ f = 0x11 ∨ f = 0x12 then
       a.usage == 0x40 && createPolicyOk d k (keyOfAttr a 6 3 (zeros (if f = 0x10 then secretLen k.typ else 32)))
     else if f = 0x20 then
       let n := if isPk j.pset then (if j.mode = 1 then privLen j.pset else pubLen j.pset) else symLen j.pset
       createPolicyOk d k (keyOfAttr a j.pset j.mode (zeros n))
     else if f = 0x21 then k.exportPol == 3 && decide (0x1001 ≤ i)
     else if f = 0x30 then
       createPolicyOk d k (keyOfAttr a j.pset 1 (zeros (privLen j.pset))) && decide (k.level + 2 ≤ 6) &&
         usageOk 2 (publicHalf a j.pset []).usage j.pset
     else true)

/-- Cost units: one for each microsecond of typical engine time of R186, rounded up (R179). -/
def pkCost (f t : Nat) : Nat :=
  let row : List (Nat × List Nat) :=
    [(0x10, [800, 20]), (0x11, [2675, 44]), (0x12, [5333, 78]), (0x18, [25, 15, 32]), (0x19, [60, 37, 76]),
     (0x1A, [22, 15]), (0x20, [27, 11]), (0x21, [40, 16]), (0x22, [56, 26]), (0x28, [8, 16]), (0x29, [12, 24]),
     (0x2A, [17, 34])]
  let r := (row.find? (fun e => e.1 == t)).map (fun e => e.2)
  let open_ := Config.bnUnits f t
  match r with
  | none => open_
  | some l =>
    if f = 0x01 ∨ f = 0x11 then nth open_ l 0
    else if f = 0x02 ∨ f = 0x12 then nth open_ l 1
    else if f = 0x10 then nth open_ l 2
    else if f = 0x20 ∧ t = 0x10 then 1560
    else if f = 0x20 ∧ t = 0x29 then 24
    else if f = 0x30 then
      (if t = 0x10 then 40000 else if t = 0x11 then 140000 else if t = 0x12 then 400000 else if t = 0x18 then 43
       else if t = 0x19 then 106 else if t = 0x1A then 34 else if t = 0x21 then 68 else if t = 0x29 then 50 else open_)
    else open_

/-- Functions that draw from the engine's instance (R169, R171, R174, R177): all but verification, and the public key
read of an expanded or public key. -/
def pkNeedsRandom (f : Nat) (expanded : Bool) : Bool := !(f == 0x02) && !(f == 0x31 && expanded)

/-- Functions whose result an engine compares before it releases it: verify-before-release and repeat-and-compare (R177). -/
def pkChecked (f : Nat) : Bool := has [0x01, 0x10, 0x12, 0x20, 0x30] f

/-- Random bytes a function draws (R174): a second draw is for the second run of repeat-and-compare (R176). -/
def pkDraw (f : Nat) : Nat := if has [0x10, 0x12, 0x20, 0x30] f then 128 else 64

/-- What a public-key job ends with. `pair` is private and public material; `fault` a failed comparison; `again` a draw that
does not serve, after which the job goes on with another. -/
inductive PkRes where
  | done (st : Status) (out : Bytes)
  | create (n : NewKey) (rest : Bytes)
  | pair (priv pub : NewKey)
  | fault
  | again

/-- The 32-byte secret of an ML-KEM-768 transport, under which a cipher core runs the KWP step (R167). -/
def transportSecret (j : Job) (k1 k2 : Option KeyRec) (b rnd : Bytes) : Option Bytes :=
  if j.func = 0x20 then
    match k1 with
    | some k => if k.typ = 0x29 then some (padTo 32 (Config.kemDecaps k.typ k.material (b.take 1088))) else none
    | none => none
  else if j.func = 0x21 then
    match k2 with
    | some k => if k.typ = 0x29 then some (padTo 32 (Config.kemEncaps k.typ k.material rnd).2) else none
    | none => none
  else none

/-- The result of a public-key job (R169-R177): `rnd` is its random draw, `seed` the draw of the domain's instance for a new
pair. A signature is verified before it is released, with the public key that the engine expanded (R175). -/
def pkRun (j : Job) (k1 k2 : Option KeyRec) (b rnd seed : Bytes) : PkRes :=
  let f := j.func
  let a := AttrArg.ofNat j.arg
  let t := match k1 with | some k => k.typ | none => j.pset
  let m1 := match k1 with | some k => k.material | none => []
  let m2 := match k2 with | some k => k.material | none => []
  let mode := fieldOf j.mode 0 2
  let ctx := fieldOf j.mode 8 8
  if f = 0x01 then
    match signOf t j.hash mode ctx m1 b rnd with
    | none => .again
    | some sig => if verifyOf t j.hash mode ctx (publicOf t m1) b sig then .done .ok sig else .fault
  else if f = 0x02 then
    let n := if k1.isNone then pubLen t else 0
    let pub := if k1.isNone then b.take n else m1
    let sig := b.drop (b.length - sigLen t)
    let rep := (b.drop n).take (b.length - n - sigLen t)
    if materialOk t 2 pub && verifyOf t j.hash mode ctx pub rep sig then .done .ok [] else .done .authFail []
  else if f = 0x10 then
    let peer := if pkPeerInline j then b else m2
    let c := eccCurve t
    if !materialOk t 2 peer then .done .authFail []
    else match ptMul c (beVal m1) (ptOfBytes c peer) with
      | none => .done .authFail []
      | some P => .create (keyOfAttr a 6 3 (be c.len P.1)) []
  else if f = 0x11 then
    let pub := if k1.isNone then b else m1
    if !materialOk t 2 pub then .done .authFail []
    else
      let (ct, key) := Config.kemEncaps t pub rnd
      .create (keyOfAttr a 6 3 (padTo 32 key)) (padTo (sigLen t) ct)
  else if f = 0x12 then .create (keyOfAttr a 6 3 (padTo 32 (Config.kemDecaps t m1 b))) []
  else if f = 0x20 then
    let r := match transportSecret j k1 k2 b rnd with
      | some z => Config.kwUnwrap true z (b.drop 1088)
      | none => oaepDec t m1 b
    match r with
    | none => .done .authFail []
    | some m =>
      if materialLenOk j.pset j.mode m.length && materialOk j.pset j.mode m then .create (keyOfAttr a j.pset j.mode m) []
      else .done .authFail []
  else if f = 0x21 then
    let t2 := match k2 with | some k => k.typ | none => 0
    if !materialOk t2 2 m2 then .done .authFail []
    else match transportSecret j k1 k2 b rnd with
      | some z => .done .ok (padTo 1088 (Config.kemEncaps t2 m2 rnd).1 ++ padTo (kwpLen m1.length) (Config.kwWrap true z m1))
      | none => .done .ok (oaepEnc t2 m2 m1 (rnd.take 32))
  else if f = 0x30 then
    match newPrivate j.pset seed with
    | none => .again
    | some priv =>
      let pub := publicOf j.pset priv
      match pairwiseOk j.pset a.usage priv pub rnd with
      | none => .again
      | some false => .fault
      | some true => .pair (keyOfAttr a j.pset 1 priv) (publicHalf a j.pset pub)
  else
    match k1 with
    | some k => .done .ok (if k.cls = 2 then k.material else publicOf k.typ k.material)
    | none => .done .ok []

/-- Time limit of a big-number job in ns (R183). -/
def bnLimit (j : Job) : Nat := if j.service = 4 then ms 100 else if j.func = 0x30 then sec 20 else ms 25

end Sys2Proof.Machine
end

