-- ==== Sys2Proof/Machine/Poly.lean ====
section
/-! DEFINITION. Polynomials of 256 coefficients modulo 3,329 (ML-KEM) and modulo 8,380,417 (ML-DSA), their transforms as
FIPS 203 and FIPS 204 give them, and products and sums (R161, R190). -/

set_option linter.unusedVariables false

namespace Sys2Proof.Machine

open Sys2Proof

/-- The modulus of an IMM field (R190), its root of unity and the bits of the index that numbers the roots (PRESUMED: FIPS 203
and FIPS 204). -/
structure Ring where
  q : Nat
  zeta : Nat
  bits : Nat

def kemRing : Ring := { q := 3329, zeta := 17, bits := 7 }
def dsaRing : Ring := { q := 8380417, zeta := 1753, bits := 8 }
def ringOf (imm : Nat) : Ring := if imm = 1 then kemRing else dsaRing

/-- The bits of a number in reverse order. -/
def bitRev : Nat → Nat → Nat
  | 0, _ => 0
  | n + 1, v => v % 2 * 2 ^ n + bitRev n (v / 2)

/-- A power modulo `q`. -/
def ringPow (q b : Nat) : Nat → Nat
  | 0 => 1 % q
  | e + 1 => b * ringPow q b e % q

/-- The number of places of a transform: 128 pairs modulo 3,329, 256 values modulo 8,380,417. -/
def places (r : Ring) : Nat := 2 ^ r.bits

/-- The root at a place of a transform. -/
def rootAt (r : Ring) (i : Nat) : Nat := ringPow r.q r.zeta (2 * bitRev r.bits i + 1)

/-- The inverse of a unit by its order. -/
def ringInv (r : Ring) (v : Nat) : Nat := ringPow r.q v (2 * 2 ^ r.bits - 1)

/-- One coefficient of a list. -/
def coeff (f : List Nat) (i : Nat) : Nat := f.getD i 0

/-- A sum modulo `q`. -/
def sumMod (q n : Nat) (f : Nat → Nat) : Nat := (List.range n).foldl (fun acc i => (acc + f i) % q) 0

/-- Coefficients that share one place's value: `w` places of a transform interleave in the list. -/
def lanesOf (r : Ring) : Nat := 256 / places r

/-- The forward transform: place i of lane k holds the lane's polynomial at the root of place i. -/
def nttOf (r : Ring) (f : List Nat) : List Nat :=
  let w := lanesOf r
  (List.range 256).map (fun m =>
    let g := rootAt r (m / w)
    sumMod r.q (places r) (fun j => coeff f (w * j + m % w) * ringPow r.q g j))

/-- The inverse transform. -/
def inttOf (r : Ring) (f : List Nat) : List Nat :=
  let w := lanesOf r
  let unit := ringPow r.q (places r) (r.q - 2)
  (List.range 256).map (fun m =>
    unit * sumMod r.q (places r) (fun i =>
      coeff f (w * i + m % w) * ringPow r.q (ringInv r (rootAt r i)) (m / w)) % r.q)

/-- The product of two polynomials modulo X^256 + 1. -/
def ringMul (r : Ring) (f g : List Nat) : List Nat :=
  (List.range 256).map (fun k =>
    sumMod r.q 256 (fun i =>
      if i ≤ k then coeff f i * coeff g (k - i)
      else coeff f i * (r.q - coeff g (k + 256 - i) % r.q)))

/-- The product of two transforms, place by place: modulo 3,329 of the two residues of each place. -/
def placeMul (r : Ring) (f g : List Nat) : List Nat :=
  if lanesOf r = 1 then (List.range 256).map (fun k => coeff f k * coeff g k % r.q)
  else (List.range 256).map (fun m =>
    let i := m / 2
    let a0 := coeff f (2 * i)
    let a1 := coeff f (2 * i + 1)
    let b0 := coeff g (2 * i)
    let b1 := coeff g (2 * i + 1)
    if m % 2 = 0 then (a0 * b0 + a1 * b1 % r.q * rootAt r i) % r.q else (a0 * b1 + a1 * b0) % r.q)

/-- The sum of two polynomials. -/
def polySum (r : Ring) (f g : List Nat) : List Nat := (List.range 256).map (fun k => (coeff f k + coeff g k) % r.q)

/-- The coefficients a slot holds; where they lie in it is not stated. -/
def polyOf (r : Ring) (v : Nat) : List Nat := (List.range 256).map (fun i => Config.polyCoeff r.q v i % r.q)

/-- A transform of a slot's polynomial. -/
def polyRun1 (imm : Nat) (f : Ring → List Nat → List Nat) (v : Nat) : Nat :=
  let r := ringOf imm
  Config.polySlot r.q (f r (polyOf r v))

/-- An operation on two slots' polynomials. -/
def polyRun2 (imm : Nat) (f : Ring → List Nat → List Nat → List Nat) (v w : Nat) : Nat :=
  let r := ringOf imm
  Config.polySlot r.q (f r (polyOf r v) (polyOf r w))

/-- The product of two polynomials: of coefficients or of transforms, which R190 does not say. -/
def polyMul (r : Ring) (f g : List Nat) : List Nat := if Config.pmulOfTransforms then placeMul r f g else ringMul r f g

end Sys2Proof.Machine
end

