-- ==== Sys2Proof/Machine/BnFns.lean ====
section
/-! DEFINITION. Service 0x04: programs of the big-number engines, as admission walks them (R188-R191) and as their
commands run (R190). -/

set_option linter.unusedVariables false

namespace Sys2Proof.Machine

open Sys2Proof

/-- Fields of a command word (R189). -/
def cOp (w : Nat) : Nat := fieldOf w 0 8
def cDst (w : Nat) : Nat := fieldOf w 8 8
def cA (w : Nat) : Nat := fieldOf w 16 8
def cB (w : Nat) : Nat := fieldOf w 24 8
def cMod (w : Nat) : Nat := fieldOf w 32 8
def cFlags (w : Nat) : Nat := fieldOf w 40 8
def cImm (w : Nat) : Nat := fieldOf w 48 16

/-- Command count of a program (R188). -/
def progCount (j : Job) : Nat := fieldOf j.arg 0 16

/-- The command words of a program's input. -/
def progCmds (j : Job) (b : Bytes) : List Nat := (List.range (progCount j)).map (fun i => leAt b (8 * i) 8)

/-- What SLOTCFG gives a slot (R190). -/
def cfgSlot (w : Nat) : BnSlot := { base := fieldOf (cImm w) 7 9, words := fieldOf (cImm w) 0 7 + 1 }

/-- Two slots share a word. -/
def overlaps (a b : BnSlot) : Bool := decide (a.base < b.base + b.words ∧ b.base < a.base + a.words)

/-- Slots a command uses beside its modulus: sources and destination (R190). -/
def slotsUsed (w : Nat) : List Nat :=
  let op := cOp w
  if op = 0x02 ∨ op = 0x0F then [cDst w]
  else if op = 0x03 ∨ op = 0x13 then [cA w]
  else if has [0x04, 0x05, 0x09, 0x0A, 0x0E, 0x11, 0x18, 0x19] op then [cDst w, cA w]
  else if op = 0x0D then [cA w, cB w]
  else if op = 0x3F ∨ op = 0x01 then []
  else [cDst w, cA w, cB w]

/-- Commands that take a modulus slot. -/
def usesMod (w : Nat) : Bool := has [0x04, 0x05, 0x06, 0x07, 0x08, 0x09, 0x0A, 0x0B] (cOp w)

def knownOp (op : Nat) : Bool := decide ((1 ≤ op ∧ op ≤ 0x13) ∨ (0x18 ≤ op ∧ op ≤ 0x1B) ∨ op = 0x3F)

/-- One command passes the walk of R191 under a slot table; `inLen` bounds LOAD. -/
def cmdOk (inLen : Nat) (slots : FMap BnSlot) (w : Nat) : Bool :=
  let op := cOp w
  knownOp op && decide (cFlags w ≤ 1) && (op == 0x0D || cFlags w == 0) &&
    (slotsUsed w).all (fun s => (look slots s).isSome) &&
    (!usesMod w || (match look slots (cMod w) with | some s => decide (s.words ≤ 16) | none => false)) &&
    (if op = 0x01 then
       let s := cfgSlot w
       decide (cDst w < 32) && decide (s.base + s.words ≤ 512) &&
         slots.all (fun e => e.1 == cDst w || !overlaps e.2 s)
     else if op = 0x02 then
       match look slots (cDst w) with
       | some s => decide (cImm w * 64 + s.words * 64 ≤ inLen)
       | none => false
     else if 0x10 ≤ op ∧ op ≤ 0x13 then
       match curveOf (cImm w) with
       | some c => (slotsUsed w).all (fun s => (op == 0x12 && s == cB w) ||
           (match look slots s with | some x => decide (2 * c.len ≤ 64 * x.words) | none => false))
       | none => false
     else if 0x18 ≤ op ∧ op ≤ 0x1B then cImm w == 1 || cImm w == 2
     else true)

/-- The walk of R191 through the slot table, up to END. -/
def walkOk (inLen : Nat) : FMap BnSlot → List Nat → Bool
  | _, [] => false
  | slots, w :: r =>
    cmdOk inLen slots w &&
      (cOp w == 0x3F || walkOk inLen (if cOp w = 0x01 then ins slots (cDst w) (cfgSlot w) else slots) r)

/-- Highest output byte a STORE of the program writes, plus 1. -/
def progOut : FMap BnSlot → List Nat → Nat
  | _, [] => 0
  | slots, w :: r =>
    if cOp w = 0x3F then 0
    else
      let here := if cOp w = 0x03 then cImm w * 64 + 64 * ((look slots (cA w)).map (fun s => s.words)).getD 0 else 0
      max here (progOut (if cOp w = 0x01 then ins slots (cDst w) (cfgSlot w) else slots) r)

/-- Check 3 of a program job (R168, R188, R191). -/
def progFormatOk (j : Job) (b : Bytes) : Bool :=
  j.func == 1 && j.key == 0 && allZero (j.iv.take 8) && j.arg / 65536 == 0 &&
    decide (1 ≤ progCount j ∧ progCount j ≤ 1024) &&
    (decide (b.length < 8 * progCount j) || walkOk j.inLen [] (progCmds j b))

/-- Check 4 of a program job. -/
def progLengthOk (j : Job) (b : Bytes) : Bool :=
  j.aadLen == 0 && decide (8 * progCount j ≤ j.inLen) && decide (progOut [] (progCmds j b) ≤ j.outLen)

/-! Running a program. -/

/-- The number a slot holds; a slot's first word is its least significant. -/
def slotVal (e : BnEngine) (s : BnSlot) : Nat :=
  (List.range s.words).foldl (fun acc i => acc + lookD 0 e.work (s.base + i) * 2 ^ (512 * i)) 0

/-- Write a number into a slot, cut to its length. -/
def slotPut (s : BnSlot) (v : Nat) (e : BnEngine) : BnEngine :=
  { e with work := (List.range s.words).foldl (fun w i => put 0 w (s.base + i) (v / 2 ^ (512 * i) % 2 ^ 512)) e.work }

/-- The running command of engine `n`, with its program, when its opcode is `op`. -/
def bnCommand (n op : Nat) (d : Dev) : Option (BnEngine × BnProg × Nat) :=
  let e := engineOf d n
  match e.prog with
  | none => none
  | some p =>
    if p.ended || p.failed then none
    else match p.cmds[p.pc]? with
    | none => none
    | some w => if cOp w = op then some (e, p, w) else none

/-- A command's effect on the engine and its program, and the step to the next command. -/
def bnStep (n : Fin 48) (op : Nat) (f : BnEngine → BnProg → Nat → BnEngine × BnProg) (s : State) : Out :=
  onDev (fun d =>
    match bnCommand n.val op d with
    | none => d
    | some (e, p, w) =>
      let (e, p) := f e p w
      onEngine n.val (fun _ => { e with prog := some { p with pc := p.pc + 1 } }) d) s

/-- The configured slot a field names; admission has seen that it is configured. -/
def pSlot (p : BnProg) (i : Nat) : BnSlot := lookD { base := 0, words := 1 } p.slots i

/-- A command that computes DST from numbers; a result the manual does not state (a modulus of zero, a sum that is the
identity and has no form in a slot) is a free value. -/
def bnCompute (n : Fin 48) (op : Nat) (f : BnEngine → BnProg → Nat → Option Nat) (s : State) : Out :=
  onDev (fun d =>
    match bnCommand n.val op d with
    | none => d
    | some (e, p, w) =>
      let (fv, d) := freshFree d
      let e := slotPut (pSlot p (cDst w)) ((f e p w).getD (Config.freeNat fv)) e
      onEngine n.val (fun _ => { e with prog := some { p with pc := p.pc + 1 } }) d) s

/-- A number modulo m. -/
def modN (v m : Nat) : Option Nat := if m = 0 then none else some (v % m)

def opA (e : BnEngine) (p : BnProg) (w : Nat) : Nat := slotVal e (pSlot p (cA w))
def opB (e : BnEngine) (p : BnProg) (w : Nat) : Nat := slotVal e (pSlot p (cB w))
def opM (e : BnEngine) (p : BnProg) (w : Nat) : Nat := slotVal e (pSlot p (cMod w))

/-- The Montgomery radix of a command's modulus slot: 2^512 to the slot's words. -/
def montR (p : BnProg) (w : Nat) : Nat := 2 ^ (512 * (pSlot p (cMod w)).words)

/-- BN_SLOTCFG (R190). -/
def execBnSlotcfg (n : Fin 48) (s : State) : Out :=
  bnStep n 0x01 (fun e p w => (e, { p with slots := ins p.slots (cDst w) (cfgSlot w) })) s

/-- BN_LOAD: big-endian from the input at IMM × 64. -/
def execBnLoad (n : Fin 48) (s : State) : Out :=
  bnStep n 0x02 (fun e p w =>
    let sl := pSlot p (cDst w)
    (slotPut sl (beAt p.data (cImm w * 64) (64 * sl.words)) e, p)) s

/-- Bytes of a program's output at an offset go where its job's output goes, at once (R191). -/
def storeOut (n o : Nat) (b : Bytes) (s : State) : State :=
  match (engineOf s.dev n).job.bind (opOf s.dev) with
  | none => s
  | some op =>
    let secret := match op.req.src with
      | .engine p k => if h : k < 8 then (procOf s.dev p).jobs[k].secret else false
      | _ => false
    writeSpans secret (spread (skipSpans o op.req.outPhys) b) s

/-- BN_STORE: big-endian to the output at IMM × 64, written as the command runs. -/
def execBnStore (n : Fin 48) (s : State) : Out :=
  match bnCommand n.val 0x03 s.dev with
  | none => .next s
  | some (e, p, w) =>
    let sl := pSlot p (cA w)
    let o := cImm w * 64
    bnStep n 0x03 (fun e p _ => (e, { p with top := max p.top (o + 64 * sl.words) }))
      (storeOut n.val o (be (64 * sl.words) (slotVal e sl)) s)

/-- BN_MONTIN: SRCA · R mod MOD. -/
def execBnMontin (n : Fin 48) (s : State) : Out :=
  bnCompute n 0x04 (fun e p w => modN (opA e p w * montR p w) (opM e p w)) s

/-- BN_MONTOUT: SRCA · R⁻¹ mod MOD; modulo an even number R has no inverse. -/
def execBnMontout (n : Fin 48) (s : State) : Out :=
  bnCompute n 0x05 (fun e p w => (modInv (montR p w) (opM e p w)).map (fun r => opA e p w * r % opM e p w)) s

/-- BN_MODADD. -/
def execBnModadd (n : Fin 48) (s : State) : Out :=
  bnCompute n 0x06 (fun e p w => modN (opA e p w + opB e p w) (opM e p w)) s

/-- BN_MODSUB. -/
def execBnModsub (n : Fin 48) (s : State) : Out :=
  bnCompute n 0x07 (fun e p w => if opM e p w = 0 then none
    else some (((opA e p w : Int) - opB e p w) % (opM e p w : Int)).toNat) s

/-- BN_MODMUL. -/
def execBnModmul (n : Fin 48) (s : State) : Out :=
  bnCompute n 0x08 (fun e p w => modN (opA e p w * opB e p w) (opM e p w)) s

/-- BN_MODSQR. -/
def execBnModsqr (n : Fin 48) (s : State) : Out :=
  bnCompute n 0x09 (fun e p w => modN (opA e p w * opA e p w) (opM e p w)) s

/-- BN_MODINV (R190, R191): a value with no inverse ends the program. -/
def execBnModinv (n : Fin 48) (s : State) : Out :=
  bnStep n 0x0A (fun e p w =>
    match modInv (opA e p w) (opM e p w) with
    | some v => (slotPut (pSlot p (cDst w)) v e, p)
    | none => (e, { p with failed := true })) s

/-- BN_MODEXP. -/
def execBnModexp (n : Fin 48) (s : State) : Out :=
  bnCompute n 0x0B (fun e p w => if opM e p w = 0 then none
    else some (powMod (opA e p w) (opB e p w) (opM e p w))) s

/-- BN_MUL: the full product. -/
def execBnMul (n : Fin 48) (s : State) : Out := bnCompute n 0x0C (fun e p w => some (opA e p w * opB e p w)) s

/-- BN_CMP (R190, R191): with REQ_EQUAL inequality ends the program. -/
def execBnCmp (n : Fin 48) (s : State) : Out :=
  bnStep n 0x0D (fun e p w =>
    (e, { p with failed := bitOf (cFlags w) 0 && !(opA e p w == opB e p w) })) s

/-- BN_COPY. -/
def execBnCopy (n : Fin 48) (s : State) : Out := bnCompute n 0x0E (fun e p w => some (opA e p w)) s

/-- BN_ZERO. -/
def execBnZero (n : Fin 48) (s : State) : Out := bnCompute n 0x0F (fun _ _ _ => some 0) s

/-- A slot's X ‖ Y as a point of a curve, and back. -/
def ptVal (c : Curve) (v : Nat) : Nat × Nat := (v / 2 ^ (8 * c.len) % 2 ^ (8 * c.len), v % 2 ^ (8 * c.len))
def valPt (c : Curve) (P : Nat × Nat) : Nat := P.1 * 2 ^ (8 * c.len) + P.2

/-- A point command on the curve of IMM. -/
def bnPoint (n : Fin 48) (op : Nat) (f : Curve → Nat → Nat → Option (Nat × Nat)) (s : State) : Out :=
  bnCompute n op (fun e p w =>
    match curveOf (cImm w) with
    | none => none
    | some c => (f c (opA e p w) (opB e p w)).map (valPt c)) s

/-- BN_ECADD. -/
def execBnEcadd (n : Fin 48) (s : State) : Out :=
  bnPoint n 0x10 (fun c a b => ptAdd c (some (ptVal c a)) (some (ptVal c b))) s

/-- BN_ECDBL. -/
def execBnEcdbl (n : Fin 48) (s : State) : Out :=
  bnPoint n 0x11 (fun c a _ => ptAdd c (some (ptVal c a)) (some (ptVal c a))) s

/-- BN_ECMUL: [SRCB]SRCA. -/
def execBnEcmul (n : Fin 48) (s : State) : Out := bnPoint n 0x12 (fun c a b => ptMul c b (ptVal c a)) s

/-- BN_ECCHECK (R190, R191): a point off the curve, or the identity, ends the program. -/
def execBnEccheck (n : Fin 48) (s : State) : Out :=
  bnStep n 0x13 (fun e p w =>
    (e, { p with failed := !(match curveOf (cImm w) with | some c => ptValid c (ptVal c (opA e p w)) | none => false) })) s

/-- BN_NTT. -/
def execBnNtt (n : Fin 48) (s : State) : Out := bnCompute n 0x18 (fun e p w => some (polyRun1 (cImm w) nttOf (opA e p w))) s

/-- BN_INTT. -/
def execBnIntt (n : Fin 48) (s : State) : Out := bnCompute n 0x19 (fun e p w => some (polyRun1 (cImm w) inttOf (opA e p w))) s

/-- BN_PMUL. -/
def execBnPmul (n : Fin 48) (s : State) : Out :=
  bnCompute n 0x1A (fun e p w => some (polyRun2 (cImm w) polyMul (opA e p w) (opB e p w))) s

/-- BN_PADD. -/
def execBnPadd (n : Fin 48) (s : State) : Out :=
  bnCompute n 0x1B (fun e p w => some (polyRun2 (cImm w) polySum (opA e p w) (opB e p w))) s

/-- BN_END (R190). -/
def execBnEnd (n : Fin 48) (s : State) : Out := bnStep n 0x3F (fun e p _ => (e, { p with ended := true })) s

end Sys2Proof.Machine
end

