-- ==== Sys2Proof/Machine/Admit.lean ====
section
/-! DEFINITION. Admission: the twelve checks of R16 in their order, lookups and leases at an admission point (R53, R68,
R69, R76, R84), and the queue an admitted job enters (R115). -/

set_option linter.unusedVariables false

namespace Sys2Proof.Machine

open Sys2Proof

/-! Scatter-gather lists. -/

/-- The entries of a list, read up to the one with LAST, or 256 of them (R102). -/
def sglParse : Nat → Bytes → List SglEntry
  | 0, _ => []
  | n + 1, b =>
    let e : SglEntry := { addr := leAt b 0 8, len := leAt b 8 4, flags := leAt b 12 4 }
    if bitOf e.flags 0 then [e] else e :: sglParse n (b.drop 16)

/-- Total length of a list. -/
def sglLen (l : List SglEntry) : Nat := (l.map (fun e => e.len)).foldl (· + ·) 0

/-- A list has a LAST entry, no reserved flag and no entry of length zero (R102). -/
def sglOk (l : List SglEntry) : Bool :=
  l.all (fun e => !(e.len == 0) && decide (e.flags ≤ 1)) &&
    (match l.getLast? with | some e => e.flags == 1 | none => false)

/-- Two spans share a byte. -/
def spansMeet (a b : Nat × Nat) : Bool := decide (0 < a.2 ∧ 0 < b.2 ∧ a.1 < b.1 + b.2 ∧ b.1 < a.1 + a.2)

/-! What a request names. -/

/-- The keys of a request, KEY first, and whether check 12 applies to each (R99, R129, R167, R170). -/
def reqKeys (j : Job) : List (Nat × Bool) :=
  if j.service = 1 then
    match symFn j.func with
    | some f => if (symUsage f).isSome then [(j.key, true)] else []
    | none => []
  else if j.service = 2 then (j.key, true) :: (if has [0x01, 0x02, 0x22, 0x51] j.func then [(j.key2, true)] else [])
  else if j.service = 3 then
    (if pkInline j then [] else [(j.key, !(j.func == 0x31))]) ++
      (if j.func = 0x21 ∨ (j.func = 0x10 ∧ j.key2 ≠ 0) ∨ pkInline j && j.func == 0x11 then [(j.key2, true)] else [])
  else []

/-- The admission point that serves a handle: classes 1 and 2 are admitted at the central cache (R182). -/
def pointOf (q : Req) (h : Nat) : Nat :=
  if handleClass h == 1 || handleClass h == 2 then central else q.point

/-- The tier a lookup reads: the point's own cache unless the request is served from another (R84). -/
def tierOf (q : Req) (h : Nat) : Nat := lookD (pointOf q h) q.tiers (handleIndex h)

/-- What a lookup gives: a record, a status, or a miss at a tier (R53, R76). -/
inductive Found where
  | key (k : KeyRec)
  | bad (st : Status)
  | miss (tier : Nat)

/-- Look a handle up for a request. -/
def lookKey (d : Dev) (q : Req) (h : Nat) : Found :=
  let tier := tierOf q h
  if tier = 33 then
    match resolve d.ks q.custodian q.domain h with
    | .ok (_, k) => .key k
    | .error e => .bad e
  else match cacheHit d.ks tier (handleIndex h) with
  | none => .miss tier
  | some l =>
    match resolveCopy d.ks l.key q.custodian q.domain h with
    | .ok k => .key k
    | .error e => .bad e

/-- The record a handle would resolve to, read past the caches: for lengths that follow from a key's TYPE at check 4. -/
def peekKey (d : Dev) (q : Req) (h : Nat) : Option KeyRec :=
  match resolve d.ks q.custodian q.domain h with
  | .ok (_, k) => some k
  | .error _ => none

/-- TYPE the lengths of a public-key function follow from (R164, R169). -/
def pkLenType (d : Dev) (q : Req) : Option Nat :=
  let j := q.job
  if pkInline j then some j.pset
  else if j.func = 0x21 then (peekKey d q j.key2).map (fun k => k.typ)
  else (peekKey d q j.key).map (fun k => k.typ)

/-- The output a request is known at admission to produce. -/
def knownOut (d : Dev) (q : Req) : Nat :=
  let j := q.job
  if j.service = 1 then
    match symFn j.func with | some f => symOut f j | none => 0
  else if j.service = 2 then payOut j
  else if j.service = 3 then
    match pkLenType d q with
    | some t => pkOut j t (((peekKey d q j.key).map (fun k => k.material.length)).getD 0)
    | none => 0
  else progOut [] (progCmds j q.input)

/-- The common part of check 3: reserved bits (R100, R101), lists (R102), overlap (R103), the rules of ABI v1 (R377). -/
def commonFormatOk (d : Dev) (q : Req) : Bool :=
  let j := q.job
  fieldOf j.dflags 8 8 == 0 && !bitOf j.dflags 4 && !bitOf j.dflags 1 && j.outCtl / 2 == 0 && j.resv == 0 &&
    (!j.inSgl || (sglOk q.inSgl && sglLen q.inSgl == j.inLen)) &&
    (!j.outSgl || (sglOk q.outSgl && decide (knownOut d q ≤ sglLen q.outSgl))) &&
    ((!j.inSgl && !j.outSgl && j.inAddr == j.outAddr) ||
      !((inSpans q).any (fun a => (outSpans q).any (fun b => spansMeet a b)))) &&
    (match q.src with | .mailbox _ => !j.intr && !j.inSgl && !j.outSgl | _ => true)

/-- Check 3 (R16). -/
def formatOk (d : Dev) (q : Req) : Bool :=
  let j := q.job
  commonFormatOk d q &&
    (if j.service = 1 then (match symFn j.func with | some f => symFormatOk f j | none => false)
     else if j.service = 2 then payFormatOk j q.input
     else if j.service = 3 then pkFormatOk j (pkLenType d q)
     else j.service == 4 && progFormatOk j q.input)

/-- Check 4 (R16). -/
def lengthOk (d : Dev) (q : Req) : Bool :=
  let j := q.job
  if j.service = 1 then (match symFn j.func with | some f => symLengthOk f j | none => false)
  else if j.service = 2 then
    payLengthOk j (match peekKey d q j.key, peekKey d q j.key2 with
      | some k, some kb => some (k.material.length, kb.typ)
      | _, _ => none)
  else if j.service = 3 then
    pkLengthOk j (pkLenType d q) (((peekKey d q j.key).map (fun k => k.material.length)).getD 0)
  else progLengthOk j q.input

/-- Check 5 (R361): a host job names its own open channel. -/
def channelOk (d : Dev) (q : Req) : Bool :=
  match q.src with
  | .host c _ => match look d.host.chans c with
    | some ch => q.job.channel == chanHandle c ch
    | none => false
  | _ => true

/-- Check 9 on the resolved keys, KEY first (R99, R133, R167). -/
def usageAllowed (q : Req) (ks : List KeyRec) : Bool :=
  let j := q.job
  if j.service = 1 then
    match symFn j.func, ks with
    | some f, [k] => k.cls == 0 && symType f k.typ &&
        (match symUsage f with | some b => bitOf k.usage b | none => true)
    | _, _ => true
  else if j.service = 2 then
    match ks with
    | k :: r => payKeyOk j q.input k && r.all (payKey2Ok j)
    | [] => true
  else if j.service = 3 then
    if pkInline j then true
    else match ks with
      | k :: r => pkKeyOk j k && r.all (pkKey2Ok j (some k))
      | [] => true
  else true

/-- Host jobs carry a priority that names a class (R115). -/
def isHostSrc (q : Req) : Bool := match q.src with | .host .. => true | .mailbox _ => true | _ => false

/-- A transmit SA holds the key (R318). -/
def heldByTxSa (d : Dev) (idx gen : Nat) : Bool :=
  d.net.ports.any (fun p => p.2.txSas.any (fun a => a.2.idx == idx && a.2.gen == gen && !a.2.lost))

/-- Check 10 (R110, R115, R133, R188, R242, R318). -/
def policyAllowed (d : Dev) (q : Req) (keys : List (Nat × KeyRec)) : Bool :=
  let j := q.job
  !q.spanFault && (!isHostSrc q || decide (2 ≤ j.prio)) &&
    (if j.service = 1 then
       match symFn j.func with
       | some f => (!ivPolicy f || allZero j.iv) &&
           !((symUsage f == some 0 || (f.kind == .gmac && symUsage f == some 2)) &&
             keys.any (fun e => heldByTxSa d e.1 e.2.gen))
       | none => true
     else if j.service = 2 then
       match keys with
       | (i, k) :: r => payPolicyOk d j q.input i k (r.head?.map (fun e => e.2))
       | [] => true
     else if j.service = 3 then pkPolicyOk d j keys
     else q.custodian)

/-! Check 11. -/

/-- POOL_TAG_LIMIT (R118) and BN_TAG_LIMIT (R181). -/
def poolLimit (d : Dev) : Nat := if 2 ≤ d.life.reef then 36864 else 49152
def bnLimitTags (d : Dev) : Nat := if 2 ≤ d.life.reef then 6144 else 8192

/-- An operation counts against its unit's limit: in ISSUED or RUNNING; the pool's does not count the custodian reserve (R118,
R181). -/
def counts (bn : Bool) (o : Op) : Bool :=
  (bn || !o.reserve) && (o.phase == .issued || o.phase == .running) && isBnService o.req.job.service == bn &&
    (match o.req.src with | .message .. => false | _ => true)

/-- Tags held against the pool limit: jobs in ISSUED or RUNNING, and children reserved and not yet drawn (R118). -/
def poolHeld (d : Dev) : Nat :=
  (d.op.ops.filter (fun e => counts false e.2)).length + (d.op.ops.map (fun e => e.2.resv.length)).foldl (· + ·) 0

/-- Tags held against the BN limit (R181). -/
def bnHeld (d : Dev) : Nat := (d.op.ops.filter (fun e => counts true e.2)).length

/-- A host job's channel holds its share of tags (R117, R181). -/
def shareFull (d : Dev) (q : Req) : Bool :=
  match srcChan d q.src with
  | none => false
  | some c => match look d.host.chans c with
    | none => false
    | some ch => decide (ch.share ≤ (if isBnService q.job.service then ch.bnTags else ch.poolTags))

/-- The serving unit's limit allows no more (R118, R181). -/
def limitFull (d : Dev) (q : Req) : Bool :=
  if isBnService q.job.service then decide (bnLimitTags d ≤ bnHeld d) else decide (poolLimit d ≤ poolHeld d)

/-- A function that creates keys finds no room in the journal or no free index (R92). -/
def createsKey (q : Req) : Bool :=
  (q.job.service == 2 && (q.job.func == 0x10 || q.job.func == 0x50)) || (q.job.service == 3 && pkCreates q.job.func)

/-- Check 11 fails (R16, R92, R117, R118, R181, R491). -/
def busy (d : Dev) (q : Req) : Bool :=
  (createsKey q && (!roomToCreate d.ks || decide (FreeList.count 16773119 d.ks.free < 2))) ||
    (isHostSrc q && (isThrottled d || shareFull d q || limitFull d q || openTags d == 0))

/-! Check 12. -/

/-- A key whose IVCTR cannot take a further reservation is refused for functions that draw nonces (R74, R112). -/
def ivExhausted (d : Dev) (q : Req) : Bool :=
  q.job.service == 1 &&
    (match symFn q.job.func with
     | some f => drawsNonce f && (match look d.ks.keys (handleIndex q.job.key) with
       | some k => decide (2 ^ 64 - 1 < k.ivctr + 65536)
       | none => false)
     | none => false)

/-- The number of a point's lease of a key (R68). -/
def leaseKey (point idx : Nat) : Nat := point * 2 ^ 24 + idx

/-- What drawing one use of each key gives: the leases left, exhaustion, or a lease to ask for. -/
inductive Uses where
  | ok (leases : FMap Nat)
  | exhausted
  | lease (point idx : Nat)

/-- Draw one use of each counted key, in order (R69, R133). -/
def drawUses (d : Dev) (q : Req) : List (Nat × Bool × KeyRec) → FMap Nat → Uses
  | [], m => .ok m
  | (h, uses, k) :: r, m =>
    if !uses || !k.counted then drawUses d q r m
    else
      let key := leaseKey (pointOf q h) (handleIndex h)
      let n := lookD 0 m key
      if 0 < n then drawUses d q r (put 0 m key (n - 1))
      else match look d.ks.keys (handleIndex h) with
        | some k => if k.uses = 0 then .exhausted else .lease (pointOf q h) (handleIndex h)
        | none => .exhausted

/-! Queues. -/

/-- The class of a job by its source (R115). -/
def classOf (q : Req) : Nat :=
  match q.src with
  | .host .. => q.job.prio
  | .mailbox _ => q.job.prio
  | _ => if q.parent.isSome then 1 else 0

/-- No channel: a custodian job, or one whose message is gone. -/
def noChan : Nat := 65536

/-- The channel a job is served under within its class (R116). -/
def queueChan (d : Dev) (q : Req) : Nat :=
  match srcChan d q.src with
  | some c => c
  | none => match q.parent with
    | some p => match look d.rig.msgs p with
      | some m => m.origin.chan
      | none => noChan
    | none => noChan

/-- Put a job before the first later job of its own channel; at the end where there is none. -/
def queueJob (j : QJob) : List QJob → List QJob
  | [] => [j]
  | x :: r => if x.chan = j.chan ∧ j.order < x.order then j :: x :: r else x :: queueJob j r

/-- A job enters the queue of its class (R115, R179), behind the jobs of its channel that were submitted before it (R116). -/
def enqueue (tag cls chan cost order : Nat) (q : ClassQueue) : ClassQueue :=
  { q with jobs := queueJob { tag := tag, chan := chan, cost := cost, order := order } q.jobs }

/-- The cost a job is charged: bytes of input, or cost units (R116, R179). -/
def costOf (q : Req) (ks : List KeyRec) : Nat :=
  let j := q.job
  if j.service = 3 then
    pkCost j.func (if j.func = 0x21 then ((ks.drop 1).head?.map (fun k => k.typ)).getD 0
      else if pkInline j ∨ j.func = 0x30 then j.pset else (ks.head?.map (fun k => k.typ)).getD 0)
  else if j.service = 4 then Config.bnUnits 0x40 0
  else j.inLen

/-- The tag an admitted request takes (R16, R25, R26); none where a custodian job finds the reserve empty. -/
def admitTag (q : Req) (d : Dev) : Option (Nat × Dev) :=
  match q.childTag with
  | some t => some (t, d)
  | none =>
    if isHostSrc q then takeTag d
    else if 1024 ≤ d.op.custodianUsed then none
    else match takeTag d with
      | none => none
      | some (t, d) => some (t, { d with op := { d.op with custodianUsed := d.op.custodianUsed + 1 } })

/-- The pins of a request's keys: at the tier that served each (R81). -/
def pinsOf (q : Req) (keys : List (Nat × Bool × KeyRec)) : List Pin :=
  keys.map (fun e => { point := tierOf q e.1, idx := handleIndex e.1, gen := e.2.2.gen })

/-- Admit a request: uses drawn, entries pinned, tag taken, job queued, in one step (R16, R22, R69, R81). -/
def admitReq (q : Req) (keys : List (Nat × Bool × KeyRec)) (leases : FMap Nat) (d : Dev) : Dev :=
  match admitTag q d with
  | none => { d with op := { d.op with waitTag := d.op.waitTag ++ [q] } }
  | some (tag, d) =>
    let pins := pinsOf q keys
    let ks := { d.ks with leases := leases }
    let ks := pins.foldl (fun ks p => if p.point ≤ 32 then pinLine p.point p.idx ks else ks) ks
    let cls := classOf q
    let o : Op := { phase := .issued, req := q, cls := cls, pins := pins, parent := q.parent, started := d.tb.now,
                    reserve := !isHostSrc q && q.childTag.isNone }
    let d := bump (dk 0x8000 1) { d with ks := ks }
    let d := putOp tag o d
    let d := countChan d o true
    let d := match q.parent with
      | none => d
      | some p => onOp p (fun o => { o with kids := o.kids ++ [tag], drawn := without o.drawn tag }) d
    let d := match q.src with
      | .engine p k => onProc p (fun x => if h : k < 8 then
          { x with jobs := x.jobs.set k { x.jobs[k] with tag := some tag } } else x) d
      | _ => d
    let cost := costOf q (keys.map (fun e => e.2.2))
    if isBnService q.job.service then
      { d with bn := { d.bn with queues := upd {} d.bn.queues cls (enqueue tag cls (queueChan d q) cost (q.order.getD 0)) } }
    else
      { d with pool := { d.pool with queues := upd {} d.pool.queues cls (enqueue tag cls (queueChan d q) cost (q.order.getD 0)) } }

/-- Count a lookup in CACHE_STATS (R95): hits at sub 1 and 3, misses at 2 and 4. -/
def countLookup (tier : Nat) (hit : Bool) (d : Dev) : Dev :=
  if tier < 32 then bump (dk 0x2004 (if hit then 1 else 2)) d
  else if tier = 32 then bump (dk 0x2004 (if hit then 3 else 4)) d
  else d

/-- Checks 7 and 8 over the keys, KEY first: the first miss, or the first failing status (R16, R133). -/
def findKeys (d : Dev) (q : Req) : List (Nat × Bool) → Except (Status ⊕ Nat) (List (Nat × Bool × Option KeyRec))
  | [] => .ok []
  | (h, u) :: r =>
    match lookKey d q h with
    | .miss t => .error (.inr t)
    | .bad .keyExpired =>
      match findKeys d q r with
      | .error e => .error e
      | .ok l => .ok ((h, u, none) :: l)
    | .bad st => .error (.inl st)
    | .key k =>
      match findKeys d q r with
      | .error e => .error e
      | .ok l => .ok ((h, u, some k) :: l)

/-- Count one lookup of a request, once: a lookup that has been filled, or is repeated, is not counted again (R95). -/
def noteLook (tier idx : Nat) (hit : Bool) (x : Req × Dev) : Req × Dev :=
  if has x.1.looked (tier, idx) then x
  else ({ x.1 with looked := x.1.looked ++ [(tier, idx)] }, countLookup tier hit x.2)

/-- Count the lookups of a request's keys, in order, up to the one that misses or fails (R95). -/
def noteLooks (q : Req) (d : Dev) : List (Nat × Bool) → Req × Dev
  | [] => (q, d)
  | (h, _) :: r =>
    let note := fun hit => noteLook (tierOf q h) (handleIndex h) hit (q, d)
    match lookKey d q h with
    | .miss _ => note false
    | .bad .keyExpired => noteLooks (note true).1 (note true).2 r
    | .bad _ => note true
    | .key _ => noteLooks (note true).1 (note true).2 r

/-- Checks 9 to 12 on resolved keys. -/
def lateChecks (q : Req) (keys : List (Nat × Bool × KeyRec)) (d : Dev) : Dev :=
  let recs := keys.map (fun e => e.2.2)
  if !usageAllowed q recs then refuse .usageDenied q d
  else if !policyAllowed d q (keys.map (fun e => (handleIndex e.1, e.2.2))) then refuse .policy q d
  else if busy d q then
    refuse .busyRetry q (if isHostSrc q && !(isBnService q.job.service) && (shareFull d q || limitFull d q) then
      bump (dk 0x8104 2) d else d)
  else if ivExhausted d q then refuse .keyUseExhausted q d
  else match drawUses d q keys d.ks.leases with
    | .exhausted => refuse .keyUseExhausted q d
    | .lease _ _ => { d with op := { d.op with waitLease := d.op.waitLease ++ [{ q with leaseAsked := false }] } }
    | .ok leases => admitReq q keys leases d

/-- A host request of a function that is being reset is discarded: neither admitted nor refused (R380). -/
def discarded (d : Dev) (q : Req) : Bool :=
  match q.src with
  | .host c _ => match look d.host.chans c with
    | some ch => match ch.kind with
      | .slot fn _ => !fnLive d fn
      | _ => true
    | none => true
  | .mailbox fn => !fnLive d fn
  | _ => false

/-- A child job's parent has been squashed (R28, R224). -/
def parentGone (d : Dev) (q : Req) : Bool :=
  match q.parent with
  | none => false
  | some p => match look d.op.ops p with
    | none => true
    | some o => o.phase == .completing && o.status == .squashed

/-- A request takes its place in the order of submission as the device first has it (R116, R119). -/
def stampOrder (q : Req) (d : Dev) : Req × Dev :=
  if q.order.isSome then (q, d)
  else ({ q with order := some d.op.nextOrder }, { d with op := { d.op with nextOrder := d.op.nextOrder + 1 } })

/-- Admission (R16): the first failing check of the twelve, or admission; a miss waits for its fill, a counted key without
a lease for its lease. -/
def tryAdmit (q : Req) (d : Dev) : Dev :=
  let (q, d) := stampOrder q d
  if discarded d q then d
  else if parentGone d q then squashChild q d
  else if d.life.hobbled then refuse .hobbled q d
  else if (match q.src with | .mailbox _ => !(q.job.service == 1 || q.job.service == 3) | _ => false) then
    refuse .version q d
  else if q.readFault then refuse .faultDetected q d
  else if !formatOk d q then refuse .format q d
  else if !lengthOk d q then refuse .lengthError q d
  else if !channelOk d q then refuse .channelClosed q d
  else if !d.life.ready then refuse .busyRetry q d
  else
    let (q, d) := noteLooks q d (reqKeys q.job)
    match findKeys d q (reqKeys q.job) with
    | .error (.inl st) => refuse st q d
    | .error (.inr _) => { d with op := { d.op with waitFill := d.op.waitFill ++ [q] } }
    | .ok l =>
      match l.mapM (fun e => match e.2.2 with | some k => some (e.1, e.2.1, k) | none => none) with
      | none => refuse .keyExpired q d
      | some keys => lateChecks q keys d

/-- Take the n-th of a list out of it. -/
def pluck {α : Type} (l : List α) (n : Nat) : Option (α × List α) :=
  match l[n]? with
  | none => none
  | some a => some (a, l.eraseIdx n)

/-! Leases, fills and STALE answers. -/

/-- The key store takes back the unspent part of a point's lease (R70). -/
def returnLease (point idx : Nat) (d : Dev) : Dev :=
  let n := lookD 0 d.ks.leases (leaseKey point idx)
  if n = 0 then d
  else match look d.ks.keys idx with
    | none => d
    | some k =>
      if !liveKey d.ks k then { d with ks := { d.ks with leases := del d.ks.leases (leaseKey point idx) } }
      else
      let d := { d with ks := { d.ks with leases := del d.ks.leases (leaseKey point idx),
                                          keys := ins d.ks.keys idx { k with uses := k.uses + n } } }
      if k.volatileKey then d else (queueRec idx (.leaseReturn n point) d).2

/-- Discard a point's lease of a key (R70). -/
def dropLease (point idx : Nat) (d : Dev) : Dev :=
  { d with ks := { d.ks with leases := del d.ks.leases (leaseKey point idx) } }

/-- Whether a string cache may hold a record (R86). -/
def stringHolds (k : KeyRec) : Bool := (k.cls == 0 || k.cls == 3 || k.cls == 4) && decide (k.material.length ≤ 48)

/-- Extension lines that the central cache's entries hold (R86). -/
def centralExt (ks : KeyStore) : Nat :=
  ((ks.caches.filter (fun e => e.1 / 65536 == central)).map (fun e =>
    (e.2.map (fun l => extLines l.key.material.length)).foldl (· + ·) 0)).foldl (· + ·) 0

/-- Release extension lines of the central cache, least recently used key first, until `n` are free; its unspent lease goes
back (R70, R86). None where the keys that jobs pin hold too many. -/
def freeCentralExt (n : Nat) : Nat → Dev → Option Dev
  | 0, d => if centralExt d.ks + n ≤ 131072 then some d else none
  | fuel + 1, d =>
    if centralExt d.ks + n ≤ 131072 then some d
    else
      let idle := fun i => ((cacheSet d.ks central i).filter (fun l => l.idx == i)).all (fun l => l.pins == 0)
      match d.ks.centralLru.find? idle with
      | none => none
      | some i =>
        let d := returnLease central i d
        let ks := onSet central i (fun ls => ls.filter (fun l => !(l.idx == i))) d.ks
        freeCentralExt n fuel { d with ks := { ks with centralLru := without ks.centralLru i } }

/-- The device with room for a record's extension lines at a tier; none where there is none (R86). -/
def extRoom (tier idx : Nat) (k : KeyRec) (d : Dev) : Option Dev :=
  let n := extLines k.material.length
  if tier = central ∧ 0 < n then
    (freeCentralExt n d.ks.centralLru.length d).map (fun d =>
      { d with ks := { d.ks with centralLru := without d.ks.centralLru idx ++ [idx] } })
  else some d

/-- Install a record at a tier, evicting an unpinned entry of a full set (R70, R86); false where every way is pinned or the
central cache has no extension lines to release. -/
def install (tier idx : Nat) (k : KeyRec) (d : Dev) : Bool × Dev :=
  match extRoom tier idx k d with
  | none => (false, d)
  | some d =>
  let ls := cacheSet d.ks tier idx
  let line : CacheLine := { idx := idx, key := k }
  if ls.length < 16 then (true, { d with ks := onSet tier idx (fun ls => ls ++ [line]) d.ks })
  else
    let open_ := ls.filter (fun l => l.pins == 0)
    let (n, d) := if tier < 32 then (0, d) else
      let (f, d) := freshFree d
      (Config.centralVictim f % max 1 open_.length, d)
    match open_[n]? with
    | none => (false, d)
    | some v =>
      let d := returnLease tier v.idx d
      (true, { d with ks := onSet tier idx (fun ls => ls.filter (fun l => !(l.idx == v.idx && l.pins == 0)) ++ [line]) d.ks })

/-- The first of a request's keys that misses, with its handle. -/
def firstMiss (d : Dev) (q : Req) : List (Nat × Bool) → Option (Nat × Nat)
  | [] => none
  | (h, _) :: r =>
    match lookKey d q h with
    | .miss t => some (h, t)
    | _ => firstMiss d q r

/-- FILL (R84, R86): the next tier supplies the record the n-th waiting request misses. A string point is filled from the
central cache, which is filled first; a warm-store fill checks the lineage. Where every way is pinned the request is
served from the next tier. -/
def execFill (n : Nat) (s : State) : Out :=
  onDev (fun d =>
    match pluck d.op.waitFill n with
    | none => d
    | some (q, rest) =>
      let d := { d with op := { d.op with waitFill := rest } }
      match firstMiss d q (reqKeys q.job) with
      | none => tryAdmit q d
      | some (h, tier) =>
        let idx := handleIndex h
        match look d.ks.keys idx with
        | none => refuse .keyInvalid q d
        | some k =>
          if (tier == central || (cacheHit d.ks central idx).isNone) && poisonedAt (warmEntry idx) 128 d then
            refuse .faultDetected q (reportPoison srcKeyStore (warmEntry idx) 128 d)
          else if k.destroyed || !k.committed || orphaned d.ks k || d.ks.locked then refuse .keyInvalid q d
          else
            let here := if tier < 32 && (cacheHit d.ks central idx).isNone then central else tier
            let (q, d) := if tier < 32 then noteLook central idx (cacheHit d.ks central idx).isSome (q, d) else (q, d)
            if tier < 32 && !stringHolds k then tryAdmit { q with tiers := ins q.tiers idx central } d
            else
              let (ok, d) := install here idx k d
              let q := if ok then q
                else if here = central then { q with tiers := ins q.tiers idx 33 }
                else { q with tiers := ins q.tiers idx central }
              tryAdmit q d) s

/-- STALE (R84): the n-th waiting request repeats its lookup; after eight in a row the key store serves it. -/
def execStale (n : Nat) (s : State) : Out :=
  onDev (fun d =>
    match pluck d.op.waitFill n with
    | none => d
    | some (q, rest) =>
      let d := bump (dk 0x2004 5) { d with op := { d.op with waitFill := rest } }
      let q := { q with stales := q.stales + 1 }
      let q := if 8 ≤ q.stales then
        { q with tiers := (reqKeys q.job).foldl (fun t e => ins t (handleIndex e.1) 33) q.tiers } else q
      tryAdmit q d) s

/-- Give a lease to a point; the requests that wait for it are admitted. -/
def grantLease (point idx amount : Nat) (d : Dev) : Dev :=
  let d := { d with ks := { d.ks with leases := upd 0 d.ks.leases (leaseKey point idx) (· + amount) } }
  let mine := fun (q : Req) => q.leaseAsked &&
    (reqKeys q.job).any (fun e => handleIndex e.1 == idx && pointOf q e.1 == point)
  let ready := d.op.waitLease.filter mine
  let d := { d with op := { d.op with waitLease := d.op.waitLease.filter (fun q => !mine q) } }
  ready.foldl (fun d q => tryAdmit { q with leaseAsked := false } d) d

/-- A point has received the invalidation that ended a key: its lease is discarded on arrival (R84). -/
def sawEnd (d : Dev) (point idx gen : Nat) : Bool :=
  match look d.ks.keys idx with
  | none => true
  | some k =>
    let chain := (idx, gen) :: k.lineage
    (k.destroyed || !(k.gen == gen) || orphaned d.ks k) &&
      !(d.ks.invals.any (fun v => v.destroy && chain.any (fun e => e.1 == v.idx) && !has v.received point))

/-- A committed lease reaches its point (R68, R84). -/
def leaseArrives (point idx amount gen : Nat) (d : Dev) : Dev :=
  if sawEnd d point idx gen then
    let mine := fun (q : Req) => (reqKeys q.job).any (fun e => handleIndex e.1 == idx && pointOf q e.1 == point)
    let again := d.op.waitLease.filter mine
    let d := { d with op := { d.op with waitLease := d.op.waitLease.filter (fun q => !mine q) } }
    again.foldl (fun d q => tryAdmit { q with leaseAsked := false } d) d
  else grantLease point idx amount d

/-- Lmax (R95). -/
def leaseMax (d : Dev) : Nat := numOf 64 d (dk 0x2002 1)

/-- A lease of a key is on its way to a point: the point asks for no other (R70). -/
def leaseComing (d : Dev) (point idx : Nat) : Bool :=
  d.ks.waits.any (fun w => match w.kind with | .lease p i _ _ => p == point && i == idx | _ => false)

/-- LEASE (R68): for the n-th request that waits for uses, the key store debits C by L, queues a LEASE record and grants
the lease once it commits; the counter of a volatile key is never written, and its lease is granted at once (R72). A request
whose point has a lease of the key on its way waits for that one (R70). -/
def execLease (n : Nat) (s : State) : Out :=
  onDev (fun d =>
    match pluck d.op.waitLease n with
    | none => d
    | some (q, rest) =>
      if q.leaseAsked then d
      else
        let d0 := { d with op := { d.op with waitLease := rest } }
        match findKeys d0 q (reqKeys q.job) with
        | .error _ => tryAdmit q d0
        | .ok l =>
          match l.mapM (fun e => match e.2.2 with | some k => some (e.1, e.2.1, k) | none => none) with
          | none => tryAdmit q d0
          | some keys =>
            match drawUses d0 q keys d0.ks.leases with
            | .lease point idx =>
              if leaseComing d0 point idx then
                { d0 with op := { d0.op with waitLease := rest ++ [{ q with leaseAsked := true }] } }
              else
              (match look d0.ks.keys idx with
               | none => refuse .keyInvalid q d0
               | some k =>
                 if !roomToCreate d0.ks then refuse .busyRetry q d0
                 else
                   let amount := max 1 (min (leaseMax d0) (k.uses / 64))
                   let q := { q with leaseAsked := true }
                   let d := { d0 with
                     ks := { d0.ks with keys := ins d0.ks.keys idx { k with uses := k.uses - amount } },
                     op := { d0.op with waitLease := rest ++ [q] } }
                   if k.volatileKey then grantLease point idx amount d
                   else
                     let (seq, d) := queueRec idx (.lease amount point) d
                     waitFor seq (.lease point idx amount k.gen) d)
            | _ => tryAdmit q d0) s

end Sys2Proof.Machine
end

