-- ==== Sys2Proof/Machine/DictTable.lean ====
section
/-! DEFINITION. The dictionary (R404-R407): every entry the manual's tables list, with its type, its rights and its
Default, chapter by chapter. A row covers the indices and subindices it lists. -/

set_option linter.unusedVariables false

namespace Sys2Proof.Machine

open Sys2Proof

/-- Who a rights list names (R6, R12): `dualDo` and `dualDm` are its digits 2DO and 2DM. -/
inductive Who where
  | any | au | op | do_ | dm | hd | dualDo | dualDm
  deriving DecidableEq, Repr

/-- One row of a dictionary table: indices, subindices, type code (R405), read and write lists, Default. -/
structure DictRow where
  iLo : Nat
  iHi : Nat
  sLo : Nat
  sHi : Nat
  typ : Nat
  rd : List Who
  wr : List Who
  dflt : Nat
  name : String
  deriving DecidableEq, Repr

/-- A row from its columns. -/
def dr (iLo iHi sLo sHi typ : Nat) (rd wr : List Who) (dflt : Nat) (name : String) : DictRow :=
  { iLo := iLo, iHi := iHi, sLo := sLo, sHi := sHi, typ := typ, rd := rd, wr := wr, dflt := dflt, name := name }

/-- The read lists AU,OP,DO and AU,OP,DO,DM, the commonest of the tables. -/
def rd3 : List Who := [.au, .op, .do_]
def rd4 : List Who := [.au, .op, .do_, .dm]

/-- The entries of R95. -/
def rowsR95 : List DictRow := [
  dr 0x2000 0x2000 0x01 0x01 4 rd3 [] 0 "KEYS_LIVE",
  dr 0x2000 0x2000 0x02 0x02 4 rd3 [] 16777216 "KEYS_CAPACITY",
  dr 0x2000 0x2000 0x03 0x03 4 rd3 [] 0 "KEYS_UNSWEPT",
  dr 0x2000 0x2000 0x04 0x04 4 rd3 [] 0 "EXT_LINES_FREE",
  dr 0x2001 0x2001 0x01 0x01 5 rd3 [] 0 "JOURNAL_FREE",
  dr 0x2001 0x2001 0x02 0x02 5 rd3 [] 0 "SNAPSHOT_SIZE",
  dr 0x2001 0x2001 0x03 0x03 2 rd3 [] 0 "COMPACT_STATE",
  dr 0x2001 0x2001 0x04 0x04 4 rd3 [] 0 "COMPACT_EPOCH",
  dr 0x2001 0x2001 0x05 0x05 4 rd3 [] 0 "BOOT_COUNT",
  dr 0x2001 0x2001 0x06 0x06 2 rd3 [] 0 "RECOVERY",
  dr 0x2002 0x2002 0x01 0x01 2 rd3 [.dualDo] 64 "LEASE_MAX",
  dr 0x2003 0x2003 0x01 0x01 2 rd3 [] 0 "MIGRATE_STATE",
  dr 0x2003 0x2003 0x02 0x02 8 rd3 [] 0 "MIGRATE_TARGET",
  dr 0x2004 0x2004 0x01 0x05 5 rd3 [] 0 "CACHE_STATS",
  dr 0x2200 0x220F 0x00 0xFF 4 [.au, .do_, .dm] [] 0 "DOMAIN_KEYS",
  dr 0x2210 0x221F 0x00 0xFF 4 [.au, .do_, .dm] [.dualDo] 16777216 "DOMAIN_QUOTA"]

/-- The entries of R128. -/
def rowsR128 : List DictRow := [
  dr 0x8100 0x8100 0x01 0x01 2 rd3 [] 64 "POOL_CORES_SERVING",
  dr 0x8100 0x8100 0x02 0x02 4 rd3 [] 0 "POOL_TAGS_HELD",
  dr 0x8100 0x8100 0x03 0x03 4 rd3 [] 49152 "POOL_TAG_LIMIT",
  dr 0x8100 0x8100 0x04 0x04 5 rd3 [] 0 "SELFTEST_PASSES",
  dr 0x8100 0x8100 0x05 0x05 4 rd3 [] 0 "SELFTEST_FAILS",
  dr 0x8100 0x8100 0x06 0x06 5 rd3 [] 0 "PARITY_FAULTS",
  dr 0x8101 0x8101 0x01 0x04 4 rd3 [] 0 "QUEUE_DEPTH",
  dr 0x8102 0x8102 0x01 0x04 5 rd3 [] 0 "JOBS_DONE",
  dr 0x8103 0x8103 0x01 0x40 2 rd3 [] 0 "CORE_STATE",
  dr 0x8104 0x8104 0x01 0x01 5 rd3 [] 0 "AUTH_FAILS",
  dr 0x8104 0x8104 0x02 0x02 5 rd3 [] 0 "BUSY_RETRIES",
  dr 0x8104 0x8104 0x03 0x03 5 rd3 [] 0 "IV_WAITS"]

/-- The entries of R160. -/
def rowsR160 : List DictRow := [
  dr 0x2300 0x2300 0x01 0x01 3 rd3 [.dualDo] 256 "PIN_FAIL_LIMIT",
  dr 0x2300 0x2300 0x02 0x02 3 rd3 [.dualDo] 60 "PIN_SUSPEND",
  dr 0x2310 0x231F 0x00 0xFF 2 [.au, .do_, .dm] [.dualDo, .dualDm] 0 "DOMAIN_PAY_POLICY",
  dr 0x8110 0x8110 0x01 0x01 5 rd3 [] 0 "PIN_TRANSLATIONS",
  dr 0x8110 0x8110 0x02 0x02 5 rd3 [] 0 "PIN_STRUCT_FAILS",
  dr 0x8110 0x8110 0x03 0x03 4 rd3 [] 0 "PIN_SUSPENSIONS",
  dr 0x8110 0x8110 0x04 0x04 5 rd3 [] 0 "MAC_FAILS",
  dr 0x8110 0x8110 0x05 0x05 5 rd3 [] 0 "ARQC_FAILS",
  dr 0x8110 0x8110 0x06 0x06 5 rd3 [] 0 "KEYBLOCK_IMPORTS",
  dr 0x8110 0x8110 0x07 0x07 5 rd3 [] 0 "KEYBLOCK_FAILS"]

/-- The entries of R192. -/
def rowsR192 : List DictRow := [
  dr 0x8120 0x8120 0x01 0x01 2 rd3 [] 48 "BN_ENGINES_SERVING",
  dr 0x8120 0x8120 0x02 0x02 4 rd3 [] 0 "BN_TAGS_HELD",
  dr 0x8120 0x8120 0x03 0x03 4 rd3 [] 8192 "BN_TAG_LIMIT",
  dr 0x8120 0x8120 0x04 0x04 5 rd3 [] 0 "BN_SELFTEST_PASSES",
  dr 0x8120 0x8120 0x05 0x05 4 rd3 [] 0 "BN_SELFTEST_FAILS",
  dr 0x8120 0x8120 0x06 0x06 5 rd3 [] 0 "BN_FAULTS",
  dr 0x8120 0x8120 0x07 0x07 5 rd3 [] 0 "BN_ECC_CORRECTED",
  dr 0x8120 0x8120 0x08 0x08 4 rd3 [] 0 "BN_TIMEOUTS",
  dr 0x8121 0x8121 0x01 0x04 4 rd3 [] 0 "BN_QUEUE_DEPTH",
  dr 0x8122 0x8122 0x01 0x30 2 rd3 [] 0 "BN_ENGINE_STATE",
  dr 0x8123 0x8123 0x01 0x01 5 rd3 [] 0 "BN_SIGNATURES",
  dr 0x8123 0x8123 0x02 0x02 5 rd3 [] 0 "BN_VERIFY_FAILS",
  dr 0x8123 0x8123 0x03 0x03 5 rd3 [] 0 "BN_EXPANSIONS"]

/-- The entries of R292. -/
def rowsR292 : List DictRow := [
  dr 0x5000 0x5000 0x01 0x01 2 rd3 [] 2 "IMAGE_FORMAT",
  dr 0x5000 0x5000 0x02 0x02 3 rd3 [] 0 "DOMAINS_WITH_IMAGE",
  dr 0x5000 0x5000 0x03 0x03 4 rd3 [] 0 "ISTORE_FREE_MIN",
  dr 0x5001 0x5001 0x01 0x01 2 rd3 [.dualDo] 4 "BUDGET_FACTOR",
  dr 0x5001 0x5001 0x02 0x02 3 rd3 [.dualDo] 20 "QUIESCE_LIMIT",
  dr 0x5002 0x5002 0x01 0x01 5 rd3 [] 0 "MSG_RELEASED",
  dr 0x5002 0x5002 0x02 0x02 5 rd3 [] 0 "PARSE_DROPS",
  dr 0x5002 0x5002 0x03 0x03 5 rd3 [] 0 "ROUTE_DROPS",
  dr 0x5002 0x5002 0x04 0x04 5 rd3 [] 0 "OVERRUNS",
  dr 0x5002 0x5002 0x05 0x05 5 rd3 [] 0 "EMIT_DROPS",
  dr 0x5002 0x5002 0x06 0x06 5 rd3 [] 0 "FAULT_DROPS",
  dr 0x5002 0x5002 0x07 0x07 5 rd3 [] 0 "PLACEMENT_DROPS",
  dr 0x5002 0x5002 0x08 0x08 5 rd3 [] 0 "DISCARDS",
  dr 0x5003 0x5003 0x01 0x01 2 rd4 [] 0 "ADMIT_STATUS",
  dr 0x5003 0x5003 0x02 0x02 4 rd4 [] 0 "ADMIT_OFFSET",
  dr 0x5003 0x5003 0x03 0x03 3 rd3 [] 0 "ADMIT_DOMAIN",
  dr 0x5010 0x501F 0x00 0xFF 4 [.au, .do_, .dm] [] 0 "IMAGE_VERSION",
  dr 0x5020 0x502F 0x00 0xFF 2 [.au, .do_, .dm] [] 0 "IMAGE_STATE"]

/-- The entries of R326. -/
def rowsR326a : List DictRow := [
  dr 0x3000 0x303F 0x01 0x01 2 rd4 [] 1 "STATE",
  dr 0x3000 0x303F 0x02 0x02 1 rd4 [.op, .do_] 0 "ENABLE",
  dr 0x3000 0x303F 0x03 0x03 3 rd4 [.op, .do_] 511 "MODE_ALLOWED",
  dr 0x3000 0x303F 0x04 0x04 1 rd4 [.op, .do_] 1 "AN_ENABLE",
  dr 0x3000 0x303F 0x05 0x05 2 rd4 [.op, .do_] 1 "MODE_FORCED",
  dr 0x3000 0x303F 0x06 0x06 1 rd4 [.op, .do_] 1 "FEC25",
  dr 0x3000 0x303F 0x07 0x07 2 rd4 [] 0 "MODE",
  dr 0x3000 0x303F 0x08 0x08 2 rd4 [] 0 "FEC",
  dr 0x3000 0x303F 0x09 0x09 8 rd4 [] 0 "MAC_ADDR",
  dr 0x3000 0x303F 0x0A 0x0A 3 rd4 [.op, .do_] 9216 "MTU",
  dr 0x3000 0x303F 0x0B 0x0B 8 rd4 [.op, .do_] 0 "VLAN_LIST",
  dr 0x3000 0x303F 0x0C 0x0C 2 rd4 [.dualDo] 0 "ROLE",
  dr 0x3000 0x303F 0x0D 0x0D 2 rd4 [.dualDo] 0 "PAIR",
  dr 0x3000 0x303F 0x0E 0x0E 2 rd3 [.op, .do_] 0 "POLARITY",
  dr 0x3000 0x303F 0x0F 0x0F 3 rd4 [.dualDo] 0 "OWNER_DOMAIN",
  dr 0x3000 0x303F 0x10 0x10 2 rd4 [.dualDo] 0 "MACSEC_ENABLE",
  dr 0x3000 0x303F 0x11 0x11 4 rd4 [.do_, .dm] 0 "SERVICE_CHANNEL",
  dr 0x3000 0x303F 0x12 0x12 5 rd4 [.do_, .dm] 3221225472 "PN_WARN",
  dr 0x3000 0x303F 0x13 0x13 2 rd4 [] 255 "TX_AN",
  dr 0x3000 0x303F 0x14 0x14 2 rd4 [] 255 "NEXT_AN",
  dr 0x3000 0x303F 0x15 0x18 5 rd4 [] 0 "TX_PN",
  dr 0x3000 0x303F 0x20 0x20 5 rd4 [] 0 "RX_FRAMES_OK",
  dr 0x3000 0x303F 0x21 0x21 5 rd4 [] 0 "RX_DROP_FCS",
  dr 0x3000 0x303F 0x22 0x22 5 rd4 [] 0 "RX_DROP_SIZE",
  dr 0x3000 0x303F 0x23 0x23 5 rd4 [] 0 "RX_DROP_VLAN",
  dr 0x3000 0x303F 0x24 0x24 5 rd4 [] 0 "RX_DROP_PAUSE",
  dr 0x3000 0x303F 0x25 0x25 5 rd4 [] 0 "RX_DROP_LINK",
  dr 0x3000 0x303F 0x26 0x27 5 rd4 [] 0 "RX_OCTETS, TX_OCTETS",
  dr 0x3000 0x303F 0x28 0x28 5 rd4 [] 0 "TX_FRAMES",
  dr 0x3000 0x303F 0x29 0x29 5 rd4 [] 0 "TX_DROP_LINK",
  dr 0x3000 0x303F 0x2A 0x2A 5 rd4 [] 0 "TX_STOMPED",
  dr 0x3000 0x303F 0x30 0x32 5 rd4 [] 0 "FEC_CORRECTED, FEC_UNCORRECTED, FEC_SYMBOLS",
  dr 0x3000 0x303F 0x33 0x33 5 rd4 [] 0 "AM_MISSES",
  dr 0x3000 0x303F 0x34 0x35 5 rd4 [] 0 "ALIGN_LOSSES, BLOCK_LOCK_LOSSES",
  dr 0x3000 0x303F 0x36 0x37 5 rd4 [] 0 "LINK_DOWNS, TRAINING_FAILS",
  dr 0x3000 0x303F 0x40 0x46 5 rd4 [] 0 "InPktsOK, InPktsNotValid, InPktsNoSA, InPktsLate, InPktsNoTag, InPktsBadTag, InPktsKeyLost",
  dr 0x3000 0x303F 0x48 0x4A 5 rd4 [] 0 "OutPktsProtected, OutPktsTooLong, OutPktsNoSA",
  dr 0x3000 0x303F 0x4B 0x4B 5 rd4 [] 0 "EVENTS_LOST",
  dr 0x3000 0x303F 0x60 0x62 5 rd4 [] 0 "PTP_RX_STAMPED, PTP_TX_STAMPED, PTP_STAMP_LOST",
  dr 0x3000 0x303F 0x80 0x8F 5 rd4 [] 0 "RXSC_SCI"]

/-- The entries of R326. -/
def rowsR326b : List DictRow := [
  dr 0x3000 0x303F 0x90 0xCF 5 rd4 [] 0 "RX_LOWEST_PN"]

/-- The entries of R349. -/
def rowsR349 : List DictRow := [
  dr 0x3400 0x34DF 0x01 0x01 2 rd4 [] 0 "STATE",
  dr 0x3400 0x34DF 0x02 0x02 3 rd4 [.dualDo] 0 "DOMAIN",
  dr 0x3400 0x34DF 0x03 0x03 2 rd4 [.do_, .dm] 0 "PORT",
  dr 0x3400 0x34DF 0x04 0x04 2 rd4 [.do_, .dm] 0 "PROTO",
  dr 0x3400 0x34DF 0x05 0x05 3 rd4 [.do_, .dm] 0 "LOCAL_PORT",
  dr 0x3400 0x34DF 0x06 0x06 2 rd4 [.do_, .dm] 1 "FRAMING",
  dr 0x3400 0x34DF 0x07 0x07 3 rd4 [.do_, .dm] 64 "MAX_CONN",
  dr 0x3400 0x34DF 0x08 0x08 8 rd4 [.do_, .dm] 0 "ALLOW",
  dr 0x3400 0x34DF 0x09 0x09 3 rd4 [.do_, .dm] 30 "KEEPALIVE",
  dr 0x3400 0x34DF 0x0A 0x0A 1 rd4 [.do_, .dm] 0 "ENABLE",
  dr 0x3400 0x34DF 0x0B 0x0B 4 rd4 [] 0 "CHANNEL",
  dr 0x3400 0x34DF 0x0C 0x0C 4 rd4 [] 0 "CONNECTIONS",
  dr 0x3400 0x34DF 0x0D 0x0D 5 rd4 [] 0 "MSGS_IN"]

/-- The entries of R350. -/
def rowsR350 : List DictRow := [
  dr 0x34E0 0x34EF 0x00 0xFF 8 rd4 [.do_, .dm] 0 "ROUTE",
  dr 0x34F0 0x34F0 0x01 0x40 8 rd3 [.op, .do_] 0 "IPV4",
  dr 0x34F1 0x34F1 0x01 0x40 8 rd3 [.op, .do_] 0 "IPV6",
  dr 0x34F2 0x34F2 0x01 0x40 8 rd3 [.op, .do_] 0 "GW4",
  dr 0x34F3 0x34F3 0x01 0x40 8 rd3 [.op, .do_] 0 "GW6",
  dr 0x34F4 0x34F4 0x01 0x40 1 rd3 [.op, .do_] 0 "PING",
  dr 0x34F8 0x34F8 0x01 0x01 4 rd3 [] 0 "CONN_ACTIVE",
  dr 0x34F8 0x34F8 0x02 0x04 5 rd3 [] 0 "CONN_REFUSED, CONN_FILTERED, CONN_ABORTED",
  dr 0x34F8 0x34F8 0x05 0x07 5 rd3 [] 0 "FRAMING_ERRORS, MSG_TOO_LONG, CLASS_DROPS",
  dr 0x34F8 0x34F8 0x08 0x0A 5 rd3 [] 0 "UDP_QUEUE_DROPS, IP_DROPS, NEIGH_DROPS",
  dr 0x34F8 0x34F8 0x0B 0x0D 5 rd3 [] 0 "ROUTE_DOWN_DROPS, SEND_FULL_DROPS, CONN_GONE_DROPS",
  dr 0x34F8 0x34F8 0x0E 0x10 5 rd3 [] 0 "DOMAIN_DROPS, EGRESS_INVALID, CORR_MISSES",
  dr 0x34F8 0x34F8 0x11 0x11 5 rd3 [] 0 "CORR_REPLACED",
  dr 0x34F8 0x34F8 0x12 0x12 4 rd3 [] 0 "CORR_ENTRIES",
  dr 0x34F8 0x34F8 0x13 0x13 4 rd3 [] 0 "HELD_NOW"]

/-- The entries of R384. -/
def rowsR384 : List DictRow := [
  dr 0x3800 0x3801 0x01 0x01 2 rd3 [] 0 "LINK_STATE",
  dr 0x3800 0x3801 0x02 0x02 2 rd3 [] 0 "RATE",
  dr 0x3800 0x3801 0x03 0x03 2 rd3 [] 0 "WIDTH",
  dr 0x3800 0x3801 0x04 0x04 1 rd3 [] 0 "FLIT",
  dr 0x3800 0x3801 0x05 0x05 2 rd3 [.dualDo] 0 "BIFURCATE",
  dr 0x3800 0x3801 0x06 0x06 3 rd3 [.dualDo] 512 "VF_SPLIT",
  dr 0x3800 0x3801 0x07 0x07 8 rd3 [.dualDo] 0 "PF_DOMAINS",
  dr 0x3800 0x3801 0x08 0x08 3 rd3 [.dualDo] 4096 "PF_MAX_CHANNELS",
  dr 0x3800 0x3801 0x09 0x09 3 rd3 [.dualDo] 4096 "PF_MAX_SHARE",
  dr 0x3800 0x3801 0x0A 0x0D 2 rd3 [] 0 "B_STATE, B_RATE, B_WIDTH, B_FLIT",
  dr 0x3800 0x3801 0x10 0x10 5 rd3 [] 0 "FLR_COUNT",
  dr 0x3800 0x3801 0x11 0x11 5 rd3 [] 0 "SQUASHED_BY_RESET",
  dr 0x3800 0x3801 0x12 0x12 5 rd3 [] 0 "REDELIVERIES",
  dr 0x3800 0x3801 0x13 0x13 5 rd3 [] 0 "BAD_ACCESS",
  dr 0x3800 0x3801 0x14 0x14 5 rd3 [] 0 "AER_CORRECTABLE",
  dr 0x3800 0x3801 0x15 0x15 5 rd3 [] 0 "LINK_DOWNS",
  dr 0x3800 0x3801 0x16 0x16 4 rd3 [] 0 "CHANNELS_OPEN",
  dr 0x3800 0x3801 0x17 0x17 5 rd3 [] 0 "PF_DELIVERY_DROPS",
  dr 0x3802 0x3802 0x01 0x01 5 rd3 [] 1610612736 "RETAIN_FREE"]

/-- The entries of R385. -/
def rowsR385 : List DictRow := [
  dr 0x4000 0x47FF 0x01 0x01 2 rd4 [] 0 "STATE",
  dr 0x4000 0x47FF 0x02 0x02 3 rd4 [.dualDo] 0 "DOMAIN",
  dr 0x4000 0x47FF 0x03 0x03 1 rd4 [.dualDo] 0 "BOUND",
  dr 0x4000 0x47FF 0x04 0x04 3 rd4 [.dualDo] 16 "MAX_CHANNELS",
  dr 0x4000 0x47FF 0x05 0x05 3 rd4 [.dualDo] 256 "MAX_SHARE",
  dr 0x4000 0x47FF 0x06 0x06 2 rd4 [] 0 "ABI",
  dr 0x4000 0x47FF 0x07 0x07 3 rd4 [] 0 "CHANNELS_OPEN",
  dr 0x4000 0x47FF 0x08 0x08 4 rd4 [] 0 "FLR_COUNT",
  dr 0x4000 0x47FF 0x09 0x09 5 rd4 [] 0 "DELIVERY_DROPS"]

/-- The entries of R403. -/
def rowsR403 : List DictRow := [
  dr 0x1400 0x1400 0x01 0x01 4 rd3 [] 0 "FW_VERSION",
  dr 0x1400 0x1400 0x02 0x02 3 rd3 [] 0 "FW_SVN",
  dr 0x1400 0x1400 0x03 0x03 8 rd3 [] 0 "MEASUREMENT",
  dr 0x1400 0x1400 0x04 0x04 2 rd3 [] 0 "PRIMARY_SLOT",
  dr 0x1400 0x1400 0x05 0x05 2 rd3 [] 255 "TRIAL_SLOT",
  dr 0x1400 0x1400 0x06 0x06 2 rd3 [] 0 "TRIAL_TRIES",
  dr 0x1400 0x1400 0x07 0x08 4 rd3 [] 0 "SLOT_A_VERSION, SLOT_B_VERSION",
  dr 0x1400 0x1400 0x09 0x09 3 rd3 [] 0 "SVN_FLOOR",
  dr 0x1400 0x1400 0x0A 0x0A 2 rd3 [] 3 "SERVICE_IF",
  dr 0x1401 0x1401 0x01 0x01 2 rd3 [] 0 "BOOT_STEP",
  dr 0x1401 0x1401 0x02 0x02 2 rd3 [] 0 "BOOT_ERROR",
  dr 0x1401 0x1401 0x03 0x03 5 rd3 [] 0 "READY_TIME",
  dr 0x1402 0x1402 0x01 0x01 3 rd3 [.dualDo] 1000 "WD_PERIOD_MS",
  dr 0x1402 0x1402 0x02 0x02 2 rd3 [] 0 "CRESETS",
  dr 0x1402 0x1402 0x03 0x03 4 rd3 [] 0 "CRESET_TOTAL",
  dr 0x1800 0x1800 0x01 0x01 2 rd3 [.dualDo] 2 "DEVICE_M",
  dr 0x1800 0x1800 0x02 0x02 3 rd4 [.dualDo] 300 "WINDOW",
  dr 0x1800 0x1800 0x03 0x03 3 rd3 [.dualDo] 900 "LOGIN_IDLE",
  dr 0x1800 0x1800 0x04 0x04 3 rd3 [] 0 "OFFICERS",
  dr 0x1800 0x1800 0x05 0x05 2 rd4 [] 0 "SESSIONS_OPEN",
  dr 0x1800 0x1800 0x06 0x06 8 rd3 [.dualDo] 0 "CARD_AID",
  dr 0x1801 0x1801 0x01 0x02 3 rd4 [] 0 "LOGGED_IN",
  dr 0x1810 0x181F 0x00 0xFF 2 [.au, .do_, .dm] [.dualDo, .dualDm] 2 "DOMAIN_M",
  dr 0x1840 0x185F 0x00 0xFF 8 [.au, .do_] [] 0 "OFFICER"]

/-- The entries of R429. -/
def rowsR429 : List DictRow := [
  dr 0x1000 0x1000 0x01 0x01 7 [.any] [] 0 "VENDOR",
  dr 0x1000 0x1000 0x02 0x02 7 [.any] [] 0 "PRODUCT",
  dr 0x1000 0x1000 0x03 0x03 2 [.any] [] 0 "VARIANT",
  dr 0x1000 0x1000 0x04 0x04 5 [.any] [] 0 "SERIAL",
  dr 0x1000 0x1000 0x05 0x05 3 [.any] [] 0 "SILICON_REV",
  dr 0x1000 0x1000 0x06 0x06 3 [.any] [] 0 "PCI_VENDOR_ID",
  dr 0x1000 0x1000 0x07 0x07 4 [.any] [] 2523240036 "PCI_DEVICE_IDS",
  dr 0x1000 0x1000 0x08 0x08 2 [.any] [] 0 "LIFECYCLE",
  dr 0x1000 0x1000 0x09 0x09 8 [.any] [] 0 "BASE_MAC",
  dr 0x1000 0x1000 0x0A 0x0A 7 [.any] [.op, .do_] 0 "ASSET_TAG",
  dr 0x1001 0x1001 0x01 0x0D 4 [.any] [] 0 "UNITS",
  dr 0x1001 0x1001 0x0E 0x0E 5 [.any] [] 0 "FUSED_PORTS",
  dr 0x1001 0x1001 0x0F 0x0F 4 [.any] [] 0 "FUSED_STRINGS",
  dr 0x1002 0x1002 0x01 0x01 2 [.any] [] 14 "MALATH_VERSIONS",
  dr 0x1002 0x1002 0x02 0x02 2 [.any] [] 10 "HOST_ABI_VERSIONS",
  dr 0x1002 0x1002 0x03 0x03 2 [.any] [] 2 "RIG_FORMAT",
  dr 0x1002 0x1002 0x04 0x04 2 [.any] [] 3 "SERVICE_IF",
  dr 0x1010 0x1010 0x01 0x34 8 rd3 [] 0 "ASSOC",
  dr 0x1020 0x1020 0x01 0x01 3 rd3 [.dualDo] 7450 "UDP_PORT",
  dr 0x1020 0x1020 0x02 0x02 2 rd3 [.dualDo] 16 "CAN_NODE",
  dr 0x1020 0x1020 0x03 0x03 3 rd3 [.do_] 100 "HB_PERIOD_CAN",
  dr 0x1020 0x1020 0x04 0x04 3 rd3 [.do_] 1000 "HB_PERIOD_MGT",
  dr 0x1020 0x1020 0x05 0x05 8 rd3 [.do_] 0 "HB_DEST",
  dr 0x1020 0x1020 0x06 0x06 3 rd3 [.do_] 60 "ASSOC_IDLE",
  dr 0x1020 0x1020 0x07 0x07 2 rd3 [.dualDo] 0 "MGT_MODE",
  dr 0x1020 0x1020 0x08 0x08 2 rd3 [] 0 "MGT_LINK",
  dr 0x1020 0x1020 0x09 0x0A 8 rd3 [.dualDo] 0 "MGT_IPV4, MGT_GW4",
  dr 0x1020 0x1020 0x0B 0x0C 8 rd3 [.dualDo] 0 "MGT_IPV6, MGT_GW6"]

/-- The entries of R430. -/
def rowsR430 : List DictRow := [
  dr 0x1100 0x1100 0x01 0x01 5 [.any] [] 0 "TIME_NOW",
  dr 0x1100 0x1100 0x02 0x02 5 rd3 [.dualDo] 0 "RTC_NOW",
  dr 0x1100 0x1100 0x03 0x03 6 rd3 [] 0 "SLEW_PPB",
  dr 0x1100 0x1100 0x04 0x04 4 rd3 [] 0 "STEPS",
  dr 0x1100 0x1100 0x05 0x05 5 rd3 [] 0 "LAST_STEP",
  dr 0x1100 0x1100 0x06 0x06 2 rd3 [.op, .do_] 255 "PTP_PORT",
  dr 0x1100 0x1100 0x07 0x07 2 rd3 [] 0 "PTP_STATE",
  dr 0x1100 0x1100 0x08 0x08 6 rd3 [] 0 "PTP_OFFSET",
  dr 0x1101 0x1101 0x01 0x01 5 rd3 [] 0 "CLOCKS_RUNNING"]

/-- The entries of R431. -/
def rowsR431 : List DictRow := [
  dr 0x8000 0x8000 0x01 0x01 5 rd3 [] 0 "OPS_ADMITTED",
  dr 0x8000 0x8000 0x02 0x02 5 rd3 [] 0 "OPS_REFUSED",
  dr 0x8000 0x8000 0x03 0x03 4 rd3 [] 65536 "TAGS_FREE",
  dr 0x8000 0x8000 0x04 0x04 4 rd3 [] 65536 "TAGS_FREE_MIN",
  dr 0x8000 0x8000 0x05 0x05 5 rd3 [] 0 "STALE_TAG_DROPS",
  dr 0x8010 0x8010 0x01 0x01 5 rd3 [] 0 "MAL_FRAMES_RX",
  dr 0x8010 0x8010 0x02 0x02 5 rd3 [] 0 "MAL_UDP_BAD",
  dr 0x8010 0x8010 0x03 0x03 5 rd3 [] 0 "MAL_CAN_BAD",
  dr 0x8010 0x8010 0x04 0x05 5 rd3 [] 0 "MAL_ALIVE_STALE, MAL_ALIVE_LOST",
  dr 0x8010 0x8010 0x06 0x06 5 rd3 [] 0 "MAL_TXN_REPEATS",
  dr 0x8010 0x8010 0x07 0x07 5 rd3 [] 0 "MAL_ERRORS_SENT",
  dr 0x8010 0x8010 0x08 0x08 5 rd3 [] 0 "MAL_SEG_ABORTS",
  dr 0x8010 0x8010 0x09 0x09 5 rd3 [] 0 "MAL_HEARTBEATS"]

/-- The entries of R451. -/
def rowsR451 : List DictRow := [
  dr 0x7800 0x7800 0x01 0x01 2 rd3 [] 0 "SD_STATE",
  dr 0x7800 0x7800 0x02 0x02 2 rd3 [] 0 "SD_MODE",
  dr 0x7800 0x7800 0x03 0x03 4 rd3 [] 0 "SD_BLOCKS",
  dr 0x7800 0x7800 0x04 0x04 2 rd3 [] 0 "SD_TUNE_PHASE",
  dr 0x7800 0x7800 0x05 0x07 5 rd3 [] 0 "SD_RETRIES, SD_RETUNES, SD_REMOVALS",
  dr 0x7800 0x7800 0x08 0x08 2 rd3 [.do_] 7 "SD_MAX_MODE",
  dr 0x7800 0x7800 0x09 0x09 8 [] [.op, .do_] 0 "SD_UNLOCK",
  dr 0x7800 0x7800 0x0A 0x0A 8 [] [.dualDo] 0 "SD_SET_PWD",
  dr 0x7800 0x7800 0x0B 0x0B 1 [] [.dualDo] 0 "SD_FORCE_ERASE",
  dr 0x7801 0x7802 0x01 0x01 2 rd3 [] 0 "ICC_STATE",
  dr 0x7801 0x7802 0x02 0x02 2 rd3 [] 0 "ICC_CLASS",
  dr 0x7801 0x7802 0x03 0x03 3 rd3 [] 0 "ICC_FIDI",
  dr 0x7801 0x7802 0x04 0x04 8 rd3 [] 0 "ICC_ATR",
  dr 0x7801 0x7802 0x05 0x06 5 rd3 [] 0 "ICC_ERRORS, ICC_REMOVALS",
  dr 0x7808 0x7808 0x01 0x01 4 rd3 [.dualDo] 252722690 "CAN_NOMINAL",
  dr 0x7808 0x7808 0x02 0x02 4 rd3 [.dualDo] 67439874 "CAN_DATA",
  dr 0x7808 0x7808 0x03 0x03 2 rd3 [] 0 "CAN_STATE",
  dr 0x7808 0x7808 0x04 0x04 3 rd3 [] 0 "CAN_TEC_REC",
  dr 0x7808 0x7808 0x05 0x07 5 rd3 [] 0 "CAN_ERROR_FRAMES, CAN_BUSOFFS, CAN_ABANDONED",
  dr 0x7808 0x7808 0x08 0x08 1 rd3 [.do_] 1 "BUSOFF_AUTO",
  dr 0x7810 0x781F 0x01 0x01 4 rd4 [.dualDo] 1073741888 "PIN_CFG",
  dr 0x7810 0x781F 0x02 0x02 1 rd4 [.do_, .dm] 0 "PIN_LEVEL_OUT",
  dr 0x7810 0x781F 0x03 0x03 1 rd4 [] 0 "PIN_LEVEL_IN"]

/-- The entries of R476. -/
def rowsR476 : List DictRow := [
  dr 0x2800 0x2800 0x01 0x01 2 rd3 [.dualDo] 0 "ENTROPY_MODE",
  dr 0x2800 0x2800 0x02 0x02 2 rd3 [] 8 "SOURCES_HEALTHY",
  dr 0x2800 0x2800 0x03 0x03 3 rd3 [.dualDo] 100 "RESEED_INTERVAL_MS",
  dr 0x2801 0x2801 0x01 0x08 2 rd3 [] 1 "SOURCE_STATE",
  dr 0x2802 0x2802 0x01 0x08 4 rd3 [] 0 "RCT_FAILS",
  dr 0x2803 0x2803 0x01 0x08 4 rd3 [] 0 "APT_FAILS",
  dr 0x2804 0x2804 0x01 0x02 5 rd3 [] 0 "BLOCKS_RELEASED, BLOCKS_DISCARDED",
  dr 0x2804 0x2804 0x03 0x03 2 rd3 [] 0 "QUEUE_LEVEL",
  dr 0x2805 0x2805 0x01 0x04 2 rd3 [] 0 "DRBG_CORE_STATE",
  dr 0x2806 0x2806 0x01 0x01 3 rd3 [] 0 "DOMAIN_INSTANCES",
  dr 0x2806 0x2806 0x02 0x02 5 rd3 [] 0 "RESEEDS",
  dr 0x2806 0x2806 0x03 0x03 3 rd3 [] 0 "OVERDUE_NOW",
  dr 0x2806 0x2806 0x04 0x04 5 rd3 [] 0 "RNG_UNAVAILABLE_JOBS",
  dr 0x2806 0x2806 0x05 0x05 5 rd3 [] 0 "DOMAIN_EVICTIONS",
  dr 0x2A00 0x2A00 0x01 0x01 5 rd3 [] 0 "TRANSFER_CHECK_FAILS"]

/-- The entries of R492. -/
def rowsR492 : List DictRow := [
  dr 0x6000 0x6000 0x01 0x01 5 rd3 [] 0 "NEXT_SEQ",
  dr 0x6000 0x6000 0x02 0x02 5 rd3 [] 0 "DURABLE_SEQ",
  dr 0x6000 0x6000 0x03 0x03 5 rd3 [] 0 "OLDEST_SEQ",
  dr 0x6000 0x6000 0x04 0x04 3 rd3 [] 0 "FOUNDATION_USED",
  dr 0x6000 0x6000 0x05 0x05 4 rd3 [] 0 "STAGED",
  dr 0x6000 0x6000 0x06 0x06 2 rd3 [] 0 "STATE",
  dr 0x6001 0x6001 0x01 0x01 5 [.au, .do_] [.au, .do_] 0 "CURSOR",
  dr 0x6001 0x6001 0x02 0x02 8 [.au, .do_] [] 0 "BATCH",
  dr 0x6001 0x6001 0x03 0x03 3 [.au, .do_] [.au, .do_] 0 "FCURSOR",
  dr 0x6001 0x6001 0x04 0x04 8 [.au, .do_] [] 0 "FBATCH",
  dr 0x6002 0x6002 0x01 0x05 5 rd3 [] 0 "STORMS, THROTTLES, THROTTLE_MS, LATE_EVENTS, COALESCED_EVENTS",
  dr 0x8F00 0x8F00 0x01 0x01 3 rd3 [] 0 "FAULTS_OPEN",
  dr 0x8F00 0x8F00 0x02 0x02 5 rd3 [.op, .do_] 0 "FAULT_ACK",
  dr 0x8F00 0x8F00 0x03 0x03 8 rd3 [] 0 "FAULT_TABLE"]

/-- The entries of R511. -/
def rowsR511 : List DictRow := [
  dr 0x6800 0x6800 0x01 0x01 2 rd3 [] 0 "SHROUD_STATE",
  dr 0x6800 0x6800 0x02 0x02 8 rd3 [] 0 "HOBBLE_DETAIL",
  dr 0x6800 0x6800 0x03 0x03 2 rd3 [] 0 "HOBBLE_EVENTS",
  dr 0x6800 0x6800 0x04 0x04 8 rd3 [] 0 "ZEROISE_DETAIL",
  dr 0x6800 0x6800 0x05 0x05 2 rd3 [] 0 "ZEROISE_COUNT",
  dr 0x6800 0x6800 0x06 0x06 3 rd3 [] 0 "VBAT_MV",
  dr 0x6800 0x6800 0x07 0x07 1 rd3 [] 0 "BATTERY_LOW",
  dr 0x6801 0x6801 0x01 0x01 1 rd3 [.dualDo] 1 "EXT_LOOP_ENABLE",
  dr 0x6802 0x6802 0x01 0x0B 2 rd3 [] 0 "MONITOR_STATE",
  dr 0x6803 0x6803 0x01 0x0B 4 rd3 [] 0 "DISAGREEMENTS",
  dr 0x6804 0x6804 0x01 0x06 3 rd3 [] 0 "RAIL_MV",
  dr 0x6804 0x6804 0x07 0x07 6 rd3 [] 0 "TJ_MAX",
  dr 0x6805 0x6805 0x01 0x01 8 rd3 [] 0 "THRESHOLDS",
  dr 0x6805 0x6805 0x02 0x02 4 rd3 [] 0 "SHADOW_MISMATCHES"]

/-- The entries of R529. -/
def rowsR529 : List DictRow := [
  dr 0x7000 0x7000 0x01 0x01 2 rd3 [] 0 "LC_FLAGS",
  dr 0x7000 0x7000 0x02 0x02 2 [] [.dualDo, .hd] 0 "LC_REQUEST",
  dr 0x7000 0x7000 0x03 0x03 2 rd3 [] 0 "LC_PENDING",
  dr 0x7000 0x7000 0x04 0x04 2 rd3 [] 0 "TOKENS_LEFT",
  dr 0x7000 0x7000 0x05 0x05 4 rd3 [] 0 "OTP_HEALED",
  dr 0x7001 0x7001 0x01 0x01 2 rd3 [] 0 "DEBUG_LEVEL",
  dr 0x7001 0x7001 0x02 0x02 8 [] [.dualDo] 0 "DEBUG_CONSENT",
  dr 0x7001 0x7001 0x03 0x03 5 rd3 [] 0 "DEBUG_EXPIRES",
  dr 0x7001 0x7001 0x04 0x04 4 rd3 [] 0 "DEBUG_GRANTS",
  dr 0x12C0 0x12C0 0x01 0x01 2 rd3 [] 0 "CAL_STATE",
  dr 0x12C0 0x12C0 0x02 0x02 8 rd3 [.dualDo] 0 "CAL_SET",
  dr 0x12C0 0x12C0 0x03 0x03 4 rd3 [] 0 "CAL_SEQ"]

/-- The entries of R546. -/
def rowsR546 : List DictRow := [
  dr 0x1200 0x1200 0x01 0x01 2 rd3 [] 1 "GAIT",
  dr 0x1200 0x1200 0x02 0x02 2 rd3 [.op, .do_] 1 "GAIT_REQUEST",
  dr 0x1200 0x1200 0x03 0x03 3 rd3 [.op, .do_] 1000 "WALK_IDLE",
  dr 0x1201 0x1201 0x01 0x01 2 rd3 [] 0 "REEF",
  dr 0x1201 0x1201 0x02 0x02 2 rd3 [] 0 "REEF_CAUSE",
  dr 0x1201 0x1201 0x03 0x03 2 rd3 [.dualDo] 0 "REEF_FLOOR",
  dr 0x1201 0x1201 0x04 0x06 5 rd3 [] 0 "REEF_ENTRIES",
  dr 0x1202 0x1202 0x01 0x01 5 rd3 [] 0 "GALLOP_USED",
  dr 0x1202 0x1202 0x02 0x02 5 rd3 [] 4320000 "GALLOP_BUDGET",
  dr 0x1203 0x1203 0x01 0x01 3 rd3 [] 0 "CORE_AMPS",
  dr 0x1203 0x1203 0x02 0x02 3 rd3 [] 0 "CORE_AMPS_PEAK",
  dr 0x1204 0x1204 0x01 0x01 2 rd3 [] 0 "RESET_CAUSE",
  dr 0x1205 0x1205 0x01 0x01 2 rd3 [] 0 "WAKE_SOURCE",
  dr 0x1206 0x1206 0x01 0x01 2 rd3 [.dualDo] 64 "PMBUS_ADDR"]

/-- The tables, by chapter. -/
def dictTables : List (List DictRow) :=
  [rowsR95, rowsR128, rowsR160, rowsR192, rowsR292, rowsR326a,
   rowsR326b, rowsR349, rowsR350, rowsR384, rowsR385, rowsR403,
   rowsR429, rowsR430, rowsR431, rowsR451, rowsR476, rowsR492,
   rowsR511, rowsR529, rowsR546]

/-- The row of an index and subindex (R404). -/
def dictRow (index sub : Nat) : Option DictRow :=
  dictTables.findSome? (fun t => t.find? (fun r => decide (r.iLo ≤ index ∧ index ≤ r.iHi ∧ r.sLo ≤ sub ∧ sub ≤ r.sHi)))

/-- Actions, cursors and values that are not configuration: R407 does not apply to them, or their chapter keeps them. -/
def notKept (index sub : Nat) : Bool :=
  index == 0x6001 || index == 0x8F00 || (index == 0x7000 && sub == 2) || (index == 0x7001 && sub == 2) ||
    (index == 0x7800 && decide (9 ≤ sub)) || (index == 0x1100 && sub == 2) || (index == 0x12C0 && sub == 2)

/-- An entry that survives every reset: a writable one (R407). -/
def keptEntry (key : Nat) : Bool :=
  match dictRow (key / 256) (key % 256) with
  | some r => !r.wr.isEmpty && !notKept (key / 256) (key % 256)
  | none => false

end Sys2Proof.Machine
end

