-- ==== Sys2Proof/Machine/MalBase.lean ====
section
/-! DEFINITION. Malath's carriers: the CAN transmit queue and its counters, the in-band window, PDUs and answers, the life of
an association (R409-R418, R444, R445). -/

set_option linter.unusedVariables false

namespace Sys2Proof.Machine

open Sys2Proof

/-! CAN (R414, R444, R445). -/

/-- Change the CAN controller. -/
def onCan (f : CanCtl → CanCtl) (d : Dev) : Dev := { d with per := { d.per with can := f d.per.can } }

/-- The device's node (0x1020:02). -/
def canNode (d : Dev) : Nat := numOf 0x10 d (dk 0x1020 2)

/-- An identifier (R414). -/
def canIdent (func dest src : Nat) : Nat := func * 2 ^ 24 + dest * 65536 + src * 256

/-- The 64 data bytes of a Malath frame (R414). -/
def canData (ident alive : Nat) (pdu : Bytes) : Bytes :=
  let b := le 1 alive ++ le 1 0 ++ padTo 60 pdu
  b ++ le 2 (crcOf 3 (le 4 ident ++ b))

/-- Offer a frame to the transmit queue; one offered to a full queue is abandoned (R444). -/
def canQueue (f : CanFrame) (d : Dev) : Dev :=
  if 16 ≤ d.per.can.queue.length then bump (dk 0x7808 7) d
  else onCan (fun c => { c with queue := c.queue ++ [f] }) d

/-- The frame the controller sends next: the lowest identifier, the oldest of equals (R444). -/
def canHead (d : Dev) : Option CanFrame := minBy? (fun (f : CanFrame) => f.ident) d.per.can.queue

/-- Send every queued frame, in identifier order, while the controller is on the bus; each success lowers TEC by one, as
ISO 11898-1 gives. -/
def canFlush : Nat → Dev → Dev
  | 0, d => d
  | n + 1, d =>
    if 2 ≤ d.per.can.state then d
    else match canHead d with
    | none => d
    | some f =>
      let d := onCan (fun c => { c with queue := c.queue.erase f, tec := c.tec - 1 }) d
      canFlush n (emit (.canFrame f.ident f.bytes) (onCan (fun c => { c with
        state := if 128 ≤ c.tec ∨ 128 ≤ c.rec_ then 1 else 0 }) d))

/-- A frame has been received: REC falls by one, or from above 127 to a value between 119 and 127, which ISO 11898-1 leaves
open. -/
def canReceived (p : MalPeer) (d : Dev) : Dev :=
  let c := d.per.can
  match p with
  | .can _ =>
    if c.rec_ = 0 ∨ 2 ≤ c.state then d
    else
      let (f, d) := if c.rec_ < 128 then (0, d) else freshFree d
      let r := if c.rec_ < 128 then c.rec_ - 1 else 119 + Config.freeNat f % 9
      onCan (fun c => { c with rec_ := r, state := if 128 ≤ c.tec then 1 else 0 }) d
  | _ => d

/-! PDUs. -/

/-- The link of a peer, and its largest PDU (R409). -/
def peerLink (p : MalPeer) : MalLink := match p with | .mgt .. => .mgt | .can _ => .can | .inband _ => .inband
def maxPdu (l : MalLink) : Nat := match l with | .mgt => 1468 | .can => 60 | .inband => 8176

/-- The bytes of a PDU (R410). -/
def pduBytes (p : Pdu) : Bytes :=
  le 1 p.ver ++ le 1 p.typ ++ le 2 p.txn ++ le 2 p.actor ++ le 2 p.payload.length ++ p.payload

/-- Change an association. -/
def assocOf (d : Dev) (a : Nat) : Option Assoc := look d.mal.assocs a
def onAssoc (a : Nat) (f : Assoc → Assoc) (d : Dev) : Dev :=
  match look d.mal.assocs a with
  | none => d
  | some x => { d with mal := { d.mal with assocs := ins d.mal.assocs a (f x) } }

/-- An answer in the in-band window (R413): IB_RSP, then IB_DONE, then vector 0. -/
def inbandAnswer (pf : Nat) (p : Pdu) (d : Dev) : Dev :=
  let d := onFn pf (fun h => { h with
    ib := mboxPut 0x3FFC (le 4 (p.txn + 65536)) (mboxPut 0x2000 (pduBytes p) h.ib), ibBusy := false, ibRung := false }) d
  sendMsix pf 0 d

/-- Hand a PDU to a peer's carrier. `alive` is the ALIVE counter of its CAN identifier. -/
def sendPdu (peer : MalPeer) (alive : Nat) (p : Pdu) (d : Dev) : Dev :=
  let d := emit (.pdu peer p) d
  match peer with
  | .mgt .. => d
  | .can node =>
    let ident := canIdent 0x0C node (canNode d)
    canQueue { ident := ident, bytes := canData ident alive (pduBytes p), queuedAt := d.tb.now } d
  | .inband pf => inbandAnswer pf p d

/-- Send a PDU of an association; its CAN counter moves on by one for each new frame (R415). -/
def sendTo (a : Nat) (p : Pdu) (d : Dev) : Dev :=
  match assocOf d a with
  | none => d
  | some x => sendPdu x.peer x.aliveTx p (onAssoc a (fun x => { x with aliveTx := (x.aliveTx + 1) % 256 }) d)

/-- Answer a transaction: the answer is held for 2 s among the last sixteen (R418), and sent. -/
def answerPdu (a txn typ : Nat) (payload : Bytes) (d : Dev) : Dev :=
  match assocOf d a with
  | none => d
  | some x =>
    let p : Pdu := { ver := x.version, typ := typ, txn := txn, actor := 0, payload := payload }
    let keepOld := (x.held.filter (fun h => !(h.txn == txn))).drop (x.held.length - 15)
    let held := keepOld ++ [{ txn := txn, till := d.tb.now + sec 2, pdu := p }]
    sendTo a p (onAssoc a (fun x => { x with held := held, serving := without x.serving txn }) d)

/-- The eight bytes of an ERROR (R420). -/
def errorBytes (st : Status) (mcode reason detail : Nat) : Bytes := le 1 st.code ++ le 1 mcode ++ le 1 reason ++ le 1 0 ++ le 4 detail

/-- Answer with ERROR (R419, R420). -/
def answerError (a txn : Nat) (st : Status) (mcode reason detail : Nat) (d : Dev) : Dev :=
  answerPdu a txn 0x7F (errorBytes st mcode reason detail) (bump (dk 0x8010 7) d)

/-! Associations (R417). -/

/-- Numbers an association of a link may take (R409). -/
def assocRange (p : MalPeer) : List Nat :=
  match p with
  | .mgt .. => List.range 32
  | .can _ => (List.range 16).map (fun n => 32 + n)
  | .inband pf => [48 + pf]

/-- The association of a peer. -/
def findAssoc (d : Dev) (p : MalPeer) : Option Nat := (d.mal.assocs.find? (fun e => e.2.peer == p)).map (fun e => e.1)

/-- A transfer is over (R423). -/
def dropXfers (p : Nat → Xfer → Bool) (d : Dev) : Dev :=
  let n := (d.mal.xfers.filter (fun e => p e.1 e.2 && !e.2.staged)).length
  bumpBy n (dk 0x8010 8) { d with mal := { d.mal with xfers := keep (fun k x => !p k x) d.mal.xfers } }

/-- An association ends: its transfers are aborted, its staged objects and held answers go with it, an officer bound to it is
bound no more (R417, R422, R423). -/
def endAssoc (a : Nat) (d : Dev) : Dev :=
  let d := dropXfers (fun _ x => x.assoc == a) d
  let logins := mapV (fun _ (l : Login) => if l.bound == some a then { l with bound := none } else l) d.cust.logins
  { d with mal := { d.mal with assocs := del d.mal.assocs a }, cust := { d.cust with logins := logins },
           audit := { d.audit with cursors := del d.audit.cursors a, fcursors := del d.audit.fcursors a } }

/-- An association begins with the first frame of a new peer, at version 1, or 2 on CAN (R417). -/
def beginAssoc (p : MalPeer) (d : Dev) : Option Nat × Dev :=
  match findAssoc d p with
  | some a => (some a, d)
  | none => match (assocRange p).find? (fun a => (assocOf d a).isNone) with
    | none => (none, d)
    | some a =>
      let x : Assoc := { link := peerLink p, peer := p, version := if peerLink p == .can then 2 else 1, lastFrame := d.tb.now }
      (some a, { d with mal := { d.mal with assocs := ins d.mal.assocs a x } })

/-- A PDU of an association is accepted (R417, R431). -/
def acceptPdu (a : Nat) (d : Dev) : Dev := bump (dk 0x8010 1) (onAssoc a (fun x => { x with lastFrame := d.tb.now }) d)

/-- The window of a physical function holds a request that has been taken up and is not answered yet, so that another is ignored
(R413). A request that IB_BELL has submitted and the responder has not yet read is the one that comes. -/
def windowBusy (p : MalPeer) (d : Dev) : Bool :=
  match p with
  | .inband pf => (fnOf d pf).ibBusy && !(fnOf d pf).ibRung
  | _ => false

/-- A request of an association is taken up (R417, R418): one whose TXN matches a held answer receives that answer again, one
still being served none. In the in-band window one request is outstanding at a time (R413). -/
def enterTxn (a txn : Nat) (d : Dev) : Bool × Dev :=
  match assocOf d a with
  | none => (false, d)
  | some x =>
    if windowBusy x.peer d then (false, d)
    else
    let d := acceptPdu a d
    match x.held.find? (fun h => h.txn == txn && decide (d.tb.now < h.till)) with
    | some h => (false, sendTo a h.pdu (bump (dk 0x8010 6) d))
    | none =>
      if has x.serving txn then (false, bump (dk 0x8010 6) d)
      else match x.peer with
      | .inband pf => (true, onFn pf (fun h => { h with ibBusy := true, ibRung := false }) d)
      | _ => (true, d)

/-- The responder answers at all: the device has power and has left reset. -/
def responderUp (d : Dev) : Bool := !d.life.powerOff && !d.life.booting

/-- A SERVICE PDU passes the checks of R419 that come before the custodian's own; `allowed` says that R393 serves it while
hobbled. A SERVICE frame on CAN carries the next ALIVE value. -/
def takeService (a txn : Nat) (allowed : Bool) (d : Dev) : Bool × Dev :=
  if !responderUp d then (false, d)
  else match enterTxn a txn (match assocOf d a with | some x => canReceived x.peer d | none => d) with
  | (false, d) => (false, d)
  | (true, d) =>
    let d := onAssoc a (fun x => { x with aliveRx := x.aliveRx.map (fun r => ((r.1 + 1) % 256, d.tb.now)) }) d
    let ver : Nat := ((assocOf d a).map (fun x => x.version)).getD 0
    if d.life.zeroised then (false, answerError a txn .policy 2 4 0 d)
    else if d.life.hobbled && !allowed then (false, answerError a txn .hobbled 0 0 0 d)
    else if ver < 3 then (false, answerError a txn .version 0 0 0 d)
    else if !d.life.custUp || d.life.gait == 3 then (false, answerError a txn .custodianUnavailable 0 0 0 d)
    else (true, onAssoc a (fun x => { x with serving := x.serving ++ [txn] }) d)

/-- The answer of a SERVICE request (R424): STATUS and response, or OK and an upload handle for a response too long for the
PDU, held for 600 s. -/
def answerService (a txn : Nat) (st : Status) (resp : Bytes) (d : Dev) : Dev :=
  match assocOf d a with
  | none => d
  | some x =>
    if 12 + resp.length ≤ maxPdu x.link then answerPdu a txn 0xB0 (le 1 st.code ++ zeros 3 ++ resp) d
    else
      let live := x.responses.filter (fun r => decide (d.tb.now < r.2.1))
      let h := (firstBelow 256 (fun n => !live.any (fun r => r.1 == n))).getD 0
      let d := onAssoc a (fun x => { x with responses := live ++ [(h, d.tb.now + sec 600, resp)] }) d
      answerPdu a txn 0xB0 (le 1 0 ++ zeros 3 ++ le 4 h) d

end Sys2Proof.Machine
end

