-- ==== Sys2Proof/Machine/Answer.lean ====
section
/-! DEFINITION. The answer to a custodian request, delivered to where the request came from (R374, R389, R398, R565). -/

set_option linter.unusedVariables false

namespace Sys2Proof.Machine

open Sys2Proof

/-- Change a dual-control session. -/
def onSession (i : Nat) (f : Session → Session) (d : Dev) : Dev :=
  match look d.cust.sessions i with
  | none => d
  | some s => { d with cust := { d.cust with sessions := ins d.cust.sessions i (f s) } }

/-- The 80 bytes of a session record (R565). -/
def sessionRecord (i : Nat) (s : Session) : Bytes :=
  le 4 i ++ le 1 s.state ++ le 1 s.m ++ le 1 s.officers.length ++ le 1 s.actionStatus ++
    le 1 (if s.scope.isSome then 1 else 0) ++ le 1 0 ++ le 2 (s.scope.getD 0) ++
    padTo 10 ((s.officers.map (le 2)).flatten) ++ le 2 0 ++ le 8 s.expires ++ padTo 48 s.digest

/-- Answer a request at its own door. -/
def answerDoor (via : Via) (st : Status) (resp : Bytes) (d : Dev) : Dev :=
  match via with
  | .mailbox fn => emit (.answer via st resp) (answerMailbox fn st resp d)
  | .malath a txn => emit (.answer via st resp) (answerService a txn st resp d)
  | v => emit (.answer v st resp) d

/-- Answer a custodian request (R389). The answer to an action executed by a session's last authorisation is kept in the
session and given to the request that brought it (R398). -/
def answer (via : Via) (st : Status) (resp : Bytes) (d : Dev) : Dev :=
  match via with
  | .authorise i _ _ =>
    let d := onSession i (fun s => { s with actionStatus := st.code, response := resp }) d
    match look d.cust.sessions i with
    | none => d
    | some s => match s.asker with
      | none => d
      | some v => answerDoor v st (sessionRecord i s ++ resp) (onSession i (fun s => { s with asker := none }) d)
  | v => answerDoor v st resp d

/-- A destruction is complete once every sweep is acknowledged, its record has committed and no job pins the old
generation (R78); its request is then answered OK. -/
def finishInvals (d : Dev) : Dev :=
  let ready := fun (v : Inval) =>
    keyHolders.all (fun h => has v.acked h) && v.committed &&
      (!v.destroy || pinCount d v.idx (v.gen - 1) == 0)
  let done := d.ks.invals.filter ready
  let zero := fun (m : FMap KeyRec) (v : Inval) => match look m v.idx with
    | some k => if v.destroy && k.destroyed then ins m v.idx (zeroRec k) else m
    | none => m
  let d := { d with ks := { d.ks with invals := d.ks.invals.filter (fun v => !ready v),
                                      keys := done.foldl zero d.ks.keys } }
  done.foldl (fun d v => match v.via with
    | some via => answer via .ok [] d
    | none => d) d

end Sys2Proof.Machine
end

