-- ==== Sys2Proof/Machine/Channel.lean ====
section
/-! DEFINITION. Channels as the other units see them: handles, deliveries into posted buffers, dropped deliveries, port
event records (R321, R343, R361, R369, R370). -/

set_option linter.unusedVariables false

namespace Sys2Proof.Machine

open Sys2Proof

/-- The channel a handle names, while it is open or closing (R361). -/
def chanOf (d : Dev) (h : Nat) : Option (Nat × Chan) :=
  match look d.host.chans (h / 65536) with
  | some c => if c.inc == h % 65536 then some (h / 65536, c) else none
  | none => none

/-- Buffers posted and not used, and free delivery-ring entries, of a slot. One entry of each ring stays unused, so that
equal indices mean an empty ring. -/
def freeBufs (sl : Slot) : Nat := (sl.bqTail + dqSize sl - sl.bqNext) % dqSize sl
def freeEntries (sl : Slot) : Nat := dqSize sl - 1 - (sl.dqTail + dqSize sl - sl.dqHead) % dqSize sl

/-- A slot takes deliveries (R362, R370). -/
def takesDeliveries (sl : Slot) : Bool := bitOf sl.ctl 0 && sl.state == .opened

/-- Count a dropped delivery of a function (R370). -/
def countDeliveryDrop (fn : Nat) (d : Dev) : Dev :=
  if fn < 4 then bump (dk (0x3800 + fn / 2) 0x17) d else bump (dk (0x4000 + (fn - 4)) 9) d

/-- Queue a delivery on a channel (R369). -/
def pushDelivery (c typ : Nat) (data : Bytes) (time : Nat) (tag : Option Nat) (d : Dev) : Dev :=
  onChan c (fun ch => { ch with deliveries := ch.deliveries ++
    [{ typ := typ, data := data, time := time, tag := tag, since := d.tb.now }] }) d

/-- Room for one more event record now: a buffer and a ring entry beyond those that waiting deliveries will take. -/
def eventRoom (sl : Slot) (ch : Chan) : Bool :=
  decide (ch.deliveries.length < freeBufs sl ∧ ch.deliveries.length < freeEntries sl)

/-- The function and slot of a channel that takes event records. -/
def eventSlot (d : Dev) (h : Nat) : Option (Nat × Chan × Slot) :=
  match chanOf d h with
  | some (c, ch) => match ch.kind with
    | .slot fn s =>
      let sl := slotOf d fn s
      if takesDeliveries sl && ch.closing.isNone then some (c, ch, sl) else none
    | _ => none
  | none => none

/-- Dictionary index of a port (R326). -/
def pk (p sub : Nat) : Nat := dk (0x3000 + p) sub

/-- The 32 bytes of a port event record, followed by its frame (R321). -/
def eventBytes (typ p sa time pn info : Nat) (frame : Bytes) : Bytes :=
  le 1 typ ++ le 1 p ++ le 1 sa ++ le 1 0 ++ le 2 frame.length ++ le 2 0 ++ le 8 time ++ le 8 pn ++ le 8 info ++ frame

/-- A port as it stands, and a change of it. -/
def portOf (d : Dev) (p : Nat) : Port := lookD {} d.net.ports p
def onPort (p : Nat) (f : Port → Port) (d : Dev) : Dev :=
  { d with net := { d.net with ports := upd {} d.net.ports p f } }

/-- Send a port event record (R321): to the custodian when SERVICE_CHANNEL is 0; where the channel is full it is
discarded and counted, but LINK_UP and LINK_DOWN wait. Answers whether it was sent or waits. -/
def sendEvent (p typ sa pn info : Nat) (frame : Bytes) (d : Dev) : Bool × Dev :=
  let b := eventBytes typ p sa d.tb.now pn info frame
  let h := numOf 0 d (pk p 0x11)
  if h = 0 then (true, emit (.portEvent b) d)
  else match eventSlot d h with
    | none => (false, bump (pk p 0x4B) d)
    | some (c, ch, sl) =>
      if eventRoom sl ch && (portOf d p).events.isEmpty then (true, pushDelivery c 2 b d.tb.now none d)
      else if typ = 8 ∨ typ = 9 then (true, onPort p (fun q => { q with events := q.events ++ [b] }) d)
      else (false, bump (pk p 0x4B) d)

/-- Send an event record whose loss only EVENTS_LOST shows. -/
def portEvent (p typ sa pn info : Nat) (frame : Bytes) (d : Dev) : Dev := (sendEvent p typ sa pn info frame d).2

/-- Waiting LINK_UP and LINK_DOWN records leave once their channel has room (R321). -/
def flushEvents (d : Dev) : Dev :=
  d.net.ports.foldl (fun d e =>
    match e.2.events with
    | [] => d
    | b :: rest => match eventSlot d (numOf 0 d (pk e.1 0x11)) with
      | some (c, ch, sl) =>
        if eventRoom sl ch then
          pushDelivery c 2 b (leAt b 8 8) none (onPort e.1 (fun q => { q with events := rest }) d)
        else d
      | none => d) d

/-- A message leaves its string: its record goes and its tag retires. -/
def endMsg (tag : Nat) (d : Dev) : Dev :=
  rigGc (retire tag { d with rig := { d.rig with msgs := del d.rig.msgs tag } })

/-- The 32 bytes of a delivery record (R369). -/
def deliveryRecord (x : Delivery) (bufs handle bqIndex dseq : Nat) (phase : Bool) : Bytes :=
  let b := le 1 x.typ ++ le 1 (128 * b2n phase) ++ le 2 bufs ++ le 4 handle ++ le 4 x.data.length ++ le 2 bqIndex ++
    le 2 0 ++ le 8 x.time ++ le 4 dseq
  b ++ le 4 (crc32c b)

/-- Walk posted buffer entries from the first unused: entries of another LEN are skipped and counted, the others are
taken until `n` bytes fit. Answers buffers taken, entries used, entries skipped, index of the first taken. -/
def takeBufs : List (Nat × Nat) → Nat → Nat → List (Nat × Nat) → Nat → Nat → Option Nat →
    Option (List (Nat × Nat) × Nat × Nat × Nat)
  | [], _, n, taken, used, bad, first => if n = 0 then some (taken, used, bad, first.getD 0) else none
  | (a, len) :: r, size, n, taken, used, bad, first =>
    if n = 0 ∧ !taken.isEmpty then some (taken, used, bad, first.getD 0)
    else if len < 256 ∨ 65536 < len then takeBufs r size n taken (used + 1) (bad + 1) first
    else takeBufs r size (n - len) (taken ++ [(a, len)]) (used + 1) bad (some (first.getD used))

/-- DELIVERY (R369): the first waiting delivery of a channel fills posted buffers, read as the operand gives them, and
its record is written at the next delivery-ring entry; then the delivery interrupt is due. A read of the buffer ring that
fails puts the channel into STATE 3 with cause 2. Nothing happens while the buffers do not suffice or the ring is full. -/
def execDelivery (c : Nat) (bufs : ReadResult) (s : State) : Out :=
  onDev (fun d =>
    match look d.host.chans c with
    | none => d
    | some ch => match ch.kind, ch.deliveries with
      | .slot fn sn, x :: rest =>
        let sl := slotOf d fn sn
        if !(takesDeliveries sl) || ch.closing.isSome || !fnLive d fn then d
        else match bufs with
        | .bytes b =>
          let n := freeBufs sl
          let entries := (List.range (min n (b.length / 16))).map (fun i => (leAt b (16 * i) 8, leAt b (16 * i + 8) 4))
          if freeEntries sl = 0 then d
          else match takeBufs entries (dqSize sl) x.data.length [] 0 0 none with
          | none => d
          | some (taken, used, bad, first) =>
            if taken.isEmpty then d
            else
              let d := if bad = 0 then d else badAccess fn bad d
              let d := hostWrites fn (spread taken x.data) d
              let rec_ := deliveryRecord x taken.length (chanHandle c ch) ((sl.bqNext + first) % dqSize sl) ch.nextDseq
                (sl.dqPass % 2 == 0)
              let d := emit (.hostWrite fn (sl.dqBase + 32 * sl.dqTail) rec_) d
              let d := onSlot fn sn (fun y =>
                { y with bqNext := (y.bqNext + used) % dqSize y, dqTail := (y.dqTail + 1) % dqSize y,
                         dqPass := if y.dqTail + 1 = dqSize y then y.dqPass + 1 else y.dqPass,
                         lastDseq := ch.nextDseq }) d
              let d := onChan c (fun ch => { ch with deliveries := rest, nextDseq := w32 (ch.nextDseq + 1) }) d
              let d := dueDelivery fn sn d
              (match x.tag with
               | some t => endMsg t d
               | none => flushEvents d)
        | _ => onSlot fn sn (fun y => { y with state := .error, cause := 2 }) d
      | _, _ => d) s

/-- DELIVERY_TIMEOUT (R370): a message still waiting after 100 ms is dropped and counted. An event record at the head
that has waited as long is discarded and counted in EVENTS_LOST, but LINK_UP and LINK_DOWN wait on. -/
def execDeliveryTimeout (c : Nat) (s : State) : Out :=
  onDev (fun d =>
    match look d.host.chans c with
    | none => d
    | some ch => match ch.kind, ch.deliveries with
      | .slot fn _, x :: rest =>
        let d := reach (x.since + ms 100) d
        (match x.tag with
         | some t =>
           endMsg t (countDeliveryDrop fn (onChan c (fun ch => { ch with deliveries := rest }) d))
         | none =>
           if leAt x.data 0 1 = 8 ∨ leAt x.data 0 1 = 9 then d
           else bump (pk (leAt x.data 1 1) 0x4B) (onChan c (fun ch => { ch with deliveries := rest }) d))
      | _, _ => d) s

/-- Close every job-independent part of a channel (R365 steps 4-6): deliveries to it are dropped, its redelivery entries
and retained output are released, its slot is free again, its index is freed. -/
def closeChan (c : Nat) (d : Dev) : Dev :=
  match look d.host.chans c with
  | none => d
  | some ch =>
    let tags := ch.deliveries.filterMap (fun x => x.tag)
    let gone := ch.deliveries.length
    let d := match ch.kind with
      | .slot fn sn =>
        let d := (List.range tags.length).foldl (fun d _ => bump (dk 0x34F8 0x0D) d) d
        let d := onSlot fn sn (fun y => { y with state := .free, handle := 0, cause := 0, busy := [], cqDue := 0, dqDue := 0 }) d
        raise (srcFn fn) 0x0221 ch.domain (actorFn fn) [(4, chanHandle c ch), (2, fn)] d
      | .implicit fn => onFn fn (fun h => { h with implicitChan := none }) d
      | .listener _ => d
    let inc := if ch.inc = 65535 then 1 else ch.inc + 1
    let h := { d.host with
      chans := del d.host.chans c, incs := put 1 d.host.incs c inc, chanFree := FreeList.give d.host.chanFree c,
      retainUsed := d.host.retainUsed - ch.retainBytes }
    tags.foldl (fun d t => endMsg t d) { d with host := h }

/-- Create a channel on the first free index (R361). -/
def openChan (kind : ChanKind) (domain share retain : Nat) (d : Dev) : Option (Nat × Nat × Dev) :=
  match FreeList.take 65536 d.host.chanFree with
  | none => none
  | some (c, free) =>
    let inc := lookD 1 d.host.incs c
    let ch : Chan := { kind := kind, inc := inc, domain := domain, share := share, retainBytes := retain }
    some (c, chanHandle c ch, { d with host := { d.host with
      chans := ins d.host.chans c ch, chanFree := free, retainUsed := d.host.retainUsed + retain } })

end Sys2Proof.Machine
end

