-- ==== Sys2Proof/Machine/Ports.lean ====
section
/-! DEFINITION. Ethernet ports: enabling, negotiation, training, lock, link state, FEC (R293-R304, R308-R309, R325). -/

set_option linter.unusedVariables false

namespace Sys2Proof.Machine

open Sys2Proof

/-- Ports 32-63 of the CX9664-H are fused (R2, R3). -/
def portFused (d : Dev) (p : Nat) : Bool := d.life.variantH && decide (32 ≤ p)

/-- Settings of a port with their defaults (R326). -/
def portEnabled (d : Dev) (p : Nat) : Bool := numOf 0 d (pk p 2) == 1
def modeAllowed (d : Dev) (p : Nat) : Nat := numOf 0x1FF d (pk p 3)
def anEnabled (d : Dev) (p : Nat) : Bool := numOf 1 d (pk p 4) == 1
def modeForced (d : Dev) (p : Nat) : Nat := numOf 1 d (pk p 5)
def fec25 (d : Dev) (p : Nat) : Bool := numOf 1 d (pk p 6) == 1
def portRole (d : Dev) (p : Nat) : Nat := numOf 0 d (pk p 0x0C)
def portPair (d : Dev) (p : Nat) : Nat := numOf 0 d (pk p 0x0D)
def portOwner (d : Dev) (p : Nat) : Nat := numOf 0 d (pk p 0x0F)
def portMtu (d : Dev) (p : Nat) : Nat := numOf 9216 d (pk p 0x0A)
def macsecMode (d : Dev) (p : Nat) : Nat := numOf 0 d (pk p 0x10)

/-- A port is up. -/
def portUp (d : Dev) (p : Nat) : Bool := (portOf d p).state == 5

/-- A bridge port's partner satisfies R309: complementary roles, each names the other, one yard die, one mode. -/
def pairOk (d : Dev) (p : Nat) : Bool :=
  let r := portRole d p
  let q := portPair d p
  r == 0 || (decide (r ≤ 2 ∧ q < 64) && portRole d q + r == 3 && portPair d q == p && q / 32 == p / 32 &&
    !portFused d q &&
    ((portOf d p).mode == 0 || (portOf d q).mode == 0 || (portOf d p).mode == (portOf d q).mode))

/-- FEC of a mode (R294): 2 RS(544,514), 1 RS(528,514), 0 none. -/
def fecOf (mode : Nat) (rs25 : Bool) : Nat :=
  if mode ≤ 6 then 2 else if mode ≤ 8 then b2n rs25 else 0

/-- FEC lanes of a mode. -/
def fecLanes (mode : Nat) : Nat := if mode ≤ 2 then 8 else if mode ≤ 4 then 4 else 2

/-- Training time limit (R297). -/
def trainLimit (mode : Nat) : Nat := if 7 ≤ mode then ms 500 else sec 3

/-- Frames waiting for egress are discarded and counted; a message so discarded is a dropped message (R306, R23). -/
def dropEgress (p : Nat) (d : Dev) : Dev :=
  let fs := (portOf d p).egress
  let d := bumpBy fs.length (pk p 0x29) (onPort p (fun q => { q with egress := [] }) d)
  (fs.filterMap (fun f => f.tag)).foldl (fun d t => endMsg t d) d

/-- Start a port: negotiation, or with AN_ENABLE = 0 the training of its forced mode (R296). The trained equalisation and
the lock state of an earlier link are discarded (R325). -/
def startPort (p : Nat) (d : Dev) : Dev :=
  let d := dropEgress p d
  let blank := fun (q : Port) => { q with lanes := [], blockLocked := false, downSince := none, restartAt := none, linked := false }
  if !pairOk d p then onPort p (fun q => { blank q with state := 7, mode := 0, fec := 0 }) d
  else if anEnabled d p then onPort p (fun q => { blank q with state := 2, mode := 0, fec := 0 }) d
  else
    let m := modeForced d p
    let f := fecOf m (fec25 d p)
    let now := d.tb.now
    onPort p (fun q => { blank q with state := 3, mode := m, fec := f, trainSince := now }) d

/-- A write of ENABLE (R296, R309). A fused port stays as it is (R2). -/
def setPortEnable (p : Nat) (on : Bool) (d : Dev) : Dev :=
  if portFused d p then d
  else
    let d := setNum 0 (pk p 2) (b2n on) d
    if on then
      let d := startPort p d
      let q := portPair d p
      if portRole d p = 0 ∨ 64 ≤ q then d
      else if (portOf d q).state == 7 && portEnabled d q then startPort q d else d
    else
      onPort p (fun q => { q with state := 1, mode := 0, fec := 0, lanes := [], blockLocked := false, downSince := none,
                                  restartAt := none, linked := false }) (dropEgress p d)

/-- PORT_ENABLE (R296). -/
def execPortEnable (p : Fin 64) (on : Bool) (s : State) : Out :=
  writeRow (0x3000 + p.val) 2 [BitVec.ofNat 8 (b2n on)]
    (fun d => if portFused d p.val then .error 2 else .ok (setPortEnable p.val on d)) s

/-- A changed setting drops the link and restarts auto-negotiation (R299). -/
def restartPort (p : Nat) (d : Dev) : Dev := if portEnabled d p && !portFused d p then startPort p d else d

/-- A write of one of the settings of a port that restart it: 0 MODE_ALLOWED, 1 AN_ENABLE, 2 MODE_FORCED, 3 FEC25,
4 POLARITY. A MODE_FORCED that MODE_ALLOWED does not contain is refused (R296, R299). -/
def portSetting (p field n : Nat) (d : Dev) : Except Nat Dev :=
  if portFused d p then .error 2
  else if field = 0 then (if n < 512 then .ok (restartPort p (setNum 0x1FF (pk p 3) n d)) else .error 3)
  else if field = 1 then (if n < 2 then .ok (restartPort p (setNum 1 (pk p 4) n d)) else .error 3)
  else if field = 2 then
    (if decide (1 ≤ n ∧ n ≤ 9) && bitOf (modeAllowed d p) (n - 1) then .ok (restartPort p (setNum 1 (pk p 5) n d)) else .error 3)
  else if field = 3 then (if n < 2 then .ok (restartPort p (setNum 1 (pk p 6) n d)) else .error 3)
  else (if n < 16 then .ok (restartPort p (setNum 0 (pk p 0x0E) n d)) else .error 3)

/-- PORT_CONFIG_CHANGE (R296, R299). -/
def execPortConfigChange (p : Fin 64) (field : Fin 5) (v : BitVec 16) (s : State) : Out :=
  let sub := if field.val = 4 then 0x0E else 3 + field.val
  writeRow (0x3000 + p.val) sub (if field.val = 0 then le 2 v.toNat else le 1 v.toNat) (portSetting p.val field.val v.toNat) s

/-- AN_COMPLETE (R296): the highest common mode in the order of rate is resolved; RS(528,514) is used in modes 7 and 8
when either side requests it. Training starts. -/
def execAnComplete (p : Fin 64) (partner : BitVec 9) (partnerFec : Bool) (s : State) : Out :=
  onDev (fun d =>
    let q := portOf d p.val
    if !(q.state == 2) || q.restartAt.isSome then d
    else match firstBelow 9 (fun i => bitOf (modeAllowed d p.val) i && partner.getLsbD i) with
      | none => d
      | some i =>
        let f := fecOf (i + 1) (fec25 d p.val || partnerFec)
        let now := d.tb.now
        let d := onPort p.val (fun q => { q with state := 3, mode := i + 1, fec := f, trainSince := now }) d
        if pairOk d p.val then d else onPort p.val (fun q => { q with state := 7, mode := 0, fec := 0 }) d) s

/-- TRAINING_DONE (R297): every lane in use has trained; lock acquisition starts. -/
def execTrainingDone (p : Fin 64) (s : State) : Out :=
  onDev (fun d => if (portOf d p.val).state == 3 then
    onPort p.val (fun q => { q with state := 4, lanes := [], blockLocked := false }) d else d) s

/-- TRAINING_TIMEOUT (R297): the limit has passed; counted, and a wait of 50-100 ms starts, its length open. -/
def execTrainingTimeout (p : Fin 64) (s : State) : Out :=
  onDev (fun d =>
    let q := portOf d p.val
    if !(q.state == 3) then d
    else
      let d := reach (q.trainSince + trainLimit q.mode) d
      let (f, d) := freshFree d
      let till := d.tb.now + ms 50 + Config.freeNat f % (ms 50 + 1)
      bump (pk p.val 0x37) (onPort p.val (fun q => { q with state := 2, mode := 0, fec := 0, restartAt := some till }) d)) s

/-- AN_RESTART (R297): the wait has ended. -/
def execAnRestart (p : Fin 64) (s : State) : Out :=
  onDev (fun d =>
    match (portOf d p.val).restartAt with
    | none => d
    | some t => startPort p.val (reach t d)) s

/-- A port has been down for more than 10 ms (R303). -/
def linkLost (q : Port) (now : Nat) : Bool := q.downSince.any (fun t => decide (t + ms 10 < now))

/-- The link of a port that is still down after 10 ms is lost (R303): counted, LINK_DOWN goes out, auto-negotiation restarts. -/
def loseLink (p : Nat) (d : Dev) : Dev :=
  startPort p (portEvent p 9 0 0 0 [] (onPort p (fun q => { q with linked := false }) (bump (pk p 0x36) d)))

/-- The port is up: after a loss of at most 10 ms the loss is counted and no link change reported; otherwise LINK_UP
goes out with mode and FEC (R303, R321). `am` tells an alignment loss from a block lock loss. -/
def comeUp (p : Nat) (am : Bool) (d : Dev) : Dev :=
  let q := portOf d p
  if linkLost q d.tb.now then loseLink p d
  else
    let d := if q.state == 6 then bump (pk p (if am then 0x34 else 0x35)) d else d
    let d := onPort p (fun q => { q with state := 5, downSince := none, linked := true }) d
    if q.linked then d else portEvent p 8 0 0 (q.mode + 16 * q.fec) [] d

/-- The port is down (R303): an ingress frame in progress is discarded and counted. -/
def portDown (p : Nat) (mid : Bool) (d : Dev) : Dev :=
  let now := d.tb.now
  let d := if mid then bump (pk p 0x25) d else d
  dropEgress p (onPort p (fun q => { q with state := 6, downSince := some now }) d)

/-- BLOCK_LOCK (R300, R303): block or codeword lock of modes 7-9 is gained or lost. `mid` says that a frame was being
received. -/
def execBlockLock (p : Fin 64) (gained mid : Bool) (s : State) : Out :=
  onDev (fun d =>
    let q := portOf d p.val
    if q.mode < 7 then d
    else if gained then
      if q.state == 4 || q.state == 6 then comeUp p.val false (onPort p.val (fun q => { q with blockLocked := true }) d)
      else d
    else if q.state == 5 then portDown p.val mid (onPort p.val (fun q => { q with blockLocked := false }) d)
    else onPort p.val (fun q => { q with blockLocked := false }) d) s

/-- Marker lock is looked for or held on a port. -/
def locking (q : Port) : Bool := decide (1 ≤ q.mode ∧ q.mode ≤ 6) && (q.state == 4 || q.state == 5 || q.state == 6)

/-- A FEC lane as it stands; one not listed starts searching at bit 0. -/
def fecLane (q : Port) (l : Nat) : LaneLock := (look q.lanes l).getD (.search 0)
def setLane (l : Nat) (k : LaneLock) (q : Port) : Port := { q with lanes := ins q.lanes l k }

/-- AM_CANDIDATE (R301): the first position at or after the search position that matches becomes the candidate. -/
def execAmCandidate (p : Fin 64) (lane : Fin 8) (pos : BitVec 64) (s : State) : Out :=
  onDev (fun d =>
    let q := portOf d p.val
    if !locking q || decide (fecLanes q.mode ≤ lane.val) then d
    else match fecLane q lane.val with
      | .search from_ => if from_ ≤ pos.toNat then onPort p.val (setLane lane.val (.confirm pos.toNat)) d else d
      | _ => d) s

/-- Every FEC lane of the mode is locked. -/
def allLocked (q : Port) : Bool :=
  (List.range (fecLanes q.mode)).all (fun l => match fecLane q l with | .locked .. => true | _ => false)

/-- AM_CONFIRM (R301, R302): position b + P matches and the lane locks at b, or the search resumes at b + 1. When every
lane has locked the port comes up, unless a 200G port's lanes are skewed by more than 180 ns: then all search again. -/
def execAmConfirm (p : Fin 64) (lane : Fin 8) (ok skewOk : Bool) (s : State) : Out :=
  onDev (fun d =>
    let q := portOf d p.val
    if !locking q then d
    else match fecLane q lane.val with
      | .confirm b =>
        if !ok then onPort p.val (setLane lane.val (.search (b + 1))) d
        else
          let d := onPort p.val (setLane lane.val (.locked b 0 0)) d
          if !allLocked (portOf d p.val) then d
          else if decide (q.mode ≤ 2) && !skewOk then onPort p.val (fun q => { q with lanes := [] }) d
          else if q.state == 5 then d else comeUp p.val true d
      | _ => d) s

/-- AM_MISS (R301, R303): position b + kP does not match; AM_MISSES counts; the third miss in a row loses lock. -/
def execAmMiss (p : Fin 64) (lane : Fin 8) (k : BitVec 64) (mid : Bool) (s : State) : Out :=
  onDev (fun d =>
    let q := portOf d p.val
    if !locking q then d
    else match fecLane q lane.val with
      | .locked b n last =>
        let n := if n = 0 ∨ !(last + 1 == k.toNat) then 1 else n + 1
        let d := bump (pk p.val 0x33) d
        if n < 3 then onPort p.val (setLane lane.val (.locked b n k.toNat)) d
        else
          let d := onPort p.val (setLane lane.val (.search (b + 1))) d
          if q.state == 5 then portDown p.val mid d else d
      | _ => d) s

/-- LINK_DOWN_TIMEOUT (R303): still down after 10 ms: counted, LINK_DOWN goes out, auto-negotiation restarts. -/
def execLinkDownTimeout (p : Fin 64) (s : State) : Out :=
  onDev (fun d =>
    match (portOf d p.val).downSince with
    | none => d
    | some t => loseLink p.val (reach (t + ms 10) d)) s

/-- FEC_WINDOW (R304): the counts of a 10 ms window are added; uncorrectable codewords above 1 in 8,192 declare the port
down. -/
def execFecWindow (p : Fin 64) (codewords corrected uncorrected symbols : BitVec 32) (mid : Bool) (s : State) : Out :=
  onDev (fun d =>
    let q := portOf d p.val
    if !(q.state == 5) || q.fec == 0 then d
    else
      let d := bumpBy corrected.toNat (pk p.val 0x30) d
      let d := bumpBy uncorrected.toNat (pk p.val 0x31) d
      let d := bumpBy symbols.toNat (pk p.val 0x32) d
      if codewords.toNat < uncorrected.toNat * 8192 then
        portDown p.val mid (onPort p.val (fun q => { q with lanes := [], blockLocked := false }) d) else d) s

end Sys2Proof.Machine
end

