-- ==== Sys2Proof/Machine/SdCard.lean ====
section
/-! DEFINITION. The ceremony card: modes and tuning, transfers under interference, the directory and the files
(R432-R436). -/

set_option linter.unusedVariables false

namespace Sys2Proof.Machine

open Sys2Proof

/-- Change the SD host. -/
def onSd (f : SdHost → SdHost) (d : Dev) : Dev := { d with per := { d.per with sd := f d.per.sd } }

/-- Modes of a card from a mode down, with tuning in SDR104 and SDR50 (R434): the mode settled in and the phase. -/
def tuneFrom (c : SdCard) (mode : Nat) : Nat × Nat :=
  if mode = 7 then (if 8 ≤ c.run7 then (7, c.mid7) else if 8 ≤ c.run6 then (6, c.mid6) else (5, 0))
  else if mode = 6 then (if 8 ≤ c.run6 then (6, c.mid6) else (5, 0))
  else (mode, 0)

/-- A retune in a mode that found a run of this width and centre (R434): too narrow a run leads to the next lower mode. -/
def retuned (c : SdCard) (mode run mid : Nat) : Nat × Nat := if 8 ≤ run then (mode, mid) else tuneFrom c (mode - 1)

/-! Transfers under interference (R436). -/

/-- An error meets a transfer at the block it names: up to three tries again from that block, a data error in SDR50 or SDR104
retuning first (R434); then one mode less, from the first block, never below Default Speed. An error at a block that the
transfer has passed meets nothing. False: the transfer fails. -/
def sdWalk (c : SdCard) : List SdFault → SdRun → Bool × SdRun
  | [], r => (true, r)
  | f :: fs, r =>
    let tries := if f.block = r.block then r.tries else 0
    if f.block < r.block then sdWalk c fs r
    else if tries < 3 then
      let again := { r with block := f.block, tries := tries + 1, retries := r.retries + 1 }
      if f.err = .command ∨ r.mode < 6 then sdWalk c fs again
      else
        let to_ := retuned c r.mode f.run f.mid
        sdWalk c fs { again with mode := to_.1, phase := to_.2, retunes := r.retunes + 1 }
    else if r.mode ≤ 2 then (false, r)
    else
      let to_ := tuneFrom c (r.mode - 1)
      sdWalk c fs { r with mode := to_.1, phase := to_.2, block := 0, tries := 0 }

/-- What the host keeps of a transfer: its counters, and the mode that it was left in. -/
def sdCounted (r : SdRun) (d : Dev) : Dev :=
  bumpBy r.retunes (dk 0x7800 6) (bumpBy r.retries (dk 0x7800 5) { d with free := d.free + 1 })

/-- A transfer of `n` blocks; `writing` tells its direction. Where it fails the card moves to state 4. -/
def sdTransfer (c : SdCard) (writing : Bool) (n : Nat) (d : Dev) : Bool × Dev :=
  let x := d.per.sd
  let meets := fun (f : SdFault) => decide (f.block < n) &&
    (match f.err with | .command => true | .read => !writing | .write => writing)
  let w := sdWalk c ((Config.sdFaults d.free).filter meets) { mode := x.mode, phase := x.phase }
  let host := { x with mode := w.2.mode, phase := w.2.phase, vsel := decide (4 ≤ w.2.mode), state := if w.1 then x.state else 4, timedOut := !w.1 }
  (w.1, onSd (fun _ => host) (sdCounted w.2 d))

/-- Identification (R433): 1.8 V modes where the card accepts 1.8 V and a mode of it is allowed. A command that fails more often
than it is tried again leaves the card refused. -/
def identify (c : SdCard) (d : Dev) : Dev :=
  let w := sdWalk c ((Config.sdFaults d.free).filter (fun f => f.err == .command)) { mode := 1 }
  let d := sdCounted w.2 d
  if !c.cmd8 || !c.ready || !w.1 then onSd (fun x => { card := x.card, state := 4 }) d
  else
    let top := min c.maxMode (numOf 7 d (dk 0x7800 8))
    let v18 := c.v18 && decide (4 ≤ top)
    let to_ := tuneFrom c (if v18 then top else max 2 (min top 3))
    onSd (fun x => { card := x.card, state := if c.password.isEmpty then 2 else 3, mode := to_.1, blocks := c.blocks,
                     phase := to_.2, pwrEn := true, vsel := v18, retuneAt := d.tb.now + sec 60 }) d

/-! The directory and the files (R435). -/

/-- A block of a card: 512 bytes. -/
def sdBlock (c : SdCard) (n : Nat) : Bytes := padTo 512 ((look c.data n).getD [])

/-- The bytes of `n` blocks from a block on. -/
def sdBlocks (c : SdCard) (first n : Nat) : Bytes := ((List.range n).map (fun k => sdBlock c (first + k))).flatten

/-- The directory begins in block 2,048; its 256 entries of 16 bytes take eight blocks. -/
def sdDirBlock : Nat := 2048
def sdDirBlocks : Nat := 8

/-- An entry of the directory: FIRST_BLOCK and LENGTH. -/
def sdEntry (c : SdCard) (file : Nat) : Nat × Nat :=
  let b := slice (sdBlocks c sdDirBlock sdDirBlocks) (16 * file) 16
  (leAt b 0 4, leAt b 4 4)

/-- Blocks that a length in bytes takes. -/
def sdSpan (len : Nat) : Nat := (len + 511) / 512

/-- The card holds a file: its entry is used, and the file is at most 16 MiB and lies within the card. -/
def sdHolds (c : SdCard) (file : Nat) : Bool :=
  let e := sdEntry c file
  decide (file < 256) && decide (1 ≤ e.2 ∧ e.2 ≤ 16 * 2 ^ 20 ∧ e.1 + sdSpan e.2 ≤ c.blocks)

/-- The bytes of a file, contiguous from FIRST_BLOCK. -/
def sdFile (c : SdCard) (file : Nat) : Bytes :=
  let e := sdEntry c file
  (sdBlocks c e.1 (sdSpan e.2)).take e.2

/-- The host reads a file: the directory, then its blocks. False where a transfer fails. -/
def sdRead (c : SdCard) (file : Nat) (d : Dev) : Bool × Dev :=
  let dir := sdTransfer c false sdDirBlocks d
  if dir.1 then sdTransfer c false (sdSpan (sdEntry c file).2) dir.2 else dir

/-- Blocks of a card from a block on take bytes. -/
def sdStore (first : Nat) (bytes : Bytes) (c : SdCard) : SdCard :=
  let put := fun (m : FMap Bytes) (k : Nat) => ins m (first + k) (padTo 512 (slice bytes (512 * k) 512))
  { c with data := (List.range (sdSpan bytes.length)).foldl put c.data }

/-- The custodian writes a file: the data blocks first, then the directory with the file's entry. A write cut short leaves the old
directory in force. -/
def sdWriteFile (file first : Nat) (bytes : Bytes) (c : SdCard) (d : Dev) : Bool × Dev :=
  let entry := le 4 first ++ le 4 bytes.length ++ zeros 8
  let dir := sdBlocks c sdDirBlock sdDirBlocks
  let dir := dir.take (16 * file) ++ entry ++ dir.drop (16 * file + 16)
  let put := fun (f : SdCard → SdCard) (d : Dev) => onSd (fun x => { x with card := x.card.map f }) d
  let data := sdTransfer c true (sdSpan bytes.length) d
  if !data.1 then data
  else
    let done := sdTransfer c true sdDirBlocks (put (sdStore first bytes) data.2)
    if done.1 then (true, put (sdStore sdDirBlock dir) done.2) else done

/-- The card while files can be read from it: ready, neither locked nor being erased (R437). -/
def sdReady (d : Dev) : Option SdCard := if d.per.sd.state = 2 then d.per.sd.card else none

end Sys2Proof.Machine
end

