-- ==== Sys2Proof/Machine/Service.lean ====
section
/-! DEFINITION. Requests to the custodian: who asks, the checks of R16 in their order, rights, and the answer (R12, R16,
R389-R393); drawing one use of a key and reserving IV values for a service (R68, R74, R316, R317). -/

set_option linter.unusedVariables false

namespace Sys2Proof.Machine

open Sys2Proof

/-- The role an officer holds. -/
def officerRole (o : Officer) : Role :=
  match o.role with
  | .deviceOfficer => .deviceOfficer
  | .domainOfficer => .domainOfficer o.domain
  | .auditor => .auditor
  | .operator => .operator

/-- An officer is logged in at a slot (R395). -/
def loggedIn (d : Dev) (id : Nat) : Bool := d.cust.logins.any (fun l => l.2.officer == id)

/-- DOMAIN and BOUND of a VF (R378, R385). -/
def vfDomain (d : Dev) (fn : Nat) : Nat := numOf 0 d (dk (0x4000 + (fn - 4)) 2)
def vfBound (d : Dev) (fn : Nat) : Bool := numOf 0 d (dk (0x4000 + (fn - 4)) 3) == 1

/-- The role of a request with OFFICER zero (R390, R417). -/
def baseRole (d : Dev) (v : Via) : Role :=
  match v with
  | .mailbox fn => if fn < 4 then .hostDriver else if vfBound d fn then .tenant (vfDomain d fn) else .nobody
  | .malath a _ => (match look d.mal.assocs a with
    | some x => match x.link with
      | .inband => .hostDriver
      | _ => .nobody
    | none => .nobody)
  | .firmware _ => .firmware
  | .authorise .. => .nobody

/-- The role of a request: its officer's when OFFICER is nonzero and that officer is logged in, else POLICY (R390). A session's action
runs by the session's right (R398). -/
def roleOf (d : Dev) (v : Via) (officer : Nat) : Except Status Role :=
  match v with
  | .authorise .. => .ok .nobody
  | _ =>
    if officer = 0 then .ok (baseRole d v)
    else match look d.cust.officers officer with
    | some o => if loggedIn d officer && !o.revoked then .ok (officerRole o) else .error .policy
    | none => .error .policy

/-- The role that checks 7 to 9 take for a request whose officer is not logged in, which fails at check 10 (R16, R390): that
of the officer's record, else the sender's own. -/
def namedRole (d : Dev) (h : SvcHdr) : Role :=
  match look d.cust.officers h.officer with
  | some o => officerRole o
  | none => baseRole d h.via

/-- A request names an officer: its login's idle time starts again (R395). -/
def touchLogin (officer : Nat) (d : Dev) : Dev :=
  if officer = 0 then d
  else
    let logins := mapV (fun _ l => if l.officer == officer then { l with lastUse := d.tb.now } else l) d.cust.logins
    { d with cust := { d.cust with logins := logins } }

/-- PF_DOMAINS of the link a physical function lies on grants a domain (R384). -/
def pfGrants (d : Dev) (fn dom : Nat) : Bool :=
  bitOf (leVal (slice (blobOf d (dk (0x3800 + fn / 2) 7)) (dom / 8) 1)) (dom % 8)

/-- The function a host driver's request comes through is granted a domain. -/
def viaGrants (d : Dev) (v : Via) (dom : Nat) : Bool :=
  match v with
  | .mailbox fn => pfGrants d fn dom
  | .malath a _ => pfGrants d (a - 48) dom
  | _ => true

/-- Resolve a handle for a requester (R53, R391): a tenant or domain officer within its domain, a host driver within
the domains its function is granted, every other role in any domain. -/
def resolveFor (d : Dev) (v : Via) (role : Role) (h : Nat) : Except Status (Nat × KeyRec) :=
  match role with
  | .tenant dom => resolve d.ks false dom h
  | .domainOfficer dom => resolve d.ks false dom h
  | .hostDriver =>
    (match resolve d.ks true 0 h with
     | .ok (i, k) => if viaGrants d v k.domain then .ok (i, k) else .error .keyInvalid
     | .error .keyExpired =>
       (match look d.ks.keys (handleIndex h) with
        | some k => if viaGrants d v k.domain then .error .keyExpired else .error .keyInvalid
        | none => .error .keyInvalid)
     | r => r)
  | _ => resolve d.ks true 0 h

/-- The scope a dual-control right names: the device, or a domain. -/
inductive Scope where
  | device
  | domain (d : Nat)
  deriving DecidableEq

/-- The rights of a service: roles that hold it singly, and digits by scope (R12). -/
structure Rights where
  single : Role → Bool := fun _ => false
  dual : List (Nat × Scope) := []

/-- M of a scope (R12, R403). -/
def scopeM (d : Dev) (s : Scope) : Nat :=
  match s with
  | .device => numOf 2 d (dk 0x1800 1)
  | .domain n => numOf 2 d (dk 0x1810 0 + n)

/-- The scope of a session. -/
def sessionScope (s : Session) : Scope :=
  match s.scope with
  | some n => .domain n
  | none => .device

/-- A request meets the rights of its service (R391): by its role, or by the execution of a session of a scope named. -/
def rightMet (d : Dev) (v : Via) (role : Role) (r : Rights) : Bool :=
  match v with
  | .authorise i _ _ => (match look d.cust.sessions i with
    | some s => r.dual.any (fun e => e.2 == sessionScope s)
    | none => false)
  | _ => r.single role

/-- While hobbled only some requests are served (R393). -/
def servedHobbled (a : SvcAction) : Bool :=
  match a with
  | .serviceInfo => true
  | .officerLogin .. => true
  | .officerLogout .. => true
  | .hobbleUnlock => true
  | _ => false

/-- Checks 1 to 6 of R16 on a request's header, the readiness of the device, and the officer's login. -/
def headerStatus (d : Dev) (h : SvcHdr) (hobbleOk sessionUse formatOk_ : Bool) : Status :=
  if d.life.hobbled && !hobbleOk then .hobbled
  else if !(h.ver == 3) || (match h.via with | .mailbox fn => !((fnOf d fn).abi == 3) | _ => false) then .version
  else if !h.argsOk || !(h.flagsResv == 0) || !(h.resv == 0) || (!sessionUse && !(h.session == 0)) || !formatOk_ then
    .format
  else if !d.life.custUp then .custodianUnavailable
  else if !d.life.ready && !d.life.hobbled then .busyRetry
  else .ok

/-- A request at a function's mailbox is read when MB_BELL is written; while another is outstanding it is ignored (R374).
The bell rings with the REQ_SEQ that stands in the page. False where the request is not read. -/
def takeRequest (v : Via) (allowed : Bool) (d : Dev) : Bool × Dev :=
  match v with
  | .malath a txn => takeService a txn allowed d
  | .mailbox fn =>
    let h := fnOf d fn
    if !fnLive d fn || h.mbTaken then (false, d)
    else (true, onFn fn (fun h => { h with mbBusy := some (h.mbBusy.getD (leVal (mboxBytes h 0 4))), mbTaken := true }) d)
  | _ => (true, d)

/-! Objects (R390, R422). -/

/-- The object that an action names. -/
def actionObject (a : SvcAction) : Option ObjRef :=
  match a with
  | .keyImport _ _ _ _ _ obj _ => some obj
  | .rigAdmit obj _ => some obj
  | .officerEnrol _ _ _ obj _ _ => some obj
  | .fwStage obj _ => some obj
  | .dictWrite _ _ _ obj _ => some obj
  | _ => none

/-- The transfer that a staging reference names: of the request's association, or of the window of the physical function
whose mailbox it came through. -/
def stagedKey (v : Via) (o : ObjRef) : Option Nat :=
  if !(o.source == 2) then none
  else match v with
  | .malath a _ => some (a * 256 + o.locator)
  | .mailbox fn => if fn < 4 then some ((48 + fn) * 256 + o.locator) else none
  | _ => none

/-- The staged object that a reference names. -/
def stagedObject (v : Via) (o : ObjRef) (d : Dev) : Option Xfer :=
  if 256 ≤ o.locator then none
  else match stagedKey v o with
  | some k => (look d.mal.xfers k).filter (fun x => x.staged)
  | none => none

/-- The file on the ceremony card that a reference names, where it is of the reference's length. -/
def cardFile (o : ObjRef) (d : Dev) : Option SdCard :=
  if !(o.source == 1) then none
  else (sdReady d).filter (fun c => sdHolds c o.locator && (sdEntry c o.locator).2 == o.length)

/-- The custodian holds a copy of the object of a session's action since the session was opened. -/
def isExecution (v : Via) : Bool := match v with | .authorise .. => true | _ => false

/-- Status of an object's reference: FORMAT where the source is unknown or nothing is found; POLICY for a file of a card that is
locked or being erased (R437). -/
def objStatus (v : Via) (o : ObjRef) (d : Dev) : Status :=
  let found := isExecution v || (if o.source == 2 then (stagedObject v o d).isSome
    else if o.source == 1 then (cardFile o d).isSome else o.found)
  if o.source == 1 && !isExecution v && (d.per.sd.state == 3 || d.per.sd.state == 5) then .policy
  else if 3 < o.source || !found || (o.source == 3 && !(o.locator == 0)) then .format
  else if 16 * 2 ^ 20 < o.length then .lengthError
  else .ok

/-- The bytes of an object that stand in the device: those staged, or those of the file on the card. -/
def heldBytes (v : Via) (o : ObjRef) (d : Dev) : Option Bytes :=
  match stagedObject v o d with
  | some x => some x.data
  | none => if isExecution v then none else (cardFile o d).map (fun c => sdFile c o.locator)

/-- The bytes of an object: those that stand in the device, else those that the request brought. -/
def objBytes (v : Via) (o : ObjRef) (given : Bytes) (d : Dev) : Bytes := (heldBytes v o d).getD given

/-- The content of an object: what its bytes spell where they stand in the device, else what the request brought. -/
def objContent {α : Type} (spell : Bytes → α) (v : Via) (o : ObjRef) (given : α) (d : Dev) : α :=
  ((heldBytes v o d).map spell).getD given

/-- The custodian copies a file of the ceremony card into its workspace before it checks it (R390): TIMEOUT where the transfer
fails (R436). -/
def fetchObject (v : Via) (a : SvcAction) (d : Dev) : Status × Dev :=
  match (actionObject a).filter (fun o => !isExecution v && objStatus v o d == .ok) with
  | none => (.ok, d)
  | some o => match cardFile o d with
    | none => (.ok, d)
    | some c =>
      let r := sdRead c o.locator d
      (if r.1 then .ok else .timeout, r.2)

/-- A staged object is given up once a request has named it (R422). -/
def dropStaged (v : Via) (a : SvcAction) (d : Dev) : Dev :=
  match actionObject a with
  | none => d
  | some o => match stagedObject v o d, stagedKey v o with
    | some _, some k => { d with mal := { d.mal with xfers := del d.mal.xfers k } }
    | _, _ => d

/-- A session being opened has its action checked short of executing (R397). -/
def isProbe (v : Via) (d : Dev) : Bool :=
  match v with
  | .authorise i _ _ => (look d.cust.sessions i).any (fun s => s.state == 255)
  | _ => false

/-- A request enters and its effect runs, or it is answered with the first failing status and the response that `body` gives
it. `pre` gives the status of checks 3 and 4 on the arguments, `keys` of checks 7 to 9, `rights` of check 10's right, `late`
of the rest of checks 10 to 12; `records` says that it raises an audit record (R491). -/
def serveWith (body : Dev → Status → Bytes) (h : SvcHdr) (a : SvcAction) (pre : Dev → Status) (keys : Dev → Role → Status)
    (rights : Dev → Rights) (late : Dev → Status) (records : Bool) (run : Dev → Role → Dev) (d : Dev) : Dev :=
  let taken := takeRequest h.via (servedHobbled a) d
  if !taken.1 then d
  else
  let d := taken.2
  let no := fun (st : Status) (d : Dev) => answer h.via st (body d st) d
  let st := headerStatus d h (servedHobbled a) false true
  let fetched := if st == .ok then fetchObject h.via a d else (.ok, d)
  dropStaged h.via a (
  if !(st == .ok) && !(st == .custodianUnavailable) && !(st == .busyRetry) then no st d
  else if !(fetched.1 == .ok) then no fetched.1 fetched.2
  else if !(pre d == .ok) then no (pre d) fetched.2
  else if !(st == .ok) then no st d
  else
    let d := touchLogin h.officer fetched.2
    match roleOf d h.via h.officer with
    | .error e => if !(keys d (namedRole d h) == .ok) then no (keys d (namedRole d h)) d else no e d
    | .ok role =>
      if !(keys d role == .ok) then no (keys d role) d
      else if !rightMet d h.via role (rights d) then no .policy d
      else if late d == .policy then no .policy d
      else if records && isThrottled d && !(a == .hobbleUnlock) then no .busyRetry d
      else if !(late d == .ok) then no (late d) d
      else if isProbe h.via d then no .ok d
      else run d role)

/-- A request whose refusals carry no response. -/
def serve (h : SvcHdr) (a : SvcAction) (pre : Dev → Status) (keys : Dev → Role → Status) (rights : Dev → Rights)
    (late : Dev → Status) (records : Bool) (run : Dev → Role → Dev) (d : Dev) : Dev :=
  serveWith (fun _ _ => []) h a pre keys rights late records run d

/-! One use of a key for a service, and IV reservations. -/

/-- Draw one use of a key at the central cache for a service (R68, R316): from the lease there; else the point asks for a lease,
or waits for the one on its way, and the journal sequence of its record is answered: no use is drawn before that commits. An
error where the key is exhausted or no lease can be granted. -/
def spendUse (idx : Nat) (k : KeyRec) (d : Dev) : Except Status (Option Nat × Dev) :=
  if !k.counted then .ok (none, d)
  else
    let key := leaseKey central idx
    let n := lookD 0 d.ks.leases key
    if 0 < n then .ok (none, { d with ks := { d.ks with leases := put 0 d.ks.leases key (n - 1) } })
    else match d.ks.waits.find? (fun w => match w.kind with | .lease p i _ _ => p == central && i == idx | _ => false) with
    | some w => .ok (some w.seq, d)
    | none =>
    if k.uses = 0 then .error .keyUseExhausted
    else if !roomToCreate d.ks then .error .busyRetry
    else
      let amount := max 1 (min (leaseMax d) (k.uses / 64))
      let d := { d with ks := { d.ks with keys := ins d.ks.keys idx { k with uses := k.uses - amount } } }
      if k.volatileKey then
        .ok (none, { d with ks := { d.ks with leases := put 0 d.ks.leases key (amount - 1) } })
      else
        let (seq, d) := queueRec idx (.lease amount central) d
        .ok (some seq, waitFor seq (.lease central idx amount k.gen) d)

/-- The effect `f` of a service that spends one use of a key: at once where the central cache holds a use, else when the lease's
record has committed, from its start (R68). -/
def withUse (h : SvcHdr) (a : SvcAction) (role : Role) (idx : Nat) (k : KeyRec) (f : Dev → Dev) (d : Dev) : Dev :=
  match spendUse idx k d with
  | .error e => answer h.via e [] d
  | .ok (none, d) => f d
  | .ok (some seq, d) =>
    { d with cust := { d.cust with useWaits := d.cust.useWaits ++ [{ seq := seq, hdr := h, act := a, role := role }] } }

/-- Services that wait for a use are answered and given up. -/
def dropUses (st : Status) (d : Dev) : Dev :=
  d.cust.useWaits.foldl (fun d w => answer w.hdr.via st [] d) { d with cust := { d.cust with useWaits := [] } }

/-- Status that drawing one use of a key would give. -/
def useStatus (d : Dev) (idx : Nat) (k : KeyRec) : Status :=
  match spendUse idx k d with
  | .ok _ => .ok
  | .error e => e

/-- Raise a key's IVCTR to `v` and queue the IV_RESERVE record; the reservation from `base` reaches `holder` once it has
committed (R74). -/
def reserveIv (holder idx gen base v : Nat) (d : Dev) : Nat × Dev :=
  let keys := match look d.ks.keys idx with
    | some k => ins d.ks.keys idx { k with ivctr := v }
    | none => d.ks.keys
  let (seq, d) := queueRec idx (.ivReserve v) { d with ks := { d.ks with keys := keys } }
  (seq, waitFor seq (.iv holder idx gen base) d)

/-- Answer a request once a record has committed, or at once. -/
def answerAt (seq : Option Nat) (via : Via) (st : Status) (resp : Bytes) (d : Dev) : Dev :=
  match seq with
  | some n => waitFor n (.answer via st resp) d
  | none => answer via st resp d

end Sys2Proof.Machine
end

