-- ==== Sys2Proof/Machine/Macsec.lean ====
section
/-! DEFINITION. MACsec on the ports: secure channels and associations, packet numbers, protecting and verifying frames,
what invalidations do to an SA (R313-R322, R325). -/

set_option linter.unusedVariables false

namespace Sys2Proof.Machine

open Sys2Proof

/-- Change an SA: transmit AN, or receive 4c + a. -/
def onTxSa (p an : Nat) (f : MacSa → MacSa) (d : Dev) : Dev :=
  onPort p (fun q => match look q.txSas an with | some a => { q with txSas := ins q.txSas an (f a) } | none => q) d
def onRxSa (p i : Nat) (f : MacSa → MacSa) (d : Dev) : Dev :=
  onPort p (fun q => match look q.rxSas i with | some a => { q with rxSas := ins q.rxSas i (f a) } | none => q) d

/-- The SA byte of an event record (R321). -/
def saByte (tx : Bool) (rxsc an : Nat) : Nat := an * 64 + (if tx then 32 else rxsc)

/-- The suite's last packet number (R319). -/
def lastPn (mode : Nat) : Nat := if mode = 2 then 2 ^ 64 - 1 else 2 ^ 32 - 1

/-- PN_WARN with the default of the suite (R326). -/
def pnWarn (d : Dev) (p : Nat) : Nat :=
  numOf (if macsecMode d p = 2 then 0xC000000000000000 else 0xC0000000) d (pk p 0x12)

/-- The material of an SA's key. -/
def saKey (d : Dev) (a : MacSa) : Bytes := match look d.ks.keys a.idx with | some k => k.material | none => []

/-- An SA's key still resolves for the owner domain with the usage it needs (R316, R322). -/
def saKeyOk (d : Dev) (p : Nat) (tx : Bool) (a : MacSa) : Bool :=
  match resolve d.ks false (portOwner d p) a.handle with
  | .ok (_, k) => k.cls == 0 && k.typ == 3 && bitOf k.usage 1 && (!tx || bitOf k.usage 0)
  | .error _ => false

/-! Requests. -/

/-- Who may ask (R315): the custodian, or a host driver or tenant acting for the port's owner domain. -/
def saRights (p : Nat) (h : SvcHdr) (d : Dev) : Rights :=
  { single := fun r => match r with
      | .firmware => true
      | .tenant dom => dom == portOwner d p
      | .hostDriver => (match h.via with | .mailbox fn => pfGrants d fn (portOwner d p) | _ => false)
      | _ => false }

/-- The ranges of PORT, DIR, RXSC and AN (R315, R563); ports the variant fuses take no SA (R3, R325). -/
def saArgs (port dir rxsc an : Nat) : Bool :=
  decide (port < 64 ∧ dir ≤ 1 ∧ rxsc < 16 ∧ an < 4 ∧ (dir = 1 ∨ rxsc = 0))

/-- RXSC_SET (R315): defines a receive channel, or clears it with its SAs when the SCI is 0. -/
def execRxscSet (h : SvcHdr) (port rxsc : BitVec 8) (window : BitVec 32) (sci : BitVec 64) (s : State) : Out :=
  onDev (fun d =>
    let p := port.toNat
    let c := rxsc.toNat
    serve h (.rxscSet p c window.toNat sci.toNat)
      (fun _ => if p < 64 ∧ c < 16 ∧ window.toNat ≤ 0x3FFFFFFF then .ok else .format)
      (fun _ _ => .ok) (saRights p h)
      (fun d => if portFused d p then .policy else .ok) false
      (fun d _ =>
        let d := if sci = 0 then
            onPort p (fun q => { q with rxscs := del q.rxscs c, rxSas := keep (fun i _ => !(i / 4 == c)) q.rxSas }) d
          else onPort p (fun q => { q with rxscs := ins q.rxscs c { sci := sci.toNat, window := window.toNat } }) d
        answer h.via .ok [] d) d) s

/-- The SA of a direction. -/
def saOf (q : Port) (dir rxsc an : Nat) : Option MacSa :=
  if dir = 0 then look q.txSas an else look q.rxSas (4 * rxsc + an)

/-- First PN of a transmit SA: the largest of the requested NextPN, the first value reserved and 1 (R317). A NextPN
beyond the first reservation moves the reservation up to it. -/
def firstPn (ivctr pn : Nat) : Nat := max 1 (max ivctr pn)

/-- IVCTR after the first reservation of a transmit SA. -/
def saReserve (ivctr pn : Nat) : Nat := if pn < ivctr + 2 ^ 24 then ivctr + 2 ^ 24 else pn + 2 ^ 24

/-- Checks 7 to 9 of SA_CREATE (R316): the key of the owner domain, its class, TYPE and usage. -/
def saKeys (p dir key : Nat) (d : Dev) (_ : Role) : Status :=
  match resolve d.ks false (portOwner d p) key with
  | .error e => e
  | .ok (_, k) =>
    if k.cls == 0 && k.typ == 3 && bitOf k.usage 1 && (dir == 1 || bitOf k.usage 0) then .ok else .usageDenied

/-- Checks 10 to 12 of SA_CREATE (R92, R316, R317). -/
def saLate (p dir rxsc an key pn : Nat) (d : Dev) : Status :=
  match resolve d.ks false (portOwner d p) key with
  | .error e => e
  | .ok (i, k) =>
    let q := portOf d p
    if portFused d p || macsecMode d p == 0 || (saOf q dir rxsc an).isSome ||
        (dir == 1 && (look q.rxscs rxsc).isNone) then .policy
    else if dir == 0 && !roomToCreate d.ks then .busyRetry
    else if dir == 0 && (decide (2 ^ 64 - 1 < saReserve k.ivctr pn) || decide (lastPn (macsecMode d p) < firstPn k.ivctr pn)) then
      .keyUseExhausted
    else useStatus d i k

/-- The number under which a transmit SA asks for reservations. -/
def txHolder (p an : Nat) : Nat := 1024 + 4 * p + an

/-- The effect of SA_CREATE (R315-R317): one use of a counted key is spent, the SA is installed disabled. A transmit SA reserves
2^24 packet numbers; it is installed once that record has committed, and the answer gives its first PN. -/
def saRun (h : SvcHdr) (p dr c a key ssci pn : Nat) (salt : Bytes) (role : Role) (d : Dev) : Dev :=
  match resolve d.ks false (portOwner d p) key with
  | .error e => answer h.via e [] d
  | .ok (i, k) =>
    withUse h (.saCreate p dr c a key ssci pn salt) role i k (fun d =>
      let sa : MacSa := { handle := key, idx := i, gen := k.gen, ssci := ssci, salt := salt, pn := pn }
      let d := raise (srcPort p) 0x0230 k.domain (actorReq d h) [(1, p), (1, saByte (dr == 0) c a), (4, key)] d
      if dr = 1 then answer h.via .ok [] (onPort p (fun q => { q with rxSas := ins q.rxSas (4 * c + a) sa }) d)
      else
        let first := firstPn k.ivctr pn
        let v := saReserve k.ivctr pn
        let sa := { sa with pn := first, stop := min v (lastPn (macsecMode d p) + 1), ready := false }
        let d := onPort p (fun q => { q with txSas := ins q.txSas a sa }) d
        let (seq, d) := reserveIv (txHolder p a) i k.gen (v - 2 ^ 24) v d
        waitFor seq (.answer h.via .ok (le 8 first)) d) d

/-- SA_CREATE (R315-R317): the key is admitted at the central cache and hoisted, then the SA is made. -/
def execSaCreate (h : SvcHdr) (port dir rxsc an : BitVec 8) (key ssci : BitVec 32) (pn : BitVec 64) (salt : Bytes)
    (s : State) : Out :=
  onDev (fun d =>
    let p := port.toNat
    let (dr, c, a) := (dir.toNat, rxsc.toNat, an.toNat)
    serve h (.saCreate p dr c a key.toNat ssci.toNat pn.toNat salt)
      (fun d => if saArgs p dr c a && salt.length == 12 &&
          (macsecMode d p == 2 || (ssci == 0 && salt.all (fun b => b == 0#8) && decide (pn.toNat < 2 ^ 32))) then .ok
        else .format)
      (saKeys p dr key.toNat) (saRights p h) (saLate p dr c a key.toNat pn.toNat) true
      (fun d role => saRun h p dr c a key.toNat ssci.toNat pn.toNat salt role d) d) s

/-- A committed reservation reaches the transmit SA that asked for it (R317): it installs the SA where that is its first one, or
follows the reservation in use. -/
def portIvArrives (p an idx gen base : Nat) (d : Dev) : Dev :=
  onTxSa p an (fun a =>
    if !(a.idx == idx && a.gen == gen) then a
    else if !a.ready then { a with ready := true }
    else if a.asked then { a with asked := false, follow := some base }
    else a) d

/-- The one PN_WARN record of an SA whose PN has reached PN_WARN (R319). -/
def warnPn (p an : Nat) (d : Dev) : Dev :=
  match look (portOf d p).txSas an with
  | none => d
  | some a =>
    if (portOf d p).txAn == some an && !a.warned && decide (pnWarn d p ≤ a.pn) then
      portEvent p 4 (saByte true 0 an) a.pn 0 [] (onTxSa p an (fun a => { a with warned := true }) d)
    else d

/-- SA_ENABLE (R315, R319): a receive SA is enabled; a transmit SA becomes the one in use at the next frame boundary. -/
def execSaEnable (h : SvcHdr) (port dir rxsc an : BitVec 8) (s : State) : Out :=
  onDev (fun d =>
    let p := port.toNat
    let (dr, c, a) := (dir.toNat, rxsc.toNat, an.toNat)
    serve h (.saEnable p dr c a) (fun _ => if saArgs p dr c a then .ok else .format) (fun _ _ => .ok) (saRights p h)
      (fun d => match saOf (portOf d p) dr c a with
        | some sa => if sa.keyIn && sa.ready && !sa.lost then .ok else .policy
        | none => .policy) true
      (fun d role =>
        let d := match saOf (portOf d p) dr c a with
          | some sa => raise (srcPort p) 0x0230 (portOwner d p) (actorReq d h)
              [(1, p), (1, saByte (dr == 0) c a), (4, sa.handle)] d
          | none => d
        let d := if dr = 1 then onRxSa p (4 * c + a) (fun sa => { sa with enabled := true }) d
          else
            let d := onTxSa p a (fun sa => { sa with enabled := true }) d
            warnPn p a (onPort p (fun q => { q with txAn := some a, switchTo := none, exhaustedSent := false }) d)
        answer h.via .ok [] d) d) s

/-- TX_ARM (R319): NEXT_AN is set, or cleared by 0xFF. -/
def execTxArm (h : SvcHdr) (port an : BitVec 8) (s : State) : Out :=
  onDev (fun d =>
    let p := port.toNat
    let a := an.toNat
    serve h (.txArm p a) (fun _ => if p < 64 ∧ (a < 4 ∨ a = 0xFF) then .ok else .format) (fun _ _ => .ok) (saRights p h)
      (fun d => if portFused d p then .policy else .ok) false
      (fun d _ =>
        answer h.via .ok [] (onPort p (fun q => { q with nextAn := if a = 0xFF then none else some a }) d)) d) s

/-- Remove an SA; its key slot is cleared (R315). -/
def dropSa (p dir rxsc an : Nat) (d : Dev) : Dev :=
  if dir = 0 then
    onPort p (fun q => { q with txSas := del q.txSas an, txAn := if q.txAn = some an then none else q.txAn }) d
  else onPort p (fun q => { q with rxSas := del q.rxSas (4 * rxsc + an) }) d

/-- SA_DELETE (R315). -/
def execSaDelete (h : SvcHdr) (port dir rxsc an : BitVec 8) (s : State) : Out :=
  onDev (fun d =>
    let p := port.toNat
    let (dr, c, a) := (dir.toNat, rxsc.toNat, an.toNat)
    serve h (.saDelete p dr c a) (fun _ => if saArgs p dr c a then .ok else .format) (fun _ _ => .ok) (saRights p h)
      (fun d => if (saOf (portOf d p) dr c a).isSome then .ok else .policy) true
      (fun d role =>
        let d := match saOf (portOf d p) dr c a with
          | some sa => raise (srcPort p) 0x0230 (portOwner d p) (actorReq d h)
              [(1, p), (1, saByte (dr == 0) c a), (4, sa.handle)] d
          | none => d
        answer h.via .ok [] (dropSa p dr c a d)) d) s

/-- Every SA of a port is deleted; with `defs` its receive channels too (R325, R326). -/
def dropSas (p : Nat) (defs : Bool) (d : Dev) : Dev :=
  onPort p (fun q => { q with txSas := [], rxSas := [], txAn := none, nextAn := none, switchTo := none,
                              exhaustedSent := false, rxscs := if defs then [] else q.rxscs }) d

/-- A write of MACSEC_ENABLE (R313, R326): 0 on a port of ROLE 2; the suite is selected and every SA deleted. -/
def setMacsec (p v : Nat) (d : Dev) : Dev := dropSas p false (setNum 0 (pk p 0x10) v d)

/-- A write of MACSEC_ENABLE with its rules. -/
def macsecWrite (p v : Nat) (d : Dev) : Except Nat Dev :=
  if portFused d p then .error 2
  else if decide (2 < v) || (portRole d p == 2 && !(v == 0)) then .error 3 else .ok (setMacsec p v d)

/-- MACSEC_ENABLE_WRITE (R313, R326). -/
def execMacsecEnableWrite (p : Fin 64) (v : BitVec 8) (s : State) : Out :=
  writeRow (0x3000 + p.val) 0x10 [v] (macsecWrite p.val v.toNat) s

/-! Invalidations (R322). -/

/-- An SA is disabled, its slot cleared, KEY_LOST sent. -/
def loseTx (p an : Nat) (d : Dev) : Dev :=
  match look (portOf d p).txSas an with
  | none => d
  | some a =>
    if a.lost then d
    else portEvent p 7 (saByte true 0 an) a.pn 0 []
      (onTxSa p an (fun a => { a with enabled := false, lost := true, keyIn := false, resolving := none }) d)
def loseRx (p i : Nat) (d : Dev) : Dev :=
  match look (portOf d p).rxSas i with
  | none => d
  | some a =>
    if a.lost then d
    else portEvent p 7 (saByte false (i / 4) (i % 4)) a.pn 0 []
      (onRxSa p i (fun a => { a with enabled := false, lost := true, keyIn := false, resolving := none }) d)

/-- LINEAGE_INVAL at a port: SAs whose key it matches lose it. -/
def portKeysGone (p : Nat) (hit : Nat → Nat → Bool) (d : Dev) : Dev :=
  let q := portOf d p
  let d := (keysOf (keep (fun _ a => hit a.idx a.gen) q.txSas)).foldl (fun d an => loseTx p an d) d
  (keysOf (keep (fun _ a => hit a.idx a.gen) q.rxSas)).foldl (fun d i => loseRx p i d) d

/-- INVAL at a port: the handle of each SA it matches is resolved again between frames; an SA whose key still resolves with
the usage it needs carries on, another waits at most 4 µs. -/
def portKeysChanged (p : Nat) (hit : Nat → Nat → Bool) (d : Dev) : Dev :=
  let now := d.tb.now
  let f := fun (tx : Bool) (a : MacSa) =>
    if hit a.idx a.gen && !saKeyOk d p tx a then { a with resolving := some now } else a
  onPort p (fun q => { q with txSas := mapV (fun _ a => f true a) q.txSas, rxSas := mapV (fun _ a => f false a) q.rxSas }) d

/-- SA_KEY_RESOLVE_TIMEOUT (R322): 4 µs have passed; an SA whose handle does not resolve with its usage is disabled. -/
def execSaKeyResolveTimeout (p : Fin 64) (tx : Bool) (i : Fin 64) (s : State) : Out :=
  onDev (fun d =>
    let q := portOf d p.val
    match (if tx then look q.txSas i.val else look q.rxSas i.val) with
    | none => d
    | some a => match a.resolving with
      | none => d
      | some t =>
        let d := reach (t + us 4) d
        let calm := fun (a : MacSa) => { a with resolving := none }
        if saKeyOk d p.val tx a then if tx then onTxSa p.val i.val calm d else onRxSa p.val i.val calm d
        else if tx then loseTx p.val i.val d else loseRx p.val i.val d) s

/-! Frames. -/

/-- EtherType of a frame's outermost tag. -/
def etherType (b : Bytes) : Nat := beAt b 12 2

/-- A port's MAC address: the OTP base address plus p (R305). -/
def portMac (d : Dev) (p : Nat) : Nat := d.guard.otp.baseMac + p

/-- SCI of the transmit channel (R314). -/
def txSci (d : Dev) (p : Nat) : Nat := portMac d p * 65536 + 1

/-- The 96-bit GCM IV: SCI and PN, or SSCI and PN XORed with the salt (IEEE 802.1AE). -/
def macsecIv (mode sci : Nat) (a : MacSa) (pn : Nat) : Bytes :=
  if mode = 2 then xorBytes (be 4 a.ssci ++ be 8 pn) a.salt else be 8 sci ++ be 4 pn

/-- A frame protected under an SA (R313): SecTAG with SC = 1, E = C = 1 and the SCI, ciphertext, ICV. -/
def protect (d : Dev) (p an : Nat) (a : MacSa) (b : Bytes) : Bytes :=
  let mode := macsecMode d p
  let data := b.drop 12
  let sl := if data.length < 48 then data.length else 0
  let head := b.take 12 ++ be 2 0x88E5 ++ be 1 (0x2C + an) ++ be 1 sl ++ be 4 (a.pn % 2 ^ 32) ++ be 8 (txSci d p)
  let iv := macsecIv mode (txSci d p) a a.pn
  let ct := Config.gcmCrypt (saKey d a) iv data
  head ++ padTo data.length ct ++ padTo 16 (Config.gcmTag (saKey d a) iv head (padTo data.length ct))

/-- What the datapath does with a frame at the transmit SA (R317, R319). -/
inductive TxSa where
  | hold
  | none_ (d : Dev)
  | use (an : Nat) (a : MacSa) (d : Dev)

/-- A transmit SA that can serve: installed, enabled, its key in its slot. -/
def saServes (a : MacSa) : Bool := a.enabled && a.keyIn && !a.lost && a.ready

/-- The reservation of an SA, moved on to the one that follows where it is spent. -/
def nextReservation (mode : Nat) (a : MacSa) : MacSa :=
  match a.follow with
  | some b => if a.stop ≤ a.pn then
      { a with pn := max a.pn b, stop := min (b + 2 ^ 24) (lastPn mode + 1), follow := none } else a
  | none => a

/-- Find the SA a frame goes out on: the one in use; after the suite's last PN, NEXT_AN if it names an installed SA with
its key; otherwise none, with one SA_EXHAUSTED record. -/
def pickTxSa (p : Nat) (d : Dev) : TxSa :=
  let q := portOf d p
  let mode := macsecMode d p
  match q.txAn with
  | none => .none_ d
  | some an => match look q.txSas an with
    | none => .none_ d
    | some a =>
      if a.resolving.isSome then .hold
      else if !saServes a then .none_ d
      else if a.pn ≤ lastPn mode then
        let a := nextReservation mode a
        if a.pn < a.stop then .use an a d else .none_ d
      else
        let next := match q.nextAn with
          | some n => (match look q.txSas n with | some b => if b.keyIn && b.ready && !b.lost then some (n, b) else none | none => none)
          | none => none
        match next with
        | some (n, b) =>
          let d := onTxSa p n (fun b => { b with enabled := true })
            (onPort p (fun q => { q with txAn := some n, nextAn := none, exhaustedSent := false }) d)
          let b := nextReservation mode { b with enabled := true }
          let d := portEvent p 6 (saByte true 0 n) b.pn 0 [] d
          if b.pn < b.stop then .use n b d else .none_ d
        | none =>
          if q.exhaustedSent then .none_ d
          else .none_ (portEvent p 5 (saByte true 0 an) a.pn 0 []
            (onPort p (fun q => { q with exhaustedSent := true }) d))

/-- The next 2^24 values are asked for when 2^22 remain (R317). -/
def askPns (p an : Nat) (d : Dev) : Dev :=
  match look (portOf d p).txSas an with
  | none => d
  | some a =>
    if a.asked || a.follow.isSome || decide (2 ^ 22 < a.stop - a.pn) || decide (lastPn (macsecMode d p) < a.stop) then d
    else match look d.ks.keys a.idx with
      | none => d
      | some k =>
        if decide (2 ^ 64 - 1 < k.ivctr + 2 ^ 24) || !roomToCreate d.ks then d
        else
          let d := onTxSa p an (fun a => { a with asked := true }) d
          (reserveIv (txHolder p an) a.idx a.gen k.ivctr (k.ivctr + 2 ^ 24) d).2

/-- PTP event messages (R323): under EtherType 0x88F7, or UDP to port 319, behind at most one VLAN tag. Answers where the
PTP header starts. -/
def ptpAt (b : Bytes) : Option Nat :=
  let o := if etherType b = 0x8100 then 16 else 12
  let t := beAt b o 2
  let ev := fun (n : Nat) => if decide (n + 34 ≤ b.length) && decide (fieldOf (leAt b n 1) 0 4 ≤ 3) then some n else none
  if t = 0x88F7 then ev (o + 2)
  else if t = 0x0800 then
    let ihl := 4 * fieldOf (leAt b (o + 2) 1) 0 4
    if leAt b (o + 11) 1 = 17 ∧ beAt b (o + 2 + ihl + 2) 2 = 319 then ev (o + 2 + ihl + 8) else none
  else if t = 0x86DD then
    if leAt b (o + 8) 1 = 17 ∧ beAt b (o + 42 + 2) 2 = 319 then ev (o + 42 + 8) else none
  else none

/-- INFO of a PTP record (R321): sequenceId, messageType, domainNumber. -/
def ptpInfo (b : Bytes) (n : Nat) : Nat :=
  beAt b (n + 30) 2 + fieldOf (leAt b n 1) 0 4 * 2 ^ 16 + leAt b (n + 4) 1 * 2 ^ 20

/-- Stamp a PTP event message (R323, R324): an event record of TYPE 2 or 3; one that cannot be delivered counts in
PTP_STAMP_LOST. -/
def ptpStamp (p : Nat) (rx : Bool) (b : Bytes) (d : Dev) : Dev :=
  match ptpAt b with
  | none => d
  | some n =>
    let (ok, d) := sendEvent p (if rx then 2 else 3) 0 0 (ptpInfo b n) [] d
    bump (pk p (if ok then (if rx then 0x60 else 0x61) else 0x62)) d

/-- A frame the datapath has sent. -/
def sentFrame (p : Nat) (b : Bytes) (tag : Option Nat) (d : Dev) : Dev :=
  let d := emit (.frame p b false) (bumpBy (b.length + 4) (pk p 0x27) (bump (pk p 0x28) d))
  match tag with
  | some t => endMsg t d
  | none => d

/-- A frame is discarded at egress; a message so discarded is a dropped message (R23, R306). -/
def lostFrame (p sub : Nat) (tag : Option Nat) (d : Dev) : Dev :=
  let d := bump (pk p sub) d
  match tag with
  | some t => endMsg t d
  | none => d

/-- Hand a frame to a port's egress datapath (R306, R313, R317, R319); false where it must wait for its SA. -/
def sendFrame (p : Nat) (b : Bytes) (tag : Option Nat) (d : Dev) : Bool × Dev :=
  if !portUp d p then (true, lostFrame p 0x29 tag d)
  else if macsecMode d p = 0 ∨ portRole d p = 2 ∨ etherType b = 0x888E then
    (true, sentFrame p b tag (ptpStamp p false b d))
  else match pickTxSa p d with
  | .hold => (false, d)
  | .none_ d => (true, lostFrame p 0x4A tag d)
  | .use an a d =>
    if portMtu d p < b.length + 36 then (true, lostFrame p 0x49 tag d)
    else
      let out := protect d p an a b
      let d := ptpStamp p false b d
      let d := warnPn p an (onTxSa p an (fun _ => a) d)
      let d := onTxSa p an (fun a => { a with pn := a.pn + 1 }) d
      (true, sentFrame p out tag (bump (pk p 0x48) (askPns p an d)))

/-- What verification of a received frame gives (R320). -/
inductive RxSa where
  | plain (b : Bytes)
  | drop (sub : Nat)

/-- A receive packet number: under XPN the high half is that of LowestPN, one higher where the top bit of LowestPN's low half is
set and that of the received PN is not (R320, IEEE 802.1AE). -/
def rxPn (mode low pn32 : Nat) : Nat :=
  if mode = 2 then
    let hi := low / 2 ^ 32
    if 2 ^ 31 ≤ low % 2 ^ 32 ∧ pn32 < 2 ^ 31 then (hi + 1) * 2 ^ 32 + pn32 else hi * 2 ^ 32 + pn32
  else pn32

/-- Verify a frame in Strict mode (R320). -/
def macsecIn (p : Nat) (b : Bytes) (d : Dev) : RxSa × Dev :=
  let q := portOf d p
  let mode := macsecMode d p
  if etherType b = 0x888E then (.plain b, d)
  else if ¬ etherType b = 0x88E5 then (.drop 0x44, d)
  else
    let tci := leAt b 14 1
    let sl := leAt b 15 1
    let sc := bitOf tci 5
    let (e, c) := (bitOf tci 3, bitOf tci 2)
    let hl := if sc then 28 else 20
    let an := fieldOf tci 0 2
    let n := if sl = 0 then b.length - hl - 16 else sl
    let pn32 := beAt b 16 4
    if bitOf tci 7 || (sc && (bitOf tci 6 || bitOf tci 4)) || !(e == c) || decide (48 ≤ sl) ||
        (!(mode == 2) && pn32 == 0) || decide (b.length < hl + 16 + n) then (.drop 0x45, d)
    else
      let ch := if sc then (q.rxscs.find? (fun x => x.2.sci == beAt b 20 8)) else
        (match q.rxscs with | [x] => some x | _ => none)
      match ch with
      | none => (.drop 0x42, d)
      | some (rc, r) => match look q.rxSas (4 * rc + an) with
        | none => (.drop 0x42, d)
        | some a =>
          if a.lost || (a.resolving.isSome && !saKeyOk d p false a) then (.drop 0x46, d)
          else if !a.enabled then (.drop 0x42, d)
          else
            let pn := rxPn mode a.pn pn32
            if pn + r.window < a.pn then (.drop 0x43, d)
            else
              let iv := macsecIv mode r.sci a pn
              let data := slice b hl n
              let icv := slice b (hl + n) 16
              let aad := b.take hl ++ (if e then [] else data)
              if !(padTo 16 (Config.gcmTag (saKey d a) iv aad (if e then data else [])) == icv) then (.drop 0x41, d)
              else
                let out := if e then padTo n (Config.gcmCrypt (saKey d a) iv data) else data
                (.plain (b.take 12 ++ out),
                  bump (pk p 0x40) (onRxSa p (4 * rc + an) (fun a => { a with pn := max a.pn (pn + 1) }) d))

end Sys2Proof.Machine
end

