-- ==== Sys2Proof/Machine/KeyRows.lean ====
section
/-! DEFINITION. Key material on the Halyard, invalidations, the journal and its commits, compaction (R76-R92). -/

set_option linter.unusedVariables false

namespace Sys2Proof.Machine

open Sys2Proof

/-! Hoists. -/

/-- The key slots of the unit an operation runs on. -/
def unitSlots (d : Dev) (o : Op) : List KeySlot :=
  match o.unit with
  | some n => if isBnService o.req.job.service then (engineOf d n).slots else (coreOf d n).slots
  | none => []

/-- Change the key slots of the unit an operation runs on. -/
def onSlots (o : Op) (f : List KeySlot → List KeySlot) (d : Dev) : Dev :=
  match o.unit with
  | some n =>
    if isBnService o.req.job.service then onEngine n (fun e => { e with slots := f e.slots }) d
    else onCore n (fun c => { c with slots := f c.slots }) d
  | none => d

/-- The pin of an operation's first or second key. -/
def pinAt (o : Op) (second : Bool) : Option Pin := o.pins[(b2n second)]?

/-- HOIST (R82, R84): for a running job's key the cache compares slot, index and generation; the pinned entry matches, and
KEYDATA is on its way to the key slot. A slot that already holds the key needs no hoist (R83). -/
def execHoist (tag : BitVec 16) (second : Bool) (s : State) : Out :=
  onDev (fun d =>
    match opOf d tag.toNat with
    | none => d
    | some o => match pinAt o second with
      | none => d
      | some p =>
        if (pinnedRec d p).isNone then d
        else onSlots o (fun l => l.map (fun k =>
          if k.idx == p.idx && k.gen == p.gen && !k.loaded then { k with hoisted := true } else k)) d) s

/-- KEYDATA (R82): the material is in the engine key slot, tagged with index and generation. -/
def execKeydata (tag : BitVec 16) (second : Bool) (s : State) : Out :=
  onDev (fun d =>
    match opOf d tag.toNat with
    | none => d
    | some o => match pinAt o second with
      | none => d
      | some p => match pinnedRec d p with
        | none => d
        | some r => onSlots o (fun l => l.map (fun k =>
            if k.idx == p.idx && k.gen == p.gen && k.hoisted then
              { k with loaded := true, hoisted := false, material := r.material } else k)) d) s

/-! Invalidations. -/

/-- A record is ended by a destruction: it is the key, or a descendant that recorded an older generation (R64, R76). -/
def endedBy (v : Inval) (idx : Nat) (k : KeyRec) : Bool :=
  (idx == v.idx && !(k.gen == v.gen)) || k.lineage.any (fun e => e.1 == v.idx && !(e.2 == v.gen))

/-- The same test on an index and generation, by the key store's record of it. -/
def slotHit (d : Dev) (v : Inval) (idx gen : Nat) : Bool :=
  if v.destroy then
    (idx == v.idx && !(gen == v.gen)) ||
      (match look d.ks.keys idx with
       | some k => k.gen == gen && k.lineage.any (fun e => e.1 == v.idx && !(e.2 == v.gen))
       | none => false)
  else idx == v.idx && gen == v.gen

/-- The first invalidation of an index and kind that a holder has not received. -/
def invalFor (d : Dev) (destroy : Bool) (holder idx : Nat) : Option Inval :=
  d.ks.invals.find? (fun v => v.destroy == destroy && v.idx == idx && !has v.received holder)

/-- Note something on one invalidation. -/
def onInval (w : Inval) (f : Inval → Inval) (d : Dev) : Dev :=
  { d with ks := { d.ks with invals := d.ks.invals.map (fun v => if v == w then f v else v) } }

/-- Mark the lines of a point that an invalidation matches as misses. -/
def staleLines (point : Nat) (hit : CacheLine → Bool) (d : Dev) : Dev :=
  let f := fun (k : Nat) (ls : List CacheLine) =>
    if k / 65536 == point then ls.map (fun l => if hit l then { l with stale := true } else l) else ls
  { d with ks := { d.ks with caches := mapV f d.ks.caches } }

/-- What a holder does with an invalidation on receipt, its caches and leases apart (R83, R85, R322, R468). -/
def holderClears (v : Inval) (holder : Nat) (d : Dev) : Dev :=
  let hit := slotHit d v
  if 64 ≤ holder ∧ holder < 128 then
    onCore (holder - 64) (fun c => { c with
      slots := invalidateSlots hit c.slots,
      ivs := if v.destroy then c.ivs.filter (fun i => !hit i.idx i.gen) else c.ivs }) d
  else if 128 ≤ holder ∧ holder < 192 then
    onEngine (holder - 128) (fun e => { e with slots := invalidateSlots hit e.slots }) d
  else if 192 ≤ holder ∧ holder < 256 then
    if v.destroy then portKeysGone (holder - 192) hit d else portKeysChanged (holder - 192) hit d
  else if holder = 256 ∧ v.destroy ∧ 1 ≤ v.idx ∧ v.idx ≤ 0x1000 then
    match look d.rng.domains (v.idx - 1) with
    | some i => zeroInst i d
    | none => d
  else d

/-- LINEAGE_INVAL (R76, R83, R85): an admission point or holder receives a destruction's invalidation: from now on the
point treats the key and its descendants as misses, and its leases of them are discarded (R70). -/
def execLineageInval (holder : Fin 257) (idx : BitVec 24) (s : State) : Out :=
  onDev (fun d =>
    match invalFor d true holder.val idx.toNat with
    | none => d
    | some v =>
      let d := onInval v (fun v => { v with received := v.received ++ [holder.val] }) d
      if holder.val ≤ 32 then
        let mine := fun (k : Nat) => k / 2 ^ 24 == holder.val && (match look d.ks.keys (k % 2 ^ 24) with
          | some r => endedBy v (k % 2 ^ 24) r | none => true)
        let d := staleLines holder.val (fun l => endedBy v l.idx l.key) d
        { d with ks := { d.ks with leases := keep (fun k _ => !mine k) d.ks.leases } }
      else holderClears v holder.val d) s

/-- INVAL (R57, R70, R83): a cache or holder receives an attribute change: lookups of the key miss, and an unspent lease
goes back to the key store. -/
def execInval (holder : Fin 257) (idx : BitVec 24) (s : State) : Out :=
  onDev (fun d =>
    match invalFor d false holder.val idx.toNat with
    | none => d
    | some v =>
      let d := onInval v (fun v => { v with received := v.received ++ [holder.val] }) d
      if holder.val ≤ 32 then
        returnLease holder.val idx.toNat (staleLines holder.val (fun l => l.idx == v.idx) d)
      else holderClears v holder.val d) s

/-- CACHE_SWEEP_DONE (R76, R78): the sweep has removed the entries that no job pins. -/
def execCacheSweepDone (point : Fin 33) (idx : BitVec 24) (s : State) : Out :=
  onDev (fun d =>
    match d.ks.invals.find? (fun v => v.idx == idx.toNat && has v.received point.val && !has v.swept point.val) with
    | none => d
    | some v =>
      let hit := fun (l : CacheLine) => if v.destroy then endedBy v l.idx l.key else l.idx == v.idx
      let f := fun (k : Nat) (ls : List CacheLine) =>
        if k / 65536 == point.val then ls.filter (fun l => !(hit l && l.stale && l.pins == 0)) else ls
      let d := onInval v (fun v => { v with swept := v.swept ++ [point.val] }) d
      { d with ks := { d.ks with caches := (mapV f d.ks.caches).filter (fun e => !e.2.isEmpty) } }) s

/-- ACK (R78): the key store receives the acknowledgement of a sweep, or of a holder; a destruction or change that has
all of them, its record and its pins completes. -/
def execAck (holder : Fin 257) (idx : BitVec 24) (s : State) : Out :=
  onDev (fun d =>
    match d.ks.invals.find? (fun v => v.idx == idx.toNat && !has v.acked holder.val &&
        (if holder.val ≤ 32 then has v.swept holder.val else has v.received holder.val)) with
    | none => d
    | some v => finishInvals (onInval v (fun v => { v with acked := v.acked ++ [holder.val] }) d)) s

/-! The journal. -/

/-- JOURNAL_PAGE_CLOSE (R89): 200 µs after its first record the open page closes and its programming starts. -/
def execJournalPageClose (s : State) : Out :=
  onDev (fun d =>
    match d.ks.journal.getLast? with
    | none => d
    | some p =>
      if p.closed then d
      else
        let d := reach (p.since + us 200) d
        { d with ks := { d.ks with journal := d.ks.journal.dropLast ++ [{ p with closed := true }] } }) s

/-! Nonces (R74, R108, R112). -/

/-- A core's reservation of a key. -/
def ivOf (d : Dev) (core idx gen : Nat) : Option IvRes :=
  (coreOf d core).ivs.find? (fun i => i.idx == idx && i.gen == gen)

/-- Change a core's reservation of a key. -/
def onIv (core idx gen : Nat) (f : IvRes → IvRes) (d : Dev) : Dev :=
  onCore core (fun c => { c with ivs := c.ivs.map (fun i => if i.idx == idx && i.gen == gen then f i else i) }) d

/-- A spent reservation gives way to the following one, once that has committed. -/
def turnIv (i : IvRes) : IvRes :=
  match i.follow with
  | some b => if i.stop ≤ i.next then { i with next := b, stop := b + 65536, follow := none } else i
  | none => i

/-- Take the next value of a core's reservation as a nonce; none where the reservation is empty (R108, R112). -/
def takeIv (core idx gen : Nat) (d : Dev) : Option (Bytes × Dev) :=
  match (ivOf d core idx gen).map turnIv with
  | none => none
  | some i =>
    if i.next < i.stop then
      some (nonceOf core idx i.next, onIv core idx gen (fun i => { turnIv i with next := (turnIv i).next + 1 }) d)
    else none

/-- A job that waited in RUNNING for a reservation of its key takes the next value of it (R112). -/
def resumeIv (core idx gen tag : Nat) (d : Dev) : Dev :=
  match opOf d tag with
  | none => d
  | some o =>
    if o.ivWait && (o.pins.head?.any (fun p => p.idx == idx && p.gen == gen)) then
      match takeIv core idx gen d with
      | some (v, d) => onOp tag (fun o => { o with nonce := v, ivWait := false }) d
      | none => d
    else d

/-- A committed IV reservation reaches its holder: a cipher core 64 + n, whose waiting jobs go on, or a transmit SA of a port
(R74, R112, R317). -/
def ivArrives (holder idx gen base : Nat) (d : Dev) : Dev :=
  if 1024 ≤ holder then portIvArrives ((holder - 1024) / 4) (holder % 4) idx gen base d
  else
    let n := holder - 64
    let d := onCore n (fun c =>
      match c.ivs.find? (fun i => i.idx == idx && i.gen == gen) with
      | none => { c with ivs := c.ivs ++ [{ idx := idx, gen := gen, next := base, stop := base + 65536 }] }
      | some _ =>
        let f := fun (i : IvRes) =>
          if !(i.idx == idx && i.gen == gen) then i
          else if i.stop ≤ i.next then { i with next := base, stop := base + 65536, asked := false }
          else { i with follow := some base, asked := false }
        { c with ivs := c.ivs.map f }) d
    (coreOf d n).jobs.foldl (fun d e => resumeIv n idx gen e.1 d) d

/-- The oldest administrative action on an index whose record had not committed; actions on one index are serialised (R76). -/
def commitFirst (idx : Nat) : List Inval → List Inval
  | [] => []
  | v :: vs => if v.idx == idx && !v.committed then { v with committed := true } :: vs else v :: commitFirst idx vs

/-- What follows from a committed record for the one that waits for it (R90). -/
def wakeWait (w : Wait) (d : Dev) : Dev :=
  match w.kind with
  | .answer via st resp => answer via st resp d
  | .keyReady idx => (match look d.ks.keys idx with
    | some k => { d with ks := { d.ks with keys := ins d.ks.keys idx { k with committed := true } } }
    | none => d)
  | .lease point idx amount gen => leaseArrives point idx amount gen d
  | .iv holder idx gen base => ivArrives holder idx gen base d
  | .destroy idx => finishInvals { d with ks := { d.ks with invals := commitFirst idx d.ks.invals } }
  | .migrate step => { d with cust := { d.cust with pendingMig := some step } }

/-- A committed COMPACT_END puts its snapshot in force (R91, R92). -/
def applyCommit (r : JRec) (d : Dev) : Dev :=
  match r.body, d.ks.building with
  | .compactEnd .., some b => { d with ks := { d.ks with snap := some b, building := none } }
  | _, _ => d

/-- One page commits, its waiters are told in journal order; the parity page of a stripe follows its seventh data page (R90). -/
def commitPage (p : JPage) (d : Dev) : Dev :=
  let last := pageLast p
  let d := { d with ks := { d.ks with
    pages := d.ks.pages ++ [p], parity := if p.pageSeq % 7 = 6 then d.ks.parity ++ [p.pageSeq / 7] else d.ks.parity } }
  let d := p.recs.foldl (fun d r => applyCommit r d) d
  let due := d.ks.waits.filter (fun w => decide (w.seq ≤ last))
  let d := { d with ks := { d.ks with waits := d.ks.waits.filter (fun w => !decide (w.seq ≤ last)) } }
  let f := fun (_ : Nat) (o : Op) => match o.waitSeq with
    | some n => if n ≤ last then { o with waitSeq := none } else o
    | none => o
  let d := { d with op := { d.op with ops := mapV f d.op.ops } }
  due.foldl (fun d w => wakeWait w d) d

/-- Commit every leading page that has been programmed (R90). -/
def commitPages : Nat → Dev → Dev
  | 0, d => d
  | n + 1, d =>
    match d.ks.journal with
    | [] => d
    | p :: rest =>
      if p.programmed then commitPages n (commitPage p { d with ks := { d.ks with journal := rest } })
      else d

/-! Compaction (R92). -/

/-- The live records as NAND holds them (R63, R72). Their CREATE records have committed by the time COMPACT_END commits, and the
snapshot counts from then on (R92). -/
def snapshotOf (d : Dev) (epoch seq : Nat) : Snapshot :=
  let stored := fun (i : Nat) (k : KeyRec) => storeKey d.ks i { k with committed := true }
  { epoch := epoch, seq := seq, keys := mapV stored (d.ks.keys.filter (fun e => liveKey d.ks e.2)), gens := d.ks.gens,
    free := d.ks.free, boot := d.ks.bootCount, wraps := d.ks.wraps, migrating := d.ks.migState, target := d.ks.migTarget,
    finalTarget := d.ks.finalTarget }

/-- COMPACTION_BEGIN: free space has fallen below N + 2 GiB; COMPACT_BEGIN(E, S) is queued and the live records as of S
are copied. Destroyed, orphaned and expired records are left out. -/
def execCompactionBegin (s : State) : Out :=
  onDev (fun d =>
    if !(d.ks.compact == .idle) || decide (snapshotSize d.ks + 2 * 2 ^ 30 ≤ journalFree d.ks) then d
    else
      let e := d.ks.epoch + 1
      let sq := d.ks.nextSeq - 1
      let gone := keysOf (d.ks.keys.filter (fun e => !liveKey d.ks e.2 && e.2.committed))
      let (_, d) := queueRec 0 (.compactBegin e sq) d
      let b := snapshotOf d e sq
      { d with ks := { d.ks with compact := .copying, compactS := sq, building := some b, sweeping := gone } }) s

/-- The record of a left-out index goes; a general index is freed, its extension lines return (R54, R56). -/
def sweepIndex (idx : Nat) (d : Dev) : Dev :=
  match look d.ks.keys idx with
  | none => d
  | some k =>
    if liveKey d.ks k || d.ks.invals.any (fun v => v.idx == idx) then d
    else { d with ks := { d.ks with
      keys := del d.ks.keys idx, extUsed := d.ks.extUsed - k.extCount,
      free := if idx ≤ 0x1000 then d.ks.free else FreeList.give d.ks.free (idx - 0x1001) } }

/-- COMPACTION_COPY_DONE: COMPACT_END(E, S) is queued, the indices of the records left out are freed, in rising order. -/
def execCompactionCopyDone (s : State) : Out :=
  onDev (fun d =>
    if !(d.ks.compact == .copying) then d
    else
      let (_, d) := queueRec 0 (.compactEnd (d.ks.epoch + 1) d.ks.compactS) d
      let d := d.ks.sweeping.foldl (fun d i => sweepIndex i d) d
      { d with ks := { d.ks with compact := .erasing, sweeping := [] } }) s

/-- COMPACTION_ERASE_DONE: COMPACT_END has committed and the segments holding only records before S have been erased. -/
def execCompactionEraseDone (s : State) : Out :=
  onDev (fun d =>
    if !(d.ks.compact == .erasing) || d.ks.building.isSome then d else { d with ks := erasedStore d.ks }) s

end Sys2Proof.Machine
end

