-- ==== Sys2Proof/Machine/PoolRows.lean ====
section
/-! DEFINITION. The Ostler and the cipher cores: dispatch, the end of a job, self-test and parity (R74, R112, R113,
R115-R125, R143). -/

set_option linter.unusedVariables false

namespace Sys2Proof.Machine

open Sys2Proof

/-! Deficit round robin (R116, R179). -/

/-- Jobs a channel has at the head of its class: the first queued job of each channel, and every job without a channel, in
order. -/
def headJobs : List QJob → List Nat → List QJob
  | [], _ => []
  | j :: r, seen => if decide (j.chan < noChan) && has seen j.chan then headJobs r seen else j :: headJobs r (j.chan :: seen)

/-- A channel's deficit. -/
def turnDeficit (ts : List ChanTurn) (c : Nat) : Nat := ((ts.find? (fun t => t.chan == c)).map (fun t => t.deficit)).getD 0

/-- Set a channel's deficit; channels without queued work are forgotten. -/
def setTurn (ts : List ChanTurn) (c n : Nat) : List ChanTurn :=
  (ts.filter (fun t => !(t.chan == c))) ++ [{ chan := c, deficit := n }]

/-- Rounds a channel needs before its head job is paid for. -/
def roundsFor (quantum deficit cost : Nat) : Nat := (cost - deficit + quantum - 1) / quantum

/-- The next job of a class among those that can start: the channel that needs the fewest further rounds of its quantum,
in order of arrival; every waiting channel gains as many quanta as that one. -/
def classPick (quantum : Nat) (can : Nat → Bool) (q : ClassQueue) : Option (QJob × ClassQueue) :=
  let heads := headJobs q.jobs []
  match minBy? (fun j => roundsFor quantum (turnDeficit q.turns j.chan) j.cost)
      (heads.filter (fun j => can j.tag)) with
  | none => none
  | some j =>
    let r := roundsFor quantum (turnDeficit q.turns j.chan) j.cost
    let paid := heads.map (fun h => ({ chan := h.chan, deficit := turnDeficit q.turns h.chan + r * quantum } : ChanTurn))
    let jobs := q.jobs.filter (fun x => !(x.tag == j.tag))
    let left := turnDeficit paid j.chan - j.cost
    let turns := (setTurn paid j.chan left).filter (fun t => jobs.any (fun x => x.chan == t.chan))
    some (j, { q with jobs := jobs, turns := turns })

/-- Weight of classes 1 to 3 (R115). -/
def classWeight (cls : Nat) : Nat := if cls = 1 then 8 else if cls = 2 then 4 else 1

/-- The next job over all classes: class 0 strictly first, classes 1 to 3 by deficit round robin with `quantum` times the
weight; an empty class yields its share (R115, R116, R179). Answers class, job and the queues after it. -/
def pickJob (quantum turn : Nat) (can : Nat → Bool) (qs : FMap ClassQueue) :
    Option (Nat × QJob × Nat × FMap ClassQueue) :=
  match classPick quantum can (lookD {} qs 0) with
  | some (j, q) => some (0, j, turn, put {} qs 0 q)
  | none =>
    let order := if turn = 2 then [2, 3, 1] else if turn = 3 then [3, 1, 2] else [1, 2, 3]
    let open_ := order.filterMap (fun c =>
      (classPick quantum can (lookD {} qs c)).map (fun r => (c, r.1, r.2)))
    match minBy? (fun (e : Nat × QJob × ClassQueue) =>
        roundsFor (quantum * classWeight e.1) (lookD {} qs e.1).deficit e.2.1.cost) open_ with
    | none => none
    | some (c, j, q) =>
      let r := roundsFor (quantum * classWeight c) (lookD {} qs c).deficit j.cost
      let pay := fun (k : Nat) (x : ClassQueue) =>
        if k = 0 then x
        else if x.jobs.isEmpty then { x with deficit := 0 }
        else { x with deficit := x.deficit + r * quantum * classWeight k }
      let qs := mapV pay qs
      let left := (lookD {} qs c).deficit - j.cost
      let q := { q with deficit := if q.jobs.isEmpty then 0 else left }
      some (c, j, if left = 0 ∨ q.jobs.isEmpty then c % 3 + 1 else c, put {} qs c q)

/-! Dispatch. -/

/-- The key records of an operation, by its pins. -/
def opKeys (d : Dev) (o : Op) : List KeyRec := o.pins.filterMap (pinnedRec d)

/-- The units of a cipher core that a job's steps use, in order (R96, R134). -/
def unitsOf (d : Dev) (o : Op) : List CoreUnit :=
  let j := o.req.job
  if j.service = 1 then [match symFn j.func with | some f => symUnit f | none => .aes]
  else match opKeys d o with
    | k :: r => paySteps j k r.head? o.req.input
    | [] => [.aes]

/-- The unit that a job's first step needs. -/
def unitOf (d : Dev) (o : Op) : CoreUnit := (unitsOf d o).headD .aes

/-- A slot holds a key. -/
def holdsKey (slots : List KeySlot) (p : Pin) : Bool :=
  slots.any (fun k => k.idx == p.idx && k.gen == p.gen && !k.clearWhenFree)

/-- The keys that pins name, each once. -/
def pinKeys (pins : List Pin) : List (Nat × Nat) := pins.foldl (fun l p => addOnce l (p.idx, p.gen)) []

/-- A core's key slots suffice for a job: each key it names is held, or has a slot that no running job uses (R119). -/
def slotRoom (limit : Nat) (slots : List KeySlot) (pins : List Pin) : Bool :=
  let new := pinKeys (pins.filter (fun p => !(holdsKey slots p)))
  let taken := slots.filter (fun k => !(k.users == 0) || pins.any (fun p => k.idx == p.idx && k.gen == p.gen))
  decide (taken.length + new.length ≤ limit)

/-- Take a key slot for a job: the one that holds the key, an empty one, or the least recently used that no running job
uses (R119). -/
def takeSlot (limit stamp : Nat) (p : Pin) (slots : List KeySlot) : List KeySlot :=
  if holdsKey slots p then
    slots.map (fun k => if k.idx == p.idx && k.gen == p.gen && !k.clearWhenFree then
      { k with users := k.users + 1, stamp := stamp } else k)
  else
    let fresh : KeySlot := { idx := p.idx, gen := p.gen, users := 1, stamp := stamp }
    if slots.length < limit then slots ++ [fresh]
    else match minBy? (fun k => k.stamp) (slots.filter (fun k => k.users == 0)) with
      | none => slots
      | some old => slots.filter (fun k => !(k == old)) ++ [fresh]

/-- The candidates of a job (R119). -/
def candidates (d : Dev) (o : Op) : List Nat :=
  let u := unitOf d o
  (List.range 64).filter (fun n =>
    let c := coreOf d n
    c.state == .serving && decide (unitBusy c u < u.contexts) && slotRoom (32 - c.transient.length) c.slots o.pins)

/-- The Ostler's choice: cores that hold the key, then the fewest occupied contexts, then the lowest number (R119). -/
def chooseCore (d : Dev) (o : Op) : Option Nat :=
  let cs := candidates d o
  let holding := match o.pins with
    | p :: _ => cs.filter (fun n => holdsKey (coreOf d n).slots p)
    | [] => []
  minBy? (fun n => (coreOf d n).jobs.length) (if holding.isEmpty then cs else holding)

/-- An earlier job of the same channel and the same units has not started: it waits in admission for a fill or a lease, or
stands in a queue (R116, R119). -/
def earlierWaits (d : Dev) (o : Op) : Bool :=
  let bn := isBnService o.req.job.service
  let chan := queueChan d o.req
  let mine := o.req.order.getD 0
  decide (chan < noChan) &&
    ((d.op.waitFill ++ d.op.waitLease).any (fun q =>
        isBnService q.job.service == bn && queueChan d q == chan && decide (q.order.getD 0 < mine)) ||
      (if bn then d.bn.queues else d.pool.queues).any (fun e =>
        e.2.jobs.any (fun j => j.chan == chan && decide (j.order < mine))))

/-- A queued job has a core it can run on, and no earlier job of its channel goes first. -/
def coreFor (d : Dev) (tag : Nat) : Bool :=
  match opOf d tag with
  | some o => !earlierWaits d o && (chooseCore d o).isSome
  | none => false

/-! The nonce of an encrypting job (R74, R108-R112). -/

/-- What drawing a nonce gives: a value of the core's reservation, a wait for the next one, or none for ever. -/
inductive Nonce where
  | value (b : Bytes)
  | wait
  | exhausted

/-- Ask for a key's next reservation on behalf of a core: none where the counter cannot take it (R112); false where the
journal has no room for its record, so that it has to be asked for again (R92). That of a volatile key comes at once. -/
def askIv (core idx gen : Nat) (d : Dev) : Option Bool × Dev :=
  match look d.ks.keys idx with
  | none => (none, d)
  | some k =>
    if 2 ^ 64 - 1 < k.ivctr + 65536 then (none, d)
    else if !roomToCreate d.ks then (some false, d)
    else
      let d := onIv core idx gen (fun i => { i with asked := true }) d
      if k.volatileKey then
        (some true, ivArrives (64 + core) idx gen k.ivctr
          { d with ks := { d.ks with keys := ins d.ks.keys idx { k with ivctr := k.ivctr + 65536 } } })
      else (some true, (reserveIv (64 + core) idx gen k.ivctr (k.ivctr + 65536) d).2)

/-- At 16,384 values left the next reservation is asked for (R112). -/
def renewIv (core idx gen : Nat) (d : Dev) : Dev :=
  match ivOf d core idx gen with
  | some i => if i.stop - i.next ≤ 16384 ∧ i.asked = false ∧ i.follow.isNone then (askIv core idx gen d).2 else d
  | none => d

/-- Draw a nonce: the next value of the core's reservation, which is renewed in time; with none left a reservation is asked
for. -/
def drawNonce (core idx gen : Nat) (d : Dev) : Nonce × Dev :=
  match takeIv core idx gen d with
  | some (v, d) => (.value v, renewIv core idx gen d)
  | none =>
    let d := if (ivOf d core idx gen).isSome then d
      else onCore core (fun c => { c with ivs := c.ivs ++ [{ idx := idx, gen := gen, next := 0, stop := 0 }] }) d
    if (ivOf d core idx gen).any (fun i => i.asked) then (.wait, d)
    else match askIv core idx gen d with
    | (none, d) => (.exhausted, d)
    | (some _, d) => match takeIv core idx gen d with
      | some (v, d) => (.value v, d)
      | none => (.wait, d)

/-- A job that draws a nonce. -/
def jobDraws (j : Job) : Bool := j.service == 1 && ((symFn j.func).any drawsNonce)

/-- A dispatched job draws its nonce, or waits in RUNNING for its core's next reservation (R112). The value is gone whatever
becomes of the job (R110). -/
def startNonce (tag core : Nat) (o : Op) (d : Dev) : Dev :=
  match o.pins with
  | p :: _ =>
    if jobDraws o.req.job && o.nonce.isEmpty then
      match drawNonce core p.idx p.gen d with
      | (.value v, d) => onOp tag (fun o => { o with nonce := v, ivWait := false }) d
      | (.wait, d) => if o.ivWait then d else bump (dk 0x8104 3) (onOp tag (fun o => { o with ivWait := true }) d)
      | (.exhausted, d) => d
    else d
  | [] => d

/-- OSTLER_DISPATCH (R115, R116, R119): the next job that has a candidate core goes to the core chosen; it is RUNNING and
its key slots are taken. -/
def execOstlerDispatch (s : State) : Out :=
  onDev (fun d =>
    match pickJob 4096 d.pool.turn (coreFor d) d.pool.queues with
    | none => d
    | some (_, j, turn, qs) =>
      match opOf d j.tag with
      | none => d
      | some o => match chooseCore d o with
        | none => d
        | some n =>
          let stamp := d.pool.stamp + 1
          let u := unitsOf d o
          let d := { d with pool := { d.pool with queues := qs, turn := turn, stamp := stamp } }
          let d := onCore n (fun c => { c with
            jobs := c.jobs ++ [(j.tag, u.headD .aes)],
            slots := o.pins.foldl (fun sl p => takeSlot (32 - c.transient.length) stamp p sl) c.slots }) d
          startNonce j.tag n o
            (onOp j.tag (fun o => { o with phase := .running, unit := some n, started := d.tb.now, steps := u.drop 1 }) d)) s

/-! The end of a job. -/

/-- The material of an operation's n-th key, from the unit's key slot. -/
def slotMaterial (d : Dev) (o : Op) (n : Nat) : Option Bytes :=
  match o.pins[n]? with
  | none => none
  | some p => ((unitSlots d o).find? (fun k => k.idx == p.idx && k.gen == p.gen && k.loaded)).map (fun k => k.material)

/-- Every key an operation names stands loaded in its unit's key slots. -/
def slotsLoaded (d : Dev) (o : Op) : Bool := (List.range o.pins.length).all (fun n => (slotMaterial d o n).isSome)

/-- The job leaves its context and its result waits to be made visible; a draining core whose last job this was is ready
for its test (R22, R121). -/
def endJob (tag : Nat) (x : Done) (d : Dev) : Dev :=
  let d := match opOf d tag with
    | some o => (match o.unit with
      | some n => onCore n (freeContext tag) d
      | none => d)
    | none => d
  onOp tag (fun o => { o with
    phase := .completing, status := x.status, out := x.out, outlen := x.outlen, nonce := x.nonce,
    untrusted := x.untrusted, ivPrefix := x.ivPrefix, produced := true }) d

/-- Count a pool job that ended (R128). -/
def countDone (o : Op) (st : Status) (d : Dev) : Dev :=
  let d := bump (dk 0x8102 (o.cls + 1)) d
  if st == .authFail then bump (dk 0x8104 1) d else d

/-- End a job with a status and no output. -/
def endStatus (tag : Nat) (o : Op) (st : Status) (d : Dev) : Dev :=
  countDone o st (endJob tag { tag := none, status := st } d)

/-- The failures counted in the second that the time base stands in: every count returns to zero as a second begins (R143). -/
def pinCounts (d : Dev) : FMap Nat := if d.pool.pinSecond = d.tb.now / sec 1 then d.pool.pinFails else []

/-- Count a structural PIN failure against KEY's index; at the limit the key is suspended, and the jobs admitted so far count no
more (R143). -/
def countPinFail (idx dom : Nat) (d : Dev) : Dev :=
  if (match look d.pool.pinSuspended idx with | some till => decide (d.tb.now < till) | none => false) then d
  else
    let n := lookD 0 (pinCounts d) idx + 1
    let pool := { d.pool with pinSecond := d.tb.now / sec 1 }
    if numOf 256 d (dk 0x2300 1) ≤ n then
      let free := fun (_ : Nat) (o : Op) =>
        if o.req.job.service == 2 && o.pins.head?.any (fun p => p.idx == idx) then { o with uncounted := true } else o
      raise srcOstler 0x0250 dom actorHw [(4, idx)] { d with
        op := { d.op with ops := mapV free d.op.ops },
        pool := { pool with
          pinFails := del (pinCounts d) idx,
          pinSuspended := ins d.pool.pinSuspended idx (d.tb.now + sec (numOf 60 d (dk 0x2300 2))) } }
        |> bump (dk 0x8110 3)
    else { d with pool := { pool with pinFails := put 0 (pinCounts d) idx n } }

/-- Count the end of a payment job (0x8110). -/
def countPay (f : Nat) (st : Status) (d : Dev) : Dev :=
  if st == .ok then
    (if f = 0x01 then bump (dk 0x8110 1) d else if f = 0x50 then bump (dk 0x8110 6) d else d)
  else if st == .authFail then
    (if f = 0x21 ∨ f = 0x22 then bump (dk 0x8110 4) d
     else if f = 0x30 ∨ f = 0x31 then bump (dk 0x8110 5) d
     else if f = 0x50 then bump (dk 0x8110 7) d else d)
  else d

/-- Check a new key's material, create it, and answer its handle once its record commits (R67, R106). -/
def endCreate (tag : Nat) (o : Op) (pidx : Nat) (parent : KeyRec) (n : NewKey) (rest : Bytes) (d : Dev) : Dev :=
  match createKey pidx parent { n with actor := actorJob d o.req } d with
  | .error e => endStatus tag o e d
  | .ok (_, h, seq, d) =>
    let out := le 4 h ++ rest
    let d := endJob tag { tag := none, status := .ok, outlen := out.length, out := out } (countPay o.req.job.func .ok d)
    countDone o .ok (onOp tag (fun o => { o with waitSeq := some seq }) d)

/-- The key record under an index, as the key store has it now. -/
def recordOf (d : Dev) (p : Pin) : Option KeyRec := look d.ks.keys p.idx

/-- The pass of squashed work ends: its output is discarded (R28); a transaction that carries an old epoch of its tag is
counted (R24). -/
def dropLate (t : Nat) (d : Dev) : Dev :=
  match d.pool.cores.findSome? (fun e => (e.2.late.find? (fun l => l.1 == t)).map (fun l => (e.1, l))) with
  | none => d
  | some (n, l) =>
    let d := onCore n (fun c => { c with late := c.late.erase l }) d
    if l.2 = lookD 0 d.op.epochs t then d else bump (dk 0x8000 5) d

/-! The steps of a payment job (R134). -/

/-- A running job whose step is over goes to the unit of its next step: it gives its context up, and takes one of that unit's
or waits for one. -/
def nextUnit (tag core : Nat) (d : Dev) : Dev :=
  match opOf d tag with
  | none => d
  | some o => match o.steps with
    | [] => d
    | u :: r =>
      onOp tag (fun o => { o with steps := r }) (onCore core (fun c =>
        let c := freeContext tag c
        serveUnits (c.unitWait ++ [(tag, u)]) { c with unitWait := c.unitWait ++ [(tag, u)] }) d)

/-- A job holds a context of its core. -/
def holdsContext (tag core : Nat) (d : Dev) : Bool := (coreOf d core).jobs.any (fun e => e.1 == tag)

/-- A job passes through the rest of its steps as far as contexts are free. -/
def passUnits : Nat → Nat → Nat → Dev → Dev
  | 0, _, _, d => d
  | n + 1, tag, core, d => if holdsContext tag core d then passUnits n tag core (nextUnit tag core d) else d

/-- Every running payment job whose keys stand in its core ends one step, where a further one follows (R134). -/
def runUnits (d : Dev) : Dev :=
  (d.op.ops.filter (fun e => !e.2.steps.isEmpty && e.2.phase == .running && slotsLoaded d e.2)).foldl (fun d e =>
    match e.2.unit with
    | some n => if holdsContext e.1 n d then nextUnit e.1 n d else d
    | none => d) d

/-- The end of a symmetric job (R97-R114). An encrypting one uses the nonce drawn for it; without one it draws now, waits, or
finds its key's counter exhausted. -/
def endSym (t core : Nat) (o : Op) (b : Bytes) (d : Dev) : Dev :=
  let j := o.req.job
  match symFn j.func with
  | none => d
  | some f =>
    let typ := ((opKeys d o).head?.map (fun k => k.typ)).getD 0
    let finish := fun (nonce : Bytes) (d : Dev) =>
      let x := symRun f j typ ((slotMaterial d o 0).getD []) nonce b
      countDone o x.status (endJob t x d)
    if !(drawsNonce f) then finish [] d
    else if !o.nonce.isEmpty then finish o.nonce d
    else match o.pins with
    | [] => d
    | p :: _ => match drawNonce core p.idx p.gen d with
      | (.value v, d) => finish v d
      | (.wait, d) => if o.ivWait then d else bump (dk 0x8104 3) (onOp t (fun o => { o with ivWait := true }) d)
      | (.exhausted, d) => endStatus t o .keyUseExhausted d

/-- The end of a payment job (R129-R157). -/
def endPay (t core : Nat) (o : Op) (b : Bytes) (d : Dev) : Dev :=
  let j := o.req.job
  match opKeys d o with
  | [] => d
  | k1 :: r =>
    let k1 := { k1 with material := (slotMaterial d o 0).getD [] }
    let k2 := r.head?.map (fun k => { k with material := (slotMaterial d o 1).getD [] })
    let (rnd, d) := if j.func = 0x01 ∧ needsFill j.fmtOut then
        match draw core 8 d with
        | some (v, d) => (some v, d)
        | none => (none, d)
      else (none, d)
    match payRun j k1 k2 b rnd with
    | .done x =>
      countDone o x.status (endJob t x (countPay j.func x.status (if j.func = 0x51 then exported o x.out d else d)))
    | .noRandom => endStatus t o .rngUnavailable (bump (dk 0x2806 4) d)
    | .structFail =>
      let d := bump (dk 0x8110 2) (endStatus t o .authFail d)
      (match o.pins with
       | p :: _ => if o.uncounted then d else countPinFail p.idx k1.domain d
       | [] => d)
    | .create n => (match o.pins, o.pins.head?.bind (fun p => liveParent d p.idx p.gen) with
      | p :: _, some k => endCreate t o p.idx k n [] d
      | _, _ => endStatus t o .keyInvalid d)

/-- CIPHER_JOB_DONE (R33, R97-R157): a running job ends on its core: a symmetric job with its input as the read answers it, a
payment job with the input that admission read (R132), once it has passed through its units (R134). A failed read ends it with
FAULT_DETECTED. -/
def execCipherJobDone (tag : BitVec 16) (input : ReadResult) (s : State) : Out :=
  onDev (fun d =>
    let t := tag.toNat
    match opOf d t with
    | none => dropLate t d
    | some o => match o.phase, o.unit with
      | .running, some core =>
        if isBnService o.req.job.service || !(slotsLoaded d o) then d
        else if o.req.job.service = 1 then
          match jobInput o input.get? d with
          | none => endStatus t o .faultDetected (poisonInput (srcCore core) o d)
          | some b => endSym t core o (padTo o.req.job.inLen b) d
        else
          let d := passUnits o.steps.length t core d
          if holdsContext t core d then endPay t core o o.req.input d else d
      | _, _ => dropLate t d) s

/-! Self-test and parity (R120-R125). -/

/-- Cores in service or due back. -/
def coresLeft (d : Dev) : Bool := (List.range 64).any (fun n => !((coreOf d n).state == .retired))

/-- CORE_SELFTEST_START (R120, R121): every 2 ms the next core in rotation is chosen; it drains, or tests at once. -/
def execCoreSelftestStart (s : State) : Out :=
  onDev (fun d =>
    let n := d.pool.rotation
    let d := reach (d.pool.testAt + ms 2) d
    let d := { d with pool := { d.pool with rotation := (n + 1) % 64, testAt := d.tb.now } }
    onCore n (fun c => if c.state == .serving then
      { c with state := if coreEmpty c then .testing else .draining } else c) d) s

/-- CORE_DRAINED (R121): a draining core whose last context is free starts its test. -/
def execCoreDrained (n : Fin 64) (s : State) : Out :=
  onDev (onCore n.val (fun c => if c.state == .draining && coreEmpty c then { c with state := .testing } else c)) s

/-- Retire a core: its key slots are cleared, one fault record goes out, and another when no core is left (R123). -/
def retireCore (n test : Nat) (d : Dev) : Dev :=
  let d := onCore n (fun c => { c with state := .retired, slots := [], transient := [], ivs := [] }) d
  let d := report (srcCore n) 0x0400 (srcCore n) [(2, srcCore n), (1, test)] d
  if coresLeft d then d else report srcOstler 0x0401 srcOstler [(1, 1)] d

/-- A core leaves service for a test: at once, or when the jobs on it have ended. -/
def drainCore (n : Nat) (d : Dev) : Dev :=
  onCore n (fun c => if c.state == .serving then { c with state := if coreEmpty c then .testing else .draining } else c) d

/-- The test of a core on exit from Standby has ended: after the last of the first half the second half tests (R124). -/
def exitTested (n : Nat) (d : Dev) : Dev :=
  if d.pool.exitTests = [n] then
    (List.range 32).foldl (fun d k => drainCore (32 + k) d) { d with pool := { d.pool with exitTests := [] } }
  else { d with pool := { d.pool with exitTests := without d.pool.exitTests n } }

/-- CORE_SELFTEST_DONE (R120, R123, R541): the core returns to service without the key slots it had, or is retired. -/
def execCoreSelftestDone (n : Fin 64) (test : Fin 5) (pass : Bool) (s : State) : Out :=
  onDev (fun d =>
    if (coreOf d n.val).state == .testing then
      exitTested n.val (
        if pass then bump (dk 0x8100 4) (onCore n.val (fun c => { c with state := .serving, slots := [], transient := [] }) d)
        else retireCore n.val test.val (bump (dk 0x8100 5) d))
    else d) s

/-- Every core tests in parallel at a reset, before the first job is admitted (R124). -/
def testCores (d : Dev) : Dev :=
  (List.range 64).foldl (fun d n => match look d.life.faulty n with
    | some t => retireCore n t (bump (dk 0x8100 5) d)
    | none => bump (dk 0x8100 4) d) d

/-- PARITY_MISMATCH (R125): a job in the context named ends with FAULT_DETECTED and no output; one PARITY record is raised;
the core drains and tests. (DESIGN CHOICE: the rule does not say what a mismatch in a retired core does; here nothing.) -/
def execParityMismatch (n : Fin 64) (unit : Fin 3) (tag : Option (BitVec 16)) (s : State) : Out :=
  onDev (fun d =>
    let c := coreOf d n.val
    if c.state == .retired then d
    else
      let d := match tag with
        | none => d
        | some t =>
          if c.jobs.any (fun e => e.1 == t.toNat) then
            match opOf d t.toNat with
            | some o => bump (dk 0x8100 6) (endStatus t.toNat o .faultDetected d)
            | none => d
          else d
      let d := report (srcCore n.val) 0x0403 (srcCore n.val) [(2, srcCore n.val), (1, unit.val)] d
      drainCore n.val d) s

/-! PIN counts (R143). -/

/-- PIN_FAIL_INTERVAL (R143): a whole second of the time base begins and every count returns to zero. -/
def execPinFailInterval (s : State) : Out :=
  onDev (fun d =>
    let d := reach ((d.tb.now / sec 1 + 1) * sec 1) d
    { d with pool := { d.pool with pinFails := [], pinSecond := d.tb.now / sec 1 } }) s

/-- PIN_SUSPEND_END (R143): a key's suspension time has passed. -/
def execPinSuspendEnd (idx : BitVec 24) (s : State) : Out :=
  onDev (fun d =>
    match look d.pool.pinSuspended idx.toNat with
    | none => d
    | some till =>
      let d := reach till d
      { d with pool := { d.pool with pinSuspended := del d.pool.pinSuspended idx.toNat } }) s

end Sys2Proof.Machine
end

