-- ==== Sys2Proof/Machine/BnRows.lean ====
section
/-! DEFINITION. The big-number engines: dispatch, the end of a job, time limits, faults and self-test (R161-R192). -/

set_option linter.unusedVariables false

namespace Sys2Proof.Machine

open Sys2Proof

/-- An engine can take a job: in service, with none of its own. -/
def engineIdle (d : Dev) (n : Nat) : Bool := (engineOf d n).state == .serving && (engineOf d n).job.isNone

/-- The dispatcher's choice (R180): the idle engine that holds the key, else the idle engine with the lowest number. -/
def chooseEngine (d : Dev) (o : Op) : Option Nat :=
  let idle := (List.range 48).filter (engineIdle d)
  match o.pins with
  | p :: _ => (match idle.find? (fun n => holdsKey (engineOf d n).slots p) with
    | some n => some n
    | none => idle.head?)
  | [] => idle.head?

/-- A queued job has an engine it can run on, and no earlier job of its channel goes first (R179). -/
def engineFor (d : Dev) (tag : Nat) : Bool :=
  match opOf d tag with
  | some o => !earlierWaits d o && (chooseEngine d o).isSome
  | none => false

/-- BN_DISPATCH (R179, R180): the next job goes to an idle engine; its keys take entries of the key area, of which there
are four (R162); a program starts at its first command. -/
def execBnDispatch (s : State) : Out :=
  onDev (fun d =>
    match pickJob 50 d.bn.turn (engineFor d) d.bn.queues with
    | none => d
    | some (_, j, turn, qs) =>
      match opOf d j.tag with
      | none => d
      | some o => match chooseEngine d o with
        | none => d
        | some n =>
          let stamp := d.bn.stamp + 1
          let q := o.req
          let prog : Option BnProg := if q.job.service = 4 then
            some { cmds := progCmds q.job q.input, data := q.input } else none
          let d := { d with bn := { d.bn with queues := qs, turn := turn, stamp := stamp } }
          let d := onEngine n (fun e => { e with
            job := some j.tag, prog := prog, work := [],
            slots := o.pins.foldl (fun sl p => takeSlot 4 stamp p sl) e.slots }) d
          onOp j.tag (fun o => { o with phase := .running, unit := some n, started := d.tb.now }) d) s

/-- An engine enters self-test: its key area and working area are cleared (R162, R185). -/
def testEngine (n : Nat) (d : Dev) : Dev :=
  onEngine n (fun e => { e with state := .testing, slots := [], work := [], prog := none }) d

/-- A job ends on its engine; a draining engine starts its test. -/
def endBn (tag n : Nat) (x : Done) (d : Dev) : Dev :=
  let d := onOp tag (fun o => { o with
    phase := .completing, status := x.status, out := x.out, outlen := x.outlen, produced := true }) d
  if (engineOf d n).state == .draining then testEngine n d else d

/-- A FAULT_DETECTED completion (R184): no output, the areas zeroed, one fault record, the engine tests at once; after the third
within 60 s the test ends in its retirement (R185). -/
def bnFault (tag n typ idx : Nat) (o : Op) (d : Dev) : Dev :=
  let d := endBn tag n { tag := none, status := .faultDetected } d
  let d := bump (dk 0x8120 6) (testEngine n d)
  let now := d.tb.now
  let recent := ((engineOf d n).faults.filter (fun t => decide (now < t + sec 60))) ++ [now]
  let d := onEngine n (fun e => { e with faults := recent, doomed := e.doomed || decide (3 ≤ recent.length) }) d
  report (srcBn n) 0x0402 (srcBn n) [(1, o.req.job.func), (1, typ), (4, idx)] d

/-- A TIMEOUT completion sends the engine into self-test (R183, R184). -/
def bnTimeout (tag n : Nat) (d : Dev) : Dev :=
  bump (dk 0x8120 8) (testEngine n (endBn tag n { tag := none, status := .timeout } d))

/-- The expansion that a key slot of an engine takes for a job: that of the key it holds, where the job names it (R163). -/
def slotExpansion (d : Dev) (o : Op) (k : KeySlot) : Option Bytes :=
  match o.pins.find? (fun p => p.idx == k.idx && p.gen == k.gen) with
  | none => none
  | some p => (pinnedRec d p).bind (fun r => expansionOf r.typ r.cls k.material)

/-- Expand the keys of a job on its engine, those of the table of R163. -/
def expandKeys (n : Nat) (o : Op) (d : Dev) : Dev :=
  let mine := fun (k : KeySlot) => k.expansion.isNone && k.loaded && (slotExpansion d o k).isSome
  let fresh := ((engineOf d n).slots.filter mine).length
  bumpBy fresh (dk 0x8123 3)
    (onEngine n (fun e => { e with
      slots := e.slots.map (fun k => if mine k then { k with expansion := slotExpansion d o k } else k) }) d)

/-- A job names a private key that its engine has not expanded: its expansion is under repeat-and-compare (R163). -/
def expandsPrivate (d : Dev) (n : Nat) (o : Op) : Bool :=
  (engineOf d n).slots.any (fun k => k.expansion.isNone && (slotExpansion d o k).isSome &&
    (o.pins.any (fun p => p.idx == k.idx && p.gen == k.gen && (pinnedRec d p).any (fun r => r.cls == 1))))

/-- The cipher core that takes the secret of a transport as a transient key slot entry: the first in service (DESIGN CHOICE:
R167 does not say which) with a slot that no running job uses. -/
def transportCore (d : Dev) : Option Nat :=
  (List.range 64).find? (fun n =>
    let c := coreOf d n
    c.state == .serving && decide ((c.slots.filter (fun k => !(k.users == 0))).length + c.transient.length < 32))

/-- Hoist a secret into a core for a tag, in place of the least recently used key where every slot is taken (R83, R167). -/
def hoistTransient (tag core : Nat) (z : Bytes) (d : Dev) : Dev :=
  onCore core (fun c =>
    let slots := if c.slots.length + c.transient.length < 32 then c.slots
      else match minBy? (fun k => k.stamp) (c.slots.filter (fun k => k.users == 0)) with
        | some old => c.slots.filter (fun k => !(k == old))
        | none => c.slots
    { c with slots := slots, transient := c.transient ++ [(tag, z)] }) d

/-- The end of a job that creates one key under `p`. -/
def bnCreate (tag n : Nat) (q : Req) (p : Pin) (nk : NewKey) (rest : Bytes) (d : Dev) : Dev :=
  match liveParent d p.idx p.gen with
  | none => endBn tag n { tag := none, status := .keyInvalid } d
  | some k => match createKey p.idx k { nk with actor := actorJob d q } d with
    | .error e => endBn tag n { tag := none, status := e } d
    | .ok (_, h, seq, d) =>
      let out := le 4 h ++ rest
      onOp tag (fun o => { o with waitSeq := some seq }) (endBn tag n { tag := none, status := .ok, outlen := out.length, out := out } d)

/-- The end of a key pair generation: the private key under KEY, the public key under the private key; both or neither
(R172). -/
def bnPair (tag n : Nat) (q : Req) (p : Pin) (priv pub : NewKey) (d : Dev) : Dev :=
  match liveParent d p.idx p.gen with
  | none => endBn tag n { tag := none, status := .keyInvalid } d
  | some k => match createKey p.idx k { priv with actor := actorJob d q } d with
    | .error e => endBn tag n { tag := none, status := e } d
    | .ok (i, h, _, d1) => match look d1.ks.keys i with
      | none => endBn tag n { tag := none, status := .keyInvalid } d
      | some kp => match createKey i kp { pub with actor := actorJob d q } d1 with
        | .error e => endBn tag n { tag := none, status := e } d
        | .ok (_, h2, seq, d2) =>
          let out := le 4 h ++ le 4 h2
          onOp tag (fun o => { o with waitSeq := some seq })
            (endBn tag n { tag := none, status := .ok, outlen := 8, out := out } d2)

/-- TYPE of the parameter set that a fault record names: PSET where the function takes one, else that of KEY (R184). -/
def faultTyp (d : Dev) (o : Op) : Nat :=
  let j := o.req.job
  if pkInline j || j.func == 0x30 then j.pset else ((opKeys d o).head?.map (fun k => k.typ)).getD 0

/-- The key index that a fault record names: KEY's, none where the key is inline. -/
def faultIdx (o : Op) : Nat := if pkInline o.req.job then 0 else (o.pins.head?.map (fun p => p.idx)).getD 0

/-- The public-key functions once their draws are made (R169-R177). -/
def bnEnd (tag n : Nat) (o : Op) (k1 k2 : Option KeyRec) (b rnd seed : Bytes) (d : Dev) : Dev :=
  let j := o.req.job
  let d := expandKeys n o d
  match pkRun j k1 k2 b rnd seed with
  | .again => d
  | .fault => bnFault tag n (faultTyp d o) (faultIdx o) o d
  | .done st out =>
    let d := if j.func = 0x01 ∧ st = Status.ok then bump (dk 0x8123 1) d
      else if j.func = 0x02 ∧ st = Status.authFail then bump (dk 0x8123 2) d else if j.func = 0x21 then exported o out d else d
    endBn tag n { tag := none, status := st, outlen := out.length, out := out } d
  | .create nk rest => (match o.pins with
    | p :: _ => bnCreate tag n o.req p nk rest d
    | [] => endBn tag n { tag := none, status := .keyInvalid } d)
  | .pair priv pub => (match o.pins with
    | p :: _ => bnPair tag n o.req p priv pub d
    | [] => endBn tag n { tag := none, status := .keyInvalid } d)

/-- What a big-number job meets while it runs: an upset in one of two runs that are compared, or in a signature that is verified
(R175, R176), or in the expansion of a private key (R163), fails the comparison of a function that has one (R177); an
uncorrectable error of operand memory fails any (R184). -/
def bnFails (d : Dev) (n : Nat) (o : Op) (outcome : Fin 4) : Bool :=
  outcome.val == 3 || (outcome.val == 1 && o.req.job.service == 3 && (pkChecked o.req.job.func || expandsPrivate d n o))

/-- A public-key job ends with the draws of its engine's instance, and of its domain's instance for a new pair (R171, R174,
R461); an ML-KEM transport first hoists its secret into a cipher core (R167). It goes on where a draw has to wait. -/
def bnDraws (t n : Nat) (o : Op) (k1 k2 : Option KeyRec) (b : Bytes) (d : Dev) : Dev :=
  let j := o.req.job
  let fails := fun (d : Dev) => endBn t n { tag := none, status := .rngUnavailable } (bump (dk 0x2806 4) d)
  match draw (64 + n) (pkDraw j.func) d with
  | none =>
    if d.rng.wait.any (fun w => w.1 == 64 + n) && (instCore d (64 + n)).isSome then d else fails d
  | some (r, d1) =>
    if j.func = 0x30 then
      let (i, d2) := domainInst ((k1.map (fun k => k.domain)).getD 0) d1
      match drawPr i 64 d2 with
      | some (v, d2) => bnEnd t n o k1 k2 b r v (onOp t (fun o => { o with ivWait := false }) d2)
      | none =>
        if (instCore d2 i).isNone then fails d2
        else
          let d2 := onOp t (fun o => { o with ivWait := true }) d2
          if d2.rng.wait.any (fun w => w.1 == i) then d2
          else { d2 with rng := { d2.rng with wait := d2.rng.wait ++ [(i, d2.tb.now)] } }
    else match transportSecret j k1 k2 b r with
    | none => bnEnd t n o k1 k2 b r [] d1
    | some z => match transportCore d1 with
      | none => d
      | some c => bnEnd t n o k1 k2 b r [] (hoistTransient t c z d1)

/-- BN_JOB_DONE (R163, R169-R178, R184, R191): a running job ends on its engine with its input as the read answers it.
`outcome` 1 says that a computation took an upset, 2 that no ML-DSA signature was accepted in 1,000 iterations, 3 that operand
memory held an uncorrectable error. -/
def execBnJobDone (tag : BitVec 16) (input : ReadResult) (outcome : Fin 4) (s : State) : Out :=
  onDev (fun d =>
    let t := tag.toNat
    match opOf d t with
    | none => d
    | some o => match o.phase, o.unit with
      | .running, some n =>
        let j := o.req.job
        let keys := opKeys d o
        if !(isBnService j.service) || !(slotsLoaded d o) then d
        else if bnFails d n o outcome then bnFault t n (faultTyp d o) (faultIdx o) o d
        else if j.service = 4 then
          match (engineOf d n).prog with
          | none => d
          | some p =>
            if p.failed then endBn t n { tag := none, status := .authFail } d
            else if p.ended then endBn t n { tag := none, status := .ok, outlen := p.top } d
            else d
        else if outcome.val = 2 ∧ j.func = 0x01 ∧ isMldsa (faultTyp d o) then bnTimeout t n d
        else match jobInput o input.get? d with
        | none => endBn t n { tag := none, status := .faultDetected } (poisonInput (srcBn n) o d)
        | some b =>
          let b := padTo j.inLen b
          let k1 := if pkInline j then none else keys.head?.map (fun k => { k with material := (slotMaterial d o 0).getD [] })
          let k2 := if pkInline j then none
            else (keys.drop 1).head?.map (fun k => { k with material := (slotMaterial d o 1).getD [] })
          if pkNeedsRandom j.func (!expandsPrivate d n o) then bnDraws t n o k1 k2 b d
          else bnEnd t n o k1 k2 b [] [] d
      | _, _ => d) s

/-- BN_JOB_TIMEOUT (R183): a job has run for its limit. -/
def execBnJobTimeout (tag : BitVec 16) (s : State) : Out :=
  onDev (fun d =>
    match opOf d tag.toNat with
    | none => d
    | some o => match o.phase, o.unit with
      | .running, some n =>
        if isBnService o.req.job.service then
          bnTimeout tag.toNat n (reach (o.started + bnLimit o.req.job) d)
        else d
      | _, _ => d) s

/-- An engine leaves service for a test: at once, or when its job has ended. -/
def drainEngine (n : Nat) (d : Dev) : Dev :=
  let e := engineOf d n
  if !(e.state == .serving) then d
  else if e.job.isNone then testEngine n d else onEngine n (fun e => { e with state := .draining }) d

/-- BN_SELFTEST_START (R185): every 250 ms the next engine in rotation is chosen; it finishes its job first. -/
def execBnSelftestStart (s : State) : Out :=
  onDev (fun d =>
    let n := d.bn.rotation
    let d := reach (d.bn.testAt + ms 250) d
    let d := { d with bn := { d.bn with rotation := (n + 1) % 48, testAt := d.tb.now } }
    drainEngine n d) s

/-- Retire an engine: one fault record, and another when none is left (R123, R185). -/
def retireEngine (n test : Nat) (d : Dev) : Dev :=
  let d := onEngine n (fun e => { e with state := .retired, slots := [] }) d
  let d := report (srcBn n) 0x0400 (srcBn n) [(2, srcBn n), (1, test)] d
  if (List.range 48).any (fun k => !((engineOf d k).state == .retired)) then d
  else report srcOstler 0x0401 srcOstler [(1, 2)] d

/-- The test of an engine on exit from Standby has ended: after the last of the first half the second half tests (R185). -/
def bnExitTested (n : Nat) (d : Dev) : Dev :=
  if d.bn.exitTests = [n] then
    (List.range 24).foldl (fun d k => drainEngine (24 + k) d) { d with bn := { d.bn with exitTests := [] } }
  else { d with bn := { d.bn with exitTests := without d.bn.exitTests n } }

/-- BN_SELFTEST_DONE (R185, R123): the engine returns to service, or is retired after a failed test or after three
FAULT_DETECTED completions within 60 s. -/
def execBnSelftestDone (n : Fin 48) (test : Fin 8) (pass : Bool) (s : State) : Out :=
  onDev (fun d =>
    let e := engineOf d n.val
    if !(e.state == .testing) then d
    else
      let d := bump (dk 0x8120 (if pass then 4 else 5)) d
      bnExitTested n.val (
        if pass && !e.doomed then onEngine n.val (fun e => { e with state := .serving }) d
        else retireEngine n.val test.val d)) s

/-- Every engine tests in parallel at a reset, before the first job is admitted (R185). -/
def testEngines (d : Dev) : Dev :=
  (List.range 48).foldl (fun d n => match look d.life.faulty (64 + n) with
    | some t => retireEngine n t (bump (dk 0x8120 5) d)
    | none => bump (dk 0x8120 4) d) d

/-- The self-tests of a reset (R124, R185); what made a unit fail them is over. -/
def testUnits (d : Dev) : Dev :=
  let d := testEngines (testCores d)
  { d with life := { d.life with faulty := [] } }

/-- On exit from Standby the first half of the cores and of the engines test, and then the other half (R124, R185). -/
def testInHalves (d : Dev) : Dev :=
  let cores := (List.range 32).filter (fun n => (coreOf d n).state == .serving)
  let engines := (List.range 24).filter (fun n => (engineOf d n).state == .serving)
  let d := { d with pool := { d.pool with exitTests := cores }, bn := { d.bn with exitTests := engines } }
  let d := (if cores.isEmpty then (List.range 32).map (fun k => 32 + k) else cores).foldl (fun d n => drainCore n d) d
  (if engines.isEmpty then (List.range 24).map (fun k => 24 + k) else engines).foldl (fun d n => drainEngine n d) d

end Sys2Proof.Machine
end

