-- ==== Sys2Proof/Machine/Generate.lean ====
section
/-! DEFINITION. Generation of keys by the key store, and the reseeds it waits for (R66, R399, R461, R462). -/

set_option linter.unusedVariables false

namespace Sys2Proof.Machine

open Sys2Proof

/-- Create a key and answer its handle once its record has committed (R67). -/
def createAnswered (pidx gen : Nat) (n : NewKey) (via : Via) (d : Dev) : Dev :=
  match liveParent d pidx gen with
  | none => answer via .keyInvalid [] d
  | some parent => match createKey pidx parent n d with
    | .error e => answer via e [] d
    | .ok (_, h, seq, d) => answerAt (some seq) via .ok (le 4 h) d

/-- The root of domain `dom` with its material (R399): M of the domain becomes 2. A creation that has waited for entropy finds
a migration begun or the domain created meanwhile, and completes with POLICY (R75, R399). -/
def createRoot (dom : Nat) (m : Bytes) (via : Via) (actor : Nat) (d : Dev) : Dev :=
  if !(d.ks.migState == 0) || has d.cust.domains dom then answer via .policy [] d
  else
  let idx := dom + 1
  let k : KeyRec :=
    { cls := 3, level := 1, gen := genOf d.ks idx, usage := 0, exportPol := 3, domain := dom, typ := 6,
      boot := d.ks.bootCount, material := m, committed := false }
  let w : Wrapped := { kek := d.ks.storageRoot, plain := m }
  let d := { d with ks := { d.ks with keys := ins d.ks.keys idx k, atRest := ins d.ks.atRest idx w },
                    cust := { d.cust with domains := addOnce d.cust.domains dom } }
  let d := setNum 2 (dk 0x1810 0 + dom) 2 d
  let (seq, d) := queueRec idx (.create (storeKey d.ks idx k)) d
  let d := waitFor seq (.keyReady idx) d
  let d := raise srcKeyStore 0x0200 dom actor [(4, handleOf idx k), (1, 3), (1, 6)] d
  let d := raiseAfter srcCustodian 0x0120 dom actor [(2, dom)] d
  answerAt (some seq) via .ok (le 4 (handleOf idx k)) d

/-- Bytes a generation draws. -/
def genLen (g : GenKind) : Nat := match g with | .key _ _ typ _ _ => symLen typ | .root _ => 32

/-- What a generation creates from its material. -/
def genCreate (g : GenKind) (m : Bytes) (via : Via) (actor : Nat) (d : Dev) : Dev :=
  match g with
  | .key p gen typ cls attr => createAnswered p gen { keyOfAttr (AttrArg.ofNat attr) typ cls m with actor := actor } via d
  | .root dom => createRoot dom m via actor d

/-- A generation draws from its instance and creates its key, or waits for the instance's reseed (R462). -/
def generate (inst : Nat) (g : GenKind) (via : Via) (actor : Nat) (d : Dev) : Dev :=
  match drawPr inst (genLen g) d with
  | some (m, d) => genCreate g m via actor d
  | none =>
    if (instCore d inst).isNone then answer via .rngUnavailable [] (bump (dk 0x2806 4) d)
    else
      let wait := if d.rng.wait.any (fun w => w.1 == inst) then d.rng.wait else d.rng.wait ++ [(inst, d.tb.now)]
      let g : GenWait := { inst := inst, since := d.tb.now, kind := g, via := via, actor := actor }
      { d with rng := { d.rng with wait := wait, gens := d.rng.gens ++ [g] } }

/-- The generations that waited for an instance run again, in order. -/
def resumeGens (i : Nat) (d : Dev) : Dev :=
  let mine := d.rng.gens.filter (fun g => g.inst == i)
  let d := { d with rng := { d.rng with gens := d.rng.gens.filter (fun g => !(g.inst == i)) } }
  mine.foldl (fun d g => generate g.inst g.kind g.via g.actor d) d

/-- RESEED (R458, R462): the first waiting request takes its whole count of blocks and its instance reseeds, or is
instantiated; what waited for it goes on. -/
def execReseed (s : State) : Out :=
  onDev (fun d =>
    match d.rng.wait with
    | [] => d
    | (i, _) :: rest =>
      match tryReseed i d with
      | none => d
      | some d =>
        let d := onInst i (fun x => { x with ready := isPr i }) { d with rng := { d.rng with wait := rest } }
        resumeGens i d) s

/-- A key pair generation runs that waits for an instance (R461). -/
def pairWaits (d : Dev) (i : Nat) (o : Op) : Bool :=
  o.ivWait && isBnService o.req.job.service && (o.pins.head?.any (fun p =>
    (recordOf d p).any (fun k => look d.rng.domains k.domain == some i)))

/-- RESEED_WAIT_TIMEOUT (R462): the first waiting request of an instance has waited 1 ms; the generation fails with
RNG_UNAVAILABLE. An instance without prediction resistance keeps generating and reports OVERDUE. -/
def execReseedWaitTimeout (i : Fin 4096) (s : State) : Out :=
  onDev (fun d =>
    match d.rng.wait.find? (fun w => w.1 == i.val) with
    | none => d
    | some (_, t) =>
      let d := reach (t + ms 1) d
      let mine := d.rng.gens.filter (fun g => g.inst == i.val)
      let d := { d with rng := { d.rng with
        wait := d.rng.wait.filter (fun w => !(w.1 == i.val)),
        gens := d.rng.gens.filter (fun g => !(g.inst == i.val)) } }
      let d := if isPr i.val || !(instOf d i.val).seeded then d else onInst i.val (fun x => { x with overdue := true }) d
      let d := mine.foldl (fun d g => answer g.via .rngUnavailable [] d) d
      let jobs := d.op.ops.filter (fun e => pairWaits d i.val e.2)
      jobs.foldl (fun d e =>
        endBn e.1 (e.2.unit.getD 0) { tag := none, status := .rngUnavailable }
          (bump (dk 0x2806 4) (onOp e.1 (fun o => { o with ivWait := false }) d))) d) s

end Sys2Proof.Machine
end

