-- ==== Sys2Proof/Machine/JobRows.lean ====
section
/-! DEFINITION. Jobs on their way in and out: submission rings, engine job slots, completions (R33, R102-R107, R220-R223,
R242, R366-R368); the time base (R37, R38) and failed HBM channels (R49). -/

set_option linter.unusedVariables false

namespace Sys2Proof.Machine

open Sys2Proof

/-- A read that the checks of admission need: bytes, and whether it failed. -/
def readFor (need : Bool) (r : ReadResult) : Bytes × Bool :=
  if !need then ([], false)
  else match r with
  | .bytes b => (b, false)
  | _ => ([], true)

/-- Admission of a service reads its input where there is any (R16, R132, R170, R188); an export has none. -/
def readsAtAdmission (j : Job) : Bool :=
  !(j.inLen == 0) && ((j.service == 2 && payReads j) || (j.service == 3 && !(has [0x21, 0x30, 0x31] j.func)) || j.service == 4)

/-- SUBMISSION_READ (R102, R132, R366-R368): the slot at head is read when head differs from SQ_TAIL and its previous job
has completed; head advances and the descriptor goes to admission, with its lists and input as their reads answer. A failed
read of the slot puts the channel into STATE 3 with cause 1. -/
def execSubmissionRead (fn : BitVec 12) (slot : BitVec 12) (desc inList outList input : ReadResult) (s : State) : Out :=
  onDev (fun d =>
    let f := fn.toNat
    let n := slot.toNat
    let sl := slotOf d f n
    if !(sl.state == .opened) || sl.head == sl.sqTail || sl.busy.any (fun e => e.1 == sl.head) || !(fnLive d f) then d
    else match chanOf d sl.handle with
    | none => d
    | some (c, ch) => match desc with
      | .bytes b =>
        let j := Job.ofBytes (padTo 64 b)
        let i := sl.head
        let d := onSlot f n (fun y => { y with
          head := (y.head + 1) % sqSize y, pass := if y.head + 1 = sqSize y then y.pass + 1 else y.pass,
          busy := y.busy ++ [(i, y.pass)] }) d
        let (il, f1) := readFor j.inSgl inList
        let (ol, f2) := readFor j.outSgl outList
        let (inp, f3) := readFor (readsAtAdmission j) input
        let q : Req :=
          { src := .host c i, job := j, domain := ch.domain, point := central, input := padTo j.inLen inp,
            readFault := f1 || f2 || f3, inSgl := sglParse 256 il, outSgl := sglParse 256 ol,
            descAddr := sl.sqBase + 64 * i }
        tryAdmit q d
      | _ => onSlot f n (fun y => { y with state := .error, cause := 1 }) d) s

/-- What a completed operation says. -/
def doneOf (tag : Nat) (o : Op) : Done :=
  { tag := some tag, status := o.status, outlen := o.outlen, out := o.out, nonce := o.nonce, untrusted := o.untrusted,
    ivPrefix := o.ivPrefix }

/-- Handles of the keys a completed creation made (R380). -/
def madeHandles (o : Op) : List Nat :=
  if !createsKey o.req || !(o.status == .ok) then []
  else if o.req.job.service == 3 && o.req.job.func == 0x30 then [leAt o.out 0 4, leAt o.out 4 4]
  else [leAt o.out 0 4]

/-- A completion that a drain discards: the keys it made are listed in the drain's audit record (R380). -/
def noteMade (o : Op) (d : Dev) : Dev :=
  match fnOfSrc d o.req.src with
  | none => d
  | some fn => if (fnOf d fn).flr.isNone || (madeHandles o).isEmpty then d
    else onFn fn (fun h => { h with flr := h.flr.map (fun x => { x with handles := x.handles ++ madeHandles o }) }) d

/-- No job of a channel is left (R365). -/
def chanIdle (d : Dev) (c : Nat) : Bool :=
  !(d.op.ops.any (fun e => srcChan d e.2.req.src == some c)) &&
    !(d.op.waitFill.any (fun q => srcChan d q.src == some c)) && !(d.op.waitLease.any (fun q => srcChan d q.src == some c))

/-- A closing channel whose jobs have ended closes, and its mailbox request is answered (R365 steps 4-6). -/
def finishClose (c : Nat) (d : Dev) : Dev :=
  match look d.host.chans c with
  | none => d
  | some ch =>
    if ch.closing.isNone || !chanIdle d c then d
    else match ch.kind with
      | .slot fn _ => if ch.quiet then closeChan c d else answerMailbox fn .ok [] (closeChan c d)
      | _ => closeChan c d

/-- Every closing channel whose jobs have ended. -/
def finishChans (d : Dev) : Dev := d.host.chans.foldl (fun d e => finishClose e.1 d) d

/-- JOB_COMPLETE (R23, R33, R371): a host or mailbox job whose result has been produced and whose records have committed is
delivered, and its tag retires. -/
def execJobComplete (tag : BitVec 16) (s : State) : Out :=
  onDev (fun d =>
    match opOf d tag.toNat with
    | none => d
    | some o =>
      if !(isHostSrc o.req) || !(o.phase == .completing) || !o.produced || o.waitSeq.isSome then d
      else finishChans (finishInvals (retire tag.toNat (deliver o.req (doneOf tag.toNat o) (noteMade o d))))) s

/-! Engine jobs. -/


/-- The device writes OUT_CTL back into a template (R113), as the set the job was checked under grants it; a write it denies is
dropped and recorded (R238, R241). -/
def writeOutCtl (p : Nat) (r : Req) (s : State) : State :=
  match r.outCtlAt, r.outCtlDeny with
  | some a, _ => { s with mem := writeBytes s.mem a [1#8], memTags := storeTags s.memTags a 1 false }
  | none, some (a, k, i) => denyAccess p k i a true s
  | none, none => s

/-- JOB_SLOT_COMPLETE (R33, R113, R223): the job of a slot ends: its output and OUT_CTL are written, then JSTAT, the pending
X register and the event bit; a stalled JWAIT goes on; its tag retires and a custodian job that waited for a reserved tag is
admitted. -/
def execJobSlotComplete (p : ProcId) (k : Fin 8) (s : State) : Out :=
  let js := (procOf s.dev p.val).jobs[k]
  match js.tag with
  | none => .next s
  | some t => match opOf s.dev t with
    | none => .next s
    | some o =>
      if !(o.phase == .completing) || !o.produced || o.waitSeq.isSome then .next s
      else
        let s := writeSpans js.secret (spread o.req.outPhys o.out) s
        let s := if o.untrusted then writeOutCtl p.val o.req s else s
        onDev (fun d =>
          let d := finishInvals (retire t (deliverSlot p.val k.val (doneOf t o) d))
          match d.op.waitTag with
          | [] => d
          | q :: rest => tryAdmit q { d with op := { d.op with waitTag := rest } }) s

/-- Functions whose output is tagged whatever S is (R225). -/
def alwaysSecret (j : Job) : Bool :=
  (j.service == 1 && has [0x02, 0x04, 0x06, 0x08, 0x11, 0x13] j.func) || (j.service == 2 && j.func == 0x41)

/-- Where a processor's job takes its tag (R25, R222): a custodian job from the custodian reserve, a child from its message's
reservation. -/
inductive JobTag where
  | reserve
  | child (parent tag : Nat)
  | over

def jobTag (d : Dev) (p : Nat) (q : Proc) : JobTag :=
  if 512 ≤ p ∨ q.custodianWork then .reserve
  else match q.slice with
  | none => .over
  | some (t, _) => match look d.op.ops t with
    | none => .over
    | some o => match o.resv with
      | [] => .over
      | c :: _ => .child t c

/-- A slot takes a job (R222, R223). -/
def takeJobSlot (k : Fin 8) (xd : Option (Fin 4)) (secret : Bool) (gen : Nat) (q : Proc) : Proc :=
  { q with jobs := q.jobs.set k { issued := true, xd := xd, secret := secret, tag := none, gen := gen },
           jstat := q.jstat.set k 0x10000#64,
           xPend := match xd with | some r => q.xPend.set r true | none => q.xPend }

/-- Issue an instruction that ends by handing a request to admission. -/
def issueJob (p : ProcId) (cycles : Nat) (body : State → Proc → LRes (State × Proc × Req)) (s : State) : Out :=
  atBoundary p 4 (fun q => match body s q with
    | .hold => .next s
    | .flt c a => .next { s with dev := takeFault p.val c a s.dev }
    | .ok (s', q', r) =>
      let d := setProc p.val (stepPc 4 (countInstr cycles q')) s'.dev
      let d := match r.parent, r.childTag with
        | some t, some c => drawTag t c d
        | _, _ => d
      .next { s' with dev := tryAdmit r d }) s

/-- The engine address spaces that hold templates: scratch and string data memory, or custodian SRAM (R220). -/
def templateAt (p a : Nat) : Bool :=
  if 512 ≤ p then decide (a + 64 ≤ 0x400000)
  else match spaceOf a with
    | .scratch => true
    | .general => true
    | .system => true
    | _ => false

/-- Check spans of a job (R242): the physical spans, and the addresses of those that fail. -/
def checkSpans (d : Dev) (p : Nat) (q : Proc) (wr : Bool) : List (Nat × Nat) → List (Nat × Nat) × List (Nat × Nat)
  | [] => ([], [])
  | (a, n) :: r =>
    let (ok, bad) := checkSpans d p q wr r
    if n = 0 then (ok, bad)
    else match checkAccess d p q a n (!wr) wr with
    | .granted phys _ _ => ((phys, n) :: ok, bad)
    | .denied _ i => (ok, (a, i) :: bad)
    | .unmapped => (ok, (a, 0xFF) :: bad)

/-- What reading a scatter-gather list gives: its entries; the address and region of an entry that the active set denies the
engine (R242); the physical address of one that lies in memory which returns poisoned data (R102). -/
structure ListRead where
  entries : List SglEntry := []
  bad : Option (Nat × Nat) := none
  poisoned : Option Nat := none

/-- A scatter-gather list in the engine's address space, each entry read in turn up to the one with LAST (R102, R242). -/
def readList (s : State) (p : Nat) (q : Proc) : Nat → Nat → ListRead
  | 0, _ => {}
  | n + 1, a =>
    match checkAccess s.dev p q a 16 true false with
    | .granted phys _ _ =>
      if poisonedAt phys 16 s.dev || memBad s.dev phys 16 then { poisoned := some phys }
      else
        let b := readBytes s.mem phys 16
        let e : SglEntry := { addr := leAt b 0 8, len := leAt b 8 4, flags := leAt b 12 4 }
        if bitOf e.flags 0 then { entries := [e] }
        else
          let l := readList s p q n (a + 16)
          { l with entries := e :: l.entries }
    | .denied _ i => { bad := some (a, i) }
    | .unmapped => { bad := some (a, 0xFF) }

/-- A job's template as the engine reads it, a data access checked like any other (R220, R238): its descriptor, the violation
of a denied read, which reads zero, and where OUT_CTL may be written back (R113). -/
structure Template where
  job : Job
  phys : Nat := 0
  denied : Option (Nat × Nat) := none
  outCtlAt : Option Nat := none
  outCtlDeny : Option (Nat × Nat × Nat) := none

def readTemplate (s : State) (p : Nat) (q : Proc) (a : Nat) : LRes Template :=
  match checkAccess s.dev p q a 64 true false with
  | .unmapped => .flt fUnmapped a
  | .denied k r => .ok { job := Job.ofBytes (zeros 64), denied := some (k, r) }
  | .granted phys _ _ =>
    if memBad s.dev phys 64 then .flt fMemUe a
    else
      let t : Template := { job := Job.ofBytes (readBytes s.mem phys 64), phys := phys }
      match checkAccess s.dev p q (a + 0x39) 1 false true with
      | .granted w _ _ => .ok { t with outCtlAt := some w }
      | .denied k r => .ok { t with outCtlDeny := some (a + 0x39, k, r) }
      | .unmapped => .ok t

/-- The handle of the channel a message came on: CHANNEL of its child jobs (R104). -/
def parentChannel (d : Dev) (jt : JobTag) : Nat :=
  match jt with
  | .child t _ => match look d.rig.msgs t with
    | some m => (match look d.host.chans m.origin.chan with
      | some ch => chanHandle m.origin.chan ch
      | none => 0)
    | none => 0
  | _ => 0

/-- The bytes of physical spans. -/
def gather (m : FMap Byte) (l : List (Nat × Nat)) : Bytes := (l.map (fun e => readBytes m e.1 e.2)).flatten

/-- JOB (R104, R220, R222, R227, R242): the template is read and patched, the spans are checked, the job is issued on its
slot and goes to admission. -/
def execJob (p : ProcId) (f : JFmt) (s : State) : Out :=
  issueJob p 4 (fun s q =>
    let a := q.a[abReg f.at_].toNat
    if f.e || !(f.resv == 0#3) then .flt fIllegal 0
    else if !(a % 64 == 0) then .flt fAlign a
    else if !(templateAt p.val a) then .flt fUnmapped a
    else match readTemplate s p.val q a with
    | .hold => .hold
    | .flt c x => .flt c x
    | .ok tp =>
      let j := tp.job
      if f.k2p && j.service == 1 then .flt fIllegal 0
      else if (f.kp && q.dTag[dReg f.dk]) || (f.k2p && q.dTag[dReg f.dk2]) || (f.lp && q.dTag[dReg f.dl]) then
        .flt fTagJob 0
      else if q.jobs[jsReg f.js].issued then .flt fJobSlot 0
      else
        let low := fun (r : Fin 16) => q.d[r].toNat % 2 ^ 32
        match jobTag s.dev p.val q with
        | .over => .flt fJobOver 0
        | jt =>
          let j := { j with
            key := if f.kp then low (dReg f.dk) else j.key,
            iv := if f.k2p then le 4 (low (dReg f.dk2)) ++ j.iv.drop 4 else j.iv,
            inLen := if f.lp then low (dReg f.dl) else j.inLen,
            channel := parentChannel s.dev jt }
          let l1 := if j.inSgl then readList s p.val q 256 j.inAddr else {}
          let l2 := if j.outSgl then readList s p.val q 256 j.outAddr else {}
          let inSp := if j.inSgl then l1.entries.map (fun e => (e.addr, e.len)) else [(j.inAddr, j.inLen)]
          let outSp := if j.outSgl then l2.entries.map (fun e => (e.addr, e.len)) else [(j.outAddr, j.outLen)]
          let (inP, bad1) := checkSpans s.dev p.val q false inSp
          let (outP, bad2) := checkSpans s.dev p.val q true outSp
          let lists := l1.bad.toList ++ l2.bad.toList
          let whole := fun (b : Option (Nat × Nat)) (l : List SglEntry) (n : Nat) =>
            if b.isSome then [({ addr := 0, len := n, flags := 1 } : SglEntry)] else l
          let s' := match tp.denied with
            | some (k, i) => denyAccess p.val k i a false s
            | none => s
          let s' := bad2.foldl (fun s e => denyAccess p.val 0x07 e.2 e.1 true s)
            ((lists ++ bad1).foldl (fun s e => denyAccess p.val 0x07 e.2 e.1 false s) s')
          let bad := !(lists.isEmpty && bad1.isEmpty && bad2.isEmpty)
          let spoilt := (l1.poisoned.toList ++ l2.poisoned.toList).map (fun a => (a, 16)) ++
            (if readsAtAdmission j then inP.filter (fun e => poisonedAt e.1 e.2 s.dev) else [])
          let r : Req :=
            { src := .engine p.val (jsReg f.js).val, job := j, custodian := decide (512 ≤ p.val) || inWorld q,
              domain := srDomain q, point := if p.val < 512 then p.val / 16 else central,
              input := padTo j.inLen (if bad then [] else gather s.mem inP), inSgl := whole l1.bad l1.entries j.inLen,
              outSgl := whole l2.bad l2.entries (2 ^ 32), spanFault := bad, inPhys := inP,
              readFault := !spoilt.isEmpty,
              outPhys := if bad then [] else outP,
              outCtlAt := tp.outCtlAt, outCtlDeny := tp.outCtlDeny,
              parent := match jt with | .child t _ => some t | _ => none,
              childTag := match jt with | .child _ c => some c | _ => none }
          let s' := match spoilt with
            | e :: _ => { s' with dev := reportPoison (srcProc p.val) e.1 e.2 s'.dev }
            | [] => s'
          .ok (s', takeJobSlot (jsReg f.js) none (f.s || alwaysSecret j) (protOf s.dev p.val).gen q, r)) s

/-- JOBX (R221, R222, R227): one to four blocks of XS under the key in DK; XD is pending until the result arrives. -/
def execJobx (p : ProcId) (f : JXFmt) (s : State) : Out :=
  issueJob p 2 (fun s q =>
    let func := f.func.toNat
    if f.e || !(f.resv == 0#3) || !(has [0x01, 0x02, 0x10, 0x11] func) then .flt fIllegal 0
    else if q.dTag[dReg f.dk] then .flt fTagJob 0
    else readyX q (xReg2 f.xs) <| readyX q (xReg2 f.xd) <|
      if q.jobs[jsReg f.js].issued then .flt fJobSlot 0
      else match jobTag s.dev p.val q with
      | .over => .flt fJobOver 0
      | jt =>
        let n := 8 * (f.len.toNat + 1)
        let j : Job :=
          { service := 1, func := func, dflags := 0, key := q.d[dReg f.dk].toNat % 2 ^ 32,
            channel := parentChannel s.dev jt, inLen := n,
            inAddr := 0, outAddr := 0, outLen := n, aadLen := 0, iv := zeros 16, taglen := 0, outCtl := 0, resv := 0 }
        let r : Req :=
          { src := .engine p.val (jsReg f.js).val, job := j, custodian := decide (512 ≤ p.val) || inWorld q,
            domain := srDomain q, point := if p.val < 512 then p.val / 16 else central,
            input := (bytesOfX q.x[xReg2 f.xs]).take n,
            parent := match jt with | .child t _ => some t | _ => none,
            childTag := match jt with | .child _ c => some c | _ => none }
        .ok (s, takeJobSlot (jsReg f.js) (some (xReg2 f.xd)) (f.s || alwaysSecret j) (protOf s.dev p.val).gen q, r)) s

/-! The time base and HBM channels. -/

/-- TIME_SLEW (R37): custodian firmware slews the time base by at most 500 ppm either way. -/
def execTimeSlew (ppb : BitVec 32) (s : State) : Out :=
  onDev (fun d =>
    let v := ppb.toInt
    if v < -500000 ∨ 500000 < v then answer (.firmware 0) .policy [] d
    else answer (.firmware 0) .ok [] { d with tb := { d.tb with slewPpb := v } }) s

/-- A listener is enabled or a route connection is open (R38). -/
def transportBusy (d : Dev) : Bool :=
  d.net.listeners.any (fun l => l.2.state == 1) || d.net.routes.any (fun r => r.2.conn.isSome)

/-- TIME_STEP (R37, R38): a forward step, refused above 1 µs while a listener is enabled or a route connection is open, and
where the count would come out lower, as the time base never decreases (R35); the step is audited. -/
def execTimeStep (ns : BitVec 64) (s : State) : Out :=
  onDev (fun d =>
    if (1000 < ns.toNat ∧ transportBusy d) ∨ 2 ^ 64 ≤ d.tb.now + ns.toNat then answer (.firmware 0) .policy [] d
    else
      let tb := showTime { d.tb with now := d.tb.now + ns.toNat }
      let d := setNum 0 (dk 0x1100 5) ns.toNat (bump (dk 0x1100 4) { d with tb := tb })
      answer (.firmware 0) .ok [] (raise srcCustodian 0x0009 0 actorFw [(8, ns.toNat)] d)) s

/-- HBM_CHANNEL_FAIL (R49): the channel stays failed until reset; its data is poisoned; one report is raised. -/
def execHbmChannelFail (c : Fin 32) (addr : BitVec 40) (s : State) : Out :=
  onDev (fun d =>
    if has d.life.hbmFailed c.val then d
    else
      report (srcHbm c.val) 0x0404 (srcHbm c.val) [(1, c.val), (8, addr.toNat)]
        { d with life := { d.life with hbmFailed := d.life.hbmFailed ++ [c.val] } }) s

end Sys2Proof.Machine
end

