-- ==== Sys2Proof/Machine/HostRows.lean ====
section
/-! DEFINITION. Host functions: doorbells and registers, the mailbox requests hardware and custodian serve on channels,
drains, links and interrupts (R351-R384). -/

set_option linter.unusedVariables false

namespace Sys2Proof.Machine

open Sys2Proof

/-! Doorbells (R363). -/

/-- Slots of a function. -/
def slotCount (fn : Nat) : Nat := if fn < 4 then 4096 else 256

/-- A write to a doorbell of a slot: 0 SQ_TAIL, 1 BQ_TAIL, 2 DQ_HEAD. A slot not open, a set reserved bit or a value not
below its ring's size is discarded and counted; so is a write beyond the function's slots, which is reserved. -/
def ringBell (fn n which v : Nat) (d : Dev) : Dev :=
  let sl := slotOf d fn n
  let size := if which = 0 then sqSize sl else dqSize sl
  if slotCount fn ≤ n ∨ !(sl.state == .opened) ∨ size ≤ v ∨ 65536 ≤ v then badAccess fn 1 d
  else if which = 0 then onSlot fn n (fun x => { x with sqTail := v }) d
  else if which = 1 then flushEvents (onSlot fn n (fun x => { x with bqTail := v }) d)
  else flushEvents (onSlot fn n (fun x => { x with dqHead := v }) d)

/-- A request that reaches a function: its link is up and it is in no drain (R380). -/
def atFn (fn : BitVec 12) (f : Nat → Dev → Dev) (s : State) : Out :=
  onDev (fun d => if fnLive d fn.toNat then f fn.toNat d else d) s

/-- SQ_TAIL_WRITE (R363). -/
def execSqTailWrite (fn : BitVec 12) (slot : BitVec 12) (v : BitVec 32) (s : State) : Out :=
  atFn fn (fun n => ringBell n slot.toNat 0 v.toNat) s

/-- BQ_TAIL_WRITE (R363). -/
def execBqTailWrite (fn : BitVec 12) (slot : BitVec 12) (v : BitVec 32) (s : State) : Out :=
  atFn fn (fun n => ringBell n slot.toNat 1 v.toNat) s

/-- DQ_HEAD_WRITE (R363). -/
def execDqHeadWrite (fn : BitVec 12) (slot : BitVec 12) (v : BitVec 32) (s : State) : Out :=
  atFn fn (fun n => ringBell n slot.toNat 2 v.toNat) s

/-! Mailbox requests (R373-R377). -/

/-- A mailbox request with its REQ_SEQ: ignored while another is outstanding (R374). -/
def mailRequest (fn : BitVec 12) (seq : BitVec 32) (f : Nat → Dev → Dev) (s : State) : Out :=
  atFn fn (fun n d =>
    let h := fnOf d n
    if h.mbTaken || (match h.mbBusy with | some q => !(q == seq.toNat) | none => false) then d
    else f n (onFn n (fun h => { h with mbBusy := some seq.toNat, mbTaken := true }) d)) s

/-- An unbound VF is answered with POLICY for everything but NEGOTIATE (R375, R378). -/
def unboundVf (d : Dev) (fn : Nat) : Bool := decide (4 ≤ fn) && !vfBound d fn

/-- Channels of a function. -/
def chansOf (d : Dev) (fn : Nat) : List Nat :=
  (d.host.chans.filter (fun e => match e.2.kind with
    | .slot f _ => f == fn
    | .implicit f => f == fn
    | .listener _ => false)).map (fun e => e.1)

/-- The domain of a function's implicit channel (R377). -/
def implicitDomain (d : Dev) (fn : Nat) : Option Nat :=
  if fn < 4 then firstBelow 4096 (pfGrants d fn) else if vfBound d fn then some (vfDomain d fn) else none

/-- The answer of NEGOTIATE (R377). -/
def negotiate (versions fn : Nat) (d : Dev) : Dev :=
  let v := if bitOf versions 3 then 3 else if bitOf versions 1 then 1 else 0
  if v = 0 then answerMailbox fn .version [] d
  else if !(chansOf d fn).isEmpty then answerMailbox fn .policy [] d
  else
    let agree := fun d => answerMailbox fn .ok (le 1 v) (onFn fn (fun h => { h with abi := v }) d)
    if v = 3 then agree d
    else match implicitDomain d fn with
    | none => agree d
    | some dom => match openChan (.implicit fn) dom 16 0 d with
      | none => answerMailbox fn .busyRetry [] d
      | some (c, _, d) => agree (onFn fn (fun h => { h with implicitChan := some c }) d)

/-- NEGOTIATE (R377): the highest version both sides offer; under version 1 the implicit channel is created. -/
def execNegotiate (fn : BitVec 12) (seq versions : BitVec 32) (s : State) : Out :=
  mailRequest fn seq (negotiate versions.toNat) s

/-- MAX_CHANNELS and MAX_SHARE of a function (R384, R385). -/
def maxChannels (d : Dev) (fn : Nat) : Nat :=
  if fn < 4 then numOf 4096 d (dk (0x3800 + fn / 2) 8) else numOf 16 d (dk (0x4000 + (fn - 4)) 4)
def maxShare (d : Dev) (fn : Nat) : Nat :=
  if fn < 4 then numOf 4096 d (dk (0x3800 + fn / 2) 9) else numOf 256 d (dk (0x4000 + (fn - 4)) 5)

/-- Retained-output bytes of the device (R372). -/
def retainTotal : Nat := 1536 * 2 ^ 20

/-- The registers of a slot pass the second check of R364. -/
def slotRegsOk (fn : Nat) (sl : Slot) : Bool :=
  let aligned := fun (a : Nat) => a % 4096 == 0
  let log := fun (n : Nat) => decide (4 ≤ n ∧ n ≤ 16)
  let vec := fun (v : Nat) => decide (v < if fn < 4 then 2048 else 64)
  aligned sl.sqBase && aligned sl.cqBase && log (fieldOf sl.sizes 0 5) && vec (fieldOf sl.vector 0 11) &&
    (!(bitOf sl.ctl 0) ||
      (aligned sl.bqBase && aligned sl.dqBase && log (fieldOf sl.sizes 8 5) && vec (fieldOf sl.vector 16 11)))

/-- The first failing status of R364. -/
def openStatus (fn slot share dom resv kib : Nat) (d : Dev) : Status :=
  let sl := slotOf d fn slot
  if !((fnOf d fn).abi == 3) then .version
  else if slotCount fn ≤ slot ∨ !(sl.state == .free) ∨ !(slotRegsOk fn sl) ∨ share = 0 ∨ 4096 < share ∨ 4096 < kib ∨
      0x0FFF < dom ∨ (4 ≤ fn ∧ 0 < dom) ∨ 0 < resv then .format
  else if unboundVf d fn ∨ (fn < 4 ∧ !(pfGrants d fn dom)) ∨ maxChannels d fn ≤ (chansOf d fn).length ∨
      maxShare d fn < share ∨ d.life.reef = 3 then .policy
  else if FreeList.count 65536 d.host.chanFree = 0 ∨ retainTotal < d.host.retainUsed + kib * 1024 then .busyRetry
  else if !d.life.custUp then .custodianUnavailable
  else if !d.life.ready then .busyRetry
  else .ok

/-- CHANNEL_OPEN (R361, R364): a handle is issued, the slot opens with its head, passes and doorbells at zero. -/
def execChannelOpen (fn : BitVec 12) (seq : BitVec 32) (slot share dom resv : BitVec 16) (kib : BitVec 32) (s : State) :
    Out :=
  mailRequest fn seq (fun n d =>
    let i := slot.toNat
    if d.life.hobbled then answerMailbox n .hobbled [] d
    else match openStatus n i share.toNat dom.toNat resv.toNat kib.toNat d with
    | .ok =>
      let dm := if n < 4 then dom.toNat else vfDomain d n
      (match openChan (.slot n i) dm share.toNat (kib.toNat * 1024) d with
       | none => answerMailbox n .busyRetry [] d
       | some (_, h, d) =>
         let d := onSlot n i (fun x =>
           { sqBase := x.sqBase, cqBase := x.cqBase, bqBase := x.bqBase, dqBase := x.dqBase, sizes := x.sizes,
             vector := x.vector, coal := x.coal, ctl := x.ctl, handle := h, state := .opened }) d
         answerMailbox n .ok (le 4 h) (raise (srcFn n) 0x0220 dm (actorFn n) [(4, h), (2, n)] d))
    | e => answerMailbox n e [] d) s

/-- The host channel a handle names on a function, open or closing (R365, R376). -/
def ownChan (d : Dev) (fn h : Nat) : Option (Nat × Chan × Nat) :=
  match chanOf d h with
  | some (c, ch) => match ch.kind with
    | .slot f s => if f == fn then some (c, ch, s) else none
    | _ => none
  | none => none

/-- CHANNEL_CLOSE (R365): the slot closes; the channel ends once its jobs have, and the answer follows. -/
def execChannelClose (fn : BitVec 12) (seq handle : BitVec 32) (s : State) : Out :=
  mailRequest fn seq (fun n d =>
    if d.life.hobbled then answerMailbox n .hobbled [] d
    else if !((fnOf d n).abi == 3) then answerMailbox n .version [] d
    else if unboundVf d n then answerMailbox n .policy [] d
    else if !d.life.custUp then answerMailbox n .custodianUnavailable [] d
    else match ownChan d n handle.toNat with
    | none => answerMailbox n .channelClosed [] d
    | some (c, ch, sn) =>
      if ch.closing.isSome then answerMailbox n .channelClosed [] d
      else
        let d := onSlot n sn (fun x => { x with state := .closing }) d
        finishClose c (onChan c (fun ch => { ch with closing := some d.tb.now }) d)) s

/-- Requests read but not yet through admission, of the channels a test names. -/
def waitingOf (p : Req → Bool) (d : Dev) : List Req := d.op.waitFill.filter p ++ d.op.waitLease.filter p

/-- Without them. -/
def dropRequests (p : Req → Bool) (d : Dev) : Dev :=
  { d with op := { d.op with waitFill := d.op.waitFill.filter (fun q => !p q),
                             waitLease := d.op.waitLease.filter (fun q => !p q) } }

/-- Tags of the operations a test names. -/
def tagsWhere (p : Op → Bool) (d : Dev) : List Nat := (d.op.ops.filter (fun e => p e.2)).map (fun e => e.1)

/-- CHANNEL_CLOSE_SQUASH (R365): 20 ms after the request, jobs still unfinished are squashed, their completions are
written with SQUASHED, and the channel ends. -/
def execChannelCloseSquash (c : BitVec 16) (s : State) : Out :=
  onDev (fun d =>
    let n := c.toNat
    match look d.host.chans n with
    | none => d
    | some ch => match ch.closing with
      | none => d
      | some t =>
        let mine := fun (d : Dev) (q : Req) => srcChan d q.src == some n
        let d := reach (t + ms 20) d
        let waits := waitingOf (mine d) d
        let d := waits.foldl (fun d q => refuse .channelClosed q d) (dropRequests (mine d) d)
        let tags := tagsWhere (fun o => mine d o.req && !(o.phase == .completing)) d
        let d := tags.foldl (fun d t =>
          let d := squash t d
          match opOf d t with
          | none => d
          | some o => retire t (deliver o.req (doneOf t o) d)) d
        finishChans (finishInvals d)) s

/-! Redelivery (R376). -/

/-- A held record as it is written again: its SEQ and IV kept, REDELIVERED set, PHASE 0, CRC computed again. -/
def redelivered (b : Bytes) : Bytes :=
  let flags := setBit (setBit (leAt b 3 1) 7 false) 2 true
  let r := overwrite (b.take 28) 3 (le 1 flags)
  r ++ le 4 (crc32c r)

/-- The held records of a channel in a window of `count` from `first`, with their places. -/
def heldIn (ch : Chan) (first count : Nat) : List (Nat × HeldRec) :=
  (ch.held.map (fun h => ((h.seq + 2 ^ 32 - first) % 2 ^ 32, h))).filter (fun e => decide (e.1 < count))

/-- Where a held record's output was written. -/
def heldSpans (h : HeldRec) (n : Nat) : List (Nat × Nat) :=
  if h.outSgl.isEmpty then [(h.outAddr, n)] else h.outSgl.map (fun e => (e.addr, e.len))

/-- One record written again, after its retained output where that is asked for. -/
def rewrite (fn dest : Nat) (withOut : Bool) (e : Nat × HeldRec) (d : Dev) : Dev :=
  let d := if withOut then (match e.2.retained with
    | some b => hostWrites fn (spread (heldSpans e.2 b.length) b) d
    | none => d) else d
  emit (.hostWrite fn (dest + 32 * e.1) (redelivered e.2.bytes)) d

/-- REDELIVER (R376). FIRST_HELD of a channel that holds no record is not stated: a free value. -/
def execRedeliver (fn : BitVec 12) (seq handle first : BitVec 32) (count flags : BitVec 16) (dest : BitVec 64)
    (s : State) : Out :=
  mailRequest fn seq (fun n d =>
    if d.life.hobbled then answerMailbox n .hobbled [] d
    else if !((fnOf d n).abi == 3) then answerMailbox n .version [] d
    else if 1 < flags.toNat then answerMailbox n .format [] d
    else if count.toNat = 0 ∨ 256 < count.toNat then answerMailbox n .lengthError [] d
    else if unboundVf d n then answerMailbox n .policy [] d
    else match ownChan d n handle.toNat with
    | none => answerMailbox n .channelClosed [] d
    | some (_, ch, sn) =>
      let withOut := flags.getLsbD 0
      let es := (heldIn ch first.toNat count.toNat).filter
        (fun e => !poisonedAt (heldEntry (handle.toNat / 65536) e.2.seq) 32 d)
      let d := es.foldl (fun d e => rewrite n dest.toNat withOut e d) d
      let (firstHeld, d) := match ch.held with
        | h :: _ => (h.seq, d)
        | [] => let (f, d) := freshFree d
                (Config.freeNat f % 2 ^ 32, d)
      let bits := (es.map (fun e => if withOut && e.2.retained.isSome then 2 ^ e.1 else 0)).foldl (· + ·) 0
      let resp := le 2 es.length ++ le 2 0 ++ le 4 firstHeld ++ le 4 (slotOf d n sn).lastSeq ++ le 32 bits
      answerMailbox n .ok resp (bumpBy es.length (dk (0x3800 + linkOf d n) 0x12) d)) s

/-- MAILBOX_JOB (R377): one job of ABI v1 on the implicit channel, its descriptor in the request and its input as the read
answers. -/
def execMailboxJob (fn : BitVec 12) (seq : BitVec 32) (desc : Bytes) (input : ReadResult) (s : State) : Out :=
  mailRequest fn seq (fun n d =>
    if d.life.hobbled then answerMailbox n .hobbled [] d
    else if !((fnOf d n).abi == 1) then answerMailbox n .version [] d
    else if !(desc.length == 64) then answerMailbox n .format [] d
    else
      let d := onFn n (fun h => { h with mbox := mboxPut 0x10 desc h.mbox }) d
      let granted := decide (4 ≤ n) || (firstBelow 4096 (pfGrants d n)).isSome
      if unboundVf d n || !granted then answerMailbox n .policy [] d
      else match (fnOf d n).implicitChan.bind (look d.host.chans) with
      | none => answerMailbox n .policy [] d
      | some ch =>
        let j := Job.ofBytes desc
        let (inp, bad) := readFor (readsAtAdmission j) input
        tryAdmit
          { src := .mailbox n, job := j, domain := ch.domain, point := central, input := padTo j.inLen inp,
            readFault := bad } d) s

/-! Drains (R379-R381). -/

/-- The functions of a half that can have work: its physical function and the VFs it has enabled. -/
def fnsOfHalf (d : Dev) (half : Nat) : List Nat :=
  half :: ((List.range 1024).map (fun n => 4 + 1024 * (half / 2) + n)).filter
    (fun fn => halfOf d fn == half && fnEnabled d fn)

/-- Steps 1 and 2 of R380 for one function: its mailbox and in-band requests are abandoned, requests on their way through
admission are discarded, jobs in ADMITTED and ISSUED are squashed. -/
def drainFn (kind origin fn : Nat) (d : Dev) : Dev :=
  if (fnOf d fn).flr.isSome then d
  else
    let mine := fun (d : Dev) (q : Req) => fnOfSrc d q.src == some fn
    let tags := tagsWhere (fun o => mine d o.req && (o.phase == .admitted || o.phase == .issued)) d
    let d := onFn fn (fun h => { h with
      flr := some { kind := kind, origin := origin, start := d.tb.now, step := 2, squashed := tags.length },
      mbBusy := none, mbTaken := false, ibBusy := false, ibRung := false }) d
    let d := if fn < 4 then endAssoc (48 + fn) d else d
    tags.foldl (fun d t => squash t d) (dropRequests (mine d) d)

def drainAll (kind origin : Nat) (fns : List Nat) (d : Dev) : Dev := fns.foldl (fun d fn => drainFn kind origin fn d) d

/-- FLR (R379, R380): of a VF, or of a physical function with every one of its VFs. A second one before step 5 is
ignored. -/
def execFlr (fn : BitVec 12) (s : State) : Out :=
  atFn fn (fun n d => drainAll 0 n (if n < 4 then fnsOfHalf d n else [n]) d) s

/-- The functions in a drain. -/
def draining (kind origin : Nat) (d : Dev) : List (Nat × FlrState) :=
  d.host.fns.filterMap (fun e => match e.2.flr with
    | some x => if x.kind == kind && x.origin == origin then some (e.1, x) else none
    | none => none)

/-- Advance the functions of a drain that stand before a step. -/
def drainStep (kind origin step after : Nat) (f : Nat → Dev → Dev) (d : Dev) : Dev :=
  (draining kind origin d).foldl (fun d e =>
    if step ≤ e.2.step then d
    else
      let d := f e.1 (reach (e.2.start + after) d)
      onFn e.1 (fun h => { h with flr := h.flr.map (fun x => { x with step := step }) }) d) d

/-- Step 3: jobs still RUNNING are squashed. -/
def drainSquash (fn : Nat) (d : Dev) : Dev :=
  let tags := tagsWhere (fun o => fnOfSrc d o.req.src == some fn && !(o.phase == .completing)) d
  tags.foldl (fun d t => squash t d)
    (onFn fn (fun h => { h with flr := h.flr.map (fun x => { x with squashed := x.squashed + tags.length }) }) d)

/-- Step 4: every channel of the function is closed; keys of creations not yet delivered are listed. -/
def drainClose (fn : Nat) (d : Dev) : Dev :=
  let made := (d.op.ops.filter (fun e => fnOfSrc d e.2.req.src == some fn)).foldl (fun d e => noteMade e.2 d) d
  (chansOf d fn).foldl (fun d c => closeChan c d) made

/-- Step 5: the function's registers, MSI-X table, mailbox and ABI are reset. -/
def resetFn (fn : Nat) (d : Dev) : Dev := { d with host := { d.host with fns := del d.host.fns fn } }

/-- FLR_SQUASH (R380): step 3 at 20 ms, for every function of the drain. -/
def execFlrSquash (kind : Fin 4) (origin : BitVec 12) (s : State) : Out :=
  onDev (drainStep kind.val origin.toNat 3 (ms 20) drainSquash) s

/-- FLR_CLOSE (R380): step 4 at 22 ms; what still runs has been squashed before. -/
def execFlrClose (kind : Fin 4) (origin : BitVec 12) (s : State) : Out :=
  onDev (fun d => drainStep kind.val origin.toNat 4 (ms 22) drainClose
    (drainStep kind.val origin.toNat 3 (ms 20) drainSquash d)) s

/-- The end of a drain (R380): counters, the FLR's audit record, a waiting number of VFs. -/
def endDrain (kind origin : Nat) (fs : List (Nat × FlrState)) (d : Dev) : Dev :=
  let link := linkOf d origin
  let n := (fs.map (fun e => e.2.squashed)).foldl (· + ·) 0
  let handles := (fs.map (fun e => e.2.handles)).flatten
  let d := bumpBy n (dk (0x3800 + link) 0x11) d
  if kind = 0 then
    let d := bump (dk (0x3800 + link) 0x10) d
    let d := if origin < 4 then d else bump (dk (0x4000 + (origin - 4)) 8) d
    raise (srcFn origin) 0x0222 (if origin < 4 then 0 else vfDomain d origin) (actorFn origin)
      ([(2, origin), (4, n)] ++ handles.map (fun h => (4, h))) d
  else if kind = 1 then match look d.host.vfPending origin with
    | some v => { d with host := { d.host with numVfs := put 0 d.host.numVfs origin v, vfPending := del d.host.vfPending origin } }
    | none => d
  else d

/-- FLR_DONE (R380): step 5 at 25 ms; the functions answer again. -/
def execFlrDone (kind : Fin 4) (origin : BitVec 12) (s : State) : Out :=
  onDev (fun d =>
    let k := kind.val
    let o := origin.toNat
    if (draining k o d).isEmpty then d
    else
      let d := drainStep k o 4 (ms 22) drainClose (drainStep k o 3 (ms 20) drainSquash d)
      let fs := draining k o d
      let d := fs.foldl (fun d e => resetFn e.1 (reach (e.2.start + ms 25) d)) d
      endDrain k o fs d) s

/-- VF_ENABLE_CHANGE (R378, R379): the number of enabled VFs of a physical function changes (0: VF Enable cleared); every
VF enabled before drains first. -/
def execVfEnableChange (pf : Fin 4) (n : BitVec 11) (s : State) : Out :=
  onDev (fun d =>
    let share := if lookD 0 d.host.bifurcated (pf.val / 2) = 1 then
        (if pf.val % 2 = 0 then lookD 512 d.host.vfSplit (pf.val / 2) else 1024 - lookD 512 d.host.vfSplit (pf.val / 2))
      else 1024
    let old := lookD 0 d.host.numVfs pf.val
    if !(fnLive d pf.val) || decide (share < n.toNat) || old == n.toNat || (look d.host.vfPending pf.val).isSome then d
    else
      let vfs := (fnsOfHalf d pf.val).filter (fun f => decide (4 ≤ f))
      let d := drainAll 1 pf.val vfs d
      if (draining 1 pf.val d).isEmpty then
        { d with host := { d.host with numVfs := put 0 d.host.numVfs pf.val n.toNat } }
      else { d with host := { d.host with vfPending := ins d.host.vfPending pf.val n.toNat } }) s

/-- HOST_LINK_DOWN (R379, R384): hot reset, link disable, surprise link down or PERST ends every function of the half. -/
def execHostLinkDown (half : Fin 4) (s : State) : Out :=
  onDev (fun d =>
    if (lookD {} d.host.links half.val).state = 0 then d
    else
      let d := drainAll 2 half.val (fnsOfHalf d half.val) d
      bump (dk (0x3800 + half.val / 2) 0x15)
        { d with host := { d.host with links := put {} d.host.links half.val {} } }) s

/-- HOST_LINK_UP (R351, R352): a half completes training at a rate (0-5 for codes 1-6) and a width of 2^w lanes; 64 GT/s
uses FLIT mode. -/
def execHostLinkUp (half : Fin 4) (rate : Fin 6) (w : Fin 5) (flit : Bool) (s : State) : Out :=
  onDev (fun d =>
    let split := lookD 0 d.host.bifurcated (half.val / 2) == 1
    if (lookD {} d.host.links half.val).state = 2 ∨ d.life.powerOff ∨ d.life.gait = 3 ∨
        (half.val % 2 = 1 ∧ !split) ∨ (split ∧ w.val = 4) then d
    else
      let l : HostLink := { state := 2, rate := rate.val + 1, width := 2 ^ w.val, flit := flit || rate.val == 5 }
      { d with host := { d.host with links := put {} d.host.links half.val l } }) s

/-! Interrupts (R382, R383). -/

/-- MSIX_COAL_TIMER (R383): TIME after the first due record of a slot, its completion or delivery message is sent. -/
def execMsixCoalTimer (fn : BitVec 12) (slot : BitVec 12) (delivery : Bool) (s : State) : Out :=
  atFn fn (fun f d =>
    let n := slot.toNat
    let sl := slotOf d f n
    if coalTime sl = 0 then d
    else if delivery then
      (if sl.dqDue = 0 then d
       else sendMsix f (fieldOf sl.vector 16 11)
         (onSlot f n (fun x => { x with dqDue := 0 }) (reach (sl.dqSince + coalTime sl) d)))
    else if sl.cqDue = 0 then d
    else sendMsix f (fieldOf sl.vector 0 11)
      (onSlot f n (fun x => { x with cqDue := 0 }) (reach (sl.cqSince + coalTime sl) d))) s

/-- A vector is unmasked: its pending message is sent (R382, R383). -/
def unmask (fn vec : Nat) (d : Dev) : Dev :=
  let v := lookD {} (fnOf d fn).vectors vec
  let d := onFn fn (fun h => { h with vectors := upd {} h.vectors vec (fun v => { v with masked := false, pending := false }) }) d
  if v.pending then emit (.msix fn vec) d else d

/-- Vectors of a function (R382). -/
def vecCount (fn : Nat) : Nat := if fn < 4 then 2048 else 64

/-- MSIX_UNMASK (R383). -/
def execMsixUnmask (fn : BitVec 12) (vec : BitVec 11) (s : State) : Out :=
  atFn fn (fun n d => if vecCount n ≤ vec.toNat then d else unmask n vec.toNat d) s


/-! Register writes (R355-R363). -/

/-- What stands at a BAR0 offset. -/
inductive BarAt where
  /-- A register of 4 or 8 bytes that takes no write. -/
  | fixed (size : Nat)
  | bell (slot which : Nat)
  | slotReg (slot off : Nat)
  | msix (vec dword : Nat)
  | mbox (off : Nat)
  | mbBell
  | ib (off : Nat)
  | ibBell
  | reserved
  deriving DecidableEq

/-- Offsets inside the mailbox page (R373): MB_BELL and MB_DONE are registers, the rest memory. -/
def mboxAt (o : Nat) : BarAt := if o / 4 = 0x3FE then .mbBell else if o / 4 = 0x3FF then .fixed 4 else .mbox o

/-- Offsets inside a slot's 64 bytes (R362). -/
def slotAt (slot o : Nat) : BarAt := if o < 0x30 then .slotReg slot (if o < 0x20 then o / 8 * 8 else o / 4 * 4) else .fixed 4

/-- Offsets inside a doorbell block (R363). -/
def bellAt (slot o : Nat) : BarAt := if o / 4 = 3 then .fixed 4 else .bell slot (o / 4)

/-- Offsets inside the in-band window (R413). -/
def ibAt (o : Nat) : BarAt :=
  if o < 0x1FF0 then .ib o
  else if o / 4 = 0x7FE then .ibBell
  else if o / 4 = 0x7FF then .fixed 4
  else if o < 0x2000 then .reserved
  else if o < 0x3FF0 then .fixed 4
  else if o / 4 = 0xFFF then .fixed 4
  else .reserved

/-- The maps of R355. -/
def barAt (fn o : Nat) : BarAt :=
  if fn < 4 then
    if o < 0x1C then (if 8 ≤ o ∧ o < 16 then .fixed 8 else .fixed 4)
    else if 0x1000 ≤ o ∧ o < 0x2000 then mboxAt (o - 0x1000)
    else if 0x8000 ≤ o ∧ o < 0xC000 then ibAt (o - 0x8000)
    else if 0x100000 ≤ o ∧ o < 0x110000 then bellAt ((o - 0x100000) / 16) (o % 16)
    else if 0x200000 ≤ o ∧ o < 0x240000 then slotAt ((o - 0x200000) / 64) (o % 64)
    else if 0x400000 ≤ o ∧ o < 0x408000 then .msix ((o - 0x400000) / 16) (o % 16 / 4)
    else if 0x410000 ≤ o ∧ o < 0x410100 then .fixed 8
    else .reserved
  else if o < 0x1000 then mboxAt o
  else if o < 0x2000 then bellAt ((o - 0x1000) / 16) (o % 16)
  else if o < 0x6000 then slotAt ((o - 0x2000) / 64) (o % 64)
  else if 0x6000 ≤ o ∧ o < 0x6018 then (if 0x6008 ≤ o ∧ o < 0x6010 then .fixed 8 else .fixed 4)
  else if 0x8000 ≤ o ∧ o < 0x8400 then .msix ((o - 0x8000) / 16) (o % 16 / 4)
  else if 0x9000 ≤ o ∧ o < 0x9008 then .fixed 8
  else .reserved

/-- A committed slot register (R362); reserved bits are ignored (R10). -/
def putSlotReg (off v : Nat) (x : Slot) : Slot :=
  let two := fun (lo a hi b : Nat) => fieldOf v lo a * 2 ^ lo + fieldOf v hi b * 2 ^ hi
  if off = 0 then { x with sqBase := v } else if off = 8 then { x with cqBase := v }
  else if off = 0x10 then { x with bqBase := v } else if off = 0x18 then { x with dqBase := v }
  else if off = 0x20 then { x with sizes := two 0 5 8 5 } else if off = 0x24 then { x with vector := two 0 11 16 11 }
  else if off = 0x28 then { x with coal := two 0 8 16 16 } else { x with ctl := v % 2 }

/-! Register reads (R355-R359). -/

/-- Value and first offset of the read-only register at an offset: the global registers (R356, R357), MB_DONE and the in-band
window's own (R373, R413), HANDLE, STATE, LAST_SEQ and LAST_DSEQ (R362), the pending bits (R382); zero where reserved. -/
def fixedReg (d : Dev) (fn o : Nat) : Nat × Nat :=
  let h := fnOf d fn
  let pba := fun (base : Nat) =>
    ((List.range ((o - base) / 8 * 64 + 64)).drop ((o - base) / 8 * 64)).foldl
      (fun v k => v + b2n (lookD {} h.vectors k).pending * 2 ^ (k % 64)) 0
  let slot := fun (i q : Nat) =>
    let x := slotOf d fn i
    if q < 0x34 then (x.handle, 0x30) else if q < 0x38 then (x.state.code + 256 * x.cause, 0x34)
    else if q < 0x3C then (x.lastSeq, 0x38) else (x.lastDseq, 0x3C)
  let inSlot := fun (i q base : Nat) => let r := slot i q; (r.1, base + r.2)
  let l := lookD {} d.host.links (halfOf d fn)
  if fn < 4 then
    if o < 4 then (b2n d.life.ready + 2 * b2n d.life.custUp + 16 * d.life.reef + 64 * d.life.gait, 0)
    else if o < 8 then (h.abi, 4)
    else if o < 0x10 then (d.tb.now, 8)
    else if o < 0x14 then (l.rate + 16 * l.width + 512 * b2n l.flit + 1024 * (fn % 2), 0x10)
    else if o < 0x18 then (h.badAccess, 0x14)
    else if o < 0x1C then (lookD 0 d.host.numVfs fn, 0x18)
    else if 0x1FFC ≤ o ∧ o < 0x2000 then (leVal (mboxBytes h 0xFFC 4), 0x1FFC)
    else if 0x9FFC ≤ o ∧ o < 0xA000 then (b2n h.ibBusy, 0x9FFC)
    else if 0xA000 ≤ o ∧ o < 0xC000 then (lookD 0 h.ib (o - 0x8000), o)
    else if 0x200000 ≤ o ∧ o < 0x240000 then inSlot ((o - 0x200000) / 64) (o % 64) (o / 64 * 64)
    else if 0x410000 ≤ o ∧ o < 0x410100 then (pba 0x410000, o / 8 * 8)
    else (0, o)
  else if 0xFFC ≤ o ∧ o < 0x1000 then (leVal (mboxBytes h 0xFFC 4), 0xFFC)
  else if 0x2000 ≤ o ∧ o < 0x6000 then inSlot ((o - 0x2000) / 64) (o % 64) (o / 64 * 64)
  else if o < 0x6000 then (0, o)
  else if o < 0x6004 then
    (if vfBound d fn then 1 + 2 * b2n d.life.custUp + 4 * b2n d.life.ready + 65536 * vfDomain d fn
     else 2 * b2n d.life.custUp + 4 * b2n d.life.ready, 0x6000)
  else if o < 0x6008 then (h.abi, 0x6004)
  else if o < 0x6010 then (d.tb.now, 0x6008)
  else if o < 0x6014 then (h.badAccess, 0x6010)
  else if o < 0x6018 then (maxChannels d fn, 0x6014)
  else if 0x9000 ≤ o ∧ o < 0x9008 then (pba 0x9000, 0x9000)
  else (0, o)

/-- The byte that a read finds at a BAR0 offset; WO registers and reserved offsets read as zero (R9, R359). -/
def barByte (d : Dev) (fn o : Nat) : Nat :=
  let h := fnOf d fn
  let at_ := fun (v k : Nat) => v / 256 ^ k % 256
  match barAt fn o with
  | .mbox m => lookD 0 h.mbox m
  | .ib m => lookD 0 h.ib m
  | .bell slot which =>
    let x := slotOf d fn slot
    at_ (if which = 0 then x.sqTail else if which = 1 then x.bqTail else x.dqHead) (o % 4)
  | .msix vec dw =>
    let v := lookD {} h.vectors vec
    at_ (if dw = 0 then v.addrLo else if dw = 1 then v.addrHi else if dw = 2 then v.data else b2n v.masked) (o % 4)
  | .slotReg slot off =>
    let x := slotOf d fn slot
    at_ (if off = 0 then x.sqBase else if off = 8 then x.cqBase else if off = 0x10 then x.bqBase else if off = 0x18 then x.dqBase
      else if off = 0x20 then x.sizes else if off = 0x24 then x.vector else if off = 0x28 then x.coal else x.ctl) (o % 64 - off)
  | .fixed _ => let r := fixedReg d fn o; at_ r.1 (o - r.2)
  | .mbBell => 0
  | .ibBell => 0
  | .reserved => 0

/-- Where BAD_ACCESS stands in a function's BAR0 (R356, R357). -/
def badAccessAt (fn : Nat) : Nat := if fn < 4 then 0x14 else 0x6010

/-- A read of `n` bytes of a function's BAR0 (R359): the bytes; BAD_ACCESS is cleared by one that covers all four of its own
(R9). -/
def barRead (fn off n : Nat) (d : Dev) : Dev :=
  let bytes := (List.range n).map (fun i => BitVec.ofNat 8 (barByte d fn (off + i)))
  let d := emit (.readBytes bytes) d
  if off ≤ badAccessAt fn ∧ badAccessAt fn + 4 ≤ off + n then onFn fn (fun h => { h with badAccess := 0 }) d else d

/-- BAD_ACCESS_READ (R356-R359), and every other read of a function's registers: bytes from an offset of its BAR0. -/
def execBadAccessRead (at_ : BarRead) (s : State) : Out :=
  atFn at_.fn (fun f d => barRead f at_.off.toNat at_.len.toNat d) s

/-- The present value of a 64-bit slot register. -/
def slotReg64 (off : Nat) (x : Slot) : Nat :=
  if off = 0 then x.sqBase else if off = 8 then x.cqBase else if off = 0x10 then x.bqBase else x.dqBase

/-- A write of whole halves of a slot register (R360, R362): a low half is held, a high half commits both. -/
def writeSlotReg (fn slot off at_ : Nat) (b : Bytes) (d : Dev) : Dev :=
  let sl := slotOf d fn slot
  let key := slot * 64 + off
  if !(sl.state == .free) then badAccess fn 1 d
  else if 0x20 ≤ off then
    (if b.length = 4 then onSlot fn slot (putSlotReg off (leVal b)) d else badAccess fn 1 d)
  else if at_ = 0 ∧ b.length = 8 then
    onFn fn (fun h => { h with lowHalf := del h.lowHalf key }) (onSlot fn slot (putSlotReg off (leVal b)) d)
  else if at_ = 0 ∧ b.length = 4 then onFn fn (fun h => { h with lowHalf := ins h.lowHalf key (leVal b) }) d
  else if at_ = 4 ∧ b.length = 4 then
    let low := (look (fnOf d fn).lowHalf key).getD (slotReg64 off sl % 2 ^ 32)
    onFn fn (fun h => { h with lowHalf := del h.lowHalf key })
      (onSlot fn slot (putSlotReg off (leVal b * 2 ^ 32 + low)) d)
  else badAccess fn 1 d

/-- A dword of an MSI-X table entry (R358, R382): address, upper address, data, vector control. -/
def writeVector (fn vec dw v : Nat) (d : Dev) : Dev :=
  let put_ := fun (f : MsixVec → MsixVec) => onFn fn (fun h => { h with vectors := upd {} h.vectors vec f }) d
  if dw = 0 then put_ (fun x => { x with addrLo := v })
  else if dw = 1 then put_ (fun x => { x with addrHi := v })
  else if dw = 2 then put_ (fun x => { x with data := v })
  else if bitOf v 0 then put_ (fun x => { x with masked := true })
  else unmask fn vec d

/-- Opcodes of R375. -/
def mailboxOp (op : Nat) : Bool := has [1, 2, 3, 4, 5, 0x10] op

/-- MB_BELL (R373-R375): the request in the page is outstanding; an OP outside the table, an ABI the function has not
negotiated, a reserved field or REQ_LEN above 2,032 is answered at once. -/
def ringMailbox (fn v : Nat) (d : Dev) : Dev :=
  let h := fnOf d fn
  if h.mbBusy.isSome then d
  else
    let op := leVal (mboxBytes h 4 2)
    let len := leVal (mboxBytes h 6 2)
    let need := if op = 1 then (fnOf d fn).abi else if op = 5 then 1 else 3
    let d := onFn fn (fun h => { h with mbBusy := some v, mbTaken := false }) d
    if !mailboxOp op then answerMailbox fn .format [] d
    else if !(h.abi == need) then answerMailbox fn .version [] d
    else if 2032 < len ∨ !(leVal (mboxBytes h 8 8) == 0) then answerMailbox fn .format [] d
    else d

/-- Bytes of a write that fall on one register: from offset `o` up to the register's end. -/
def regRun (size o n : Nat) : Nat := min n (size - o % size)

/-- A write applied region by region in ascending order (R360). -/
def applyWrite (fn : Nat) : Nat → Nat → Bytes → Dev → Dev
  | 0, _, _, d => d
  | _, _, [], d => d
  | fuel + 1, o, b :: bs, d =>
    let whole := b :: bs
    let run4 := regRun 4 o whole.length
    let v4 := leVal (whole.take 4)
    let full4 := o % 4 == 0 && run4 == 4
    match barAt fn o with
    | .mbox m => applyWrite fn fuel (o + 1) bs (onFn fn (fun h => { h with mbox := put 0 h.mbox m b.toNat }) d)
    | .ib m => applyWrite fn fuel (o + 1) bs (onFn fn (fun h => { h with ib := put 0 h.ib m b.toNat }) d)
    | .fixed size =>
      let n := regRun size o whole.length
      applyWrite fn fuel (o + n) (whole.drop n) (badAccess fn 1 d)
    | .bell slot which =>
      applyWrite fn fuel (o + run4) (whole.drop run4) (if full4 then ringBell fn slot which v4 d else badAccess fn 1 d)
    | .msix vec dw =>
      applyWrite fn fuel (o + run4) (whole.drop run4) (if full4 then writeVector fn vec dw v4 d else badAccess fn 1 d)
    | .mbBell =>
      applyWrite fn fuel (o + run4) (whole.drop run4) (if full4 then ringMailbox fn v4 d else badAccess fn 1 d)
    | .ibBell =>
      applyWrite fn fuel (o + run4) (whole.drop run4)
        (if !full4 then badAccess fn 1 d
         else if v4 = 1 ∧ (fnOf d fn).ibBusy = false then onFn fn (fun h => { h with ibBusy := true, ibRung := true }) d else d)
    | .slotReg slot off =>
      let n := regRun (if off < 0x20 then 8 else 4) o whole.length
      applyWrite fn fuel (o + n) (whole.drop n) (writeSlotReg fn slot off (o % 64 - off) (whole.take n) d)
    | .reserved =>
      let n := ((List.range whole.length).takeWhile (fun i => barAt fn (o + i) == .reserved)).length
      applyWrite fn fuel (o + max 1 n) (whole.drop (max 1 n)) (badAccess fn 1 d)

/-- REGISTER_WRITE (R358-R360): one write request of up to 64 bytes with its contiguous enabled bytes; a poisoned one is
discarded whole and counted once (its report through AER is no state: log entry 237). -/
def execRegisterWrite (fn : BitVec 12) (off : BitVec 23) (data : Bytes) (poisoned : Bool) (s : State) : Out :=
  atFn fn (fun n d =>
    if poisoned then badAccess n 1 d
    else applyWrite n 64 off.toNat (data.take 64) d) s

end Sys2Proof.Machine
end

