-- ==== Sys2Proof/Machine/Packet.lean ====
section
/-! DEFINITION. Frames and packets of the network layer, read and built: Ethernet with at most one VLAN tag, ARP, IPv4,
IPv6, ICMP, UDP, TCP with its options (R305, R327-R331). -/

set_option linter.unusedVariables false

namespace Sys2Proof.Machine

open Sys2Proof

/-- One's complement sum of a byte string in 16-bit words. -/
def onesSum : Bytes → Nat
  | a :: b :: r => a.toNat * 256 + b.toNat + onesSum r
  | [a] => a.toNat * 256
  | [] => 0

def foldSum (n : Nat) : Nat :=
  let n := n % 65536 + n / 65536
  n % 65536 + n / 65536

/-- Internet checksum. -/
def inetSum (b : Bytes) : Nat := 65535 - foldSum (foldSum (onesSum b))

/-- A byte string verifies with the checksum it holds. -/
def inetOk (b : Bytes) : Bool := foldSum (foldSum (onesSum b)) == 65535

/-- The pseudo-header of TCP, UDP and ICMPv6. -/
def pseudo (v6 : Bool) (src dst : Bytes) (proto len : Nat) : Bytes :=
  if v6 then src ++ dst ++ be 4 len ++ [0#8, 0#8, 0#8] ++ be 1 proto
  else src ++ dst ++ [0#8] ++ be 1 proto ++ be 2 len

/-- A frame's destination, source, VLAN tag, EtherType and payload. -/
structure Eth where
  dst : Nat
  src : Nat
  vlan : Option Nat
  typ : Nat
  body : Bytes

/-- Read a frame. -/
def ethOf (b : Bytes) : Eth :=
  let tagged := beAt b 12 2 == 0x8100
  { dst := beAt b 0 6, src := beAt b 6 6, vlan := if tagged then some (beAt b 14 2) else none,
    typ := if tagged then beAt b 16 2 else beAt b 12 2, body := b.drop (if tagged then 18 else 14) }

/-- Build a frame, padded to the least size. -/
def ethBytes (dst src : Nat) (vlan : Option Nat) (typ : Nat) (body : Bytes) : Bytes :=
  let b := be 6 dst ++ be 6 src ++ (match vlan with | some t => be 2 0x8100 ++ be 2 t | none => []) ++ be 2 typ ++ body
  b ++ zeros (60 - b.length)

/-- An IP packet. -/
structure Ip where
  v6 : Bool
  src : Bytes
  dst : Bytes
  proto : Nat
  dscp : Nat
  body : Bytes

/-- Read an IPv4 packet that R328 accepts in form: version 4, no options, checksum valid, not fragmented. -/
def ip4Of (b : Bytes) : Option Ip :=
  let len := beAt b 2 2
  if leAt b 0 1 = 0x45 ∧ 20 ≤ len ∧ len ≤ b.length ∧ inetOk (b.take 20) ∧ fieldOf (beAt b 6 2) 0 14 = 0 then
    some { v6 := false, src := slice b 12 4, dst := slice b 16 4, proto := leAt b 9 1, dscp := leAt b 1 1 / 4,
           body := slice b 20 (len - 20) }
  else none

/-- Read an IPv6 packet. -/
def ip6Of (b : Bytes) : Option Ip :=
  let len := beAt b 4 2
  if leAt b 0 1 / 16 = 6 ∧ 40 + len ≤ b.length then
    some { v6 := true, src := slice b 8 16, dst := slice b 24 16, proto := leAt b 6 1,
           dscp := fieldOf (beAt b 0 2) 6 6, body := slice b 40 len }
  else none

/-- Build an IP packet (R328): IHL 5, DF, TTL 64; hop limit 64 (255 for neighbour discovery), flow label 0. -/
def ipBytes (p : Ip) (hops : Nat) : Bytes :=
  if p.v6 then
    be 2 (0x6000 + p.dscp * 64) ++ be 2 0 ++ be 2 p.body.length ++ be 1 p.proto ++ be 1 hops ++ p.src ++ p.dst ++ p.body
  else
    let h := fun (c : Nat) => be 1 0x45 ++ be 1 (p.dscp * 4) ++ be 2 (20 + p.body.length) ++ be 2 0 ++ be 2 0x4000 ++
      be 1 hops ++ be 1 p.proto ++ be 2 c ++ p.src ++ p.dst
    h (inetSum (h 0)) ++ p.body

/-- A UDP datagram with its checksum. -/
def udpBytes (v6 : Bool) (src dst : Bytes) (sp dp : Nat) (data : Bytes) : Bytes :=
  let n := 8 + data.length
  let b := fun (c : Nat) => be 2 sp ++ be 2 dp ++ be 2 n ++ be 2 c ++ data
  let c := inetSum (pseudo v6 src dst 17 n ++ b 0)
  b (if c = 0 then 65535 else c)

/-- A TCP segment by field; options as the device uses them (R331). -/
structure Seg where
  sport : Nat
  dport : Nat
  seq : Nat
  ack : Nat
  flags : Nat
  wnd : Nat
  mss : Option Nat := none
  shift : Option Nat := none
  sackOk : Bool := false
  ts : Option (Nat × Nat) := none
  sacks : List (Nat × Nat) := []
  data : Bytes := []

def Seg.fin (s : Seg) : Bool := bitOf s.flags 0
def Seg.syn (s : Seg) : Bool := bitOf s.flags 1
def Seg.rst (s : Seg) : Bool := bitOf s.flags 2
def Seg.isAck (s : Seg) : Bool := bitOf s.flags 4

/-- Read options; unknown ones are ignored. -/
def segOpts : Nat → Bytes → Seg → Seg
  | 0, _, s => s
  | n + 1, b, s =>
    match b with
    | [] => s
    | k :: r =>
      if k.toNat = 0 then s
      else if k.toNat = 1 then segOpts n r s
      else
        let l := leAt r 0 1
        if l < 2 then s
        else
          let v := slice r 1 (l - 2)
          let rest := r.drop (l - 1)
          let s := match k.toNat with
            | 2 => if l = 4 then { s with mss := some (beVal v) } else s
            | 3 => if l = 3 then { s with shift := some (min 14 (beVal v)) } else s
            | 4 => if l = 2 then { s with sackOk := true } else s
            | 5 => { s with sacks := (List.range ((l - 2) / 8)).map (fun i => (beAt v (8 * i) 4, beAt v (8 * i + 4) 4)) }
            | 8 => if l = 10 then { s with ts := some (beAt v 0 4, beAt v 4 4) } else s
            | _ => s
          segOpts n rest s

/-- Read a TCP segment whose checksum verifies. -/
def segOf (p : Ip) : Option Seg :=
  let b := p.body
  let off := leAt b 12 1 / 16 * 4
  if b.length < 20 ∨ off < 20 ∨ b.length < off then none
  else if !inetOk (pseudo p.v6 p.src p.dst 6 b.length ++ b) then none
  else
    some (segOpts 40 (slice b 20 (off - 20))
      { sport := beAt b 0 2, dport := beAt b 2 2, seq := beAt b 4 4, ack := beAt b 8 4, flags := leAt b 13 1,
        wnd := beAt b 14 2, data := b.drop off })

/-- Build a TCP segment. -/
def segBytes (v6 : Bool) (src dst : Bytes) (s : Seg) : Bytes :=
  let o := (match s.mss with | some m => [2#8, 4#8] ++ be 2 m | none => []) ++
    (match s.shift with | some n => [3#8, 3#8] ++ be 1 n | none => []) ++
    (if s.sackOk then [4#8, 2#8] else []) ++
    (match s.ts with | some (v, e) => [8#8, 10#8] ++ be 4 v ++ be 4 e | none => []) ++
    (if s.sacks.isEmpty then [] else
      [5#8] ++ be 1 (2 + 8 * s.sacks.length) ++ (s.sacks.map (fun e => be 4 e.1 ++ be 4 e.2)).flatten)
  let opts := o ++ List.replicate ((4 - o.length % 4) % 4) 1#8
  let b := fun (c : Nat) => be 2 s.sport ++ be 2 s.dport ++ be 4 s.seq ++ be 4 s.ack ++
    be 1 ((20 + opts.length) / 4 * 16) ++ be 1 s.flags ++ be 2 s.wnd ++ be 2 c ++ be 2 0 ++ opts ++ s.data
  let n := 20 + opts.length + s.data.length
  b (inetSum (pseudo v6 src dst 6 n ++ b 0))

/-- Sequence numbers are compared modulo 2^32. -/
def seqSub (a b : Nat) : Nat := (a + 2 ^ 32 - b % 2 ^ 32) % 2 ^ 32
def seqLt (a b : Nat) : Bool := !(a == b) && decide (seqSub b a < 2 ^ 31)
def seqLe (a b : Nat) : Bool := decide (seqSub b a < 2 ^ 31)

/-! Interfaces (R327). -/

/-- The entries of an interface: address and prefix length, gateways, PING. -/
def ip4Cfg (d : Dev) (p : Nat) : Bytes := blobOf d (dk 0x34F0 (p + 1))
def ip6Cfg (d : Dev) (p : Nat) : Bytes := blobOf d (dk 0x34F1 (p + 1))
def gw4 (d : Dev) (p : Nat) : Bytes := blobOf d (dk 0x34F2 (p + 1))
def gw6 (d : Dev) (p : Nat) : Bytes := blobOf d (dk 0x34F3 (p + 1))
def pingOn (d : Dev) (p : Nat) : Bool := numOf 0 d (dk 0x34F4 (p + 1)) == 1

/-- The link-local address: fe80::/64 with the modified EUI-64 of the port's MAC address (R327). -/
def linkLocal (d : Dev) (p : Nat) : Bytes :=
  let m := be 6 (portMac d p)
  be 8 0xFE80000000000000 ++ [BitVec.ofNat 8 (leAt m 0 1 ^^^ 2)] ++ slice m 1 2 ++ [0xFF#8, 0xFE#8] ++ m.drop 3

/-- Two addresses agree in their first `n` bits. -/
def samePrefix (n : Nat) (a b : Bytes) : Bool := beVal a / 2 ^ (8 * a.length - n) == beVal b / 2 ^ (8 * b.length - n)

/-- The port's own addresses of a family. -/
def ownAddrs (d : Dev) (p : Nat) (v6 : Bool) : List Bytes :=
  if v6 then (if (ip6Cfg d p).isEmpty then [] else [(ip6Cfg d p).take 16]) ++ [linkLocal d p]
  else if (ip4Cfg d p).isEmpty then [] else [(ip4Cfg d p).take 4]

/-- The solicited-node group of an address. -/
def solicited (a : Bytes) : Bytes := be 13 0xFF0200000000000000000001FF ++ a.drop 13

/-- The source address for a destination: link-local towards link-local. -/
def sourceFor (d : Dev) (p : Nat) (v6 : Bool) (dst : Bytes) : Bytes :=
  if v6 then
    if samePrefix 10 dst (be 16 (0xFE80 * 2 ^ 112)) then linkLocal d p
    else ((ownAddrs d p true).head?).getD (linkLocal d p)
  else ((ownAddrs d p false).head?).getD (zeros 4)

/-- The next hop for a destination (R327): itself on the subnet or link, else the gateway. -/
def nextHop (d : Dev) (p : Nat) (v6 : Bool) (dst : Bytes) : Option Bytes :=
  if v6 then
    let c := ip6Cfg d p
    if samePrefix 10 dst (be 16 (0xFE80 * 2 ^ 112)) || (!c.isEmpty && samePrefix (leAt c 16 1) dst (c.take 16)) then some dst
    else if (gw6 d p).isEmpty then none else some (gw6 d p)
  else
    let c := ip4Cfg d p
    if !c.isEmpty && samePrefix (leAt c 4 1) dst (c.take 4) then some dst
    else if (gw4 d p).isEmpty then none else some (gw4 d p)

/-! Sending. -/

/-- Hand a frame to a port's egress; a port that is down discards it (R306). -/
def egressFrame (p : Nat) (b : Bytes) (tag : Option Nat) (d : Dev) : Dev :=
  if !portUp d p then lostFrame p 0x29 tag d
  else onPort p (fun q => { q with egress := q.egress ++ [{ bytes := b, tag := tag }] }) d

/-- An ARP packet (RFC 826). -/
def arpBytes (op sha : Nat) (spa : Bytes) (tha : Nat) (tpa : Bytes) : Bytes :=
  be 2 1 ++ be 2 0x0800 ++ be 1 6 ++ be 1 4 ++ be 2 op ++ be 6 sha ++ spa ++ be 6 tha ++ tpa

/-- An ICMPv6 message with its checksum. -/
def icmp6 (src dst : Bytes) (b : Bytes) : Bytes :=
  let full := fun (c : Nat) => b.take 2 ++ be 2 c ++ b.drop 4
  full (inetSum (pseudo true src dst 58 b.length ++ full 0))

/-- The multicast MAC address of an IPv6 group. -/
def groupMac (a : Bytes) : Nat := 0x333300000000 + beVal (a.drop 12)

/-- Ask for a neighbour's address (R328, R329). -/
def askNeighbour (p : Nat) (addr : Bytes) (d : Dev) : Dev :=
  if addr.length = 16 then
    let src := sourceFor d p true addr
    let dst := solicited addr
    let m := [135#8, 0#8, 0#8, 0#8] ++ zeros 4 ++ addr ++ [1#8, 1#8] ++ be 6 (portMac d p)
    egressFrame p (ethBytes (groupMac dst) (portMac d p) none 0x86DD
      (ipBytes { v6 := true, src := src, dst := dst, proto := 58, dscp := 0, body := icmp6 src dst m } 255)) none d
  else
    egressFrame p (ethBytes 0xFFFFFFFFFFFF (portMac d p) none 0x0806
      (arpBytes 1 (portMac d p) (sourceFor d p false addr) 0 addr)) none d

/-- A neighbour entry. -/
def neighbourOf (d : Dev) (p : Nat) (addr : Bytes) : Option Neighbour :=
  d.net.neighbours.find? (fun n => n.port == p && n.addr == addr)

/-- Change a neighbour entry. -/
def onNeighbour (p : Nat) (addr : Bytes) (f : Neighbour → Neighbour) (d : Dev) : Dev :=
  { d with net := { d.net with neighbours := d.net.neighbours.map (fun n =>
      if n.port == p && n.addr == addr then f n else n) } }

/-- Drop what waits for a next hop; messages, which the frame with a message's end stands for, are counted in NEIGH_DROPS. -/
def dropWaiting (fs : List EgressFrame) (d : Dev) : Dev :=
  fs.foldl (fun d f =>
    match f.tag with
    | some t => endMsg t (bump (dk 0x34F8 0x0A) d)
    | none => d) d

/-- Add an entry; a full cache loses the one least recently confirmed (R329). -/
def addNeighbour (n : Neighbour) (d : Dev) : Dev :=
  let d := if 4096 ≤ d.net.neighbours.length then
      match minBy? (fun (x : Neighbour) => x.confirmed) d.net.neighbours with
      | none => d
      | some old => dropWaiting old.waiting { d with net := { d.net with
          neighbours := d.net.neighbours.filter (fun x => !(x == old)) } }
    else d
  { d with net := { d.net with neighbours := d.net.neighbours ++ [n] } }

/-- A frame's destination address filled in. -/
def withDst (mac : Bytes) (b : Bytes) : Bytes := mac ++ b.drop 6

/-- A neighbour is confirmed with its address; what waited for it goes out (R329). -/
def confirmNeighbour (p : Nat) (addr mac : Bytes) (learn : Bool) (d : Dev) : Dev :=
  match neighbourOf d p addr with
  | none => if learn then addNeighbour { port := p, addr := addr, mac := some mac, confirmed := d.tb.now } d else d
  | some n =>
    let d := onNeighbour p addr (fun n => { n with mac := some mac, confirmed := d.tb.now, waiting := [] }) d
    n.waiting.foldl (fun d f => egressFrame p (withDst mac f.bytes) f.tag d) d

/-- Send an IP packet from a port (R327-R329): straight out when its next hop is resolved, else it waits for a request. -/
def sendIp (p : Nat) (vlan : Option Nat) (ip : Ip) (tag : Option Nat) (d : Dev) : Dev :=
  let frame := ethBytes 0 (portMac d p) vlan (if ip.v6 then 0x86DD else 0x0800) (ipBytes ip 64)
  match nextHop d p ip.v6 ip.dst with
  | none => dropWaiting [{ bytes := frame, tag := tag }] d
  | some hop =>
    match neighbourOf d p hop with
    | some n =>
      (match n.mac with
       | some m => egressFrame p (withDst m frame) tag d
       | none => onNeighbour p hop (fun n => { n with waiting := n.waiting ++ [{ bytes := frame, tag := tag }] }) d)
    | none =>
      let d := addNeighbour { port := p, addr := hop, mac := none, confirmed := d.tb.now, since := d.tb.now,
                              nextTry := d.tb.now + ms 250, waiting := [{ bytes := frame, tag := tag }] } d
      askNeighbour p hop d

end Sys2Proof.Machine
end

