-- ==== Sys2Proof/Machine/NetSend.lean ====
section
/-! DEFINITION. TCP connections as they send, close and end; listeners and routes as the dictionary holds them
(R331-R338, R345, R348-R350). -/

set_option linter.unusedVariables false

namespace Sys2Proof.Machine

open Sys2Proof

/-! Listeners and routes. -/

/-- Dictionary number of a listener's entry (R349). -/
def lk (n sub : Nat) : Nat := dk (0x3400 + n) sub

def lisDomain (d : Dev) (n : Nat) : Nat := numOf 0 d (lk n 2)
def lisPort (d : Dev) (n : Nat) : Nat := numOf 0 d (lk n 3)
def lisProto (d : Dev) (n : Nat) : Nat := numOf 0 d (lk n 4)
def lisLocal (d : Dev) (n : Nat) : Nat := numOf 0 d (lk n 5)
def lisFraming (d : Dev) (n : Nat) : Nat := numOf 1 d (lk n 6)
def lisMaxConn (d : Dev) (n : Nat) : Nat := numOf 64 d (lk n 7)
def lisKeepalive (d : Dev) (n : Nat) : Nat := numOf 30 d (lk n 9)
def lisOf (d : Dev) (n : Nat) : Listener := lookD {} d.net.listeners n
def onLis (n : Nat) (f : Listener → Listener) (d : Dev) : Dev :=
  { d with net := { d.net with listeners := upd {} d.net.listeners n f } }

/-- A counter of R350. -/
def nk (sub : Nat) : Nat := dk 0x34F8 sub

/-- A route descriptor by field (R336). -/
structure Route where
  flags : Nat
  port : Nat
  listener : Nat
  domain : Nat
  rport : Nat
  addr : Bytes
  lport : Nat
  framing : Nat
  clen : Nat
  coff : Nat
  ttl : Nat
  resv : Nat

/-- Read a descriptor. -/
def Route.ofBytes (b : Bytes) : Route :=
  { flags := leAt b 0 1, port := leAt b 1 1, listener := leAt b 2 2, domain := leAt b 4 2, rport := leAt b 6 2,
    addr := padTo 16 (slice b 8 16), lport := leAt b 0x18 2, framing := leAt b 0x1A 1, clen := leAt b 0x1B 1,
    coff := leAt b 0x1C 2, ttl := leAt b 0x1E 1, resv := leAt b 0x1F 1 }

/-- A route as the dictionary holds it. -/
def routeOf (d : Dev) (r : Nat) : Route := Route.ofBytes (blobOf d (dk 0x34E0 0 + r))

def Route.valid (r : Route) : Bool := bitOf r.flags 0
def Route.udp (r : Route) : Bool := bitOf r.flags 1
def Route.v6 (r : Route) : Bool := bitOf r.flags 2

/-- Remote address in the length of its family. -/
def Route.remote (r : Route) : Bytes := if r.v6 then r.addr else r.addr.take 4

/-- An endpoint port: it exists and has ROLE 0 (R310, R333). -/
def endpoint (d : Dev) (p : Nat) : Bool := decide (p < 64) && !portFused d p && portRole d p == 0

/-- A descriptor is accepted (R336, R338): reserved fields zero, values in range. -/
def routeOk (d : Dev) (r : Route) : Bool :=
  r.flags / 8 == 0 && r.resv == 0 && decide (r.domain < 4096 ∧ r.framing ≤ 4 ∧ r.clen ≤ 16) &&
    (!r.valid || (decide (r.listener < 224) && lisDomain d r.listener == r.domain && endpoint d r.port &&
      (r.udp || !(r.framing == 0)) &&
      decide (r.coff + r.clen ≤ 16384) &&
      (r.clen == 0 || decide (8 ≤ r.coff ∧ 1 ≤ r.ttl ∧ r.ttl ≤ 120))))

/-! Connections. -/

def connOf (d : Dev) (c : Nat) : Option TcpConn := look d.net.conns c

/-- Change a connection. -/
def onConn (c : Nat) (f : TcpConn → TcpConn) (d : Dev) : Dev :=
  match look d.net.conns c with
  | none => d
  | some t => { d with net := { d.net with conns := ins d.net.conns c (f t) } }

/-- Length of a framing code's prefix (R338). -/
def prefixLen (framing : Nat) : Nat := if framing = 0 then 0 else if framing ≤ 2 then 2 else 4

/-- A decimal digit in ASCII. -/
def digit (n : Nat) : Byte := BitVec.ofNat 8 (0x30 + n % 10)

/-- The prefix of a message of `n` bytes (R338, R345). -/
def prefixOf (framing n : Nat) : Bytes :=
  match framing with
  | 0 => []
  | 1 => be 2 n
  | 2 => be 2 (n + 2)
  | 3 => be 4 n
  | _ => [digit (n / 1000), digit (n / 100), digit (n / 10), digit n]

/-- Free space of the 26 KiB receive buffer, which is the window advertised (R332). -/
def rcvWindow (t : TcpConn) : Nat :=
  26624 - (t.stream.length + (t.ooo.map (fun e => e.2.length)).foldl (· + ·) 0 +
    (t.held.map (fun b => prefixLen t.framing + b.length)).foldl (· + ·) 0)

/-- MSS the device advertises (R331). -/
def ourMss (d : Dev) (p : Nat) (v6 tagged : Bool) : Nat :=
  portMtu d p - 18 - (if macsecMode d p = 0 then 0 else 32) - (if v6 then 40 else 20) - 20 - (if tagged then 4 else 0)

/-- Timestamp clock of RFC 7323: 1 ms. -/
def tsNow (d : Dev) : Nat := w32 (d.tb.now / 1000000)

/-- The blocks held out of order, as SACK reports them, at most three. -/
def sackBlocks (t : TcpConn) : List (Nat × Nat) :=
  if t.sack then (t.ooo.take 3).map (fun e => (e.1, w32 (e.1 + e.2.length))) else []

/-- A segment of a connection from a sequence number. -/
def segment (d : Dev) (t : TcpConn) (seq flags : Nat) (data : Bytes) : Seg :=
  { sport := t.localPort, dport := t.peerPort, seq := seq, ack := t.rcvNxt, flags := flags, wnd := rcvWindow t,
    ts := t.tsRecent.map (fun e => (tsNow d, e)), sacks := sackBlocks t, data := data }

/-- Send a segment of a connection. -/
def sendSeg (t : TcpConn) (s : Seg) (vlan : Option Nat) (dscp : Nat) (tag : Option Nat) (d : Dev) : Dev :=
  sendIp t.port vlan { v6 := t.v6, src := t.localAddr, dst := t.peerAddr, proto := 6, dscp := dscp,
                       body := segBytes t.v6 t.localAddr t.peerAddr s } tag d

/-- Acknowledge at once. -/
def sendAck (c : Nat) (d : Dev) : Dev :=
  match connOf d c with
  | none => d
  | some t => sendSeg t (segment d t t.sndNxt 0x10 []) t.vlan 0 none d

/-- RST in answer to a segment that no connection takes (RFC 9293). -/
def sendRst (p : Nat) (vlan : Option Nat) (ip : Ip) (s : Seg) (d : Dev) : Dev :=
  let r : Seg := if s.isAck then { sport := s.dport, dport := s.sport, seq := s.ack, ack := 0, flags := 4, wnd := 0 }
    else { sport := s.dport, dport := s.sport, seq := 0,
           ack := w32 (s.seq + s.data.length + b2n s.syn + b2n s.fin), flags := 0x14, wnd := 0 }
  sendIp p vlan { v6 := ip.v6, src := ip.dst, dst := ip.src, proto := 6, dscp := 0,
                  body := segBytes ip.v6 ip.dst ip.src r } none d

/-- Bytes of sequence space sent and not acknowledged. -/
def inFlight (t : TcpConn) : Nat := seqSub t.sndNxt t.sndUna

/-- Data bytes in one segment. -/
def segRoom (t : TcpConn) : Nat := t.mss - (if t.tsRecent.isSome then 12 else 0)

/-- The next message end at or after a sequence number that a send would reach. -/
def markAfter (t : TcpConn) (seq : Nat) : Option SendMark := t.marks.find? (fun m => seqLt seq m.stop)

/-- Start the retransmission timer unless it runs. -/
def armTimer (now : Nat) (t : TcpConn) : TcpConn := if t.timer.isSome then t else { t with timer := some (now + t.rto) }

/-! Loss recovery (RFC 6675). Offsets are from sndUna. -/

/-- The stretches of [pos, stop) that no block covers; blocks in order. -/
def gapsFrom (stop : Nat) : Nat → List (Nat × Nat) → List (Nat × Nat)
  | pos, [] => if pos < stop then [(pos, stop)] else []
  | pos, (a, b) :: r => (if pos < min a stop then [(pos, min a stop)] else []) ++ gapsFrom stop (max pos b) r

/-- The blocks reported by SACK as offsets. -/
def sackOffsets (t : TcpConn) : List (Nat × Nat) := t.sacked.map (fun b => (seqSub b.1 t.sndUna, seqSub b.2 t.sndUna))

/-- Offset of the recovery point, after a timeout. -/
def lostTo (t : TcpConn) : Nat := if t.lost && seqLt t.sndUna t.recover then seqSub t.recover t.sndUna else 0

/-- The bytes in flight that no SACK has reported, in stretches that are lost or not as a whole. -/
def sackGaps (t : TcpConn) : List (Nat × Nat) :=
  let cut := min (lostTo t) (inFlight t)
  gapsFrom cut 0 (sackOffsets t) ++ gapsFrom (inFlight t) cut (sackOffsets t)

/-- A stretch counts as lost: three blocks above it, or more than two segments' bytes, have been reported, or a timeout has
passed. -/
def gapLost (t : TcpConn) (at_ : Nat) : Bool :=
  let above := (sackOffsets t).filter (fun b => decide (at_ < b.1))
  decide (at_ < lostTo t) || decide (3 ≤ above.length) ||
    decide (2 * t.mss < (above.map (fun b => b.2 - b.1)).foldl (· + ·) 0)

/-- Offset up to which recovery has sent again. -/
def resentTo (t : TcpConn) : Nat := if t.recovering && seqLt t.sndUna t.highRxt then seqSub t.highRxt t.sndUna else 0

/-- Bytes taken to be in the network. -/
def pipe (t : TcpConn) : Nat :=
  if !t.sack && !t.lost then inFlight t
  else ((sackGaps t).map (fun g =>
    (if gapLost t g.1 then 0 else g.2 - g.1) + (min g.2 (resentTo t) - g.1))).foldl (· + ·) 0

/-- Send again the segment at an offset, at most up to `stop`; FIN where only it is left, one byte into a closed window. -/
def resendAt (c off stop : Nat) (d : Dev) : Dev :=
  match connOf d c with
  | none => d
  | some t =>
    let seq := w32 (t.sndUna + off)
    let m := markAfter t seq
    let n := min (segRoom t) (min stop t.sendBuf.length - off)
    let n := min n (match m with | some m => seqSub m.stop seq | none => n)
    let finSent := t.state == .finWait1 || t.state == .closing || t.state == .lastAck
    let last := match m with | some m => seqSub m.stop seq == n | none => false
    let again := fun (k : Nat) (d : Dev) => onConn c (fun t => { t with highRxt := w32 (seq + k), rttAt := none }) d
    if n = 0 then
      if finSent then again 1 (sendSeg t (segment d t seq 0x11 []) t.vlan 0 none d)
      else if t.sendBuf.isEmpty then d
      else sendSeg t (segment d t t.sndUna 0x10 (t.sendBuf.take 1)) t.vlan 0 none d
    else
      again n (sendSeg t (segment d t seq (if last then 0x18 else 0x10) (slice t.sendBuf off n))
        ((m.map (fun m => m.vlan)).getD none) ((m.map (fun m => m.dscp)).getD 0) none d)

/-- A retransmission of the first segment not acknowledged. -/
def resend (c : Nat) (d : Dev) : Dev :=
  match connOf d c with
  | none => d
  | some t => resendAt c 0 (inFlight t) d

/-- Send one more segment, if the windows allow: no segment spans two messages, PSH stands on a message's last (R345).
The message's tag rides on the segment with its last byte (R23). FIN follows the data once it is queued. -/
def sendOne (c : Nat) (d : Dev) : Option Dev :=
  match connOf d c with
  | none => none
  | some t =>
    if !(t.state == .established || t.state == .closeWait) then none
    else
      let sent := inFlight t
      let unsent := t.sendBuf.length - sent
      if 0 < unsent then
        let room := min (t.cwnd - pipe t) (t.sndWnd - sent)
        let m := markAfter t t.sndNxt
        let want := min (min (segRoom t) unsent) (match m with | some m => seqSub m.stop t.sndNxt | none => unsent)
        if room = 0 ∨ (room < want ∧ 0 < sent) then
          (if sent = 0 ∧ t.timer.isNone then some (onConn c (armTimer d.tb.now) d) else none)
        else
          let n := min want room
          let last := match m with | some m => seqSub m.stop t.sndNxt == n | none => false
          let seg := segment d t t.sndNxt (if last then 0x18 else 0x10) (slice t.sendBuf sent n)
          let now := d.tb.now
          let next := w32 (t.sndNxt + n)
          let t' := armTimer now { t with
            sndNxt := next, rttAt := some (t.rttAt.getD (next, now)), lastActive := now,
            marks := t.marks.map (fun x => if last && x.stop == next then { x with tag := none } else x) }
          let tag := if last then m.bind (fun m => m.tag) else none
          some (sendSeg t' seg ((m.map (fun m => m.vlan)).getD none) ((m.map (fun m => m.dscp)).getD 0) tag
            (onConn c (fun _ => t') d))
      else if t.finQueued && t.waiting.isEmpty then
        let now := d.tb.now
        let t' := armTimer now { t with
          sndNxt := w32 (t.sndNxt + 1), state := if t.state == .established then .finWait1 else .lastAck }
        some (sendSeg t' (segment d t t.sndNxt 0x11 []) t.vlan 0 none (onConn c (fun _ => t') d))
      else none

/-- Send what the windows allow. -/
def tcpOutput (c : Nat) : Nat → Dev → Dev
  | 0, d => d
  | n + 1, d =>
    match sendOne c d with
    | none => d
    | some d => tcpOutput c n d

/-- Send all that may go. -/
def pump (c : Nat) (d : Dev) : Dev := tcpOutput c 32768 d

/-- In recovery, while the window has room for a segment: first what is lost and not yet sent again, then new data, then
what lies below a block reported (RFC 6675). -/
def recoverOut (c : Nat) : Nat → Dev → Dev
  | 0, d => d
  | n + 1, d =>
    match connOf d c with
    | none => d
    | some t =>
      if !t.recovering || decide (t.cwnd < pipe t + t.mss) then d
      else
        let todo := (sackGaps t).filter (fun g => decide (resentTo t < g.2))
        let send := fun (g : Nat × Nat) => recoverOut c n (resendAt c (max g.1 (resentTo t)) g.2 d)
        match todo.find? (fun g => gapLost t g.1) with
        | some g => send g
        | none => match sendOne c d with
          | some d => recoverOut c n d
          | none => match todo.find? (fun g => (sackOffsets t).any (fun b => decide (g.1 < b.1))) with
            | some g => send g
            | none => d

/-- A message dropped at egress, counted (R343-R345, R23). -/
def dropOut (sub : Nat) (tag : Option Nat) (d : Dev) : Dev :=
  let d := bump (nk sub) d
  match tag with
  | some t => endMsg t d
  | none => d

/-- Put outputs that fit into the send buffer, oldest first. -/
def fillBuffer (c : Nat) : Nat → Dev → Dev
  | 0, d => d
  | n + 1, d =>
    match connOf d c with
    | none => d
    | some t =>
      match t.waiting with
      | [] => d
      | w :: r =>
        if 32768 < t.sendBuf.length + w.bytes.length then d
        else
          let stop := w32 (t.sndUna + t.sendBuf.length + w.bytes.length)
          fillBuffer c n (onConn c (fun t => { t with
            waiting := r, sendBuf := t.sendBuf ++ w.bytes,
            marks := t.marks ++ [{ stop := stop, tag := w.tag, vlan := w.vlan, dscp := w.dscp }] }) d)

/-- Send a message on a connection (R345): it waits where the send buffer has no room for it. -/
def sendMessage (c : Nat) (b : Bytes) (tag vlan : Option Nat) (dscp : Nat) (d : Dev) : Dev :=
  match connOf d c with
  | none => dropOut 0x0D tag d
  | some t =>
    if !(t.state == .established || t.state == .closeWait) || t.finQueued then dropOut 0x0D tag d
    else
      let w : SendWait := { bytes := prefixOf t.framing b.length ++ b, since := d.tb.now, tag := tag, vlan := vlan,
                            dscp := dscp }
      pump c (fillBuffer c 256 (onConn c (fun t => { t with waiting := t.waiting ++ [w] }) d))

/-! The end of a connection. -/

/-- A route whose connection has ended waits before it is opened again: 1 s, doubled to at most 32 s, and 1 s again
after a connection that stood established for 60 s (R337). -/
def routeLost (r : Nat) (long : Bool) (d : Dev) : Dev :=
  let now := d.tb.now
  { d with net := { d.net with routes := upd {} d.net.routes r (fun x =>
      let w := if long then 1 else x.wait
      { x with conn := none, wait := min 32 (2 * w), at_ := some (now + sec w) }) } }

/-- A connection leaves the table; its number is free again under the next incarnation. -/
def removeConn (c : Nat) (d : Dev) : Dev :=
  match connOf d c with
  | none => d
  | some t =>
    let d := { d with net := { d.net with
      conns := del d.net.conns c, connIncs := put 0 d.net.connIncs c (t.inc + 1),
      connFree := FreeList.give d.net.connFree c } }
    match t.route with
    | none => d
    | some r =>
      if (lookD {} d.net.routes r).conn == some c then
        routeLost r (!(t.state == .synSent) && decide (t.stateAt + sec 60 ≤ d.tb.now)) d
      else d

/-- What a connection that ends at once leaves undone: held and partial messages, and messages waiting to be sent, are
counted in CONN_GONE_DROPS (R348). -/
def discardConn (c : Nat) (d : Dev) : Dev :=
  match connOf d c with
  | none => d
  | some t =>
    let d := bumpBy (t.held.length + (if t.stream.isEmpty then 0 else 1)) (nk 0x0D) d
    let tags := t.marks.filterMap (fun m => m.tag) ++ t.waiting.filterMap (fun w => w.tag)
    let d := removeConn c d
    tags.foldl (fun d t => dropOut 0x0D (some t) d) d

/-- Send RST and drop a connection. -/
def resetConn (c : Nat) (d : Dev) : Dev :=
  match connOf d c with
  | none => d
  | some t =>
    let s := segment d t t.sndNxt 0x14 []
    discardConn c (sendSeg t { s with wnd := 0, sacks := [] } t.vlan 0 none d)

/-- Abort (R331): RST is sent and the connection counted in CONN_ABORTED. -/
def abortConn (c : Nat) (d : Dev) : Dev := bump (nk 4) (resetConn c d)

/-- Messages of a connection still in the strings. -/
def connBusy (d : Dev) (c inc : Nat) : Bool := d.rig.msgs.any (fun m => m.2.origin.conn == some (c, inc) && !m.2.released)

/-- Queue FIN behind what is to be sent. -/
def queueFin (c : Nat) (d : Dev) : Dev := pump c (onConn c (fun t => { t with finQueued := true }) d)

/-- Connections that close after their last release send FIN once nothing of them is held, in flight or waiting
(R348). -/
def finishCloses (d : Dev) : Dev :=
  d.net.conns.foldl (fun d e =>
    let t := e.2
    if t.closeAfter && !t.finQueued && t.held.isEmpty && t.waiting.isEmpty &&
        (t.state == .established || t.state == .closeWait) && !connBusy d e.1 t.inc then queueFin e.1 d
    else d) d

/-! Opening. -/

/-- Connections and half-open connections of a listener, its own and not a route's (R334, R337). -/
def lisConns (d : Dev) (n : Nat) : Nat := (d.net.conns.filter (fun e => e.2.listener == n && e.2.route.isNone)).length

/-- The transport's DRBG instance of a port's yard die (R331, R468). -/
def isnInst (p : Nat) : Nat := 117 + p / 32

/-- Create a connection with a fresh initial sequence number; none where the table is full or no random number can be
drawn. -/
def newConn (t : TcpConn) (d : Dev) : Option (Nat × Dev) :=
  if 32768 ≤ d.net.conns.length then none
  else match draw (isnInst t.port) 4 d with
  | none => none
  | some (r, d) =>
    match FreeList.take 32768 d.net.connFree with
    | none => none
    | some (c, free) =>
      let iss := leVal r
      let now := d.tb.now
      let t := { t with inc := lookD 0 d.net.connIncs c, iss := iss, sndUna := iss, sndNxt := w32 (iss + 1),
                        created := now, stateAt := now, lastActive := now, timer := some (now + t.rto) }
      some (c, { d with net := { d.net with conns := ins d.net.conns c t, connFree := free } })

/-- SYN, or SYN-ACK, with the device's options (R331). -/
def sendSyn (c : Nat) (d : Dev) : Dev :=
  match connOf d c with
  | none => d
  | some t =>
    let active := t.state == .synSent
    let ts := if active then some (tsNow d, 0) else t.tsRecent.map (fun e => (tsNow d, e))
    let s : Seg := { sport := t.localPort, dport := t.peerPort, seq := t.iss, ack := if active then 0 else t.rcvNxt,
                     flags := if active then 2 else 0x12, wnd := rcvWindow t,
                     mss := some (ourMss d t.port t.v6 t.vlan.isSome), shift := if active || !(t.peerShift == 15) then some 0 else none,
                     sackOk := active || t.sack, ts := ts }
    sendSeg t s t.vlan 0 none d

/-- A route keeps a connection open now: valid, TCP, its port up, its listener enabled (R337). -/
def routeOpens (d : Dev) (r : Nat) : Bool :=
  let x := routeOf d r
  x.valid && !x.udp && portUp d x.port && (lisOf d x.listener).state == 1

/-- The local port a route takes (R336). -/
def takeLocalPort (lport : Nat) (d : Dev) : Nat × Dev :=
  if lport = 0 then
    let p := d.net.nextPort
    (p, { d with net := { d.net with nextPort := if p = 65535 then 49152 else p + 1 } })
  else (lport, d)

/-- Open a route's connection; where none can be created the wait starts again. -/
def openRoute (r : Nat) (d : Dev) : Dev :=
  let x := routeOf d r
  let (lp, d) := takeLocalPort x.lport d
  let t : TcpConn := { inc := 0, state := .synSent, port := x.port, v6 := x.v6,
                       localAddr := sourceFor d x.port x.v6 x.remote, localPort := lp, peerAddr := x.remote,
                       peerPort := x.rport, listener := x.listener, route := some r, framing := x.framing, peerShift := 15 }
  match newConn t d with
  | none => routeLost r false d
  | some (c, d) =>
    let d := { d with net := { d.net with routes := upd {} d.net.routes r (fun y => { y with conn := some c, at_ := none }) } }
    sendSyn c d

/-- Routes that may be open, have no connection and wait for none are opened (R337). -/
def openRoutes (d : Dev) : Dev :=
  let rs := (d.dict.blobs.filter (fun e => decide (dk 0x34E0 0 ≤ e.1 ∧ e.1 < dk 0x34F0 0))).map (fun e => e.1 - dk 0x34E0 0)
  rs.foldl (fun d r =>
    let x := lookD {} d.net.routes r
    if x.conn.isNone && x.at_.isNone && routeOpens d r then openRoute r d else d) d

end Sys2Proof.Machine
end

