-- ==== Sys2Proof/Machine/RigImage.lean ====
section
/-! DEFINITION. What admission verifies of a rig image (R257-R272, R279, R281-R285), and placing it on the strings
(R283, R286). A check answers the byte offset of the first fault it finds. -/

set_option linter.unusedVariables false

namespace Sys2Proof.Machine

open Sys2Proof

/-- The offset of the first of a list of conditions that does not hold. -/
def firstBad : List (Bool × Nat) → Option Nat
  | [] => none
  | (ok, o) :: r => if ok then firstBad r else some o

/-- The first fault of a list of checks. -/
def firstOf : List (Option Nat) → Option Nat
  | [] => none
  | some o :: _ => some o
  | none :: r => firstOf r

/-! Sections. -/

/-- The directory entry of a section. -/
def dirOf (img : RigImage) (typ cls idx : Nat) : Option RigDir :=
  img.dir.find? (fun e => e.typ == typ && e.cls == cls && e.index == idx)

/-- Where a section stands. -/
def secOff (img : RigImage) (typ cls idx : Nat) : Nat := ((dirOf img typ cls idx).map (fun e => e.offset)).getD 0

/-- Length of a section the directory must give, from its contents (R258-R284). -/
def secLen (img : RigImage) (e : RigDir) : Option Nat :=
  if e.typ = 0x0001 then some (4 + 32 * img.rules.length)
  else if e.typ = 0x00F0 then some (8 + 3416 * img.sigs.length)
  else match img.classes.find? (fun c => c.cls == e.cls) with
  | none => none
  | some c =>
    match e.typ with
    | 0x0010 => some 40
    | 0x0011 => some (8 * c.parse.length)
    | 0x0012 => some (8 * c.fields.length)
    | 0x0013 => (c.routes.find? (fun r => r.idx == e.index)).map (fun r => 16 + 128 * 2 ^ r.k)
    | 0x0014 => some (32 * c.slices.length)
    | 0x0015 => some (4 * c.code.length)
    | 0x0016 => some c.data.length
    | 0x0017 => c.emit.map (fun s => 8 * s.length)
    | _ => none

/-- The number of directory entries of a type and class. -/
def dirCount (img : RigImage) (typ cls : Nat) : Nat := (img.dir.filter (fun e => e.typ == typ && e.cls == cls)).length

/-- Header and directory (R257, R258). -/
def dirFault (img : RigImage) : Option Nat :=
  let n := img.dir.length
  let top := 64 + 16 * n
  let entry := fun (i : Nat) (e : RigDir) =>
    let image := e.typ == 0x0001 || e.typ == 0x00F0
    let disjoint := ((List.range i).zip img.dir).all (fun x => !spansMeet (x.2.offset, x.2.length) (e.offset, e.length))
    (e.resv == 0 && e.offset % 8 == 0 && decide (top ≤ e.offset ∧ e.offset + e.length ≤ img.len) && disjoint &&
      (if image then e.cls == 0xFF else decide (e.cls < img.classCount)) &&
      (if e.typ == 0x0013 then decide (e.index ≤ 3) else e.index == 0) &&
      secLen img e == some e.length, 64 + 16 * i)
  firstBad ([(img.magic == 0x49525843, 0), (decide (3 ≤ n ∧ n ≤ 1024), 6), (decide (img.domain < 4096), 8),
      (decide (1 ≤ img.classCount ∧ img.classCount ≤ 32) && img.classes.length == img.classCount, 0xA),
      (img.resv == 0, 0xB), (decide (1 ≤ img.version), 0xC), (img.lenOk, 0x10)] ++
    ((List.range n).zip img.dir).map (fun e => entry e.1 e.2) ++
    [(dirCount img 0x0001 0xFF == 1 && dirCount img 0x00F0 0xFF == 1, 64),
     ((match img.dir.getLast? with | some e => e.typ == 0x00F0 && e.offset + e.length == img.len | none => false), 64)] ++
    ((List.range img.classes.length).zip img.classes).map (fun e =>
      let c := e.2
      (c.cls == e.1 && [0x0010, 0x0011, 0x0012, 0x0014, 0x0015].all (fun t => dirCount img t c.cls == 1) &&
        dirCount img 0x0013 c.cls == c.routes.length && decide (c.routes.length ≤ 4) &&
        (c.routes.map (fun r => r.idx)).eraseDups.length == c.routes.length &&
        dirCount img 0x0016 c.cls == (if c.data.isEmpty then dirCount img 0x0016 c.cls else 1) &&
        decide (dirCount img 0x0016 c.cls ≤ 1) &&
        dirCount img 0x0017 c.cls == b2n c.emit.isSome, 64)))

/-- The classifier (R261). -/
def classifierFault (img : RigImage) : Option Nat :=
  let o := secOff img 1 0xFF 0
  let classOk := fun (c : Nat) => c == 0xFF || decide (c < img.classCount)
  firstBad ((decide (img.rules.length ≤ 64) && classOk img.default && img.ruleResv == 0, o) ::
    ((List.range img.rules.length).zip img.rules).map (fun e =>
      (e.2.resv == 0 && classOk e.2.cls && decide (e.2.tests.length ≤ 2) &&
        e.2.tests.all (fun t => t.mask.length == 4 && t.value.length == 4), o + 4 + 32 * e.1)))

/-- KIND, PFX, MIN and MAX of a step (R263). -/
def stepOk (s : RigStep) : Bool :=
  match s.kind with
  | 1 => s.min == s.max
  | 2 => decide (1 ≤ s.pfx ∧ s.pfx ≤ 3)
  | 3 => decide (1 ≤ s.pfx ∧ s.pfx ≤ 2)
  | 4 => decide (1 ≤ s.pfx ∧ s.pfx ≤ 4)
  | 5 => true
  | 6 => true
  | _ => false

def isBitmap (s : RigStep) : Bool := s.kind == 5 || s.kind == 6

/-- The PARSE section (R263). -/
def parseFault (img : RigImage) (c : RigClass) : Option Nat :=
  let o := secOff img 0x11 c.cls 0
  firstBad ((decide (c.parse.length ≤ 255 ∧ (c.parse.filter isBitmap).length ≤ 1), o) ::
    ((List.range c.parse.length).zip c.parse).map (fun e =>
      let s := e.2
      (stepOk s && (s.entry == 0xFF || decide (s.entry < c.fields.length)) &&
        (s.cond == 0 || (decide (2 ≤ s.cond ∧ s.cond ≤ 128) && (c.parse.take e.1).any isBitmap)), o + 8 * e.1)))

/-- The FIELDMAP section (R264). -/
def fieldFault (img : RigImage) (c : RigClass) : Option Nat :=
  let o := secOff img 0x12 c.cls 0
  firstBad ((decide (c.fields.length ≤ 256), o) ::
    ((List.range c.fields.length).zip c.fields).map (fun e =>
      let f := e.2
      (f.resv == 0 && f.flags / 4 == 0 && decide (8 ≤ f.dest ∧ f.dest + f.max ≤ c.descOff) &&
        (c.fields.take e.1).all (fun g => !spansMeet (g.dest, g.max) (f.dest, f.max)), o + 8 * e.1)))

/-- The place of an entry in its bucket. -/
def bucketPos (r : RigRoute) (i : Nat) (e : RouteEntry) : Nat :=
  ((r.entries.take i).filter (fun x => x.bucket == e.bucket)).length

/-- A ROUTE section (R269). -/
def routeFault (img : RigImage) (c : RigClass) (r : RigRoute) : Option Nat :=
  let o := secOff img 0x13 c.cls r.idx
  firstBad ((decide (r.entry < c.fields.length ∧ 1 ≤ r.klen ∧ r.klen ≤ 16 ∧ r.k ≤ 10 ∧ r.miss ≤ 1) && r.resv == 0, o) ::
    ((List.range r.entries.length).zip r.entries).map (fun x =>
      let e := x.2
      let key := padTo r.klen e.key
      (decide (e.bucket < 2 ^ r.k ∧ bucketPos r x.1 e < 4) && e.key.length == 16 && e.resv == 0 &&
        (e.key.drop r.klen).all (fun b => b == 0#8) &&
        (!e.valid || (crc32c key % 2 ^ r.k == e.bucket &&
          (r.entries.take x.1).all (fun y => !(y.valid && y.key == e.key)))),
        o + 16 + 128 * e.bucket + 32 * bucketPos r x.1 e)))

/-- The SLICES section (R272). -/
def sliceFault (img : RigImage) (c : RigClass) : Option Nat :=
  let o := secOff img 0x14 c.cls 0
  firstBad ((decide (1 ≤ c.slices.length ∧ c.slices.length ≤ 32) && (c.slices.filter RigSlice.isFinal).length == 1 &&
      decide ((c.slices.filter RigSlice.isEmit).length ≤ 1), o) ::
    ((List.range c.slices.length).zip c.slices).map (fun e =>
      let s := e.2
      (decide (s.slot ≤ 15) && s.flags / 8 == 0 && s.resv == 0 && decide (s.jslots < 256) &&
        (List.range 8).all (fun b => !bitOf s.handoff b || bitOf s.jslots b) && decide (s.handoff < 256) &&
        decide (s.deps < 2 ^ e.1) && s.codeOff % 4 == 0 && s.codeLen % 4 == 0 &&
        decide (s.codeOff + s.codeLen ≤ 4 * c.code.length), o + 32 * e.1)))

/-- The EMIT section (R279). -/
def emitFault (img : RigImage) (c : RigClass) : Option Nat :=
  match c.emit with
  | none => none
  | some steps =>
    let o := secOff img 0x17 c.cls 0
    firstBad ((decide (steps.length ≤ 255), o) :: ((List.range steps.length).zip steps).map (fun e =>
      (stepOk e.2 && e.2.cond == 0 && (decide (e.2.entry < c.fields.length) || isBitmap e.2), o + 8 * e.1)))

/-- The class header (R259, R267). -/
def classFault (img : RigImage) (c : RigClass) : Option Nat :=
  let o := secOff img 0x10 c.cls 0
  let rej := img.classes.find? (fun x => x.cls == c.reject)
  firstBad [(c.reject == 0xFF || (!(c.reject == c.cls) && (match rej with | some r => decide (r.j ≤ c.j) | none => false)),
      o + 1), (decide (c.j ≤ 64), o + 2), (c.resv == 0, o + 3), (c.faLen % 64 == 0, o + 0xC),
      (c.descOff % 8 == 0 && decide (c.descOff + 4 * c.fields.length ≤ c.faLen), o + 0xE), (c.scratch % 64 == 0, o + 0x16),
      (c.dataLen % 64 == 0 && decide (c.data.length ≤ c.dataLen), o + 0x18), (c.hbmLen % 64 == 0, o + 0x1C)]

/-- Order 2 of R285: structure. -/
def structureFault (img : RigImage) : Option Nat :=
  firstOf ([dirFault img, classifierFault img] ++ (img.classes.map (fun c =>
    firstOf ([classFault img c, parseFault img c, fieldFault img c] ++ c.routes.map (routeFault img c) ++
      [sliceFault img c, emitFault img c]))) ++
    [firstBad [(decide (1 ≤ img.sigs.length ∧ img.sigs.length ≤ 5) && img.sigResv == 0 && img.sigs.all (fun s => s.resv == 0),
      secOff img 0xF0 0xFF 0)]])

/-- Order 3 of R285: sizes. -/
def sizesOk (img : RigImage) : Bool :=
  decide (img.len ≤ 16 * 2 ^ 20) && img.classes.all (fun c =>
    decide (1 ≤ c.msgMax ∧ c.msgMax ≤ 16384 ∧ 1 ≤ c.outMax ∧ c.outMax ≤ 16384 ∧ 64 ≤ c.faLen ∧ c.faLen ≤ 16384 ∧
      1 ≤ c.depth ∧ c.depth ≤ 256 ∧ 64 ≤ c.scratch ∧ c.scratch ≤ 8192 ∧ c.dataLen ≤ 131072 ∧ c.hbmLen ≤ 64 * 2 ^ 20))

/-! Code (R281, R282). -/

/-- Cycles a memory access is charged: scratch by R203, 20 for string memory, 640 for the HBM window. An access whose
address the instruction does not give is charged as string memory. -/
def accessCycles (mode : Nat) (e : Bool) (ext : Nat) : Nat :=
  if mode = 0 ∧ e = true then
    match spaceOf ext with
    | .scratch => 2
    | .hbm => 640
    | _ => 20
  else 20

/-- What the verifier reads of one instruction: its words, the cycles counted, and what it does with job slots. -/
structure CodeOp where
  len : Nat
  cycles : Nat
  job : Option Nat := none
  wait : Option Nat := none
  call : Bool := false
  rep : Nat := 0
  repu : Bool := false

/-- An allowed instruction whose encoding obeys R204-R206, or none (R281). -/
def codeOp (w ext : Nat) : Option CodeOp :=
  let op := fieldOf w 26 6
  let e := bitOf w 25
  let rd := fieldOf w 21 4
  let ra := fieldOf w 17 4
  let rb := fieldOf w 13 4
  let sub := fieldOf w 8 5
  let aux := fieldOf w 0 8
  let imm := fieldOf w 0 16
  let one : CodeOp := { len := 1, cycles := 1 }
  let n := if e then 2 else 1
  if op = 0x01 then
    if e ∨ 0x18 < sub ∨ (sub = 0x11 ∧ rd ≠ 0) then none
    else some { one with cycles := if sub = 0x0E ∨ sub = 0x0F then 3 else if sub = 0x10 then 36 else 1 }
  else if 0x02 ≤ op ∧ op ≤ 0x07 ∨ op = 0x09 ∨ op = 0x0A then
    if bitOf w 16 ∨ (e ∧ imm ≠ 0) ∨ (op = 0x06 ∧ ra ≠ 0) ∨ (op = 0x07 ∧ rd ≠ 0) ∨ (op = 0x0A ∧ ra ≠ 0) ∨
        (op = 0x09 ∧ (8 ≤ rd ∨ 8 ≤ ra)) ∨ (op = 0x0A ∧ 8 ≤ rd) then none
    else some { one with len := n }
  else if op = 0x08 then
    let aRd := decide (rd < 8)
    let aRa := decide (ra < 8)
    let aRb := decide (rb < 8)
    let ok := match sub with
      | 0 => aRd && aRa
      | 1 => aRd
      | 2 => aRa
      | 3 => aRd && aRa && aRb
      | 4 => aRd && aRa && aRb
      | 5 => aRa && aRb
      | _ => false
    if e || !ok then none else some one
  else if 0x10 ≤ op ∧ op ≤ 0x1B then
    let mode := fieldOf w 16 2
    if mode = 3 ∨ (mode = 0 ∧ fieldOf w 18 3 ≠ 0) ∨ (e ∧ imm ≠ 0) ∨ (mode = 2 ∧ e) ∨
        ((op = 0x18 ∨ op = 0x19) ∧ 8 ≤ rd) ∨ (0x1A ≤ op ∧ 4 ≤ rd) then none
    else some { len := n, cycles := accessCycles mode e ext }
  else if op = 0x1C ∨ op = 0x1D then
    let max := fieldOf w 10 6 + 1
    if e ∨ 32 < max ∨ (op = 0x1D ∧ bitOf w 9) then none else some { one with cycles := 20 + ((max + 7) / 8 - 1) }
  else if op = 0x20 then
    let x := fun (r : Nat) => decide (r < 4)
    let ok := match sub with
      | 0x00 => x rd && x ra
      | 0x06 => x ra && x rb
      | 0x07 => x ra && x rb
      | 0x09 => x rd
      | 0x0A => x ra
      | 0x0B => x rd && x ra
      | 0x0C => x rd && x ra
      | 0x0D => x rd
      | 0x0E => x rd
      | 0x0F => x rd && x ra
      | 0x10 => true
      | s => decide (s ≤ 0x10) && x rd && x ra && x rb
    if e || !ok then none else some one
  else if op = 0x30 then (if !e || !(fieldOf w 0 17 == 0) then none else some { len := 2, cycles := 0 })
  else if op = 0x31 then (if e || !(fieldOf w 0 20 == 0) then none else some one)
  else if op = 0x32 then (if e || !(fieldOf w 0 17 == 0) then none else some { one with cycles := 0 })
  else if op = 0x33 then
    (if e || bitOf w 24 || !(fieldOf w 16 4 == 0) then none else some { one with rep := imm + 1 })
  else if op = 0x34 then
    (if e || !(fieldOf w 6 19 == 0) then none else some { one with rep := fieldOf w 0 6 + 2, repu := true })
  else if op = 0x36 then (if e || !(fieldOf w 12 9 == 0) then none else some { one with cycles := 2 })
  else if op = 0x38 then
    (if e || !(fieldOf w 0 3 == 0) then none else some { one with cycles := 4, job := some (fieldOf w 22 3) })
  else if op = 0x39 then
    (if e || !(fieldOf w 8 3 == 0) then none else some { one with cycles := 2, job := some (fieldOf w 12 3) })
  else if op = 0x3A then
    (if e || !(fieldOf w 3 18 == 0) then none else some { one with cycles := 0, wait := some (fieldOf w 0 3) })
  else if op = 0x3C then
    (if e || !(fieldOf w 12 9 == 0) || !userReads (fieldOf w 0 12) then none else some { one with cycles := 2 })
  else if op = 0x3D then
    (if e || !(fieldOf w 12 9 == 0) || !(fieldOf w 0 12 == 1) then none else some { one with cycles := 2 })
  else if op = 0x3E then
    if e then none
    else match sub with
    | 0 => some one
    | 3 => some one
    | 6 => if aux = 1 then some { one with cycles := 4, call := true } else none
    | _ => none
  else none

/-- The walk over a slice's words: job slots issued and not waited on, jobs so far, cycles so far, and the repeat in
force, as count plus one and whether it is uninterruptible. -/
structure CodeWalk where
  open_ : List Nat := []
  jobs : Nat := 0
  cycles : Nat := 0
  rep : Nat := 0
  repu : Bool := false

/-- Walk a slice's code: the walk at its end, or the index of the first word at fault (R281). `s` names the slots it may
use. Code handed over a slot by an earlier slice is waited on before any issue on it (R277). -/
def walkCode (s : RigSlice) : Nat → Nat → List Nat → CodeWalk → Except Nat CodeWalk
  | 0, i, _, _ => .error i
  | _ + 1, i, [], _ => .error i
  | n + 1, i, w :: rest, k =>
    match codeOp w (rest.headD 0) with
    | none => .error i
    | some o =>
      let op := fieldOf w 26 6
      let times := if k.rep = 0 then 1 else k.rep - 1
      let cycles := k.cycles + times * o.cycles
      if !(k.rep == 0) && (repForbidden op || (k.repu && !repuAllowed op)) then .error i
      else if o.call then
        if rest.isEmpty ∧ k.open_.all (fun j => bitOf s.handoff j) then .ok { k with cycles := cycles } else .error i
      else match o.job with
      | some j =>
        if !bitOf s.jslots j || has k.open_ j || decide (1 < times) then .error i
        else walkCode s n (i + 1) rest { k with open_ := k.open_ ++ [j], jobs := k.jobs + 1, cycles := cycles, rep := 0 }
      | none =>
        if o.len = 2 ∧ rest.isEmpty then .error i
        else
          walkCode s n (i + o.len) (rest.drop (o.len - 1))
            { k with open_ := match o.wait with | some j => without k.open_ j | none => k.open_,
                     cycles := cycles, rep := o.rep, repu := o.repu }

/-- The code and timing of a class (R281, R282). -/
def codeFault (img : RigImage) (c : RigClass) : Option Nat :=
  let co := secOff img 0x15 c.cls 0
  let so := secOff img 0x14 c.cls 0
  let sl := (List.range c.slices.length).zip c.slices
  let emitFab := 22 + 2 * ((c.emit.map (fun e => e.length)).getD 0)
  let emitStop := ((c.slices.find? RigSlice.isEmit).map (fun s => s.start + s.span)).getD 0
  firstOf (sl.map (fun e =>
    let s := e.2
    let words := (c.code.drop (s.codeOff / 4)).take (s.codeLen / 4)
    match walkCode s (words.length + 1) 0 words {} with
    | .error i => some (co + s.codeOff + 4 * i)
    | .ok k => firstBad [
        (k.jobs == s.jobs, so + 32 * e.1 + 0x18),
        (decide (k.cycles ≤ s.span), so + 32 * e.1 + 0xC),
        (sl.all (fun x => !bitOf s.deps x.1 || decide (x.2.start + x.2.span ≤ s.start)), so + 32 * e.1 + 8),
        (!s.afterEmit || decide (emitStop + (19 * emitFab + 7) / 8 ≤ s.start), so + 32 * e.1 + 8),
        ((sl.take e.1).all (fun x => !(x.2.slot == s.slot) || !spansMeet (x.2.start, x.2.span) (s.start, s.span)),
          so + 32 * e.1),
        (!s.isFinal || decide (s.start + s.span ≤ c.w), so + 32 * e.1 + 0xC)]) ++
    [firstBad [((c.slices.map (fun s => s.jobs)).foldl (· + ·) 0 == c.j, secOff img 0x10 c.cls 0 + 2)]])

/-- Order 7 of R285. -/
def verifyFault (img : RigImage) : Option Nat := firstOf (img.classes.map (codeFault img))

/-- Order 8 of R285: every nonzero handle resolves for the domain. -/
def handleFault (d : Dev) (img : RigImage) : Option Nat :=
  let ok := fun (h : Nat) => h == 0 || (match resolve d.ks false img.domain h with | .ok _ => true | .error _ => false)
  firstOf (img.classes.map (fun c => firstOf (c.routes.map (fun r =>
    let o := secOff img 0x13 c.cls r.idx
    firstBad ([(ok r.defHandle, o + 8), (ok r.defHandle2, o + 12)] ++
      (((List.range r.entries.length).zip r.entries).map (fun x =>
        let at_ := o + 16 + 128 * x.2.bucket + 32 * bucketPos r x.1 x.2
        [(ok x.2.handle, at_ + 0x14), (ok x.2.handle2, at_ + 0x18)])).flatten)))))

/-- Order 5 of R285: at least M distinct domain officers of DOMAIN signed, both signatures verifying (R284). -/
def signed (d : Dev) (img : RigImage) : Bool :=
  let good := img.sigs.filter (fun s => s.mldsaOk && s.ecdsaOk && (match look d.cust.officers s.officer with
    | some o => !o.revoked && o.role == .domainOfficer && o.domain == img.domain
    | none => false))
  decide (scopeM d (.domain img.domain) ≤ (good.map (fun s => s.officer)).eraseDups.length)

/-! Placement (R286). -/

/-- Round up to 64. -/
def r64 (n : Nat) : Nat := (n + 63) / 64 * 64

/-- The lowest place for `n` bytes in [lo, hi) that misses every used span: at its start or at the end of a span. -/
def firstFit (lo hi n : Nat) (used : List (Nat × Nat)) : Option Nat :=
  let spots := lo :: used.map (fun u => r64 (u.1 + u.2))
  minBy? (fun a => a) (spots.filter (fun a => decide (lo ≤ a ∧ a + n ≤ hi) && used.all (fun u => !spansMeet u (a, n))))

/-- Bytes a class takes of a string's general data memory; every area starts on a 64-byte line. -/
def dataRoom (c : RigClass) : Nat :=
  r64 (c.depth * c.msgMax) + r64 (c.depth * c.outMax) + c.depth * c.faLen + c.depth * 128 + c.dataLen +
    (c.routes.map (fun r => r64 (16 + 128 * 2 ^ r.k))).foldl (· + ·) 0

/-- A class in place with its image. -/
structure Placed where
  cls : RigClass
  at_ : ClassPlace

/-- Every class in place in the device, images being drained included. -/
def placedOf (e : RigEntry) : List Placed :=
  e.places.filterMap (fun p => (e.img.classes.find? (fun c => c.cls == p.cls)).map (fun c => { cls := c, at_ := p }))

def allPlaced (d : Dev) : List Placed :=
  (d.rig.domains.map (fun e => ((e.2.current.toList ++ e.2.draining).map placedOf).flatten)).flatten

/-- HBM data of the classes in place: one span for each class. -/
def hbmUsed (ps : List Placed) : List (Nat × Nat) := ps.map (fun p => (p.at_.hbmBase, r64 p.cls.hbmLen))

/-- Place one class on one string. -/
def placeOne (c : RigClass) (string hbm : Nat) (ps : List Placed) : Option ClassPlace :=
  let here := ps.filter (fun p => p.at_.string == string)
  let code := firstFit 0x201000 0x270000 (4 * c.code.length) (here.map (fun p => (p.at_.codeBase, 4 * p.cls.code.length)))
  let img := firstBelow 64 (fun k => !here.any (fun p => p.at_.image == k))
  let dat := firstFit 0x100000 0x1F0000 (dataRoom c) (here.map (fun p => (p.at_.msgBase, dataRoom p.cls)))
  let scr := firstFit 0 0x8000 c.scratch (here.map (fun p => (p.at_.scrBase, p.cls.scratch)))
  match code, img, dat, scr with
  | some code, some img, some m, some scr =>
    let o := m + r64 (c.depth * c.msgMax)
    let f := o + r64 (c.depth * c.outMax)
    let x := f + c.depth * c.faLen
    let t := x + c.depth * 128
    some { string := string, cls := c.cls, codeBase := code, image := img, msgBase := m, outBase := o, faBase := f,
           ctxBase := x, dataBase := t, routeBase := t + c.dataLen, scrBase := scr, hbmBase := hbm }
  | _, _, _, _ => none

/-- Strings that exist on the variant (R2, R3). -/
def stringExists (d : Dev) (s : Nat) : Bool := decide (s < (if d.life.variantH then 16 else 32))

/-- The strings a class is placed on. -/
def classStrings (c : RigClass) : List Nat := (List.range 32).filter (fun s => bitOf c.strings s)

/-- Place a class on a list of strings. -/
def placeOn (c : RigClass) (hbm : Nat) : List Nat → List Placed → List ClassPlace → Option (List Placed × List ClassPlace)
  | [], ps, out => some (ps, out)
  | s :: r, ps, out =>
    match placeOne c s hbm ps with
    | none => none
    | some p => placeOn c hbm r (ps ++ [{ cls := c, at_ := p }]) (out ++ [p])

/-- Place the classes of an image (R286). -/
def placeAll : List RigClass → List Placed → List ClassPlace → Option (List ClassPlace)
  | [], _, out => some out
  | c :: r, ps, out =>
    match firstFit 0x580000000 0x600000000 (r64 c.hbmLen) (hbmUsed ps) with
    | none => none
    | some hbm =>
      match placeOn c hbm (classStrings c) ps out with
      | none => none
      | some (ps, out) => placeAll r ps out

/-- Where an image would stand: beside what is in place, or under QUIESCE without the domain's own images (R286). -/
def placeImage (d : Dev) (img : RigImage) (quiesce : Bool) : Option (List ClassPlace) :=
  let ps := if quiesce then
      (d.rig.domains.filter (fun e => !(e.1 == img.domain))).map
        (fun e => ((e.2.current.toList ++ e.2.draining).map placedOf).flatten) |>.flatten
    else allPlaced d
  if img.classes.all (fun c => (classStrings c).all (stringExists d)) then placeAll img.classes ps [] else none

/-! Rule sets and loading (R283, R287). -/

/-- Attributes of a region: valid, user, of the domain (R283). -/
def rigAttr (domain r w : Nat) : Nat := 2 ^ 31 + domain * 2 ^ 18 + 8 + 2 * w + r

/-- A region over an area, none where the area is empty. -/
def rigRegion (base n attr hbase : Nat) : Region :=
  if n = 0 then {} else { base := base, limit := base + r64 n - 1, hbase := hbase, rattr := attr }

/-- The rule-set image of a class in place (R283). -/
def buildSet (domain : Nat) (c : RigClass) (p : ClassPlace) : RuleSet :=
  { rsctl := 2 ^ 31 + domain, codeBase := p.codeBase, codeLimit := p.codeBase + 4 * c.code.length - 4,
    regions := [
      rigRegion p.msgBase (c.depth * c.msgMax) (rigAttr domain 1 0) 0,
      rigRegion p.outBase (c.depth * c.outMax) (rigAttr domain 1 1) 0,
      rigRegion p.faBase (c.depth * c.faLen) (rigAttr domain 1 1) 0,
      rigRegion p.ctxBase (c.depth * 128) (rigAttr domain 1 0) 0,
      rigRegion p.dataBase c.dataLen (rigAttr domain 1 0) 0,
      rigRegion p.scrBase c.scratch (rigAttr domain 1 1) 0,
      rigRegion 0x40000000 c.hbmLen (rigAttr domain 1 0 + 32) (p.hbmBase / 64)] ++ List.replicate 9 {} }

/-- The bytes of a ROUTE section as it lies in memory (R269). -/
def routeBytes (r : RigRoute) : Bytes :=
  let head := le 1 r.entry ++ le 1 r.koff ++ le 1 r.klen ++ le 1 r.k ++ le 1 r.miss ++ zeros 3 ++ le 4 r.defHandle ++
    le 4 r.defHandle2
  let entry := fun (e : RouteEntry) => padTo 16 e.key ++ le 1 (b2n e.valid) ++ zeros 3 ++ le 4 e.handle ++ le 4 e.handle2 ++
    le 4 e.aux
  head ++ ((List.range (2 ^ r.k)).map (fun b =>
    padTo 128 (((r.entries.filter (fun e => e.bucket == b)).map entry).flatten))).flatten

/-- Routing tables one after the other, each on a 64-byte line. -/
def routesBytes : List RigRoute → Bytes
  | [] => []
  | r :: rs => let b := routeBytes r; padTo (r64 b.length) b ++ routesBytes rs

/-- Load one class in place: code, data, tables, rule-set image; its areas are zeroed (R287). -/
def loadClass (domain : Nat) (p : Placed) (m : FMap Byte × FMap Bool) : FMap Byte × FMap Bool :=
  let phys := fun (a : Nat) => sdataBase p.at_.string + (a - 0x100000)
  let n := dataRoom p.cls
  let mem := zeroRange m.1 (phys p.at_.msgBase) n
  let mem := writeBytes mem (istoreBase p.at_.string + (p.at_.codeBase - 0x200000)) ((p.cls.code.map (le 4)).flatten)
  let mem := writeBytes mem (phys p.at_.dataBase) p.cls.data
  let mem := writeBytes mem (phys p.at_.routeBase) (routesBytes p.cls.routes)
  let mem := writeBytes mem (sdataBase p.at_.string + 0xF0000 + 512 * p.at_.image) (ruleSetBytes (buildSet domain p.cls p.at_))
  (zeroRange mem (hbmBase + p.at_.hbmBase) p.cls.hbmLen, zeroTags m.2 (phys p.at_.msgBase) n)

/-- Load an image onto every string (R287). -/
def loadImage (e : RigEntry) (s : State) : State :=
  let m := (placedOf e).foldl (fun m p => loadClass e.img.domain p m) (s.mem, s.memTags)
  { s with mem := m.1, memTags := m.2 }

end Sys2Proof.Machine
end

