-- ==== Sys2Proof/Machine/RigBytes.lean ====
section
/-! DEFINITION. The bytes of a rig image (R257-R259, R261, R263, R264, R269, R272, R279, R284): every field little-endian at
its offset in its table. A field of a count that the bytes do not hold reads as zeros, and the section's length then differs
from the one its content needs (`secLen`). -/

set_option linter.unusedVariables false

namespace Sys2Proof.Machine

open Sys2Proof

/-- The whole items of `n` bytes that a section holds. -/
def itemsOf {α : Type} (n : Nat) (f : Bytes → α) (b : Bytes) : List α :=
  (List.range (b.length / n)).map (fun i => f (slice b (n * i) n))

/-- A directory entry (R258). -/
def rigDirOf (b : Bytes) : RigDir :=
  { typ := leAt b 0 2, cls := leAt b 2 1, index := leAt b 3 1, offset := leAt b 4 4, length := leAt b 8 4, resv := leAt b 12 4 }

/-- The bytes of the first section of a type and class. -/
def sectionOf (b : Bytes) (dir : List RigDir) (typ cls : Nat) : Bytes :=
  ((dir.find? (fun e => e.typ == typ && e.cls == cls)).map (fun e => slice b e.offset e.length)).getD []

/-- A classifier rule (R261): the tests that NTEST names; the reserved bytes of both tests count. -/
def rigRuleOf (b : Bytes) : RigRule :=
  let test := fun (i : Nat) =>
    let o := 4 + 12 * i
    ({ offset := leAt b o 2, mask := padTo 4 (slice b (o + 4) 4), value := padTo 4 (slice b (o + 8) 4) } : RigTest)
  { listener := leAt b 0 2, cls := leAt b 2 1, tests := (List.range (leAt b 3 1)).map test,
    resv := leAt b 6 2 + leAt b 0x12 2 + leAt b 0x1C 4 }

/-- A step of PARSE or EMIT (R263). -/
def rigStepOf (b : Bytes) : RigStep :=
  { kind := leAt b 0 1, pfx := leAt b 1 1, cond := leAt b 2 1, entry := leAt b 3 1, min := leAt b 4 2, max := leAt b 6 2 }

/-- A field-map entry (R264). -/
def rigFieldOf (b : Bytes) : RigField :=
  { fnum := leAt b 0 1, flags := leAt b 1 1, dest := leAt b 2 2, max := leAt b 4 2, resv := leAt b 6 2 }

/-- An entry of a bucket of a routing table (R269); VALID is a flag, and its other values are reserved. -/
def routeEntryOf (bucket : Nat) (b : Bytes) : RouteEntry :=
  { bucket := bucket, key := padTo 16 b, valid := leAt b 16 1 == 1, handle := leAt b 0x14 4, handle2 := leAt b 0x18 4,
    aux := leAt b 0x1C 4, resv := leAt b 16 1 / 2 + leAt b 17 3 }

/-- A ROUTE section (R269): its header and the buckets it holds. -/
def rigRouteOf (idx : Nat) (b : Bytes) : RigRoute :=
  { idx := idx, entry := leAt b 0 1, koff := leAt b 1 1, klen := leAt b 2 1, k := leAt b 3 1, miss := leAt b 4 1,
    resv := leAt b 5 3, defHandle := leAt b 8 4, defHandle2 := leAt b 12 4,
    entries := ((List.range ((b.length - 16) / 128)).map (fun n =>
      itemsOf 32 (routeEntryOf n) (slice b (16 + 128 * n) 128))).flatten }

/-- A slice header (R272). -/
def rigSliceOf (b : Bytes) : RigSlice :=
  { slot := leAt b 0 1, flags := leAt b 1 1, jslots := leAt b 2 1, handoff := leAt b 3 1, deps := leAt b 4 4,
    start := leAt b 8 4, span := leAt b 12 4, codeOff := leAt b 0x10 4, codeLen := leAt b 0x14 4, jobs := leAt b 0x18 1,
    resv := leAt b 0x19 7 }

/-- Class `c` of an image: the header of its CLASS_HDR section and its sections (R258, R259). -/
def rigClassOf (b : Bytes) (dir : List RigDir) (c : Nat) : RigClass :=
  let sec := fun (t : Nat) => sectionOf b dir t c
  let h := sec 0x0010
  { cls := leAt h 0 1, reject := leAt h 1 1, j := leAt h 2 1, strings := leAt h 4 4, msgMax := leAt h 8 2,
    outMax := leAt h 0xA 2, faLen := leAt h 0xC 2, descOff := leAt h 0xE 2, w := leAt h 0x10 4, depth := leAt h 0x14 2,
    scratch := leAt h 0x16 2, dataLen := leAt h 0x18 4, hbmLen := leAt h 0x1C 4, resv := leAt h 3 1 + leAt h 0x20 8,
    parse := itemsOf 8 rigStepOf (sec 0x0011), fields := itemsOf 8 rigFieldOf (sec 0x0012),
    routes := (dir.filter (fun e => e.typ == 0x0013 && e.cls == c)).map
      (fun e => rigRouteOf e.index (slice b e.offset e.length)),
    slices := itemsOf 32 rigSliceOf (sec 0x0014), code := itemsOf 4 leVal (sec 0x0015), data := sec 0x0016,
    emit := (dir.find? (fun e => e.typ == 0x0017 && e.cls == c)).map
      (fun e => itemsOf 8 rigStepOf (slice b e.offset e.length)) }

/-- D of R284: the SHA-384 digest of every byte before the SIGNATURES section, which starts at `o`. -/
def rigDigest (b : Bytes) (o : Nat) : Bytes := digestOf 2 (b.take o)

/-- The ASCII bytes of "CXRIG2", the context of an image's ML-DSA signatures. -/
def rigContext : Bytes := [0x43#8, 0x58#8, 0x52#8, 0x49#8, 0x47#8, 0x32#8]

/-- An entry of the SIGNATURES section, with what its two signatures over `dg` give under the officer's registered keys (R284). -/
def rigSigOf (d : Dev) (dg b : Bytes) : RigSig :=
  let id := leAt b 0 2
  let under := fun (f : Officer → Bool) => ((look d.cust.officers id).map f).getD false
  { officer := id, resv := leAt b 2 6 + leAt b 0xD55 3,
    mldsaOk := under (fun o => Config.mldsaVerify 0x21 (4 * rigContext.length) o.rigMldsa (rigContext ++ dg)
      (padTo 3309 (slice b 8 3309))),
    ecdsaOk := under (fun o => ecdsaOk p384 (ptOfBytes p384 o.rigEcdsa) dg (padTo 96 (slice b 0xCF5 96))) }

/-- The image that bytes spell (R257). (DESIGN CHOICE: bytes that are more or fewer than IMAGE_LEN are no image of structure R257;
an IMAGE_LEN above 16 MiB, which no object has, is left to the check of sizes.) -/
def rigImageOf (d : Dev) (b : Bytes) : RigImage :=
  let n := leAt b 6 2
  let dir := itemsOf 16 rigDirOf (slice b 64 (16 * n))
  let rules := sectionOf b dir 0x0001 0xFF
  let sigs := sectionOf b dir 0x00F0 0xFF
  let dg := rigDigest b (((dir.find? (fun e => e.typ == 0x00F0 && e.cls == 0xFF)).map (fun e => e.offset)).getD 0)
  let len := leAt b 0x10 4
  { magic := leAt b 0 4, format := leAt b 4 2, domain := leAt b 8 2, classCount := leAt b 0xA 1, version := leAt b 0xC 4,
    len := len, minFw := leAt b 0x14 4, resv := leAt b 0xB 1, lenOk := b.length == len || decide (16 * 2 ^ 20 < len),
    dir := dir, default := leAt rules 1 1, ruleResv := leAt rules 2 2,
    rules := (List.range (leAt rules 0 1)).map (fun i => rigRuleOf (slice rules (4 + 32 * i) 32)),
    classes := (List.range (leAt b 0xA 1)).map (rigClassOf b dir),
    sigResv := leAt sigs 1 7,
    sigs := (List.range (leAt sigs 0 1)).map (fun i => rigSigOf d dg (slice sigs (8 + 3416 * i) 3416)) }

/-- The image that a request names: what the staged object's or the card file's bytes spell, else what the request brought. -/
def imageNamed (v : Via) (o : ObjRef) (given : RigImage) (d : Dev) : RigImage := objContent (rigImageOf d) v o given d

end Sys2Proof.Machine
end

