-- ==== Sys2Proof/Machine/RigRun.lean ====
section
/-! DEFINITION. Messages in the strings: classification and admission (R262, R341, R346), delivery, parsing, routing,
slices, emit and release (R234, R263-R280). -/

set_option linter.unusedVariables false

namespace Sys2Proof.Machine

open Sys2Proof

/-! Clocks. -/

/-- CORE frequency in MHz (R533, R536). -/
def coreMHz (d : Dev) : Nat :=
  if d.life.reef = 3 then 800 else if d.life.reef = 2 then 1200 else if d.life.gait = 2 then 1900 else 1600

/-- Whole nanoseconds after which `n` CORE cycles of a frequency have passed. -/
def coreNs (mhz n : Nat) : Nat := (n * 1000 + mhz - 1) / mhz

/-- Whole nanoseconds after which `n` FAB cycles have passed; FAB runs at 800 MHz (R45, R268). -/
def fabNs (n : Nat) : Nat := (n * 5 + 3) / 4

/-! Classification and admission. -/

/-- A test of a rule passes (R262). -/
def testPass (b : Bytes) (t : RigTest) : Bool :=
  decide (t.offset + 4 ≤ b.length) &&
    List.zipWith (fun x y => x &&& y) (slice b t.offset 4) t.mask == t.value

/-- The class of a message (R262). -/
def classify (img : RigImage) (listener : Nat) (b : Bytes) : Nat :=
  match img.rules.find? (fun r => (r.listener == 0xFFFF || r.listener == listener) && r.tests.all (testPass b)) with
  | some r => r.cls
  | none => img.default

/-- A domain's images. -/
def rigOf (d : Dev) (dom : Nat) : DomainRig := lookD {} d.rig.domains dom
def onRig (dom : Nat) (f : DomainRig → DomainRig) (d : Dev) : Dev :=
  { d with rig := { d.rig with domains := upd {} d.rig.domains dom f } }

/-- A string as it stands. -/
def stringOf (d : Dev) (s : Nat) : StringState := lookD {} d.rig.strings s
def onString (s : Nat) (f : StringState → StringState) (d : Dev) : Dev :=
  { d with rig := { d.rig with strings := upd {} d.rig.strings s f } }

/-- Messages in flight on a string. -/
def stringLoad (d : Dev) (s : Nat) : Nat := (d.rig.msgs.filter (fun m => m.2.string == s && !m.2.released)).length

/-- A message holds a buffer set of a class in place. -/
def bufUsed (d : Dev) (dom ver s cls k : Nat) : Bool :=
  d.rig.msgs.any (fun e => let m := e.2
    m.domain == dom && m.version == ver && m.string == s && !m.released &&
      ((m.cls == cls && m.buf == k) || (m.homeCls == cls && m.homeBuf == k)))

/-- The lowest free buffer of a class on a string. -/
def freeBuf (d : Dev) (dom ver s : Nat) (c : RigClass) : Option Nat := firstBelow c.depth (fun k => !bufUsed d dom ver s c.cls k)

/-- The places of a class whose strings still take it: every engine its slices run on is in service (R278). -/
def servingPlaces (d : Dev) (e : RigEntry) (c : RigClass) : List ClassPlace :=
  e.places.filter (fun p => p.cls == c.cls && c.slices.all (fun s => !(procOf d (16 * p.string + s.slot)).dead))

/-- What becomes of a message offered for admission. -/
inductive Offered where
  | dropped (d : Dev)
  | held
  | admitted (d : Dev)

/-- Offer a message (R25, R118, R341, R346): classified under the current image; dropped, held back, or admitted to the
string with the fewest messages in flight. -/
def offer (o : MsgOrigin) (b : Bytes) (d : Dev) : Offered :=
  match look d.host.chans o.chan with
  | none => .dropped (bump (nk 0x0D) d)
  | some ch =>
    let r := rigOf d ch.domain
    match r.current with
    | none => .dropped (bump (nk 7) (if r.retired then bump (dk 0x5002 7) d else d))
    | some e =>
      if r.quiesce.isSome then .held
      else
        let cls := classify e.img o.listener b
        match e.img.classes.find? (fun c => c.cls == cls) with
        | none => .dropped (bump (nk 7) d)
        | some c =>
          if c.msgMax < b.length then .dropped (bump (nk 6) d)
          else if isThrottled d || decide (poolLimit d < poolHeld d + c.j) || decide (openTags d < 1 + c.j) then .held
          else
            let ps := (servingPlaces d e c).filter (fun p => (freeBuf d ch.domain e.img.version p.string c).isSome)
            match minBy? (fun (p : ClassPlace) => stringLoad d p.string * 64 + p.string) ps with
            | none => .held
            | some p =>
              match freeBuf d ch.domain e.img.version p.string c, takeTags (1 + c.j) d with
              | some k, some (tag :: kids, d) =>
                let q : Req := { src := .message p.string k, job := Job.ofBytes [], domain := ch.domain, point := p.string }
                let op : Op := { phase := .admitted, req := q, resv := kids, started := d.tb.now }
                let m : Msg := { domain := ch.domain, version := e.img.version, cls := cls, string := p.string, buf := k,
                                 homeCls := cls, homeBuf := k, origin := o, bytes := b }
                let d := putOp tag op (bump (dk 0x8000 1) d)
                let d := if (stringOf d p.string).gated then onString p.string (fun s => { s with waking := true }) d else d
                .admitted { d with rig := { d.rig with msgs := ins d.rig.msgs tag m } }
              | _, _ => .held

/-! A message's image, class and place. -/

/-- The image a message runs under (R288). -/
def msgEntry (d : Dev) (m : Msg) : Option RigEntry :=
  let r := rigOf d m.domain
  (r.current.toList ++ r.draining).find? (fun e => e.img.version == m.version)

/-- A class of an image and its place on a string. -/
def classAt (e : RigEntry) (cls s : Nat) : Option (RigClass × ClassPlace) :=
  match e.img.classes.find? (fun c => c.cls == cls), e.places.find? (fun p => p.cls == cls && p.string == s) with
  | some c, some p => some (c, p)
  | _, _ => none

/-- The class a message runs as, with its place. -/
def msgClass (d : Dev) (m : Msg) : Option (RigClass × ClassPlace) :=
  match msgEntry d m with
  | some e => classAt e m.cls m.string
  | none => none

/-- Change a message. -/
def onMsg (tag : Nat) (f : Msg → Msg) (d : Dev) : Dev :=
  match look d.rig.msgs tag with
  | none => d
  | some m => { d with rig := { d.rig with msgs := ins d.rig.msgs tag (f m) } }

/-- Addresses of a message's input, output buffer, field area and context record, as engines see them. -/
def msgAddr (d : Dev) (m : Msg) : Nat :=
  match msgEntry d m with
  | some e => (match classAt e m.homeCls m.string with
    | some (c, p) => p.msgBase + m.homeBuf * c.msgMax
    | none => 0)
  | none => 0
def outAddr (c : RigClass) (p : ClassPlace) (m : Msg) : Nat := p.outBase + m.buf * c.outMax
def faAddr (c : RigClass) (p : ClassPlace) (m : Msg) : Nat := p.faBase + m.buf * c.faLen
def ctxAddr (p : ClassPlace) (m : Msg) : Nat := p.ctxBase + m.buf * 128

/-- Physical address in a string's data memory. -/
def strPhys (s a : Nat) : Nat := sdataBase s + (a - 0x100000)

/-- MESSAGE_DELIVER (R234, R341): the message is written untagged into its buffer, its tag becomes RUNNING, T0 is stamped.
A gated string wakes first (R534). -/
def execMessageDeliver (tag : BitVec 16) (s : State) : Out :=
  match look s.dev.rig.msgs tag.toNat with
  | none => .next s
  | some m =>
    if m.delivered || (stringOf s.dev m.string).gated then .next s
    else
      let a := strPhys m.string (msgAddr s.dev m)
      let now := s.dev.tb.now
      let d := onOp tag.toNat (fun o => { o with phase := .running }) (onMsg tag.toNat (fun m => { m with delivered := true, t0 := now }) s.dev)
      .next { s with dev := d, mem := writeBytes s.mem a m.bytes, memTags := fillTags s.memTags a m.bytes.length false }

/-! Parsing (R263-R267). -/

/-- A decimal digit in ASCII, or none. -/
def digitOf (b : Byte) : Option Nat := if 0x30 ≤ b.toNat ∧ b.toNat ≤ 0x39 then some (b.toNat - 0x30) else none

/-- The number a string of ASCII decimal digits spells. -/
def decOf : Bytes → Nat → Option Nat
  | [], n => some n
  | b :: r, n => match digitOf b with | some k => decOf r (10 * n + k) | none => none

/-- The number a list of BCD digits spells. -/
def bcdOf : List Nat → Nat → Option Nat
  | [], n => some n
  | k :: r, n => if k ≤ 9 then bcdOf r (10 * n + k) else none

/-- A hexadecimal digit in ASCII, either case. -/
def hexOf (b : Byte) : Option Nat :=
  let n := b.toNat
  if 0x30 ≤ n ∧ n ≤ 0x39 then some (n - 0x30)
  else if 0x41 ≤ n ∧ n ≤ 0x46 then some (n - 0x37)
  else if 0x61 ≤ n ∧ n ≤ 0x66 then some (n - 0x57)
  else none

/-- The bytes that hexadecimal characters spell. -/
def hexChars : Bytes → Option Bytes
  | a :: b :: r => match hexOf a, hexOf b, hexChars r with
    | some x, some y, some l => some (BitVec.ofNat 8 (16 * x + y) :: l)
    | _, _, _ => none
  | [] => some []
  | _ => none

/-- Bit `n` of a bitmap, 1 the most significant bit of its first byte (ISO 8583). -/
def mapBit (b : Bytes) (n : Nat) : Bool := bitOf (leAt b ((n - 1) / 8) 1) (7 - (n - 1) % 8)

/-- What parsing has gathered: entries with their data and its place in the message, the bitmap, the position. -/
structure Parsed where
  pos : Nat := 0
  bitmap : Option Bytes := none
  fields : List (Nat × Nat × Bytes) := []

/-- Length of a step's prefix in bytes, and the length it spells (R263). -/
def stepPrefix (s : RigStep) (b : Bytes) : Option (Nat × Nat) :=
  match s.kind with
  | 1 => some (0, s.max)
  | 2 => if b.length < s.pfx then none else (decOf (b.take s.pfx) 0).map (fun n => (s.pfx, n))
  | 3 => if b.length < s.pfx then none else some (s.pfx, beVal (b.take s.pfx))
  | _ =>
    let n := (s.pfx + 1) / 2
    if b.length < n then none
    else (bcdOf ((nibbles (b.take n)).drop (2 * n - s.pfx)) 0).map (fun v => (n, v))

/-- Run one step (R263, R266, R267). -/
def parseStep (fields : List RigField) (b : Bytes) (s : RigStep) (p : Parsed) : Option Parsed :=
  let runs := s.cond == 0 || (match p.bitmap with | some m => mapBit m s.cond | none => false)
  if !runs then some p
  else
    let rest := b.drop p.pos
    let keepTo := fun (off : Nat) (x : Bytes) (q : Parsed) =>
      if s.entry = 0xFF then some q
      else match fields[s.entry]? with
        | none => none
        | some f => if f.max < x.length then none else some { q with fields := q.fields ++ [(s.entry, off, x)] }
    if isBitmap s then
      let unit := if s.kind = 5 then 8 else 16
      let read := fun (n : Nat) => if rest.length < n then none else if s.kind = 5 then some (rest.take n) else hexChars (rest.take n)
      match read unit with
      | none => none
      | some first =>
        let n := if mapBit first 1 then 2 * unit else unit
        match read n with
        | none => none
        | some m => keepTo p.pos (rest.take n) { p with pos := p.pos + n, bitmap := some m }
    else
      match stepPrefix s rest with
      | none => none
      | some (k, n) =>
        if n < s.min ∨ s.max < n ∨ rest.length < k + n then none
        else keepTo (p.pos + k) (slice rest k n) { p with pos := p.pos + k + n }

/-- Run a list of steps. -/
def parseSteps (fields : List RigField) (b : Bytes) : List RigStep → Parsed → Option Parsed
  | [], p => some p
  | s :: r, p => match parseStep fields b s p with
    | none => none
    | some p => parseSteps fields b r p

/-- Parse a message with a class's tables; none where parsing fails (R267). -/
def parseWith (c : RigClass) (b : Bytes) : Option Parsed :=
  match parseSteps c.fields b c.parse {} with
  | none => none
  | some p =>
    let known := match p.bitmap with
      | none => true
      | some m => (List.range (8 * m.length)).all (fun i =>
          i == 0 || !mapBit m (i + 1) || c.parse.any (fun s => s.cond == i + 1))
    if p.pos = b.length ∧ known = true then some p else none

/-- A field's data, where it is present: that of the last step that gathered it. -/
def fieldData (p : Parsed) (e : Nat) : Option Bytes := (p.fields.reverse.find? (fun x => x.1 == e)).map (fun x => x.2.2)

/-- One routing lookup (R270): HANDLE, HANDLE2, AUX, and whether it missed. -/
def routeLookup (r : RigRoute) (p : Parsed) : (Nat × Nat × Nat) × Bool :=
  let hit : Option RouteEntry := match fieldData p r.entry with
    | none => none
    | some x =>
      if x.length < r.koff + r.klen then none
      else
        let key := slice x r.koff r.klen
        r.entries.find? (fun e => e.bucket == crc32c key % 2 ^ r.k && e.valid && e.key.take r.klen == key)
  match hit with
  | some e => ((e.handle, e.handle2, e.aux), false)
  | none => ((r.defHandle, r.defHandle2, 0), true)

/-- The field area after parsing (R265, R266). -/
def fieldArea (c : RigClass) (p : Parsed) : Bytes :=
  let put := fun (fa : Bytes) (x : Nat × RigField) =>
    match fieldData p x.1 with
    | none => fa
    | some v => overwrite (overwrite fa x.2.dest v) (c.descOff + 4 * x.1) (le 2 v.length ++ [1#8, 0#8])
  ((List.range c.fields.length).zip c.fields).foldl put (zeros c.faLen)

/-- The context record (R271). -/
def contextBytes (c : RigClass) (p : ClassPlace) (m : Msg) (msgAt handle : Nat) : Bytes :=
  le 8 m.t0 ++ le 8 m.t1 ++ le 8 m.deadline ++ le 2 m.bytes.length ++ le 1 m.cls ++ le 1 m.miss ++ le 4 handle ++
    le 4 msgAt ++ le 4 (outAddr c p m) ++ le 4 (faAddr c p m) ++ le 4 p.dataBase ++ le 4 p.scrBase ++
    le 4 (if c.hbmLen = 0 then 0 else 0x40000000) ++ le 2 m.outLen ++ zeros 6 ++
    padTo 48 ((m.routes.map (fun r => le 4 r.1 ++ le 4 r.2.1 ++ le 4 r.2.2)).flatten) ++ zeros 16

/-- Write field area, tags and context record of a parsed message. -/
def writeParsed (c : RigClass) (p : ClassPlace) (m : Msg) (x : Parsed) (s : State) : State :=
  let fa := strPhys m.string (faAddr c p m)
  let msgAt := msgAddr s.dev m
  let handle := match look s.dev.host.chans m.origin.chan with | some ch => chanHandle m.origin.chan ch | none => 0
  let mem := writeBytes s.mem fa (fieldArea c x)
  let mem := writeBytes mem (strPhys m.string (ctxAddr p m)) (contextBytes c p m msgAt handle)
  let tags := fillTags s.memTags fa c.faLen false
  let tags := fillTags tags (strPhys m.string (ctxAddr p m)) 128 false
  let tags := c.fields.foldl (fun t f => if bitOf f.flags 0 then fillTags t (fa + f.dest) f.max true else t) tags
  let tags := x.fields.foldl (fun t e => match c.fields[e.1]? with
    | some f => if bitOf f.flags 0 then fillTags t (strPhys m.string (msgAt + e.2.1)) e.2.2.length true else t
    | none => t) tags
  { s with mem := mem, memTags := tags }

/-- Time a class's parse takes, and its routing (R268). -/
def parseFab (c : RigClass) : Nat := 22 + 2 * c.parse.length
def routeFab (c : RigClass) : Nat := 32 * c.routes.length

/-- The routing and the end of parsing of a message that parsed: T1, the deadline, the routes; a lookup that misses under
MISS = 1 drops the message (R270). -/
def routed (tag : Nat) (c : RigClass) (p : ClassPlace) (m : Msg) (x : Parsed) (t1 : Nat) (s : State) : State :=
  let d := reach t1 s.dev
  let rs := (List.range 4).map (fun i => c.routes.find? (fun r => r.idx == i))
  let look_ := rs.map (fun r => r.map (fun r => (r, routeLookup r x)))
  let missed := look_.any (fun e => match e with | some (r, _, true) => r.miss == 1 | _ => false)
  if missed then { s with dev := dropMsg tag (dk 0x5002 3) d }
  else
    let bits := ((List.range 4).zip look_).foldl (fun a e => match e.2 with | some (_, _, true) => a + 2 ^ e.1 | _ => a) 0
    let mhz := coreMHz d
    let m := { m with parsed := true, t1 := t1, mhz := mhz, deadline := t1 + coreNs mhz c.w, miss := bits,
                      routes := look_.map (fun e => match e with | some (_, r, _) => r | none => (0, 0, 0)) }
    writeParsed c p m x { s with dev := onMsg tag (fun _ => m) d }

/-- PARSE_END (R266-R271): the parse time of the class, and where it fails that of its REJECT class, has passed since T0. -/
def execParseEnd (tag : BitVec 16) (s : State) : Out :=
  match look s.dev.rig.msgs tag.toNat with
  | none => .next s
  | some m =>
    match msgEntry s.dev m with
    | none => .next s
    | some e => match classAt e m.cls m.string with
      | none => .next s
      | some (c, p) =>
        if !m.delivered || m.parsed then .next s
        else match parseWith c m.bytes with
        | some x => .next (routed tag.toNat c p m x (m.t0 + fabNs (parseFab c + routeFab c)) s)
        | none =>
          let drop := fun (fab : Nat) =>
            Host.Outcome.next { s with dev := dropMsg tag.toNat (dk 0x5002 2) (reach (m.t0 + fabNs fab) s.dev) }
          match classAt e c.reject m.string with
          | none => drop (parseFab c)
          | some (rc, rp) =>
            let all := parseFab c + parseFab rc
            match freeBuf s.dev m.domain m.version m.string rc, parseWith rc m.bytes with
            | some k, some x =>
              .next (routed tag.toNat rc rp { m with cls := rc.cls, buf := k } x (m.t0 + fabNs (all + routeFab rc)) s)
            | _, _ => drop all

/-! Slices (R272-R278). -/

/-- The engine of a slice. -/
def sliceEngine (m : Msg) (sl : RigSlice) : Nat := 16 * m.string + sl.slot

/-- When a slice is due (R273). -/
def sliceDue (m : Msg) (sl : RigSlice) : Nat := m.t1 + coreNs m.mhz sl.start

/-- An engine's active set was built for another class than this one (R248). A revocation in place leaves a set with the class
it was built for. -/
def needsSwap (d : Dev) (p : Nat) (cls : Nat × Nat × Nat) : Bool := !((protOf d p).actFor == some cls)

/-- The class a message runs as: domain, image version, class. -/
def msgCls (m : Msg) : Nat × Nat × Nat := (m.domain, m.version, m.cls)

/-- A slice may start, its time apart (R273). -/
def sliceReady (d : Dev) (m : Msg) (c : RigClass) (pl : ClassPlace) (i : Nat) (sl : RigSlice) : Bool :=
  let p := sliceEngine m sl
  let q := procOf d p
  let u := protOf d p
  let ended := fun (j : Nat) => m.slices.any (fun r => r.idx == j && r.ended.isSome)
  m.parsed && !m.released && !m.slices.any (fun r => r.idx == i) && !q.dead && !q.off && d.lopeOn && q.slice.isNone &&
    !q.custodianWork && (List.range i).all (fun j => !bitOf sl.deps j || ended j) &&
    (!sl.afterEmit || m.emitEnd.isSome) &&
    ((List.finRange 8).all (fun k => !bitOf sl.jslots k.val || !q.jobs[k].issued)) &&
    (!needsSwap d p (msgCls m) || ((busySlots q).isEmpty && !u.slock && u.loadBusy.isNone && !u.revokeBusy))

/-- A due slice of another message waits for the same engine with an earlier due time, or an equal one and a lower
tag (R273). -/
def sliceAhead (d : Dev) (tag : Nat) (m : Msg) (p due : Nat) : Bool :=
  d.rig.msgs.any (fun e => !(e.1 == tag) && e.2.string == m.string && (match msgClass d e.2 with
    | none => false
    | some (c, pl) => ((List.range c.slices.length).zip c.slices).any (fun x =>
        let t := sliceDue e.2 x.2
        sliceEngine e.2 x.2 == p && decide (t < due ∨ (t = due ∧ e.1 < tag)) && sliceReady d e.2 c pl x.1 x.2)))

/-- An engine's registers at slice entry (R274). Job slots and the pending marks of handed-off slots stay. The dispatcher
has delivered new work: EV.DISPATCH is set (R212, R248). -/
def enterSlice (factor now span mhz : Nat) (entry ctx msgAt fa scr dat : Nat) (run : Nat × Nat) (q : Proc) : Proc :=
  let w := fun (n : Nat) => BitVec.ofNat 32 n
  let budget := q.cycle.toNat + factor * span + 3200
  { q with
    a := #v[w ctx, w msgAt, w fa, w scr, w dat, 0#32, 0#32, 0#32],
    d := (Vector.replicate 16 0#64).set 8 (BitVec.ofNat 64 (now + coreNs mhz span)),
    x := Vector.replicate 4 0#256, dTag := Vector.replicate 16 false, xTag := Vector.replicate 4 false,
    pc := w entry, bk := 0x10#16, budget := BitVec.ofNat 64 budget,
    sr := withBit (q.sr &&& 0x00FFF000#32) srIe true, wait := none, halted := false, slice := some run,
    ev := q.ev ||| 0x01000000#32 }

/-- The string dispatcher loads a class's rule-set image into the standby set, unless it stands there, and engine firmware
swaps (R248). -/
def swapTo (p image : Nat) (cls : Nat × Nat × Nat) (s : State) (d : Dev) : Dev :=
  let u := protOf d p
  swapSets p (if u.sbyFor == some cls && u.sbySrc == image then d
    else onProt p (fun u => { u with rerr := false, sbyFor := some cls }) (copyImage p image s d))

/-- SLICE_START (R273, R274). -/
def execSliceStart (tag : BitVec 16) (i : Fin 32) (s : State) : Out :=
  onDev (fun d =>
    match look d.rig.msgs tag.toNat with
    | none => d
    | some m => match msgClass d m with
      | none => d
      | some (c, pl) => match c.slices[i.val]? with
        | none => d
        | some sl =>
          let p := sliceEngine m sl
          let due := sliceDue m sl
          if !sliceReady d m c pl i.val sl || sliceAhead d tag.toNat m p due then d
          else
            let d := reach due d
            let d := if needsSwap d p (msgCls m) then swapTo p pl.image (msgCls m) s d else d
            let now := d.tb.now
            let mhz := coreMHz d
            let run : SliceRun := { idx := i.val, start := now, deadline := now + coreNs mhz sl.span }
            let factor := numOf 4 d (dk 0x5001 1)
            let msgAt := msgAddr d m
            let d := onProc p (enterSlice factor now sl.span mhz (pl.codeBase + sl.codeOff) (ctxAddr pl m) msgAt (faAddr c pl m)
              pl.scrBase pl.dataBase (tag.toNat, i.val)) d
            onMsg tag.toNat (fun m => { m with slices := m.slices ++ [run] }) d) s

/-- SLICE_DEADLINE (R275): with CALL #1 taken, the slice ends. -/
def execSliceDeadline (tag : BitVec 16) (i : Fin 32) (s : State) : Out :=
  onDev (fun d =>
    match look d.rig.msgs tag.toNat with
    | none => d
    | some m => match m.slices.find? (fun r => r.idx == i.val) with
      | none => d
      | some r =>
        let d := reach r.deadline d
        onMsg tag.toNat (fun m => { m with slices := m.slices.map (fun x =>
          if x.idx == i.val && x.called.isSome && x.ended.isNone then { x with ended := some x.deadline } else x) }) d) s

/-! Emit (R279). -/

/-- The prefix an LVAR step writes (R263, R279). -/
def lvarPrefix (s : RigStep) (n : Nat) : Bytes :=
  let dec := fun (k : Nat) => (List.range k).map (fun i => n / 10 ^ (k - 1 - i) % 10)
  match s.kind with
  | 2 => (dec s.pfx).map digit
  | 3 => be s.pfx n
  | 4 => packNibbles ((if s.pfx % 2 = 1 then [0] else []) ++ dec s.pfx)
  | _ => []

/-- LEN and PRESENT of an entry in a field area. -/
def entryDesc (c : RigClass) (fa : Bytes) (e : Nat) : Nat × Bool :=
  (leAt fa (c.descOff + 4 * e) 2, leAt fa (c.descOff + 4 * e + 2) 1 == 1)

/-- The bitmap of an outgoing message: bits of the FNUMs of the entries present among the emit steps (R279). -/
def emitBitmap (c : RigClass) (fa : Bytes) (steps : List RigStep) : Bytes :=
  let nums := steps.filterMap (fun s =>
    if isBitmap s || !(entryDesc c fa s.entry).2 then none
    else (c.fields[s.entry]?).map (fun f => f.fnum))
  let long := nums.any (fun n => decide (64 < n))
  let set := fun (n : Nat) => (n == 1 && long) || (decide (2 ≤ n) && has nums n)
  (List.range (if long then 16 else 8)).map (fun i =>
    BitVec.ofNat 8 ((List.range 8).foldl (fun a k => 2 * a + b2n (set (8 * i + k + 1))) 0))

/-- What one emit step writes: bytes, and the place of the data in the field area. -/
def emitStep (c : RigClass) (fa : Bytes) (steps : List RigStep) (s : RigStep) : Bytes × Option (Nat × Nat × Nat) :=
  if isBitmap s then
    let b := emitBitmap c fa steps
    (if s.kind = 5 then b else toHex b, none)
  else match c.fields[s.entry]? with
  | none => ([], none)
  | some f =>
    let (n, present) := entryDesc c fa s.entry
    if !present then ([], none)
    else
      let len := if s.kind = 1 then s.max else min n f.max
      let pre := lvarPrefix s len
      (pre ++ padTo len (slice fa f.dest (min len f.max)), some (pre.length, f.dest, min len f.max))

/-- The outgoing message, with the spans copied: offset in the output, offset in the field area, length. -/
def emitAll (c : RigClass) (fa : Bytes) (steps : List RigStep) : List RigStep → Bytes → List (Nat × Nat × Nat) →
    Bytes × List (Nat × Nat × Nat)
  | [], out, spans => (out, spans)
  | s :: r, out, spans =>
    let (b, sp) := emitStep c fa steps s
    emitAll c fa steps r (out ++ b) (spans ++ (match sp with | some (k, a, n) => [(out.length + k, a, n)] | none => []))

/-- The slice that starts emit has ended, at this time. -/
def emitAt (c : RigClass) (m : Msg) : Option Nat :=
  ((List.range c.slices.length).zip c.slices).findSome? (fun e =>
    if e.2.isEmit then (m.slices.find? (fun r => r.idx == e.1)).bind (fun r => r.ended) else none)

/-- EMIT_END (R279): the output and OUT_LEN are written; an output longer than OUT_MAX drops the message. Words copied
carry their tags. -/
def execEmitEnd (tag : BitVec 16) (s : State) : Out :=
  match look s.dev.rig.msgs tag.toNat with
  | none => .next s
  | some m => match msgClass s.dev m with
    | none => .next s
    | some (c, p) => match c.emit, emitAt c m with
      | some steps, some t =>
        if m.emitEnd.isSome || m.released then .next s
        else
          let stop := t + fabNs (22 + 2 * steps.length)
          let d := reach stop s.dev
          let fa := strPhys m.string (faAddr c p m)
          let out := strPhys m.string (outAddr c p m)
          let (b, spans) := emitAll c (readBytes s.mem fa c.faLen) steps steps [] []
          if c.outMax < b.length then .next { s with dev := dropMsg tag.toNat (dk 0x5002 5) d }
          else
            let tags := fillTags s.memTags out b.length false
            let tags := spans.foldl (fun t x => if readTags s.memTags (fa + x.2.1) x.2.2 then fillTags t (out + x.1) x.2.2 true else t) tags
            let mem := writeBytes (writeBytes s.mem out b) (strPhys m.string (ctxAddr p m) + 0x38) (le 2 b.length)
            .next { s with dev := onMsg tag.toNat (fun m => { m with emitStart := some t, emitEnd := some stop, outLen := b.length }) d,
                           mem := mem, memTags := tags }
      | _, _ => .next s

/-! Release (R280, R343-R345). -/

/-- Send a UDP datagram of a message. -/
def sendUdp (p : Nat) (v6 : Bool) (src dst : Bytes) (sp dp : Nat) (b : Bytes) (tag vlan : Option Nat) (dscp : Nat) (d : Dev) : Dev :=
  sendIp p vlan { v6 := v6, src := src, dst := dst, proto := 17, dscp := dscp, body := udpBytes v6 src dst sp dp b } tag d

/-- Send a message back to where another arrived: on its connection, or to its datagram's source (R343). -/
def sendBack (o : MsgOrigin) (b : Bytes) (tag vlan : Option Nat) (dscp sub : Nat) (d : Dev) : Dev :=
  match o.conn with
  | some (c, inc) => (match connOf d c with
    | some t =>
      if !(t.inc == inc) then dropOut sub tag d
      else if t.framing = 4 ∧ 9999 < b.length then dropOut 0x0F tag d
      else sendMessage c b tag vlan dscp d
    | none => dropOut sub tag d)
  | none => sendUdp o.port o.v6 (sourceFor d o.port o.v6 o.peerAddr) o.peerAddr o.localPort o.peerPort b tag vlan dscp d

/-- Send a message on a route (R344, R345). -/
def sendRoute (r : Nat) (b : Bytes) (tag : Option Nat) (d : Dev) : Dev :=
  let x := routeOf d r
  if x.udp then
    let y := lookD {} d.net.routes r
    let (lp, d) := if y.lport = 0 then takeLocalPort x.lport d else (y.lport, d)
    let d := { d with net := { d.net with routes := upd {} d.net.routes r (fun z => { z with lport := lp }) } }
    sendUdp x.port x.v6 (sourceFor d x.port x.v6 x.remote) x.remote lp x.rport b tag none 0 d
  else
    match (lookD {} d.net.routes r).conn with
    | some c => (match connOf d c with
      | some t =>
        if !(t.state == .established || t.state == .closeWait) || t.finQueued then dropOut 0x0B tag d
        else if t.framing = 4 ∧ 9999 < b.length then dropOut 0x0F tag d
        else sendMessage c b tag none 0 d
      | none => dropOut 0x0B tag d)
    | none => dropOut 0x0B tag d

/-- Save a correlation entry (R344): an equal key is replaced; a full table loses the entry closest to expiry. -/
def saveCorr (e : CorrEntry) (d : Dev) : Dev :=
  let same := fun (x : CorrEntry) => x.domain == e.domain && x.route == e.route && x.key == e.key
  let old := d.net.corr
  let (kept, lost) :=
    if old.any same then (old.filter (fun x => !same x), true)
    else if 4194304 ≤ old.length then
      (match minBy? (fun (x : CorrEntry) => x.till) old with
       | some v => (old.erase v, true)
       | none => (old, false))
    else (old, false)
  let d := if lost then bump (nk 0x11) d else d
  { d with net := { d.net with corr := kept ++ [e] } }

/-- ACTION 0 (R344). `key` reads the field area. -/
def egressRoute (m : Msg) (egress : Nat) (key : Nat → Nat → Bytes) (b : Bytes) (tag : Nat) (d : Dev) : Dev :=
  let kind := fieldOf egress 30 2
  let save := bitOf egress 29
  let r := fieldOf egress 0 12
  let x := routeOf d r
  if !(fieldOf egress 12 17 == 0) || decide (2 ≤ kind) || (kind == 1 && save) || !x.valid || (save && x.clen == 0) then
    dropOut 0x0F (some tag) d
  else if !(x.domain == m.domain) then dropOut 0x0E (some tag) d
  else if kind = 0 then
    let d := if save then
        saveCorr { domain := m.domain, route := r, key := key x.coff x.clen, origin := m.origin, till := d.tb.now + sec x.ttl } d
      else d
    sendRoute r b (some tag) d
  else
    let k := key x.coff x.clen
    match d.net.corr.find? (fun e => e.domain == m.domain && e.route == r && e.key == k) with
    | none => dropOut 0x10 (some tag) d
    | some e =>
      let d := { d with net := { d.net with corr := d.net.corr.erase e } }
      if e.till ≤ d.tb.now then dropOut 0x10 (some tag) d else sendBack e.origin b (some tag) none 0 0x10 d

/-- ACTION 3 (R343, R370): the host channel that EGRESS names. -/
def egressHost (m : Msg) (egress : Nat) (b : Bytes) (tag : Nat) (d : Dev) : Dev :=
  match chanOf d egress with
  | none => dropOut 0x0D (some tag) d
  | some (c, ch) =>
    match ch.kind with
    | .slot fn sn =>
      if !(ch.domain == m.domain) then dropOut 0x0E (some tag) d
      else if ch.closing.isSome then dropOut 0x0D (some tag) d
      else if !(bitOf (slotOf d fn sn).ctl 0) then endMsg tag (countDeliveryDrop fn d)
      else pushDelivery c 1 b d.tb.now (some tag) d
    | _ => dropOut 0x0D (some tag) d

/-- Hand a message to egress by its ACTION (R280, R343). -/
def releaseMsg (tag : Nat) (m : Msg) (action egress : Nat) (key : Nat → Nat → Bytes) (b : Bytes) (d : Dev) : Dev :=
  let d := onMsg tag (fun m => { m with released := true }) (onOp tag (fun o => { o with phase := .completing }) d)
  let d := onString m.string (fun s => { s with idleSince := d.tb.now }) d
  if action = 2 then endMsg tag (bump (dk 0x5002 8) d)
  else if 3 < action then endMsg tag (bump (dk 0x5002 5) d)
  else
    let d := bump (dk 0x5002 1) d
    if b.isEmpty then dropOut 0x0F (some tag) d
    else if action = 0 then egressRoute m egress key b tag d
    else if action = 1 then sendBack m.origin b (some tag) m.origin.vlan m.origin.dscp 0x0D d
    else egressHost m egress b tag d

/-- A message may be released from this moment on (R280). -/
def releaseAt (c : RigClass) (m : Msg) : Option Nat :=
  let fin := ((List.range c.slices.length).zip c.slices).findSome? (fun e =>
    if e.2.isFinal then (m.slices.find? (fun r => r.idx == e.1)).bind (fun r => r.ended) else none)
  let emits := c.emit.isSome && c.slices.any RigSlice.isEmit
  match fin with
  | none => none
  | some t => if emits && m.emitEnd.isNone then none else some (max m.deadline (max t (m.emitEnd.getD 0)))

/-- MESSAGE_RELEASE (R280). -/
def execMessageRelease (tag : BitVec 16) (s : State) : Out :=
  match look s.dev.rig.msgs tag.toNat with
  | none => .next s
  | some m => match msgClass s.dev m with
    | none => .next s
    | some (c, p) => match releaseAt c m with
      | none => .next s
      | some t =>
        if m.released || !m.parsed then .next s
        else
          let fa := strPhys m.string (faAddr c p m)
          let action := (readByte s.mem fa).toNat
          let egress := leVal (readBytes s.mem (fa + 4) 4)
          let b := readBytes s.mem (strPhys m.string (outAddr c p m)) m.outLen
          let key := fun (o n : Nat) => padTo n (slice (readBytes s.mem fa c.faLen) o n)
          .next { s with dev := finishCloses (releaseMsg tag.toNat m action egress key b (reach t s.dev)) }

end Sys2Proof.Machine
end

