-- ==== Sys2Proof/Machine/RigSvc.lean ====
section
/-! DEFINITION. Admission, replacement and retirement of rig images (R285-R291). -/

set_option linter.unusedVariables false

namespace Sys2Proof.Machine

open Sys2Proof

/-- The firmware image that runs: that of the slot booted at the last reset (R386). -/
def runningFw (d : Dev) : Option FwImage := if d.cust.booted = 0 then d.cust.slotA else d.cust.slotB
def fwVersion (d : Dev) : Nat := ((runningFw d).map (fun i => i.version)).getD 0

/-- Dictionary entries of a domain: its image's high-water mark (R292). -/
def hwmKey (dom : Nat) : Nat := dk 0x5010 0 + dom

/-- The rig image partition of NAND (R50), and the bytes that the images of the domains other than `dom` take of it. -/
def nandRigBytes : Nat := 8192 * 2 ^ 20
def nandRigUsed (d : Dev) (dom : Nat) : Nat :=
  ((d.rig.nand.filter (fun e => !(e.1 == dom))).map (fun e => e.2.len)).foldl (· + ·) 0

/-- The checks of R285 in their order: the first failing status, with the byte offset of the fault where it has one. -/
def admitCheck (d : Dev) (officer : Nat) (quiesce : Bool) (img : RigImage) : Status × Nat :=
  let dm := match look d.cust.officers officer with
    | some o => o.role == .domainOfficer && !(o.domain == img.domain)
    | none => false
  if !(img.format == 2) || decide (fwVersion d < img.minFw) then (.version, 0)
  else match structureFault img with
  | some o => (.format, o)
  | none =>
    if !sizesOk img then (.lengthError, 0)
    else if dm = true then (.policy, 0)
    else if !signed d img then (.authFail, 0)
    else if img.version ≤ numOf 0 d (hwmKey img.domain) then (.policy, 0)
    else match verifyFault img with
    | some o => (.policy, o)
    | none => match handleFault d img with
      | some o => (.keyInvalid, o)
      | none =>
        if (placeImage d img quiesce).isNone || decide (nandRigBytes < nandRigUsed d img.domain + img.len) then (.policy, 0)
        else (.ok, 0)

/-- Messages of a domain's images in flight. -/
def rigBusy (d : Dev) (dom : Nat) : Bool := d.rig.msgs.any (fun m => m.2.domain == dom)

/-- Put an image in force (R287, R288): the commit record raises the high-water mark; the image it replaces drains. -/
def installImage (img : RigImage) (places : List ClassPlace) (quiesce : Bool) (d : Dev) : Dev :=
  let dom := img.domain
  let d := { d with rig := { d.rig with nand := ins d.rig.nand dom img } }
  let d := setNum 0 (hwmKey dom) img.version d
  rigGc (onRig dom (fun r => { r with
    current := some { img := img, places := places },
    draining := if quiesce then [] else r.current.toList ++ r.draining,
    quiesce := none, retired := false }) d)

/-- The refusal of an admission (R285, R563). -/
def refuseImage (r : RigReq) (actor : Nat) (st : Status) (off : Nat) (d : Dev) : Dev :=
  let d := setNum 0 (dk 0x5003 1) st.code (setNum 0 (dk 0x5003 2) off (setNum 0 (dk 0x5003 3) r.img.domain d))
  let d := raise srcCustodian 0x0211 r.img.domain actor [(4, r.img.version), (1, st.code), (4, off)] d
  answer r.via st (le 4 off) d

/-- The admission of an image that has passed its checks. -/
def acceptImage (r : RigReq) (actor : Nat) (places : List ClassPlace) (d : Dev) : Dev :=
  let d := installImage r.img places r.quiesce d
  let d := setNum 0 (dk 0x5003 1) 0 (setNum 0 (dk 0x5003 2) 0 (setNum 0 (dk 0x5003 3) r.img.domain d))
  let d := raise srcCustodian 0x0210 r.img.domain actor [(4, r.img.version), (1, 0), (4, 0)] d
  answer r.via .ok (le 4 r.img.version ++ le 2 r.img.domain ++ le 2 0) d

/-- The ACTOR of an admission. -/
def rigActor (d : Dev) (r : RigReq) : Nat := if r.officer = 0 then actorVia d r.via else actorOfficer r.officer

/-- Run one admission (R285-R289): an image that must wait for the old one to drain is held by QUIESCE. -/
def admitOne (r : RigReq) (d : Dev) : Dev :=
  let (st, off) := admitCheck d r.officer r.quiesce r.img
  if !(st == .ok) then refuseImage r (rigActor d r) st off d
  else if r.quiesce && rigBusy d r.img.domain then
    let till := d.tb.now + ms (numOf 20 d (dk 0x5001 2))
    onRig r.img.domain (fun x => { x with quiesce := some { img := r.img, via := r.via, officer := r.officer, till := till } }) d
  else match placeImage d r.img r.quiesce with
  | none => refuseImage r (rigActor d r) .policy 0 d
  | some places => acceptImage r (rigActor d r) places d

/-- Run an admission, or let it wait for the one before it of its domain (R291). -/
def admitOrQueue (r : RigReq) (d : Dev) : Dev :=
  if (rigOf d r.img.domain).quiesce.isSome then onRig r.img.domain (fun x => { x with queued := x.queued ++ [r] }) d
  else admitOne r d

/-- The admissions that waited run in order, until one waits for a quiesce. -/
def runQueued (dom : Nat) : Nat → Dev → Dev
  | 0, d => d
  | n + 1, d =>
    let x := rigOf d dom
    match x.queued with
    | [] => d
    | r :: rest =>
      if x.quiesce.isSome then d
      else runQueued dom n (admitOne r (onRig dom (fun x => { x with queued := rest }) d))

/-- A command that may make an image of a domain current; its code, data, tables and rule-set images are then loaded
(R287). -/
def rigStep (dom : Nat) (f : Dev → Dev) (s : State) : State :=
  let s' := { s with dev := f s.dev }
  let new := (rigOf s'.dev dom).current
  if new == (rigOf s.dev dom).current then s'
  else match new with
  | some e => loadImage e s'
  | none => s'

/-- RIG_ADMIT (R285-R289, R402). -/
def execRigAdmit (h : SvcHdr) (obj : ObjRef) (image : RigImage) (s : State) : Out :=
  let img := imageNamed h.via obj image s.dev
  .next (rigStep img.domain (fun d =>
    serve h (.rigAdmit obj image) (fun d => objStatus h.via obj d) (fun _ _ => .ok)
      (fun _ => { single := fun r => match r with
        | .domainOfficer _ => true
        | .operator => true
        | .hostDriver => true
        | _ => false })
      (fun d => if d.ks.migState = 0 then .ok else .policy) true
      (fun d _ => admitOrQueue { img := img, via := h.via, officer := h.officer, quiesce := h.quiesce } d) d) s)

/-- QUIESCE_DRAINED (R289): no message of the old image is in flight; the new image takes its room and becomes
current. -/
def execQuiesceDrained (dom : BitVec 12) (s : State) : Out :=
  .next (rigStep dom.toNat (fun d =>
    match (rigOf d dom.toNat).quiesce with
    | none => d
    | some q =>
      if rigBusy d dom.toNat then d
      else
        let r : RigReq := { img := q.img, via := q.via, officer := q.officer, quiesce := true }
        let d := onRig dom.toNat (fun x => { x with quiesce := none }) d
        let d := match placeImage d q.img true with
          | none => refuseImage r (rigActor d r) .policy 0 d
          | some places => acceptImage r (rigActor d r) places d
        runQueued dom.toNat 256 d) s)

/-- QUIESCE_TIMEOUT (R289): QUIESCE_LIMIT has passed; the request completes with TIMEOUT, the old image stays. -/
def execQuiesceTimeout (dom : BitVec 12) (s : State) : Out :=
  .next (rigStep dom.toNat (fun d =>
    match (rigOf d dom.toNat).quiesce with
    | none => d
    | some q =>
      let d := onRig dom.toNat (fun x => { x with quiesce := none }) (reach q.till d)
      let r : RigReq := { img := q.img, via := q.via, officer := q.officer, quiesce := true }
      runQueued dom.toNat 256 (refuseImage r (rigActor d r) .timeout 0 d)) s)

/-- Retire a domain's image (R290): messages in flight run out, the high-water mark stays. -/
def retireImage (dom : Nat) (d : Dev) : Dev :=
  let d := { d with rig := { d.rig with nand := del d.rig.nand dom } }
  rigGc (onRig dom (fun r => { r with current := none, draining := r.current.toList ++ r.draining,
                                      retired := r.retired || r.current.isSome }) d)

/-- RIG_RETIRE (R290): a domain without an image is answered POLICY. -/
def execRigRetire (h : SvcHdr) (domain : BitVec 16) (s : State) : Out :=
  onDev (fun d =>
    let dom := domain.toNat
    serve h (.rigRetire dom) (fun _ => if dom < 4096 then .ok else .format) (fun _ _ => .ok)
      (fun _ => { dual := [(2, .device), (2, .domain dom)] })
      (fun d => if (rigOf d dom).current.isSome then .ok else .policy) true
      (fun d _ =>
        let v := ((rigOf d dom).current.map (fun e => e.img.version)).getD 0
        let d := raise srcCustodian 0x0212 dom (actorReq d h) [(4, v), (1, 0), (4, 0)] (retireImage dom d)
        answer h.via .ok [] d) d) s

end Sys2Proof.Machine
end

