-- ==== Sys2Proof/Machine/NetIn.lean ====
section
/-! DEFINITION. What arrives at an endpoint: held messages and their round robin (R346, R347), UDP (R330), TCP (R331,
R334, R339), the network layer (R328, R329). -/

set_option linter.unusedVariables false

namespace Sys2Proof.Machine

open Sys2Proof

/-! Held messages. -/

/-- What a TCP message arrived on (R341-R344). -/
def tcpOrigin (d : Dev) (c : Nat) (t : TcpConn) : MsgOrigin :=
  { conn := some (c, t.inc), listener := t.listener, chan := (lisOf d t.listener).chan, port := t.port, v6 := t.v6,
    peerAddr := t.peerAddr, peerPort := t.peerPort, localPort := t.localPort, vlan := t.vlan, dscp := t.dscp }

/-- What a datagram arrived on. -/
def udpOrigin (d : Dev) (u : HeldUdp) : MsgOrigin :=
  { conn := none, listener := u.listener, chan := (lisOf d u.listener).chan, port := u.port, v6 := u.v6,
    peerAddr := u.peerAddr, peerPort := u.peerPort, localPort := u.localPort, vlan := u.vlan, dscp := u.dscp }

/-- Messages held on connections and in the UDP queues (HELD_NOW, R350). -/
def heldNow (d : Dev) : Nat := (d.net.conns.map (fun e => e.2.held.length)).foldl (· + ·) 0 + d.net.udp.length

/-- The listener or route a message belongs to. -/
def turnKey (listener : Nat) (route : Option Nat) : Nat := match route with | some r => 256 + r | none => listener

/-- Offer the oldest held message of a connection: none where it stays held. -/
def offerConn (c : Nat) (d : Dev) : Option Dev :=
  match connOf d c with
  | none => none
  | some t => match t.held with
    | [] => none
    | b :: rest =>
      let take := fun (d : Dev) => onConn c (fun t => { t with held := rest }) d
      match offer (tcpOrigin d c t) b d with
      | .held => none
      | .dropped d => some (take d)
      | .admitted d => some (take d)

/-- Offer the oldest held datagram of a listener or route. -/
def offerUdp (key : Nat) (d : Dev) : Option Dev :=
  match d.net.udp.find? (fun u => turnKey u.listener u.route == key) with
  | none => none
  | some u =>
    let take := fun (d : Dev) => { d with net := { d.net with udp := d.net.udp.erase u } }
    match offer (udpOrigin d u) u.bytes d with
    | .held => none
    | .dropped d => some (take d)
    | .admitted d => some (take d)

/-- Offer messages of one connection in order, until one stays held (R342). -/
def drainConn (c : Nat) : Nat → Dev → Dev
  | 0, d => d
  | n + 1, d => match offerConn c d with
    | none => d
    | some d => drainConn c n d

/-- A list turned so that the entries above a number come first. -/
def turnFrom (n : Nat) (l : List Nat) : List Nat := l.filter (fun k => decide (n < k)) ++ l.filter (fun k => decide (k ≤ n))

/-- The first that answers. -/
def firstSome (f : Nat → Option Dev) : List Nat → Option (Nat × Dev)
  | [] => none
  | k :: r => match f k with
    | some d => some (k, d)
    | none => firstSome f r

/-- Sources of held messages of a listener or route: connections in turn, then its datagrams. -/
def offerKey (key : Nat) (d : Dev) : Option Dev :=
  let conns := keysOf (d.net.conns.filter (fun e => turnKey e.2.listener e.2.route == key && !e.2.held.isEmpty))
  match firstSome (fun c => offerConn c d) (turnFrom (lookD 0 d.net.turns key) conns) with
  | some (c, d) => some { d with net := { d.net with turns := put 0 d.net.turns key c, lastTurn := key } }
  | none => (offerUdp key d).map (fun d => { d with net := { d.net with lastTurn := key } })

/-- One turn of the round robin (R346). -/
def admitTurn (d : Dev) : Dev :=
  let keys := ((d.net.conns.filter (fun e => !e.2.held.isEmpty)).map (fun e => turnKey e.2.listener e.2.route) ++
    d.net.udp.map (fun u => turnKey u.listener u.route)).eraseDups
  let sorted := keys.mergeSort (fun a b => decide (a ≤ b))
  match firstSome (fun k => offerKey k d) (turnFrom d.net.lastTurn sorted) with
  | some (_, d) => d
  | none => d

/-- HELD_MESSAGE_ADMIT (R346). -/
def execHeldMessageAdmit (s : State) : Out := onDev (fun d => finishCloses (admitTurn d)) s

/-! UDP (R330, R347). -/

/-- Bytes of a port's held datagrams. -/
def udpHeld (d : Dev) (p : Nat) : Nat :=
  ((d.net.udp.filter (fun u => u.port == p)).map (fun u => u.bytes.length)).foldl (· + ·) 0

/-- Valid routes by number. -/
def routeNums (d : Dev) : List Nat :=
  (d.dict.blobs.filter (fun e => decide (dk 0x34E0 0 ≤ e.1 ∧ e.1 < dk 0x34F0 0))).map (fun e => e.1 - dk 0x34E0 0)

/-- The listener tag and route a datagram belongs to. -/
def udpTarget (d : Dev) (p : Nat) (ip : Ip) (sp dp : Nat) : Option (Nat × Option Nat) :=
  let proto := if ip.v6 then 3 else 2
  match (List.range 224).find? (fun n => (lisOf d n).state == 1 && lisPort d n == p && lisProto d n == proto && lisLocal d n == dp) with
  | some n => some (n, none)
  | none =>
    match (routeNums d).find? (fun r =>
      let x := routeOf d r
      x.valid && x.udp && x.port == p && x.v6 == ip.v6 && x.remote == ip.src && x.rport == sp &&
        (lookD {} d.net.routes r).lport == dp && !(dp == 0) && (lisOf d x.listener).state == 1) with
    | some r => some ((routeOf d r).listener, some r)
    | none => none

/-- A datagram arrives. -/
def udpIn (p : Nat) (vlan : Option Nat) (ip : Ip) (d : Dev) : Dev :=
  let b := ip.body
  let n := beAt b 4 2
  let data := slice b 8 (n - 8)
  let ck := beAt b 6 2
  let good := decide (8 < n ∧ n ≤ b.length ∧ data.length ≤ 16384) &&
    (if ck = 0 then !ip.v6 else inetOk (pseudo ip.v6 ip.src ip.dst 17 n ++ b.take n))
  match good, udpTarget d p ip (beAt b 0 2) (beAt b 2 2) with
  | true, some (l, r) =>
    let u : HeldUdp := { port := p, listener := l, route := r, peerAddr := ip.src, peerPort := beAt b 0 2,
                         localPort := beAt b 2 2, v6 := ip.v6, vlan := vlan, dscp := ip.dscp, bytes := data }
    let queue := fun (d : Dev) =>
      if 2 ^ 20 < udpHeld d p + data.length then bump (nk 8) d
      else { d with net := { d.net with udp := d.net.udp ++ [u] } }
    let d := bump (lk l 0x0D) d
    if heldNow d = 0 then
      match offer (udpOrigin d u) data d with
      | .held => queue d
      | .dropped d => d
      | .admitted d => d
    else queue d
  | _, _ => bump (nk 9) d

/-! TCP. -/

/-- Framing of a stream (R338, R339): the next message and what follows it; none while it is not whole; an error. -/
inductive Framed where
  | message (b rest : Bytes)
  | partial_
  | error

/-- The length a prefix gives, or none for a framing error. -/
def prefixLenOf (framing : Nat) (b : Bytes) : Option Nat :=
  let n := match framing with
    | 1 => some (beVal b)
    | 2 => if beVal b < 3 then none else some (beVal b - 2)
    | 3 => some (beVal b)
    | _ => decOf b 0
  match n with
  | none => none
  | some n => if 1 ≤ n ∧ n ≤ 16384 then some n else none

def frameNext (framing : Nat) (b : Bytes) : Framed :=
  let k := prefixLen framing
  if framing = 4 ∧ (b.take k).any (fun c => (digitOf c).isNone) then .error
  else if b.length < k then .partial_
  else match prefixLenOf framing (b.take k) with
  | none => .error
  | some n => if b.length < k + n then .partial_ else .message (slice b k n) (b.drop (k + n))

/-- Find the messages in a connection's stream; false where a framing error was met. -/
def frameConn (c : Nat) : Nat → Dev → Bool × Dev
  | 0, d => (true, d)
  | n + 1, d =>
    match connOf d c with
    | none => (true, d)
    | some t =>
      if t.stream.isEmpty then (true, d)
      else match frameNext t.framing t.stream with
      | .partial_ => (true, d)
      | .error => (false, d)
      | .message b rest =>
        frameConn c n (bump (lk t.listener 0x0D) (onConn c (fun t => { t with stream := rest, held := t.held ++ [b] }) d))

/-- New in-order bytes: framed, and admitted at once unless others are held before them; a framing error resets the
connection. -/
def streamIn (c : Nat) (d : Dev) : Dev :=
  let before := heldNow d
  let (ok, d) := frameConn c 26624 d
  let d := if before = 0 then drainConn c 26624 d else d
  if ok then d else bump (nk 5) (resetConn c d)

/-- Merge held segments that have become contiguous. -/
def mergeOoo : Nat → TcpConn → TcpConn
  | 0, t => t
  | n + 1, t =>
    match t.ooo.find? (fun e => seqLe e.1 t.rcvNxt) with
    | none => t
    | some e =>
      let new := e.2.drop (seqSub t.rcvNxt e.1)
      mergeOoo n { t with ooo := t.ooo.erase e, stream := t.stream ++ new, rcvNxt := w32 (t.rcvNxt + new.length) }

/-- Take a segment's data into the receive buffer, cut to the window (R332). -/
def takeData (s : Seg) (t : TcpConn) : TcpConn :=
  let skip := if seqLt s.seq t.rcvNxt then seqSub t.rcvNxt s.seq else 0
  let start := if skip = 0 then s.seq else t.rcvNxt
  let data := (s.data.drop skip).take (rcvWindow t - (if skip = 0 then seqSub s.seq t.rcvNxt else 0))
  if data.isEmpty then t
  else if start = t.rcvNxt then
    mergeOoo 64 { t with stream := t.stream ++ data, rcvNxt := w32 (t.rcvNxt + data.length) }
  else if t.ooo.any (fun e => e.1 == start && decide (data.length ≤ e.2.length)) then t
  else { t with ooo := t.ooo ++ [(start, data)] }

/-- RTT sample and RTO (R331, RFC 6298). -/
def rttSample (r : Nat) (t : TcpConn) : TcpConn :=
  let (srtt, var) := if t.srtt = 0 then (r, r / 2)
    else ((7 * t.srtt + r) / 8, (3 * t.rttvar + (if t.srtt < r then r - t.srtt else t.srtt - r)) / 4)
  { t with srtt := srtt, rttvar := var, rto := min (sec 2) (max (ms 5) (srtt + max 1000000 (4 * var))), rttAt := none }

/-- An acknowledgement of `n` new bytes (RFC 5681, RFC 6582, RFC 6675); true where, without SACK, the next segment is sent
again. -/
def ackNew (ack n now : Nat) (t : TcpConn) : TcpConn × Bool :=
  let t := match t.rttAt with
    | some (sq, at_) => if seqLe sq ack then rttSample (now - at_) t else t
    | none => t
  let full := t.recovering && seqLe t.recover ack
  let going := t.recovering && !full
  let cwnd := if full && !t.lost then t.ssthresh
    else if going && !t.lost then (if t.sack then t.cwnd else (t.cwnd - n) + t.mss)
    else if t.cwnd < t.ssthresh then t.cwnd + min n t.mss
    else t.cwnd + max 1 (t.mss * t.mss / t.cwnd)
  let left := seqSub t.sndNxt ack
  ({ t with sndUna := ack, sendBuf := t.sendBuf.drop n, cwnd := cwnd, dupAcks := if going then t.dupAcks else 0,
            recovering := going, lost := t.lost && going, sacked := t.sacked.filter (fun b => seqLe ack b.1),
            marks := t.marks.filter (fun m => seqLt ack m.stop), retries := 0,
            timer := if left = 0 then none else some (now + t.rto) },
   going && !t.sack && !t.lost)

/-- A duplicate acknowledgement: the third, or one whose SACK shows a loss, starts recovery; true where it does. -/
def ackDup (t : TcpConn) : TcpConn × Bool :=
  let n := t.dupAcks + 1
  if t.recovering then (if t.sack || t.lost then t else { t with dupAcks := n, cwnd := t.cwnd + t.mss }, false)
  else if 3 ≤ n ∨ (t.sack && gapLost t 0) = true then
    let half := max (inFlight t / 2) (2 * t.mss)
    ({ t with dupAcks := n, recovering := true, recover := t.sndNxt, highRxt := t.sndUna, ssthresh := half,
              cwnd := if t.sack then half else half + 3 * t.mss }, true)
  else ({ t with dupAcks := n }, false)

/-- Put a block into an ordered list of disjoint blocks of offsets. -/
def addBlock : List (Nat × Nat) → Nat × Nat → List (Nat × Nat)
  | [], b => [b]
  | x :: r, b =>
    if x.2 < b.1 then x :: addBlock r b
    else if b.2 < x.1 then b :: x :: r
    else addBlock r (min x.1 b.1, max x.2 b.2)

/-- The blocks a segment's SACK reports, of what has been sent and not acknowledged, join those known (RFC 2018). -/
def takeSacks (s : Seg) (t : TcpConn) : TcpConn :=
  if !t.sack then t
  else
    let ok := fun (b : Nat × Nat) => seqLt t.sndUna b.1 && seqLt b.1 b.2 && seqLe b.2 t.sndNxt
    let l := ((s.sacks.filter ok).map (fun b => (seqSub b.1 t.sndUna, seqSub b.2 t.sndUna))).foldl addBlock (sackOffsets t)
    { t with sacked := l.map (fun b => (w32 (t.sndUna + b.1), w32 (t.sndUna + b.2))) }

/-- The window a segment grants. -/
def grantOf (t : TcpConn) (s : Seg) : Nat := if s.syn ∨ t.peerShift = 15 then s.wnd else s.wnd * 2 ^ t.peerShift

/-- Options of a SYN (R331). -/
def takeSyn (d : Dev) (s : Seg) (t : TcpConn) : TcpConn :=
  let ours := ourMss d t.port t.v6 t.vlan.isSome
  let mss := min ours (s.mss.getD 536)
  { t with rcvNxt := w32 (s.seq + 1), mss := mss, peerShift := s.shift.getD 15, sack := s.sackOk,
           tsRecent := s.ts.map (fun e => e.1), sndWnd := s.wnd, cwnd := 10 * mss }

/-- Own FIN acknowledged, or a connection established: the state after an acknowledgement. -/
def afterAck (now : Nat) (t : TcpConn) : TcpConn :=
  if !(t.sndUna == t.sndNxt) then t
  else match t.state with
  | .finWait1 => { t with state := .finWait2, timer := none }
  | .closing => { t with state := .timeWait, stateAt := now, timer := none }
  | _ => t

/-- The peer's FIN (RFC 9293, R348): the device's own follows the connection's last release. -/
def afterFin (now : Nat) (t : TcpConn) : TcpConn :=
  let t := { t with rcvNxt := w32 (t.rcvNxt + 1), closeAfter := true }
  match t.state with
  | .established => { t with state := .closeWait }
  | .finWait1 => { t with state := .closing }
  | .finWait2 => { t with state := .timeWait, stateAt := now, timer := none }
  | _ => t

/-- A segment lies in the window (RFC 9293). -/
def segAcceptable (t : TcpConn) (s : Seg) : Bool :=
  let w := rcvWindow t
  let n := s.data.length + b2n s.fin
  let inW := fun (q : Nat) => decide (seqSub q t.rcvNxt < w)
  if n = 0 then (if w = 0 then s.seq == t.rcvNxt else inW s.seq)
  else decide (0 < w) && (inW s.seq || inW (w32 (s.seq + n - 1)))

/-- Acknowledgement processing; none where the segment goes no further. -/
def ackIn (c : Nat) (t : TcpConn) (s : Seg) (d : Dev) : Option Dev :=
  let now := d.tb.now
  if t.state == .synRcvd then
    if seqSub s.ack t.sndUna = 1 ∧ s.ack = t.sndNxt then
      some (onConn c (fun t => { t with state := .established, stateAt := now, sndUna := s.ack, sndWnd := grantOf t s,
                                        timer := none, retries := 0 }) d)
    else none
  else if seqLt t.sndNxt s.ack then none
  else
    let n := seqSub s.ack t.sndUna
    if seqLt t.sndUna s.ack then
      let (t', again) := ackNew s.ack n now t
      let t' := takeSacks s (afterAck now { t' with sndWnd := grantOf t s })
      let d := onConn c (fun _ => t') d
      some (fillBuffer c 256 (recoverOut c 32768 (if again then resend c d else d)))
    else if s.ack = t.sndUna ∧ 0 < inFlight t ∧
        (if t.sack then ¬ (takeSacks s t).sacked = t.sacked else s.data.isEmpty = true ∧ grantOf t s = t.sndWnd) then
      let (t', start) := ackDup { takeSacks s t with sndWnd := grantOf t s }
      let d := onConn c (fun _ => t') d
      some (recoverOut c 32768 (if start then resend c d else d))
    else some (onConn c (fun t => { t with sndWnd := grantOf t s }) d)

/-- A segment for a connection past its SYN (RFC 9293). -/
def segIn (c : Nat) (t : TcpConn) (s : Seg) (d : Dev) : Dev :=
  let now := d.tb.now
  let old := match s.ts, t.tsRecent with | some (v, _), some r => seqLt v r && !s.rst | _, _ => false
  if old || !segAcceptable t s then (if s.rst then d else sendAck c d)
  else if s.rst then (if s.seq = t.rcvNxt then discardConn c d else sendAck c d)
  else if s.syn then sendAck c d
  else if !s.isAck then d
  else
    let d := onConn c (fun t => { t with
      lastActive := now, probes := 0, retries := if inFlight t = 0 then 0 else t.retries,
      tsRecent := match s.ts with | some (v, _) => if seqLe s.seq t.rcvNxt then some v else t.tsRecent | none => t.tsRecent }) d
    match ackIn c t s d with
    | none => if t.state == .synRcvd then resetConn c d else sendAck c d
    | some d =>
      match connOf d c with
      | none => d
      | some t =>
        if t.state == .lastAck && t.sndUna == t.sndNxt then removeConn c d
        else
          let open_ := t.state == .established || t.state == .finWait1 || t.state == .finWait2
          let d := if open_ then onConn c (takeData s) d else d
          let fin := s.fin && open_ && (match connOf d c with
            | some t => t.rcvNxt == w32 (s.seq + s.data.length)
            | none => false)
          let d := if fin then onConn c (afterFin now) d else d
          let d := if open_ then streamIn c d else d
          let d := if (s.data.isEmpty && !s.fin) then d else sendAck c d
          finishCloses (pump c d)

/-- A segment for a connection that has sent SYN. -/
def synSentIn (c : Nat) (t : TcpConn) (p : Nat) (vlan : Option Nat) (ip : Ip) (s : Seg) (d : Dev) : Dev :=
  let now := d.tb.now
  let good := s.isAck && s.ack == t.sndNxt
  if s.isAck && !good then (if s.rst then d else sendRst p vlan ip s d)
  else if s.rst then (if good then discardConn c d else d)
  else if !s.syn then d
  else if good then
    let t' := { takeSyn d s t with state := .established, stateAt := now, sndUna := s.ack, timer := none, retries := 0 }
    pump c (sendAck c (onConn c (fun _ => t') d))
  else sendSyn c (onConn c (fun t => { takeSyn d s t with state := .synRcvd }) d)

/-- A prefix of ALLOW holds an address (R335). -/
def allows (v6 : Bool) (src : Bytes) (e : Bytes) : Bool :=
  let n := leAt e 0 1
  if v6 then samePrefix n src (slice e 1 16) else decide (n ≤ 32) && samePrefix n src (slice e 1 4)

/-- The entries of a listener's ALLOW of its own family; an IPv4 entry has nothing beyond its four bytes. -/
def allowList (b : Bytes) : List Bytes := (List.range (b.length / 17)).map (fun i => slice b (17 * i) 17)
def allowFamily (v6 : Bool) (e : Bytes) : Bool :=
  v6 || ((e.drop 5).all (fun x => x == 0#8) && decide (leAt e 0 1 ≤ 32))

/-- A SYN to a listener (R334). -/
def synIn (p : Nat) (vlan : Option Nat) (ip : Ip) (s : Seg) (d : Dev) : Dev :=
  match (List.range 224).find? (fun n => (lisOf d n).state == 1 && lisPort d n == p &&
      lisProto d n == (if ip.v6 then 1 else 0) && lisLocal d n == s.dport) with
  | none => sendRst p vlan ip s d
  | some n =>
    let list := blobOf d (lk n 8)
    if !list.isEmpty && !(allowList list).any (fun e => allowFamily ip.v6 e && allows ip.v6 ip.src e) then bump (nk 3) d
    else if decide (lisMaxConn d n ≤ lisConns d n) || decide (32768 ≤ d.net.conns.length) then
      sendRst p vlan ip s (bump (nk 2) d)
    else
      let t : TcpConn := { inc := 0, state := .synRcvd, port := p, v6 := ip.v6, localAddr := ip.dst, localPort := s.dport,
                           peerAddr := ip.src, peerPort := s.sport, listener := n, vlan := vlan, dscp := ip.dscp,
                           framing := lisFraming d n }
      match newConn (takeSyn d s t) d with
      | none => sendRst p vlan ip s (bump (nk 2) d)
      | some (c, d) => sendSyn c d

/-- A TCP segment arrives. -/
def tcpIn (p : Nat) (vlan : Option Nat) (ip : Ip) (d : Dev) : Dev :=
  match segOf ip with
  | none => bump (nk 9) d
  | some s =>
    match d.net.conns.find? (fun e => let t := e.2
        t.port == p && t.v6 == ip.v6 && t.localAddr == ip.dst && t.localPort == s.dport && t.peerAddr == ip.src &&
          t.peerPort == s.sport) with
    | none => if s.rst then d else if s.syn && !s.isAck then synIn p vlan ip s d else sendRst p vlan ip s d
    | some (c, t) =>
      let d := onConn c (fun t => { t with vlan := if t.route.isSome then t.vlan else vlan, dscp := ip.dscp }) d
      if t.state == .synSent then synSentIn c t p vlan ip s d
      else if t.state == .timeWait && s.syn && !s.isAck && (seqLt t.rcvNxt s.seq ||
          (match s.ts, t.tsRecent with | some (v, _), some r => seqLt r v | _, _ => false)) then
        synIn p vlan ip s (removeConn c d)
      else segIn c t s d

/-! The network layer (R328, R329). -/

/-- IP_DROPS. -/
def ipDrop (d : Dev) : Dev := bump (nk 9) d

/-- An ICMPv6 message for the device. -/
def icmp6In (p : Nat) (vlan : Option Nat) (ip : Ip) (hops : Nat) (d : Dev) : Dev :=
  let b := ip.body
  let typ := leAt b 0 1
  if !inetOk (pseudo true ip.src ip.dst 58 b.length ++ b) then ipDrop d
  else if typ = 128 then
    if pingOn d p then
      let src := if has (ownAddrs d p true) ip.dst then ip.dst else sourceFor d p true ip.src
      sendIp p vlan { v6 := true, src := src, dst := ip.src, proto := 58, dscp := 0, body := icmp6 src ip.src ([129#8, 0#8] ++ b.drop 2) }
        none d
    else ipDrop d
  else if typ = 135 ∧ hops = 255 ∧ 24 ≤ b.length then
    let target := slice b 8 16
    if !has (ownAddrs d p true) target then ipDrop d
    else
      let d := if leAt b 24 1 = 1 ∧ beVal ip.src ≠ 0 then confirmNeighbour p ip.src (slice b 26 6) true d else d
      let dst := if beVal ip.src = 0 then be 16 (0xFF02 * 2 ^ 112 + 1) else ip.src
      let flags := if beVal ip.src = 0 then 0x20 else 0x60
      let m := [136#8, 0#8, 0#8, 0#8] ++ be 1 flags ++ zeros 3 ++ target ++ [2#8, 1#8] ++ be 6 (portMac d p)
      let body := ipBytes { v6 := true, src := target, dst := dst, proto := 58, dscp := 0, body := icmp6 target dst m } 255
      let mac := if beVal ip.src = 0 then groupMac dst else
        (match neighbourOf d p ip.src with | some n => (n.mac.map beVal).getD (groupMac dst) | none => groupMac dst)
      egressFrame p (ethBytes mac (portMac d p) vlan 0x86DD body) none d
  else if typ = 136 ∧ hops = 255 ∧ 24 ≤ b.length then
    if leAt b 24 1 = 2 then confirmNeighbour p (slice b 8 16) (slice b 26 6) false d else d
  else ipDrop d

/-- A frame for the network layer of an endpoint. -/
def ipIn (p : Nat) (e : Eth) (d : Dev) : Dev :=
  if e.typ = 0x0806 then
    let b := e.body
    let op := beAt b 6 2
    let mine := has (ownAddrs d p false) (slice b 24 4)
    if beAt b 0 2 ≠ 1 ∨ beAt b 2 2 ≠ 0x0800 ∨ b.length < 28 ∨ ¬ ((op = 1 ∧ mine = true) ∨ op = 2) then ipDrop d
    else
      let d := confirmNeighbour p (slice b 14 4) (slice b 8 6) mine d
      if op = 1 then
        egressFrame p (ethBytes (beAt b 8 6) (portMac d p) e.vlan 0x0806
          (arpBytes 2 (portMac d p) (slice b 24 4) (beAt b 8 6) (slice b 14 4))) none d
      else d
  else if e.typ = 0x0800 then
    match ip4Of e.body with
    | none => ipDrop d
    | some ip =>
      if !has (ownAddrs d p false) ip.dst then ipDrop d
      else
        let d := confirmNeighbour p ip.src (be 6 e.src) false d
        if ip.proto = 6 then tcpIn p e.vlan ip d
        else if ip.proto = 17 then udpIn p e.vlan ip d
        else if ip.proto = 1 ∧ leAt ip.body 0 1 = 8 ∧ inetOk ip.body = true ∧ pingOn d p = true then
          let m := fun (c : Nat) => [0#8, 0#8] ++ be 2 c ++ ip.body.drop 4
          sendIp p e.vlan { ip with src := ip.dst, dst := ip.src, dscp := 0, body := m (inetSum (m 0)) } none d
        else ipDrop d
  else if e.typ = 0x86DD then
    match ip6Of e.body with
    | none => ipDrop d
    | some ip =>
      let own := ownAddrs d p true
      if !has own ip.dst && !(own.map solicited).any (fun a => a == ip.dst) then ipDrop d
      else
        let d := confirmNeighbour p ip.src (be 6 e.src) false d
        if ip.proto = 58 then icmp6In p e.vlan ip (leAt e.body 7 1) d
        else if !has own ip.dst then ipDrop d
        else if ip.proto = 6 then tcpIn p e.vlan ip d
        else if ip.proto = 17 then udpIn p e.vlan ip d
        else ipDrop d
  else ipDrop d

end Sys2Proof.Machine
end

