-- ==== Sys2Proof/Machine/NetRows.lean ====
section
/-! DEFINITION. The commands of ports and Message Transport: frames in and out (R304-R311, R317, R320), the timers of
neighbours and connections (R329, R331, R334, R345, R348), listeners and routes (R333, R337). -/

set_option linter.unusedVariables false

namespace Sys2Proof.Machine

open Sys2Proof

/-! Frames. -/

/-- VLAN_LIST of a port as VIDs (R305). -/
def vlanList (d : Dev) (p : Nat) : List Nat :=
  let b := blobOf d (pk p 0x0B)
  (List.range (b.length / 2)).map (fun i => leAt b (2 * i) 2)

/-- The VLAN rule of R305: untagged, priority-tagged, or single-tagged with a VID in VLAN_LIST. -/
def vlanOk (d : Dev) (p : Nat) (b : Bytes) : Bool :=
  let t := etherType b
  if t = 0x88A8 then false
  else if t = 0x8100 then
    let vid := fieldOf (beAt b 14 2) 0 12
    let inner := beAt b 16 2
    (vid == 0 || has (vlanList d p) vid) && !(inner == 0x8100) && !(inner == 0x88A8)
  else true

/-- The destinations an endpoint accepts (R305): its own address, broadcast, its solicited-node groups. -/
def acceptsMac (d : Dev) (p mac : Nat) : Bool :=
  mac == portMac d p || mac == 0xFFFFFFFFFFFF || (ownAddrs d p true).any (fun a => groupMac (solicited a) == mac)

/-- A good frame reaches its use: an MKA PDU becomes an event record except on the clear side, a bridge forwards, an
endpoint delivers, but during Standby entry (R305, R310, R313, R348). `b` is the frame after decryption, `n` the octets received. -/
def frameUse (p n : Nat) (b : Bytes) (d : Dev) : Dev :=
  let d := bumpBy n (pk p 0x26) (ptpStamp p true b d)
  if etherType b = 0x888E ∧ portRole d p ≠ 2 then portEvent p 1 0 0 0 b (bump (pk p 0x20) d)
  else if portRole d p = 0 then
    if acceptsMac d p (beAt b 0 6) then
      let d := bump (pk p 0x20) d
      if d.pow.standbyAt.isSome then d else ipIn p (ethOf b) d
    else d
  else
    let q := portPair d p
    if portRole d p = 2 ∧ macsecMode d q ≠ 0 ∧ etherType b ≠ 0x888E ∧ portMtu d q < b.length + 36 then bump (pk q 0x49) d
    else egressFrame q b none (if portUp d q then bump (pk p 0x20) d else d)

/-- A frame that fails after a bridge has begun to forward it ends on the partner with an inverted FCS (R304, R311). What
of it had left by then is not said; the record carries no bytes. -/
def stompPair (p : Nat) (d : Dev) : Dev :=
  if portRole d p = 0 then d
  else
    let q := portPair d p
    if portUp d q then emit (.frame q [] true) (bump (pk q 0x2A) d) else bump (pk q 0x29) d

/-- FRAME_RECEIVE (R304, R305, R307, R310, R311, R320). -/
def execFrameReceive (p : Fin 64) (f : RxFrame) (s : State) : Out :=
  onDev (fun d =>
    let p := p.val
    let b := f.bytes
    let n := b.length + 4
    if !portUp d p then d
    else if !f.fcsOk || !f.fecOk then stompPair p (bump (pk p 0x21) d)
    else if n < 64 ∨ 9216 < n ∨ portMtu d p < n then bump (pk p 0x22) d
    else if etherType b = 0x8808 then bump (pk p 0x24) d
    else if macsecMode d p = 0 ∨ portRole d p = 2 then
      if vlanOk d p b then frameUse p n b d else bump (pk p 0x23) d
    else match macsecIn p b d with
    | (.drop 0x41, d) => stompPair p (bump (pk p 0x41) d)
    | (.drop sub, d) => bump (pk p sub) d
    | (.plain b, d) => if vlanOk d p b then frameUse p n b d else bump (pk p 0x23) d) s

/-- FRAME_TRANSMIT (R306, R313, R317): a frame given from outside, or with none given the frame at the head of the
port's egress, is handed to the egress datapath; it waits while the datapath resolves its SA's key again. -/
def execFrameTransmit (p : Fin 64) (frame : Bytes) (s : State) : Out :=
  onDev (fun d =>
    if !frame.isEmpty then (sendFrame p.val frame none d).2
    else match (portOf d p.val).egress with
    | [] => d
    | f :: rest =>
      let (sent, d') := sendFrame p.val f.bytes f.tag (onPort p.val (fun q => { q with egress := rest }) d)
      if sent then finishCloses d' else d) s

/-! Neighbours (R329). -/

/-- Forget a neighbour. -/
def dropNeighbour (p : Nat) (addr : Bytes) (d : Dev) : Dev :=
  { d with net := { d.net with neighbours := d.net.neighbours.filter (fun n => !(n.port == p && n.addr == addr)) } }

/-- NEIGHBOUR_RETRY. -/
def execNeighbourRetry (p : Fin 64) (addr : Bytes) (s : State) : Out :=
  onDev (fun d =>
    match neighbourOf d p.val addr with
    | some n =>
      if n.mac.isSome then d
      else askNeighbour p.val addr (onNeighbour p.val addr (fun n => { n with nextTry := n.nextTry + ms 250 }) (reach n.nextTry d))
    | none => d) s

/-- NEIGHBOUR_TIMEOUT. -/
def execNeighbourTimeout (p : Fin 64) (addr : Bytes) (s : State) : Out :=
  onDev (fun d =>
    match neighbourOf d p.val addr with
    | some n => if n.mac.isSome then d else dropWaiting n.waiting (dropNeighbour p.val addr (reach (n.since + sec 1) d))
    | none => d) s

/-- NEIGHBOUR_LAPSE. -/
def execNeighbourLapse (p : Fin 64) (addr : Bytes) (s : State) : Out :=
  onDev (fun d =>
    match neighbourOf d p.val addr with
    | some n => if n.mac.isSome then dropNeighbour p.val addr (reach (n.confirmed + sec 300) d) else d
    | none => d) s

/-! Listeners and routes. -/

/-- A listener's close is complete once nothing of it is left: its channel goes (R348). -/
def finishListeners (d : Dev) : Dev :=
  d.net.listeners.foldl (fun d e =>
    let n := e.1
    if e.2.state == 2 && !d.net.conns.any (fun c => c.2.listener == n) && !d.net.udp.any (fun u => u.listener == n) &&
        !d.rig.msgs.any (fun m => m.2.origin.listener == n && !m.2.released) then
      setNum 0 (lk n 0x0B) 0 (onLis n (fun _ => {}) (closeChan e.2.chan d))
    else d) d

/-- Another enabled listener holds the port, protocol and local port (R333). -/
def lisClash (d : Dev) (n : Nat) : Bool :=
  (List.range 224).any (fun k => !(k == n) && !((lisOf d k).state == 0) && lisPort d k == lisPort d n &&
    lisProto d k == lisProto d n && lisLocal d k == lisLocal d n)

/-- A write of ENABLE (R333, R348): the status it completes with, and the device. -/
def setListener (n : Nat) (on : Bool) (d : Dev) : Status × Dev :=
  let l := lisOf d n
  if on then
    if l.state = 1 then (.ok, d)
    else if l.state = 2 ∨ ¬ endpoint d (lisPort d n) = true ∨ lisClash d n = true ∨ d.life.reef = 3 ∨ lisLocal d n = 0 ∨
        (lisFraming d n = 0) ≠ (2 ≤ lisProto d n) then (.policy, d)
    else match openChan (.listener n) (lisDomain d n) 256 0 d with
    | none => (.policy, d)
    | some (c, h, d) =>
      let d := setNum 0 (lk n 0x0A) 1 (setNum 0 (lk n 0x0B) h (onLis n (fun _ => { state := 1, chan := c }) d))
      (.ok, openRoutes d)
  else if l.state = 1 then
    let now := d.tb.now
    let d := setNum 0 (lk n 0x0A) 0 (onLis n (fun l => { l with state := 2, closeAt := now + sec 1 }) d)
    let mark := fun (_ : Nat) (t : TcpConn) => if t.listener == n then { t with closeAfter := true } else t
    let d := { d with net := { d.net with conns := mapV mark d.net.conns } }
    let early := keysOf (d.net.conns.filter (fun e => e.2.listener == n && (e.2.state == .synSent || e.2.state == .synRcvd)))
    (.ok, finishListeners (finishCloses (early.foldl (fun d c => resetConn c d) d)))
  else (.ok, d)

/-- LISTENER_ENABLE. -/
def execListenerEnable (n : Fin 224) (on : Bool) (s : State) : Out :=
  writeRow (0x3400 + n.val) 0x0A (le 1 (b2n on)) (fun d => match setListener n.val on d with
    | (.ok, d) => .ok d
    | _ => .error 4) s

/-- Connections of a listener are reset at once and its datagrams dropped. -/
def resetListener (n : Nat) (d : Dev) : Dev :=
  let cs := keysOf (d.net.conns.filter (fun e => e.2.listener == n))
  let d := cs.foldl (fun d c => resetConn c d) d
  let gone := (d.net.udp.filter (fun u => u.listener == n)).length
  bumpBy gone (nk 0x0D) { d with net := { d.net with udp := d.net.udp.filter (fun u => !(u.listener == n)) } }

/-- The custodian closes a listener's channel (R348). -/
def killListener (n : Nat) (d : Dev) : Dev :=
  let c := (lisOf d n).chan
  if (lisOf d n).state = 0 then d
  else
    setNum 0 (lk n 0x0A) 0 (setNum 0 (lk n 0x0B) 0 (onLis n (fun _ => {}) (closeChan c (resetListener n d))))

/-- LISTENER_CLOSE_TIMEOUT (R348): connections that have not ended within 1 s are reset. -/
def execListenerCloseTimeout (n : Fin 224) (s : State) : Out :=
  onDev (fun d =>
    let l := lisOf d n.val
    if l.state = 2 then finishListeners (resetListener n.val (reach l.closeAt d)) else d) s

/-- A route descriptor is written (R336, R337): the old connection ends with FIN after what is queued on it, and a
connection is opened under the new descriptor. False where the descriptor is refused. -/
def writeRoute (r : Nat) (b : Bytes) (d : Dev) : Bool × Dev :=
  let x := Route.ofBytes (padTo 32 b)
  if b.length ≠ 32 ∨ ¬ routeOk d x = true then (false, d)
  else
    let old := (lookD {} d.net.routes r).conn
    let d := { d with net := { d.net with routes := del d.net.routes r } }
    let d := match old with
      | none => d
      | some c => (match connOf d c with
        | none => d
        | some t => if t.state == .synSent || t.state == .synRcvd then resetConn c d
          else queueFin c d)
    let d := setBlob (dk 0x34E0 0 + r) (if b.all (fun y => y == 0#8) then [] else b) d
    let d := if x.valid && x.udp then
        let (lp, d) := takeLocalPort x.lport d
        { d with net := { d.net with routes := upd {} d.net.routes r (fun z => { z with lport := lp }) } }
      else d
    (true, if routeOpens d r then openRoute r d else d)

/-- ROUTE_WRITE (R337). -/
def execRouteWrite (r : Fin 4096) (b : Bytes) (s : State) : Out :=
  writeRow (0x34E0 + r.val / 256) (r.val % 256) b (fun d => match writeRoute r.val b d with
    | (true, d) => .ok d
    | _ => .error 3) s

/-- ROUTE_RECONNECT (R337): the wait has ended, or the route has none yet. -/
def execRouteReconnect (r : Fin 4096) (s : State) : Out :=
  onDev (fun d =>
    let x := lookD {} d.net.routes r.val
    if x.conn.isSome || !routeOpens d r.val then d
    else openRoute r.val (match x.at_ with | some t => reach t d | none => d)) s

/-! Timers of connections. -/

/-- TCP_RETRANSMIT_TIMEOUT (R331): the segment is sent again with the timer doubled, or the connection aborts after eight
retransmissions or four unanswered SYNs. -/
def execTcpRetransmitTimeout (c : Fin 32768) (s : State) : Out :=
  onDev (fun d =>
    match connOf d c.val with
    | none => d
    | some t => match t.timer with
      | none => d
      | some at_ =>
        let d := reach at_ d
        let n := t.retries + 1
        let syn := t.state == .synSent || t.state == .synRcvd
        if (syn && decide (4 ≤ n)) || decide (8 < n) then abortConn c.val d
        else
          let rto := min (sec 2) (2 * t.rto)
          let now := d.tb.now
          let d := onConn c.val (fun t => { t with
            retries := n, rto := rto, timer := some (now + rto), rttAt := none, dupAcks := 0, sacked := [],
            recovering := !syn && !(inFlight t == 0), lost := !syn && !(inFlight t == 0), recover := t.sndNxt,
            highRxt := t.sndUna,
            ssthresh := if syn || inFlight t == 0 then t.ssthresh else max (inFlight t / 2) (2 * t.mss),
            cwnd := if syn || inFlight t == 0 then t.cwnd else t.mss }) d
          if syn then sendSyn c.val d else resend c.val d) s

/-- TCP_KEEPALIVE (R331): a probe after KEEPALIVE seconds of idleness; the connection aborts after three unanswered
ones. -/
def execTcpKeepalive (c : Fin 32768) (s : State) : Out :=
  onDev (fun d =>
    match connOf d c.val with
    | none => d
    | some t =>
      let k := lisKeepalive d t.listener
      if k = 0 ∨ ¬ (t.state == .established || t.state == .closeWait || t.state == .finWait2) = true then d
      else
        let d := reach (t.lastActive + sec ((t.probes + 1) * k)) d
        if 3 ≤ t.probes then abortConn c.val d
        else
          let d := onConn c.val (fun t => { t with probes := t.probes + 1 }) d
          sendSeg t (segment d t (seqSub t.sndNxt 1) 0x10 []) t.vlan 0 none d) s

/-- TIME_WAIT_EXPIRE (R331). -/
def execTimeWaitExpire (c : Fin 32768) (s : State) : Out :=
  onDev (fun d =>
    match connOf d c.val with
    | some t => if t.state == .timeWait then finishListeners (removeConn c.val (reach (t.stateAt + sec 4) d)) else d
    | none => d) s

/-- HALF_OPEN_LAPSE (R334). -/
def execHalfOpenLapse (c : Fin 32768) (s : State) : Out :=
  onDev (fun d =>
    match connOf d c.val with
    | some t => if t.state == .synRcvd then removeConn c.val (reach (t.created + sec 3) d) else d
    | none => d) s

/-- SEND_BUFFER_TIMEOUT (R345): a message that has waited 100 ms for room is dropped and counted. -/
def execSendBufferTimeout (c : Fin 32768) (s : State) : Out :=
  onDev (fun d =>
    match connOf d c.val with
    | none => d
    | some t => match t.waiting with
      | [] => d
      | w :: rest =>
        let d := reach (w.since + ms 100) d
        finishCloses (dropOut 0x0C w.tag (onConn c.val (fun t => { t with waiting := rest }) d))) s

/-- CORR_ENTRY_EXPIRE (R344): the entry closest to its expiry leaves the table. -/
def execCorrEntryExpire (s : State) : Out :=
  onDev (fun d =>
    match minBy? (fun (e : CorrEntry) => e.till) d.net.corr with
    | none => d
    | some e =>
      let d := reach e.till d
      { d with net := { d.net with corr := d.net.corr.erase e } }) s

end Sys2Proof.Machine
end

