-- ==== Sys2Proof/Machine/Tamper.lean ====
section
/-! DEFINITION. OTP and the life-cycle state (R512-R515), and what a hobble does to every unit (R497-R500). -/

set_option linter.unusedVariables false

namespace Sys2Proof.Machine

open Sys2Proof

/-! OTP. -/

/-- The three cells of a logical bit. -/
def otpCells (d : Dev) (b : Nat) : Nat := lookD 0 d.guard.otp.cells b

/-- Burned cells of a bit. -/
def burned (c : Nat) : Nat := c % 2 + c / 2 % 2 + c / 4 % 2

/-- A logical bit reads 1 when at least two of its cells are burned (R514). -/
def otpBit (d : Dev) (b : Nat) : Bool := decide (2 ≤ burned (otpCells d b))

/-- A cell after a write of it: burned before, or in one of three attempts (R514). -/
def burnCell (free cell : Nat) (burnedBefore : Bool) : Nat := b2n (burnedBefore || Config.cellBurns free cell)

/-- Write a logical bit: its cells a, b and c in turn, then a read back. Where too few burn the bit reads 0, and a fault record
says so (R514). -/
def burnBit (b : Nat) (d : Dev) : Dev :=
  let (n, d) := freshFree d
  let c := otpCells d b
  let cell := fun (k : Nat) => burnCell n (3 * b + k) (c.testBit k)
  let d := { d with guard := { d.guard with otp := { d.guard.otp with cells := ins d.guard.otp.cells b (cell 0 + 2 * cell 1 + 4 * cell 2) } } }
  if otpBit d b then d else raiseUnlisted srcGuard Config.otpFaultEvent 2 [(2, b)] d

/-- Heal every bit with exactly two cells burned (R514); OTP_HEALED counts them. -/
def healOtp (d : Dev) : Dev :=
  let n := (d.guard.otp.cells.filter (fun e => burned e.2 == 2)).length
  let cells := mapV (fun _ c => if burned c = 2 then 7 else c) d.guard.otp.cells
  setNum 0 (dk 0x7000 5) n { d with guard := { d.guard with otp := { d.guard.otp with cells := cells } } }

/-- Places of the OTP fields: life-cycle flags, tokens' OPEN and CLOSE bits, the two thermometers. -/
def otpOpen (t : Nat) : Nat := 8 + t
def otpClose (t : Nat) : Nat := 16 + t
def otpSvn : Nat := 256
def otpZcount : Nat := 1024

/-- The value of a thermometer of `n` positions: consecutive positions set from position 1 (R515). -/
def thermo (d : Dev) (base n : Nat) : Nat := ((List.range n).takeWhile (fun i => otpBit d (base + i))).length

/-- Raise a thermometer to `v`: positions burned in ascending order (R515). -/
def raiseThermo (base n v : Nat) (d : Dev) : Dev :=
  let k := thermo d base n
  ((List.range (min n v)).drop k).foldl (fun d i => burnBit (base + i) d) d

/-- SVN_FLOOR and ZEROISE_COUNT (R515). -/
def svnFloor (d : Dev) : Nat := thermo d otpSvn 255
def zeroiseCount (d : Dev) : Nat := thermo d otpZcount 8

/-- A test token is open (R520). -/
def openToken (d : Dev) : Option Nat := (List.range 8).find? (fun t => otpBit d (otpOpen t) && !otpBit d (otpClose t))

/-- The life-cycle state: the highest flag set decides (R512). -/
def lcState (d : Dev) : Nat :=
  if otpBit d 5 then 7 else if otpBit d 4 then 6 else if otpBit d 3 then 5 else if otpBit d 2 then 4
  else if otpBit d 1 then 3 else if otpBit d 0 then (if (openToken d).isSome then 2 else 1) else 0

/-- Keys resolve in PROVISIONED and COMMISSIONED only, where the Shroud is armed (R497, R513). -/
def keyState (d : Dev) : Bool := lcState d == 4 || lcState d == 5

/-- The monitors are off in RETURNED and SCRAPPED (R497). -/
def monitorsOff (d : Dev) : Bool := decide (6 ≤ lcState d)

/-! Hobble. -/

/-- Key caches, engine key slots and what stands on the Halyard are cleared (R498). -/
def clearKeyCaches (d : Dev) : Dev :=
  let pool := { d.pool with cores := mapV (fun _ (c : CipherCore) => { c with slots := [], ivs := [] }) d.pool.cores }
  let bn := { d.bn with engines := mapV (fun _ (e : BnEngine) => { e with slots := [], work := [] }) d.bn.engines }
  { d with pool := pool, bn := bn, ks := { d.ks with caches := [] } }

/-- Every DRBG instance is zeroed; what waited for one ends with `st` (R468). -/
def zeroDrbg (st : Status) (d : Dev) : Dev :=
  let gens := d.rng.gens
  let d := { d with rng := { d.rng with insts := [], domains := [], nextDomain := 128, wait := [], gens := [] } }
  gens.foldl (fun d g => answer g.via st [] d) d

/-- Tenant pins go to FUNC 0; the PINCFG they return to is kept (R450). -/
def tenantPinsOff (d : Dev) : Dev :=
  let f := fun (_ : Nat) (p : Pin_) =>
    if bitOf p.cfg 30 then p else { p with cfg := setField p.cfg 0 4 0, saved := some (p.saved.getD p.cfg) }
  { d with per := { d.per with gp := { d.per.gp with pins := mapV f d.per.gp.pins } } }

/-- The ports fall silent and Message Transport loses its state (R325, R348). -/
def portsOff (d : Dev) : Dev :=
  let d := d.net.listeners.foldl (fun d e => setNum 0 (lk e.1 0x0B) 0 d) d
  { d with net := {} }

/-- Every host function and its channels end; the links are in Detect (R379, R498). -/
def hostsOff (d : Dev) : Dev :=
  let d := (keysOf d.host.chans).foldl (fun d c => closeChan c d) d
  let d := (List.range 4).foldl (fun d p => endAssoc (48 + p) d) d
  { d with host := { d.host with fns := [], links := [], numVfs := [], vfPending := [] } }

/-- Every busy job slot of an engine completes with SQUASHED, and its pending X registers are zero and untagged (R224). -/
def squashSlots (p : Nat) (d : Dev) : Dev :=
  (List.finRange 8).foldl (fun d k =>
    if (procOf d p).jstat[k].getLsbD 16 then deliverSlot p k.val { tag := none, status := .squashed } d else d) d

/-- No message is left in an engine, and none of its job slots is busy. -/
def enginesIdle (d : Dev) : Dev :=
  let d := (keysOf d.procs).foldl (fun d p => squashSlots p d) d
  (keysOf d.procs).foldl (fun d p => onProc p (fun q => { q with slice := none }) d) d

/-- Admissions held by a quiesce are answered; images that only drained go. -/
def dropQuiesce (st : Status) (d : Dev) : Dev :=
  let reqs := (d.rig.domains.map (fun e => e.2.quiesce.toList.map (fun q => q.via) ++ e.2.queued.map (fun r => r.via))).flatten
  let f := fun (_ : Nat) (r : DomainRig) => { r with quiesce := none, queued := [], draining := [] }
  let d := { d with rig := { d.rig with domains := mapV f d.rig.domains, msgs := [] } }
  reqs.foldl (fun d v => answer v st [] d) d

/-- Debug level 0 (R523). -/
def endDebug (d : Dev) : Dev := { d with guard := { d.guard with debugLevel := 0, debugDomain := 0, debugTill := 0 } }

/-- The effects of a hobble (R498, R545), from the decision on. -/
def hobbleEffects (d : Dev) : Dev :=
  let d := { d with life := { d.life with hobbled := true, ready := false } }
  let d := hostsOff (squashAll d)
  let d := portsOff (tenantPinsOff d)
  let d := dropUses .hobbled (dropQuiesce .hobbled (enginesIdle d))
  let d := (List.range 512).foldl (fun d p => haltReq p d) d
  let d := zeroDrbg .hobbled (clearKeyCaches d)
  let sd : SdHost := { card := d.per.sd.card }
  let per := { d.per with sd := sd, icc0 := { present := d.per.icc0.present }, icc1 := { present := d.per.icc1.present } }
  endDebug { d with ks := { d.ks with leases := [] }, per := per }

/-- The parameters of HOBBLE and ZEROISED (R510). -/
def tamperParams (l : TamperLatch) : List (Nat × Nat) :=
  [(1, l.monitor), (1, l.detectors), (1, l.item), (1, l.power), (4, (l.value % 2 ^ 32).toNat), (4, (l.limit % 2 ^ 32).toNat),
   (8, l.rtc)]

/-- The source a monitor's report carries (R493). -/
def monitorSrc (monitor detectors : Nat) : Nat :=
  if monitor = 6 then srcClock
  else if monitor = 0x0B then srcPmc
  else
    let base := srcGuard + 2 * (monitor - 1)
    if detectors = 2 then base + 1 else base

/-- A hobble-class event (R494, R497, R498, R500): recorded; in an armed state it sets the latch, or counts on one that is
set; the latch keeps its first cause. -/
def hobbleEvent (src : Nat) (l : TamperLatch) (d : Dev) : Dev :=
  let l := { l with rtc := w64 d.tb.rtc, set := true }
  let d := report src 0x0500 0xFFFF (tamperParams l) d
  if !keyState d then d
  else if d.guard.hobble.set then
    { d with guard := { d.guard with hobble := { d.guard.hobble with events := min 255 (d.guard.hobble.events + 1) } } }
  else hobbleEffects { d with guard := { d.guard with hobble := { l with events := 1 } } }

end Sys2Proof.Machine
end

