-- ==== Sys2Proof/Machine/Reset.lean ====
section
/-! DEFINITION. Resets, the boot chain and zeroisation (R36, R62, R91, R386-R388, R482, R487, R502-R504, R517-R521, R543). -/

set_option linter.unusedVariables false

namespace Sys2Proof.Machine

open Sys2Proof

/-! What a reset leaves (R543). -/

/-- Entries that a reset keeps: writable ones (R407), and the version high-water mark of each domain's images (R290). -/
def keptAtReset (key : Nat) : Bool := keptEntry key || decide (0x5010 ≤ key / 256 ∧ key / 256 ≤ 0x501F)

/-- The recorder after a reset (R487): every durable record stands; the next record follows the last of them. -/
def auditAfterReset (a : AuditState) : AuditState :=
  { running := a.running, foundation := a.foundation, durableSeq := a.durableSeq, anyDurable := a.anyDurable,
    lastTime := a.lastTime, oldestSeq := a.oldestSeq, nextSeq := if a.anyDurable then a.durableSeq + 1 else 0,
    lastHash := a.durableHash, foundHash := a.foundHash, durableHash := a.durableHash,
    foundationLowRaised := a.foundationLowRaised }

/-- The time base starts at the larger of the RTC and the last time recorded in the audit log plus 1 µs (R36). -/
def timeAfterReset (d : Dev) : TimeBase :=
  let now := w64 (max d.tb.rtc (if d.audit.anyDurable then d.audit.lastTime + us 1 else 0))
  { now := now, rtc := d.tb.rtc, replica := now }

/-- What stays of the key store: NAND (R79, R89-R92). Records in pages not yet committed are lost, and the pages being programmed
are void; a compaction past COMPACT_END finishes its erasing, one before it is undone. -/
def keysAfterReset (ks : KeyStore) : KeyStore :=
  let lost := ks.journal.filter (fun p => p.closed)
  let kept : KeyStore :=
    { pages := ks.pages, voided := ks.voided ++ lost.map pageLast, parity := ks.parity, snap := ks.snap,
      nextSeq := ((ks.journal.head?.bind (fun p => p.recs.head?)).map (fun r => r.seq)).getD ks.nextSeq,
      nextPage := (ks.journal.head?.map (fun p => p.pageSeq)).getD ks.nextPage,
      snapPages := ks.snapPages, epoch := ks.epoch, bootCount := ks.bootCount }
  if ks.snap.any (fun b => !(b.epoch == ks.epoch)) then erasedStore kept else kept

/-- The guard die after a reset: BBRAM, latches, OTP and the calibration copies stay; debug is closed. -/
def guardAfterReset (g : Guard) : Guard :=
  { g with memKeys := false, debugLevel := 0, debugDomain := 0, debugTill := 0, consent := none, chal := none, dbgStat := 0,
           calNow := [] }

/-- The channels that had failed and fail the memory test of this reset as well (R49): whether one does is a free value. -/
def stillFailed (d : Dev) : List Nat := d.life.hbmFailed.filter (fun c => Config.memTestFails d.free c)

/-- Every other register cleared (R543); REEF_FLOOR holds the reef level (R536). `cause` is RESET_CAUSE. -/
def clearDev (cause : Nat) (d : Dev) : Dev :=
  let nums := keep (fun k _ => keptAtReset k) d.dict.nums
  let blobs := keep (fun k _ => keptAtReset k) d.dict.blobs
  let kept := { d with dict := { nums := nums, blobs := blobs } }
  let floor := min 3 (numOf 0 kept (dk 0x1201 3))
  { life := { variantH := d.life.variantH, reef := floor, hobbled := d.guard.hobble.set, zeroised := d.life.zeroised,
              powerOff := d.life.powerOff, hbmFailed := stillFailed d, faulty := d.life.faulty },
    tb := timeAfterReset d,
    dict := { nums := nums, blobs := blobs },
    audit := auditAfterReset d.audit,
    ks := keysAfterReset d.ks,
    host := { bifurcated := (List.range 2).foldl (fun m k => put 0 m k (numOf 0 kept (dk (0x3800 + k) 5))) [],
              vfSplit := (List.range 2).foldl (fun m k => put 512 m k (numOf 512 kept (dk (0x3800 + k) 6))) [] },
    mal := { mgtMode := numOf 0 kept (dk 0x1020 7), mgtUp := d.mal.mgtUp },
    rig := { nand := d.rig.nand },
    cust := { officers := d.cust.officers, slotA := d.cust.slotA, slotB := d.cust.slotB, dirA := d.cust.dirA,
              dirB := d.cust.dirB },
    rng := { mode := numOf 0 kept (dk 0x2800 1) },
    per := { sd := { card := d.per.sd.card }, icc0 := { present := d.per.icc0.present },
             icc1 := { present := d.per.icc1.present } },
    guard := guardAfterReset d.guard,
    pow := { gallop := max d.pow.gallop d.pow.gallopSaved, gallopSaved := d.pow.gallopSaved, killN := d.pow.killN,
             overtemp := d.pow.overtemp, reefCause := if floor = 0 then 0 else 5, resetCause := cause },
    out := d.out, free := if d.life.hbmFailed.isEmpty then d.free else d.free + 1 }

/-- A full reset: every memory reads zero again, and only what R543 names stays. The boot chain has not run. -/
def clearAll (cause : Nat) (s : State) : State := { s with dev := clearDev cause s.dev, mem := [], memTags := [] }

/-! What NAND held is unreadable (R51, R502, R504). -/

/-- Every NAND partition but the boot directory reads blank: firmware, calibration, audit, journal, rig images, and the
custodian's configuration store with its officers (R50, R51, R407). -/
def blankNand (d : Dev) : Dev :=
  { d with dict := {}, audit := {}, ks := {}, rig := {}, guard := { d.guard with calA := [], calB := [], calNow := [] },
           cust := { d.cust with officers := [], slotA := none, slotB := none, domains := [] },
           pow := { d.pow with gallopSaved := 0 } }

/-- BBRAM is written to zero (R502). -/
def blankBbram (d : Dev) : Dev := { d with guard := { d.guard with deviceRoot := [], seed := [] } }

/-- The zeroise latch and the hobble latch take the event; BBRAM is erased (R502 steps 1-3). -/
def zeroLatches (l : TamperLatch) (d : Dev) : Dev :=
  let l := { l with rtc := w64 d.tb.rtc, set := true, events := 1 }
  let h := if d.guard.hobble.set then d.guard.hobble else l
  let z := if d.guard.zeroise.set then d.guard.zeroise else l
  blankBbram { d with guard := { d.guard with hobble := h, zeroise := z, zeroPending := d.guard.zeroPending || !d.life.zeroised } }

/-- Zeroisation (R497, R502, R507): in an unarmed state with no monitor running nothing happens. With main power the memory
keys go too, so HBM and NAND are unreadable, and the guard die holds the dies in reset; requests in progress get no
answer. On battery alone steps 1-3 are all there is. -/
def zeroise (l : TamperLatch) (s : State) : State :=
  if monitorsOff s.dev then s
  else
    let s := { s with dev := zeroLatches l s.dev }
    if !s.dev.guard.mainPower then s
    else
      let s := clearAll s.dev.pow.resetCause s
      let d := blankNand s.dev
      { s with dev := { d with life := { d.life with zeroised := true, booting := false }, cust := { d.cust with bootStep := 1 } } }

/-! Firmware slots and the boot directory (R386-R388). -/

/-- An image is valid (R387): both vendor signatures verify and its SVN is at least the floor. -/
def fwSigned (i : FwImage) : Bool := i.magicOk && i.mldsaOk && i.ecdsaOk && decide (i.length ≤ 256 * 2 ^ 20)
def fwValid (d : Dev) (i : FwImage) : Bool := fwSigned i && decide (1 ≤ i.svn ∧ i.svn ≤ 255 ∧ svnFloor d ≤ i.svn)

/-- A slot of NAND: 0 A, 1 B. -/
def slotImage (d : Dev) (n : Nat) : Option FwImage := if n = 0 then d.cust.slotA else d.cust.slotB
def setSlot (n : Nat) (i : FwImage) (d : Dev) : Dev :=
  if n = 0 then { d with cust := { d.cust with slotA := some i } } else { d with cust := { d.cust with slotB := some i } }
def slotValid (d : Dev) (n : Nat) : Bool := (slotImage d n).any (fwValid d)

/-- The copy of the boot directory in force: of those that authenticate, the one with the higher DSEQ (R51, R386). -/
def dirIsB (d : Dev) : Bool :=
  d.cust.dirB.valid && (!d.cust.dirA.valid || decide (d.cust.dirA.dseq < d.cust.dirB.dseq))
def bootDir (d : Dev) : BootDir := if dirIsB d then d.cust.dirB else d.cust.dirA

/-- A write of the boot directory replaces the older copy, with DSEQ one higher (R388). -/
def writeDir (f : BootDir → BootDir) (d : Dev) : Dev :=
  let b := { f (bootDir d) with dseq := w32 ((bootDir d).dseq + 1), valid := true }
  if dirIsB d then { d with cust := { d.cust with dirA := b } }
  else { d with cust := { d.cust with dirB := b } }

/-- The ROM's choice of a slot (R388): the trial slot, PRIMARY, or a recovery load from the ceremony card into slot A. -/
def chooseSlot (d : Dev) : Option Nat × Dev :=
  let b := bootDir d
  let tried := b.trial.filter (fun _ => b.valid && decide (0 < b.tries))
  let d := if tried.isSome then writeDir (fun b => { b with tries := b.tries - 1 }) d else d
  match tried.filter (slotValid d) with
  | some t => (some t, d)
  | none =>
    if b.valid && slotValid d b.primary then (some b.primary, d)
    else
      let d := match d.per.sd.card with | some c => identify c d | none => d
      match (sdReady d).filter (fun c => sdHolds c 0) with
      | none => (none, d)
      | some c =>
        let i := Config.firmwareOf (sdFile c 0)
        let r := sdRead c 0 d
        if r.1 && fwValid r.2 i then
          (some 0, writeDir (fun b => { b with primary := 0, trial := none, tries := 0 }) (setSlot 0 i r.2))
        else (none, r.2)

/-! Key-store recovery (R62, R91). -/

/-- The context of the storage root (R62): measurement, life-cycle code, serial number. -/
def rootContext (d : Dev) (measurement : Bytes) (lc : Nat) : Bytes := padTo 48 measurement ++ le 1 lc ++ le 8 d.guard.otp.serial

/-- The storage root of a measurement and a life-cycle state. -/
def storageRoot (d : Dev) (measurement : Bytes) (lc : Nat) : Bytes :=
  kdfHmac d.guard.deviceRoot [0x43#8, 0x58#8, 0x53#8, 0x52#8] (rootContext d measurement lc) 32

/-- The wrapped material of a record read from NAND. -/
def storedAs (m : FMap Wrapped) (idx : Nat) (k : StoredKey) : FMap Wrapped :=
  match k.wrapped with
  | some w => ins m idx w
  | none => m

/-- MIGRATE_FINAL: the wrappings under the target storage root are those of the domain roots from now on (R93). -/
def finalWraps (ks : KeyStore) : KeyStore :=
  { ks with atRest := ks.wraps.foldl (fun m e => ins m (e.1 + 1) e.2) ks.atRest, finalTarget := ks.migTarget, migState := 0, migTarget := [],
            wraps := [] }

/-- Apply one committed record to the warm store. -/
def replay (ks : KeyStore) (r : JRec) : KeyStore :=
  let onKey := fun (f : KeyRec → KeyRec) => match look ks.keys r.idx with
    | some k => { ks with keys := ins ks.keys r.idx (f k) }
    | none => ks
  match r.body with
  | .create k =>
    { ks with keys := ins ks.keys r.idx { k.kr with committed := true }, gens := put 0 ks.gens r.idx k.kr.gen,
              atRest := storedAs ks.atRest r.idx k }
  | .volatileAlloc gen cls dom boot extFirst extCount =>
    let k : KeyRec := { cls := cls, level := 0, expired := true, gen := gen, usage := 0, exportPol := 0, volatileKey := true,
                        domain := dom, typ := 0, boot := boot, material := [], extFirst := extFirst, extCount := extCount }
    { ks with keys := ins ks.keys r.idx k, gens := put 0 ks.gens r.idx gen }
  | .destroy gen =>
    let ks' := onKey (fun k => zeroRec (killRec k))
    { ks' with gens := put 0 ks'.gens r.idx gen }
  | .attr usage exp dual label => onKey (fun k => { k with usage := usage, exportPol := exp, dual := dual, label := label })
  | .lease n _ => onKey (fun k => { k with uses := k.uses - n })
  | .leaseReturn n _ => onKey (fun k => { k with uses := k.uses + n })
  | .ivReserve v => onKey (fun k => { k with ivctr := v })
  | .boot n => { ks with bootCount := n }
  | .migrateBegin t => { ks with migState := 1, migTarget := t, wraps := [] }
  | .migrateWrap dom w => { ks with wraps := ins ks.wraps dom w }
  | .migrateReady t => { ks with migState := 2, migTarget := t }
  | .migrateFinal _ => finalWraps ks
  | .migrateAbandon => { ks with migState := 0, migTarget := [], wraps := [] }
  | .compactBegin .. => ks
  | .compactEnd .. => ks
  | .unknown _ => ks

/-- The snapshot in force, or an empty store. Every volatile key in it was allocated in an earlier boot (R72). -/
def loadSnapshot (ks : KeyStore) : KeyStore :=
  match ks.snap with
  | none => { ks with bootCount := 0 }
  | some b =>
    let rec_ := fun (_ : Nat) (k : StoredKey) => { k.kr with expired := k.kr.volatileKey }
    { ks with keys := mapV rec_ b.keys, gens := b.gens, free := b.free, bootCount := b.boot, migState := b.migrating,
              migTarget := b.target, finalTarget := b.finalTarget, wraps := b.wraps, atRest := b.keys.foldl (fun m e => storedAs m e.1 e.2) [] }

/-- A committed page is read at recovery (R90, R91): itself, or rebuilt from the parity page of its stripe and the stripe's
other data pages. -/
def pageReadable (free : Nat) (ks : KeyStore) (p : JPage) : Bool :=
  let fails := fun (n : Nat) => Config.pageReadFails free n
  !fails p.pageSeq ||
    (has ks.parity (p.pageSeq / 7) &&
      (List.range 7).all (fun i => 7 * (p.pageSeq / 7) + i == p.pageSeq || !fails (7 * (p.pageSeq / 7) + i)))

/-- The records that recovery applies: of the pages after the snapshot, up to the first that cannot be read (R91). -/
def recoveredRecs (free : Nat) (ks : KeyStore) : List JRec :=
  let after := (ks.snap.map (fun b => b.seq)).getD 0
  let pages := (ks.pages.filter (fun p => decide (after < pageLast p))).takeWhile (pageReadable free ks)
  (pages.map (fun p => p.recs)).flatten.filter (fun r => decide (after < r.seq))

/-- A record of a type that R88 does not list. -/
def isUnknown (r : JRec) : Bool := match r.body with | .unknown _ => true | _ => false

/-- Every record in order; one of another type stops recovery, and the journal is corrupt (R88). -/
def replayAll (recs : List JRec) (ks : KeyStore) : KeyStore :=
  let ks := (recs.takeWhile (fun r => !isUnknown r)).foldl replay ks
  { ks with compact := if recs.any isUnknown then .corrupt else .idle }

/-- The free list after recovery: indices neither allocated nor listed as freed join its tail, in rising order (R54). -/
def freeAfter (ks : KeyStore) : FreeList :=
  let top := ((ks.keys.filter (fun e => decide (0x1001 ≤ e.1))).map (fun e => e.1 - 0x1000)).foldl max ks.free.next
  let used := fun i => (look ks.keys (0x1001 + i)).isSome
  let back := ks.free.back.filter (fun i => !used i)
  { next := top, back := back ++ (List.range top).filter (fun i => !used i && !has back i) }

/-- The domain roots that live: index and record. -/
def rootsOf (ks : KeyStore) : FMap KeyRec := ks.keys.filter (fun e => decide (1 ≤ e.1 ∧ e.1 ≤ 0x1000) && liveKey ks e.2)

/-- A domain root as it unwraps under the storage root: from its own wrapping, or from a migration's (R91, R93). -/
def unwrapRoot (ks : KeyStore) (root : Bytes) (idx : Nat) : Option Bytes :=
  match (look ks.atRest idx).bind (unwrapWith root) with
  | some m => some m
  | none => if 2 ≤ ks.migState then (look ks.wraps (idx - 1)).bind (unwrapWith root) else none

/-- The wrappings of a migration count once each live domain root has one; an incomplete set is ignored (R93). -/
def wholeWraps (ks : KeyStore) : FMap Wrapped :=
  if (rootsOf ks).all (fun e => (look ks.wraps (e.1 - 1)).isSome) then ks.wraps else []

/-- The material of every record once its wrapping is undone: the roots', then that under their storage wrapping keys (R63).
What does not unwrap stays zero. -/
def unwrapStore (root : Bytes) (ks : KeyStore) : KeyStore :=
  let rootsIn := mapV (fun i (k : KeyRec) =>
    if i ≤ 0x1000 then { k with material := (unwrapRoot ks root i).getD k.material } else k) ks.keys
  let ks := { ks with keys := rootsIn }
  let open_ := fun (i : Nat) (k : KeyRec) =>
    if i ≤ 0x1000 then k
    else match (look ks.atRest i).bind (unwrapWith (storageWrapKey ks k.domain)) with
      | some m => { k with material := m }
      | none => k
  { ks with keys := mapV open_ ks.keys, atRest := keep (fun i _ => decide (i ≤ 0x1000)) ks.atRest }

/-- The booted firmware is the target of a migration that is ready (R93 step 4): its measurement, and for the migration across
COMMISSIONED the state, has been reached. -/
def onTarget (d : Dev) (ks : KeyStore) : Bool :=
  decide (2 ≤ ks.migState) && d.cust.latch == ks.migTarget && (!(d.guard.lcPending == 1) || lcState d == 5)

/-- The page of the BOOT record, programmed before recovery ends (R91). -/
def commitBoot (p : JPage) (d : Dev) : Dev :=
  { d with ks := { d.ks with
    pages := d.ks.pages ++ [p], nextSeq := d.ks.nextSeq + 1, nextPage := d.ks.nextPage + 1,
    parity := if p.pageSeq % 7 = 6 then d.ks.parity ++ [p.pageSeq / 7] else d.ks.parity } }

/-- Recovery (R91): the snapshot, every committed record after it, the boot count and its record, which commits before READY;
the domain roots are unwrapped under the storage root `root`, or under the one a migration prepared (R93). -/
def recoverKeys (root : Bytes) (d : Dev) : Dev :=
  let ks := replayAll (recoveredRecs d.free d.ks) (loadSnapshot d.ks)
  let ks := { ks with wraps := wholeWraps ks }
  let opens := !root.isEmpty && (rootsOf ks).all (fun e => (unwrapRoot ks root e.1).isSome)
  let corrupt := ks.compact == .corrupt
  let boot := w32 (ks.bootCount + 1)
  let page : JPage := { pageSeq := ks.nextPage, boot := boot, recs := [{ idx := 0, seq := ks.nextSeq, body := .boot boot }],
                        since := d.tb.now, closed := true, programmed := true }
  let ks := { unwrapStore root ks with
    free := freeAfter ks, extUsed := (ks.keys.map (fun e => e.2.extCount)).foldl (· + ·) 0, storageRoot := root,
    locked := !opens || corrupt, migState := if onTarget d ks then 3 else min 2 ks.migState, bootCount := boot,
    recovery := if corrupt then 0 else 100 }
  let d := { d with ks := ks, cust := { d.cust with domains := (keysOf (rootsOf ks)).map (fun i => i - 1) },
                    free := if d.ks.pages.isEmpty then d.free else d.free + 1 }
  if corrupt then d
  else commitBoot page d

/-! The boot chain (R386). -/

/-- Instances in the order they are instantiated (R469). -/
def fixedInsts : List Nat :=
  [112, 113, 114, 115, 116, 117, 118] ++ (List.range 48).map (fun i => 64 + i) ++ List.range 64

/-- Entropy sources pass their start-up tests and the fixed instances are instantiated from fresh blocks (R469). -/
def startRng (d : Dev) : Dev :=
  let d := (List.range 8).foldl (fun d k => onSrc k (fun x => { x with state := 0 }) d) d
  fixedInsts.foldl (fun d i => reseedInst i d) d

/-- Pins take the PINCFG and levels that the dictionary keeps (R407, R450). -/
def restorePins (d : Dev) : Dev :=
  let f := fun (m : FMap Pin_) n =>
    upd {} m n (fun (p : Pin_) => { p with cfg := numOf 0x40000040 d (dk (0x7810 + n) 1), saved := none })
  let out := (List.range 16).foldl (fun o n => setBit o n (numOf 0 d (dk (0x7810 + n) 2) == 1)) 0
  { d with per := { d.per with gp := { d.per.gp with pins := (List.range 16).foldl f d.per.gp.pins, out := out } } }

/-- Custodian firmware enables the ports and listeners and opens the routes that their entries name (R325, R333, R337). -/
def startNet (d : Dev) : Dev :=
  let d := (List.range 64).foldl (fun d p => if portEnabled d p && !portFused d p then startPort p d else d) d
  let d := (List.range 224).foldl (fun d n => if numOf 0 d (lk n 0x0A) = 1 then (setListener n true d).2 else d) d
  let udp := (keysOf d.dict.blobs).filter (fun k => decide (dk 0x34E0 0 ≤ k ∧ k < dk 0x34F0 0))
  let d := udp.foldl (fun d k =>
    let r := k - dk 0x34E0 0
    let x := routeOf d r
    if x.valid && x.udp then
      let (lp, d) := takeLocalPort x.lport d
      { d with net := { d.net with routes := upd {} d.net.routes r (fun z => { z with lport := lp }) } }
    else d) d
  openRoutes d

/-- The current image of every domain is reinstalled (R287). -/
def reinstallRigs (s : State) : State :=
  s.dev.rig.nand.foldl (fun s e =>
    match placeImage s.dev e.2 false with
    | none => s
    | some places =>
      let ent : RigEntry := { img := e.2, places := places }
      loadImage ent { s with dev := onRig e.1 (fun r => { r with current := some ent }) s.dev }) s

/-- The calibration copy in force (R528): the valid one with the higher SEQ. -/
def calValid (b : Bytes) : Bool :=
  b.length == 2468 && b.take 4 == [0x43#8, 0x58#8, 0x43#8, 0x41#8] && leAt b 4 2 == 1 && leAt b 0x9A0 4 == crc32c (b.take 0x9A0)
def calPick (a b : Bytes) : Bytes :=
  if calValid a && (!calValid b || decide (leAt b 8 4 ≤ leAt a 8 4)) then a else if calValid b then b else []

/-- At the first main power-up after a zeroisation, ZEROISE_COUNT rises and the factory seed is burned solid (R503). -/
def countZeroise (d : Dev) : Dev :=
  if d.guard.zeroPending && d.guard.mainPower then
    let d := raiseThermo otpZcount 8 (zeroiseCount d + 1) d
    { d with guard := { d.guard with zeroPending := false, otp := { d.guard.otp with seedSolid := true, factorySeed := [] } } }
  else d

/-- A blank BBRAM with no latch set is a zeroisation by battery loss (R503). -/
def blankCheck (d : Dev) : Dev :=
  if keyState d && d.guard.deviceRoot.isEmpty && !d.guard.zeroise.set then
    let d := blankNand (zeroLatches { monitor := 9, detectors := 3 } d)
    { d with life := { d.life with hobbled := true } }
  else d

/-- An over-temperature power-off is recorded and hobbles this boot (R498, R510, R536). -/
def overtempBoot (d : Dev) : Dev :=
  match d.pow.overtemp with
  | none => d
  | some (sensor, temp) =>
    let d := { d with pow := { d.pow with overtemp := none } }
    let d := report srcPmc 0x0504 0xFFFF [(1, sensor), (4, (temp % 2 ^ 32).toNat), (8, w64 d.tb.rtc)] d
    let l : TamperLatch := { monitor := 0x0B, detectors := 1, item := sensor, value := temp, limit := 115000, set := true,
                             rtc := w64 d.tb.rtc, events := 1 }
    let d := report srcPmc 0x0500 0xFFFF (tamperParams l) d
    if !keyState d then d
    else if d.guard.hobble.set then
      { d with guard := { d.guard with hobble := { d.guard.hobble with events := min 255 (d.guard.hobble.events + 1) } } }
    else { d with guard := { d.guard with hobble := l }, life := { d.life with hobbled := true } }

/-- Step 1 of R386 in the guard die. -/
def bootGuard (d : Dev) : Dev :=
  let d := countZeroise (blankCheck (countZeroise d))
  let d := healOtp d
  { d with life := { d.life with booting := false }, cust := { d.cust with bootStep := 1 },
           guard := { d.guard with calNow := calPick d.guard.calA d.guard.calB } }

/-- The first records of a boot (R482, R487, R488, R504). -/
def bootRecords (d : Dev) : Dev :=
  let d := if d.audit.anyDurable then d
    else raise srcAudit 0x0002 0 actorHw [(1, b2n d.guard.zeroise.set)] d
  let d := raise srcAudit 0x0001 0 actorHw
    [(4, d.ks.bootCount), (1, d.pow.resetCause), (4, fwVersion d), (8, if d.audit.anyDurable then d.audit.durableSeq else 0)] d
  if d.guard.zeroise.set && !d.audit.anyDurable then
    report srcGuard 0x0502 0xFFFF (tamperParams d.guard.zeroise ++ [(1, zeroiseCount d)]) d
  else d

/-- With VBAT below 2.6 V each boot records one notice (R507). -/
def batteryNotice (d : Dev) : Dev :=
  if d.guard.vbatMv < 2600 then raiseUnlisted srcGuard Config.batteryEvent 1 [(2, d.guard.vbatMv)] d else d

/-- Power lost between the two copy writes of the calibration set left them unequal: the custodian rewrites the copy that is
not in force (R528). In RETURNED the set is read only (R513). -/
def mendCalibration (d : Dev) : Dev :=
  if d.guard.calNow.isEmpty || lcState d == 6 then d
  else { d with guard := { d.guard with calA := d.guard.calNow, calB := d.guard.calNow } }

/-- The floor rises to the running image's SVN; FLOOR_RAISED records it (R402, R515). -/
def raiseFloor (d : Dev) : Dev :=
  let svn := ((runningFw d).map (fun i => i.svn)).getD 0
  if svnFloor d < svn then raise srcGuard 0x0115 0 actorFw [(2, svn)] (raiseThermo otpSvn 255 svn d) else d

/-- The boot directory after MIGRATE_FINAL: PRIMARY is the slot that runs, TRIAL none (R402). -/
def finalDir (d : Dev) : Dev := writeDir (fun b => { b with primary := d.cust.booted, trial := none, tries := 0 }) d

/-- Firmware that finds MIGRATE_FINAL committed for it completes what a reset cut off: the directory write, after which it
resets, then the raise of the floor (R402, R516). -/
def finishFinal (d : Dev) : Dev :=
  if d.ks.finalTarget.isEmpty || !(d.ks.finalTarget == d.cust.latch) || !(d.ks.migState == 0) then d
  else if (bootDir d).primary = d.cust.booted && (bootDir d).trial.isNone then raiseFloor d
  else let d := finalDir d; { d with life := { d.life with resetDue := true } }

/-- The COMMISSIONED migration ends with MIGRATE_FINAL, committed by the firmware (R517). -/
def finishCommission (d : Dev) : Dev :=
  if d.guard.lcPending = 1 ∧ lcState d = 5 ∧ d.ks.migState = 3 then
    let (seq, d) := queueRec 0 (.migrateFinal d.ks.migTarget) d
    raise srcCustodian 0x0113 0 actorFw [(32, beVal (d.ks.migTarget.take 32))] (waitFor seq (.migrate 3) d)
  else d

/-- Steps 4 to 6 of R386 with the slot chosen: measurement latch, storage root, engine firmware, recovery, rig images,
READY. A hobbled device and one in RETURNED set CUSTODIAN_UP only (R499, R504, R513). With a channel of HBM that failed its
memory test the device stays in boot, at step 5 (R49). -/
def bootFirmware (slot : Nat) (s : State) : State :=
  let d := s.dev
  let m := ((slotImage d slot).map (fun i => i.measurement)).getD []
  let lc := lcState d
  let root := if keyState d && !d.guard.deviceRoot.isEmpty then storageRoot d m lc else []
  let d := { d with cust := { d.cust with booted := slot, latch := m, bootStep := 5 }, guard := { d.guard with memKeys := true },
                    lopeOn := true }
  let d := batteryNotice (bootRecords (recoverKeys root d))
  let d := testUnits (overtempBoot (mendCalibration d))
  let wd : Watchdog := { en := true, period := numOf 1000 d (dk 0x1402 1), periodSet := true, since := d.tb.now }
  let d := startRng (restorePins { d with cust := { d.cust with wd := wd } })
  let s := reinstallRigs { s with dev := d }
  let d := s.dev
  let memory := d.life.hbmFailed.isEmpty && !(d.ks.compact == .corrupt)
  let open_ := !d.life.hobbled && !(lc == 6) && memory
  let d := if !memory then
      { d with cust := { d.cust with bootError := if d.ks.compact == .corrupt then 4 else d.cust.bootError } }
    else
    { d with life := { d.life with custUp := true, ready := open_ },
             cust := { d.cust with bootStep := 6, readyTime := d.tb.now } }
  let d := if open_ then startNet (raise srcCustodian 0x0003 0 actorFw [(8, d.tb.now)] d) else d
  { s with dev := if memory then finishFinal (finishCommission d) else d }

/-- The wipe of SCRAPPED (R521): BBRAM, NAND, and the OTP fields but the serial number. -/
def scrap (d : Dev) : Dev :=
  let d := blankBbram (blankNand d)
  let otp := { d.guard.otp with wiped := true, tokenHashes := [], factorySeed := [], seedSolid := true, baseMac := 0 }
  { d with guard := { d.guard with otp := otp, hobble := {}, zeroise := {}, zeroPending := false, lcPending := 100 },
           cust := { d.cust with dirA := { valid := false }, dirB := { valid := false } } }

/-- The boot chain (R386): in zeroised hold it stops at step 1, with fresh memory keys (R504); in BLANK and SCRAPPED in the ROM; without a valid image in
the ROM with BOOT_ERROR. -/
def bootOnce (s : State) : State :=
  let d := bootGuard s.dev
  let lc := lcState d
  if d.life.powerOff || !d.guard.mainPower then s
  else if lc = 7 then { s with dev := scrap d }
  else if lc = 0 then { s with dev := { d with cust := { d.cust with bootStep := 2 } } }
  else if d.guard.zeroise.set && !(lc == 6) then
    let d := blankBbram (blankNand d)
    { s with dev := { d with life := { d.life with zeroised := true } } }
  else
    let d := if lc = 6 then { d with guard := { d.guard with deviceRoot := [], lcPending := 0 } } else d
    let d := { d with life := { d.life with zeroised := false } }
    match chooseSlot d with
    | (none, d) =>
      { s with dev := { d with cust := { d.cust with bootStep := 2, bootError := if (bootDir d).valid then 5 else 1 } } }
    | (some n, d) => bootFirmware n { s with dev := d }

/-- A boot, and another one where the firmware completed a directory write and reset (R402). -/
def boot (s : State) : State :=
  let s := bootOnce s
  if s.dev.life.resetDue then bootOnce (clearAll 2 s) else s

/-- A reset under R7, and the boot that follows (R386, R543). -/
def fullReset (cause : Nat) (s : State) : State := boot (clearAll cause s)

end Sys2Proof.Machine
end

