-- ==== Sys2Proof/Machine/Audit.lean ====
section
/-! DEFINITION. The audit recorder: sequencing, storm records, the staging ring, pages, the foundation chain, fault
notifications and throttling (R34, R42, R477-R492). -/

set_option linter.unusedVariables false

namespace Sys2Proof.Machine

open Sys2Proof

/-! Records. -/

/-- The class bit of a reporter (R44, R479). -/
def srcClass (src : Nat) : Nat :=
  if src < 0x200 then 0 else if src < 0x240 then 1 else if src < 0x270 then 2 else if src < 0x280 then 3
  else if src < 0x2C0 then 4 else if src < 0xB00 then 5 else if src < 0xB40 then 6
  else if src = 0xB43 then 7 else if src < 0xB50 then 7 else if src < 0xB70 then 8 else if src = 0xB70 then 9
  else if src < 0xB90 then 10 else 11

/-- The 128 bytes of a record (R477). -/
def auditBytes (r : AuditRec) : Bytes :=
  le 8 r.seq ++ le 8 r.time ++ le 2 r.source ++ le 2 r.event ++ le 2 r.domain ++ le 2 r.actor ++ le 1 r.severity ++
    le 1 r.rflags ++ le 2 0 ++ le 4 r.count ++ le 8 r.last ++ padTo 48 r.param ++ padTo 32 r.prevHash ++ le 4 r.boot ++
    le 3 0 ++ le 1 r.valid

/-- SHA-256 over bytes 0x00-0x7E of a record (R477). -/
def auditHash (r : AuditRec) : Bytes := padTo 32 (Config.hash 1 ((auditBytes r).take 127))

/-- A parameter list as bytes. -/
def paramBytes (l : List (Nat × Nat)) : Bytes := (l.map (fun e => le e.1 e.2)).flatten

/-- PARAM of a single event (R479): fault and security reports begin with the eight common bytes. -/
def eventParam (e : AuditEv) : Bytes :=
  if isFaultCode e.event then
    le 2 e.cause ++ le 2 e.source ++ le 2 1 ++ le 2 (2 ^ srcClass e.source) ++ paramBytes e.param
  else paramBytes e.param

/-- A parameter string in pieces of 48 bytes (R485). -/
def chunks48 : Nat → Bytes → List Bytes
  | 0, _ => []
  | n + 1, b => b.take 48 :: (if b.length ≤ 48 then [] else chunks48 n (b.drop 48))

/-! Fault notifications (R490). -/

/-- A record of severity 2 makes one notification and one entry of the open-fault table; one that finds the table or the
ring full, or the ring disabled, counts in FN_OVER. FN_HEAD and FN_TAIL count entries as VQ_HEAD and VQ_TAIL do (R253). -/
def notifyFault (seq : Nat) (s : State) : State :=
  let a := s.dev.audit
  let full := decide (256 ≤ a.faultTable.length)
  let a := if full then a else { a with faultTable := a.faultTable ++ [seq] }
  if full || !bitOf a.fnCtl 0 || decide (256 ≤ w32 (a.fnHead + 2 ^ 32 - a.fnTail)) then
    { s with dev := { s.dev with audit := { a with fnOver := w32 (a.fnOver + 1) } } }
  else
    let d := { s.dev with audit := { a with fnHead := w32 (a.fnHead + 1) } }
    let d := if bitOf a.fnCtl 1 && a.fnHead == a.fnTail then emit (.custodianIrq 1) d else d
    { s with dev := d, mem := writeBytes s.mem (sramBase + a.fnBase + 8 * (a.fnHead % 256)) (le 8 seq) }

/-! The staging ring. -/

/-- The recorder takes no event: the staging ring is full (R491). -/
def auditStopped (d : Dev) : Bool := decide (65536 ≤ staged d)

/-- A record joins the open page; a full page is programmed at once and the next record opens another (R484). -/
def pageAdd (now seq : Nat) (l : List AuditPage) : List AuditPage :=
  match l.getLast? with
  | some p =>
    if p.programming || decide (128 ≤ p.seqs.length) then l ++ [{ seqs := [seq], since := now }]
    else l.dropLast ++ [{ p with seqs := p.seqs ++ [seq] }]
  | none => [{ seqs := [seq], since := now }]

/-- Assign the next SEQ to a record, chain it and write it to its staging slot (R477, R483). -/
def stageRec (r : AuditRec) (d : Dev) : Dev :=
  let a := d.audit
  let r := { r with seq := a.nextSeq, prevHash := a.lastHash, boot := d.ks.bootCount, valid := 0xA5 }
  { d with audit := { a with nextSeq := a.nextSeq + 1, lastHash := auditHash r,
                             staging := ins a.staging (a.nextSeq % 65536) r,
                             pages := pageAdd d.tb.now a.nextSeq a.pages } }

/-- A record and those that continue it, at consecutive SEQ values (R485). -/
def stageGroup (r : AuditRec) (param : Bytes) (d : Dev) : Dev :=
  match chunks48 (param.length / 48 + 1) param with
  | [] => stageRec r d
  | p :: rest =>
    let cont := setBit r.rflags 2 true
    rest.foldl (fun d c => stageRec { r with param := c, rflags := cont } d) (stageRec { r with param := p } d)

/-- The record of a single event. -/
def recOf (e : AuditEv) (rflags : Nat) : AuditRec :=
  { seq := 0, time := e.time, source := e.source, event := e.event, domain := e.domain, actor := e.actor,
    severity := e.severity, rflags := rflags, count := 1, last := e.time, param := [], prevHash := [], boot := 0, valid := 0 }

/-- An event of the recorder itself joins the merge window, with the count of staged records (R42, R491). -/
def recorderEvent (event : Nat) (d : Dev) : Dev :=
  let ev : AuditEv := { time := d.tb.now, source := srcAudit, event := event, actor := actorHw, severity := 3,
                        param := [(4, staged d)] }
  { d with audit := { d.audit with window := d.audit.window ++ [ev] } }

/-- THROTTLE_ON is recorded at 61,440 staged records (R491). -/
def throttleOn (d : Dev) : Dev :=
  if d.audit.throttled.isSome || decide (staged d < 61440) then d
  else recorderEvent 0x0601 (bump (dk 0x6002 2) { d with audit := { d.audit with throttled := some d.tb.now } })

/-- An event takes the next sequence number (R42), LATE when its window had closed before it arrived. -/
def sequence (e : AuditEv) (late : Bool) (s : State) : State :=
  let seq := s.dev.audit.nextSeq
  let d := stageGroup (recOf e (if late then 2 else 0)) (eventParam e) s.dev
  let d := if late then bump (dk 0x6002 4) d else d
  let s := { s with dev := d }
  let s := if e.severity = 2 then notifyFault seq s else s
  { s with dev := throttleOn s.dev }

/-! Storm records (R489, R491). -/

/-- The storm key of a report, none where it is written singly. -/
def stormKey (d : Dev) (e : AuditEv) : Option StormKey :=
  if e.severity = 2 && isFaultCode e.event then
    some (if e.cause = 0xFFFF then .sourceEvent e.source e.event else .cause e.cause)
  else if e.severity ≤ 1 && decide (49152 ≤ staged d) then some (.classEvent (srcClass e.source) e.event)
  else none

/-- A STORM record, whose own event code is 0x0600. -/
def isStormEvent (k : StormKey) : Bool :=
  match k with
  | .overflow => true
  | .classEvent .. => true
  | _ => false

/-- Open storm records of the sixteen (R489). -/
def openStorms (d : Dev) : Nat := (d.audit.storms.filter (fun x => !(x.key == .overflow))).length

/-- Count a report into an open storm record. -/
def countStorm (e : AuditEv) (x : Storm) : Storm :=
  { x with count := satTo 32 (x.count + 1), last := max x.last e.time,
           reporters := addOnce x.reporters e.source, classes := setBit x.classes (srcClass e.source) true,
           source := if e.cause == e.source then e.source else x.source }

/-- Open a storm record. -/
def openStorm (k : StormKey) (e : AuditEv) : Storm :=
  { key := k, first := e, source := e.source, last := e.time, count := 1, reporters := [e.source],
    classes := 2 ^ srcClass e.source }

/-- A report meets its storm record: counted into it, or opening it, or counted into the overflow record. -/
def intoStorm (k : StormKey) (e : AuditEv) (d : Dev) : Dev :=
  let known := d.audit.storms.any (fun x => x.key == k)
  let k := if known || decide (openStorms d < 16) then k else .overflow
  if d.audit.storms.any (fun x => x.key == k) then
    let storms := d.audit.storms.map (fun x => if x.key == k then countStorm e x else x)
    bump (dk 0x6002 5) { d with audit := { d.audit with storms := storms } }
  else
    let d := { d with audit := { d.audit with storms := d.audit.storms ++ [openStorm k e] } }
    if isStormEvent k then bump (dk 0x6002 5) d else d

/-- PARAM of a storm record (R479, R488). -/
def stormParam (x : Storm) : Bytes :=
  if isStormEvent x.key then
    (match x.key with
     | .classEvent c ev => le 2 c ++ le 2 ev
     | _ => [])
  else
    le 2 x.first.cause ++ le 2 x.first.source ++ le 2 (satTo 16 x.reporters.length) ++ le 2 x.classes ++
      paramBytes x.first.param

/-- Close a storm record: it takes the next sequence number, with COALESCED set; one of severity 2 notifies (R489, R490). -/
def closeStorm (x : Storm) (s : State) : State :=
  let d := { s.dev with audit := { s.dev.audit with storms := s.dev.audit.storms.filter (fun y => !(y.key == x.key)) } }
  let seq := d.audit.nextSeq
  let st := isStormEvent x.key
  let r := { recOf x.first 1 with source := x.source, event := if st then 0x0600 else x.first.event,
                                  severity := if st then 1 else x.first.severity, count := x.count, last := x.last }
  let d := bump (dk 0x6002 1) (stageGroup r (stormParam x) d)
  let s := { s with dev := d }
  let s := if r.severity = 2 then notifyFault seq s else s
  { s with dev := throttleOn s.dev }

/-- The overflow record stays open until a slot is free (R489). -/
def closeOverflow (s : State) : State :=
  if openStorms s.dev < 16 && !auditStopped s.dev then
    match s.dev.audit.storms.find? (fun x => x.key == .overflow) with
    | some x => closeStorm x s
    | none => s
  else s

/-- Records of severity 0 and 1 close once occupancy falls below 32,768 (R491). -/
def closeClassStorms (s : State) : State :=
  if staged s.dev < 32768 then
    (s.dev.audit.storms.filter (fun x => match x.key with | .classEvent .. => true | _ => false)).foldl
      (fun s x => closeStorm x s) s
  else s

/-! Arrival (R34, R42). -/

/-- The recorder takes one event: into a storm record, into its merge window, or at once and LATE after that window. -/
def takeEvent (e : AuditEv) (s : State) : State :=
  match stormKey s.dev e with
  | some k => { s with dev := intoStorm k e s.dev }
  | none =>
    if e.time + us 2 < s.dev.tb.now then sequence e true s
    else { s with dev := { s.dev with audit := { s.dev.audit with window := s.dev.audit.window ++ [e] } } }

/-- The key order of R42 over the events of the window: time, source, order of issue. -/
def eventKey (e : AuditEv) : Nat := e.time * 65536 + e.source

/-- The first event of the window. -/
def windowHead (d : Dev) : Option AuditEv := minBy? eventKey d.audit.window

/-- An event leaves the window and takes its sequence number. -/
def closeWindow (e : AuditEv) (s : State) : State :=
  sequence e false { s with dev := { s.dev with audit := { s.dev.audit with window := s.dev.audit.window.erase e } } }

/-- AUDIT_MERGE_WINDOW_CLOSE (R42): the first event of the key order has been held for 2 µs. -/
def execAuditMergeWindowClose (s : State) : Out :=
  match windowHead s.dev with
  | none => .next s
  | some e =>
    if auditStopped s.dev then .next s
    else .next (closeWindow e { s with dev := reach (e.time + us 2) s.dev })

/-- STORM_RECORD_CLOSE (R489): 1 ms after its TIME the oldest storm record of a cause, or of a source and event, closes. -/
def execStormRecordClose (s : State) : Out :=
  let l := s.dev.audit.storms.filter (fun x => !isStormEvent x.key)
  match minBy? (fun (x : Storm) => x.first.time) l with
  | none => .next s
  | some x =>
    if auditStopped s.dev then .next s
    else .next (closeOverflow (closeStorm x { s with dev := reach (x.first.time + ms 1) s.dev }))

/-- STORM_TIMEOUT (R491): a STORM record of severity 0 and 1 events closes 1 s after it opened. -/
def execStormTimeout (s : State) : Out :=
  let l := s.dev.audit.storms.filter (fun x => match x.key with | .classEvent .. => true | _ => false)
  match minBy? (fun (x : Storm) => x.first.time) l with
  | none => .next s
  | some x =>
    if auditStopped s.dev then .next s
    else .next (closeOverflow (closeStorm x { s with dev := reach (x.first.time + sec 1) s.dev }))

/-! Pages (R480, R481, R484). -/

/-- AUDIT_PAGE_CLOSE (R484): a full page, or the open page 10 ms after its first record, starts programming. -/
def execAuditPageClose (s : State) : Out :=
  onDev (fun d =>
    match d.audit.pages.find? (fun p => !p.programming) with
    | none => d
    | some p =>
      let d := if p.seqs.length < 128 then reach (p.since + ms 10) d else d
      { d with audit := { d.audit with pages := d.audit.pages.map (fun x => if x == p then { x with programming := true } else x) } }) s

/-- A copy of a foundation-class record joins the foundation area (R480, R481). -/
def addFoundation (r : AuditRec) (d : Dev) : Dev :=
  if !isFoundation r.event || foundationFull d then d
  else
    let c := { r with rflags := setBit r.rflags 3 true, prevHash := d.audit.foundHash }
    let d := { d with audit := { d.audit with foundation := d.audit.foundation ++ [c], foundHash := auditHash c } }
    if 3840 ≤ d.audit.foundation.length && !d.audit.foundationLowRaised then
      raise srcAudit 0x0603 0 actorHw [(2, d.audit.foundation.length)]
        { d with audit := { d.audit with foundationLowRaised := true } }
    else d

/-- One staged record becomes durable: it stands in the running area and its staging slot is free. -/
def makeDurable (seq : Nat) (d : Dev) : Dev :=
  match look d.audit.staging (seq % 65536) with
  | none => d
  | some r =>
    let a := d.audit
    addFoundation r { d with audit := { a with
      staging := del a.staging (seq % 65536), running := ins a.running (seq % 1048576) r, durableSeq := seq,
      anyDurable := true, lastTime := max a.lastTime (max r.time r.last), durableHash := auditHash r } }

/-- The running area is erased one block of 8,192 records ahead of the slot about to be written (R480). -/
def eraseAhead (d : Dev) : Dev :=
  let old := ((d.audit.durableSeq + 1) / 8192 + 1 - 128) * 8192
  { d with audit := { d.audit with oldestSeq := old, running := keep (fun _ r => decide (old ≤ r.seq)) d.audit.running } }

/-- THROTTLE_OFF is recorded below 53,248 staged records, and admission resumes (R491). -/
def throttleOff (d : Dev) : Dev :=
  match d.audit.throttled with
  | none => d
  | some t =>
    if 53248 ≤ staged d then d
    else recorderEvent 0x0602
      (bumpBy ((d.tb.now - t) / ms 1) (dk 0x6002 3) { d with audit := { d.audit with throttled := none } })

/-- A page's two copies are programmed and read back: its records are durable (R484). -/
def pageDurable (p : AuditPage) (s : State) : State :=
  let d := { s.dev with audit := { s.dev.audit with pages := s.dev.audit.pages.drop 1 } }
  let d := throttleOff (eraseAhead (p.seqs.foldl (fun d n => makeDurable n d) d))
  closeOverflow (closeClassStorms { s with dev := d })

/-- AUDIT_PAGE_DURABLE (R484): the oldest page being programmed is durable. -/
def execAuditPageDurable (s : State) : Out :=
  match s.dev.audit.pages with
  | p :: _ => if p.programming then .next (pageDurable p s) else .next s
  | [] => .next s

/-! Making everything durable at once: before a reset that waits for its record (R517), and in Standby entry (R539). -/

/-- Every event on its way takes its sequence number. -/
def sequenceAll : Nat → State → State
  | 0, s => s
  | n + 1, s =>
    match s.dev.audit.vc3 with
    | e :: rest =>
      sequenceAll n (takeEvent e { s with dev := { s.dev with audit := { s.dev.audit with vc3 := rest } } })
    | [] => match windowHead s.dev with
      | some e => sequenceAll n (closeWindow e s)
      | none => s

/-- Every page is programmed. -/
def durableAll : Nat → State → State
  | 0, s => s
  | n + 1, s =>
    match s.dev.audit.pages with
    | [] => s
    | p :: _ => durableAll n (pageDurable p s)

/-- Every event raised so far is in storage. -/
def drainAudit (s : State) : State :=
  let s := sequenceAll (2 * (s.dev.audit.vc3.length + s.dev.audit.window.length) + 2) s
  let s := s.dev.audit.storms.foldl (fun s x => closeStorm x s) s
  durableAll (s.dev.audit.pages.length + 2) s

/-! Registers of the notification ring (R490). -/

/-- FN_TAIL_WRITE (R490): the custodian consumes notification entries. -/
def execFnTailWrite (v : BitVec 32) (s : State) : Out :=
  onDev (fun d => { d with audit := { d.audit with fnTail := v.toNat } }) s

/-- FN_OVER_READ (R9, R490): a read at full width returns and clears the count; a narrower one clears nothing. -/
def execFnOverRead (full : Bool) (s : State) : Out :=
  onDev (fun d => emit (.readValue d.audit.fnOver)
    { d with audit := { d.audit with fnOver := if full then 0 else d.audit.fnOver } }) s

end Sys2Proof.Machine
end

