-- ==== Sys2Proof/Machine/Journal.lean ====
section
/-! DEFINITION. The key store's structures as bytes: key records, journal records and journal pages with their commit marker
(R56, R57, R87, R88). -/

set_option linter.unusedVariables false

namespace Sys2Proof.Machine

open Sys2Proof

/-- The attribute word (R57). -/
def attrWord (k : KeyRec) : Nat :=
  k.usage * 2 ^ 48 + k.exportPol * 2 ^ 44 + b2n k.dual * 2 ^ 43 + b2n k.volatileKey * 2 ^ 42 + b2n k.counted * 2 ^ 41 +
    b2n k.clearOrigin * 2 ^ 40 + k.domain * 2 ^ 24 + k.typ * 2 ^ 16 + k.label

/-- The five ancestor entries of LINEAGE (R56). -/
def lineageBytes (l : List (Nat × Nat)) : Bytes := padTo 40 ((l.map (fun e => le 4 e.1 ++ le 4 e.2)).flatten)

/-- Bytes 0x00-0x4F of a key record (R56), with USES as C (R71, R563). -/
def infoBytes (idx : Nat) (k : KeyRec) : Bytes :=
  le 4 (idx + k.cls * 2 ^ 24 + k.level * 2 ^ 28 + b2n k.expired * 2 ^ 31) ++ le 4 k.gen ++ le 8 (attrWord k) ++ le 8 k.uses ++
    le 8 k.ivctr ++ le 4 k.boot ++ le 2 k.material.length ++ le 2 0 ++ lineageBytes k.lineage

/-- MATERIAL of a record: up to 48 bytes, or the first extension line and the line count (R56). -/
def materialField (k : KeyRec) : Bytes :=
  padTo 48 (if 0 < k.extCount then le 4 k.extFirst ++ le 2 k.extCount else if k.material.length ≤ 48 then k.material else [])

/-- The 128 bytes of a key record (R56). -/
def keyRecBytes (idx : Nat) (k : KeyRec) : Bytes := padTo 128 (infoBytes idx k ++ materialField k)

/-- TYPE of a journal record (R88). -/
def jrecType (b : JBody) : Nat :=
  match b with
  | .create _ => 0x01 | .destroy _ => 0x02 | .attr .. => 0x03 | .lease .. => 0x04 | .leaseReturn .. => 0x05
  | .ivReserve _ => 0x06 | .volatileAlloc .. => 0x07 | .boot _ => 0x08 | .compactBegin .. => 0x10 | .compactEnd .. => 0x11
  | .migrateBegin _ => 0x20 | .migrateWrap .. => 0x21 | .migrateReady _ => 0x22 | .migrateFinal _ => 0x23
  | .migrateAbandon => 0x24 | .unknown t => t

/-- The payload of a journal record (R88). DESIGN CHOICE: the places of a payload's fields, which R88 names and does not place;
the extension lines beside VOLATILE_ALLOC's four fields, which R56 keeps allocated to the record. -/
def jrecPayload (idx : Nat) (b : JBody) : Bytes :=
  match b with
  | .create k => keyRecBytes idx k.kr ++ (k.wrapped.map wrapBytes).getD []
  | .destroy g => le 8 g
  | .attr u e dual l => le 8 (u * 2 ^ 48 + e * 2 ^ 44 + b2n dual * 2 ^ 43 + l)
  | .lease n p => le 4 n ++ le 4 p
  | .leaseReturn n p => le 4 n ++ le 4 p
  | .ivReserve v => le 8 v
  | .volatileAlloc g c dom boot f n => le 4 g ++ le 4 boot ++ le 2 dom ++ le 1 c ++ le 1 n ++ le 4 f
  | .boot n => le 8 n
  | .compactBegin e s => le 8 e ++ le 8 s
  | .compactEnd e s => le 8 e ++ le 8 s
  | .migrateBegin t => padTo 48 t
  | .migrateWrap dom w => le 8 dom ++ wrapBytes w
  | .migrateReady t => padTo 48 t
  | .migrateFinal t => padTo 48 t
  | .migrateAbandon => []
  | .unknown _ => []

/-- A journal record with its header (R88). -/
def jrecBytes (r : JRec) : Bytes :=
  le 1 (jrecType r.body) ++ le 1 0 ++ le 2 (jrecSize r.body) ++ le 4 r.idx ++ le 8 r.seq ++
    padTo (jrecSize r.body - 16) (jrecPayload r.idx r.body)

/-- The bytes of a page before its marker's CRC (R87). -/
def pageBody (p : JPage) : Bytes :=
  le 4 0x4A4B5350 ++ le 4 p.boot ++ le 8 p.pageSeq ++ le 8 ((p.recs.head?.map (fun r => r.seq)).getD 0) ++
    le 2 p.recs.length ++ zeros 6 ++ padTo 16336 ((p.recs.map jrecBytes).flatten) ++ le 8 p.pageSeq

/-- The 16,384 bytes of a page, the commit marker last (R87). -/
def pageBytes (p : JPage) : Bytes := pageBody p ++ le 4 (crc32c (pageBody p)) ++ le 4 0xC0A1E5CE

/-- A commit marker verifies (R87, R90). -/
def markVerifies (b : Bytes) : Bool :=
  leAt b 0x3FF0 8 == leAt b 8 8 && leAt b 0x3FF8 4 == crc32c (b.take 0x3FF8) && leAt b 0x3FFC 4 == 0xC0A1E5CE

end Sys2Proof.Machine
end

