-- ==== Sys2Proof/Machine/KeySvc.lean ====
section
/-! DEFINITION. The key services of the custodian (R57, R63-R66, R75, R391, R399, R562, R563), clear writes (R66), and the
commit of journal pages with the migration steps that follow it (R90, R93, R94, R402, R517). -/

set_option linter.unusedVariables false

namespace Sys2Proof.Machine

open Sys2Proof


/-! Checks that services share. -/

/-- Run a check on the key a handle names. -/
def onHandle (v : Via) (h : Nat) (d : Dev) (role : Role) (f : Nat → KeyRec → Status) : Status :=
  match resolveFor d v role h with
  | .error e => e
  | .ok (i, k) => f i k

/-- The record a handle names for the custodian. -/
def keyFor (d : Dev) (h : Nat) : Option (Nat × KeyRec) :=
  match resolve d.ks true 0 h with
  | .ok r => some r
  | .error _ => none

/-- The rights of an administrative action on a key (R57, R75): DM, 2DM when DUAL is set. -/
def keyRights (h : Nat) (d : Dev) : Rights :=
  match keyFor d h with
  | some (i, k) =>
    if k.dual then { dual := [(2, .domain k.domain)] }
    else { single := fun r => match r with | .domainOfficer n => n == k.domain | _ => false }
  | none => {}

/-- Tenants and domain officers. -/
def tenantOrDm (r : Role) : Bool :=
  match r with
  | .tenant _ => true
  | .domainOfficer _ => true
  | _ => false

/-- Who may generate, derive or import a key: tenants and domain officers (R391), and the custodian (R66). -/
def mayMakeKey (r : Role) : Bool := tenantOrDm r || r == .firmware

/-- The attribute argument of R172 carries no reserved bit. -/
def attrArgOk (a : AttrArg) : Bool := a.resv == 0

/-- Checks 10 to 12 of a creation. -/
def createLate (parent : Nat) (n : NewKey) (d : Dev) : Status :=
  match look d.ks.keys parent with
  | some k => newKeyStatus d k n
  | none => .keyInvalid

/-- The part of those checks that is FORMAT, met at check 3. DESIGN CHOICE: the reserved USAGE bit 15 (R59), which no row of R135
holds, is no part of it and gives POLICY at check 10 here; the public-key functions' ARG gives FORMAT for it. -/
def createFormat (n : NewKey) : Bool :=
  typeMatches n.typ n.cls && decide (n.exportPol ≤ 3) && (if n.counted then !(n.uses == 0) else n.uses == 0)

/-! Services. -/

/-- With its root destroyed a domain exists no more: DOMAIN_CREATE makes a new root at its index (R54, R55). DESIGN CHOICE: R399 does
not say when a domain exists; it does as long as its root lives, before and after a reset. -/
def dropDomain (idx : Nat) (d : Dev) : Dev :=
  if 1 ≤ idx ∧ idx ≤ 0x1000 then { d with cust := { d.cust with domains := without d.cust.domains (idx - 1) } } else d

/-- KEY_DESTROY (R75-R80): answered once the sweeps are acknowledged, the record committed and the pins released. -/
def execKeyDestroy (h : SvcHdr) (handle : BitVec 32) (s : State) : Out :=
  onDev (fun d =>
    let n := handle.toNat
    serve h (.keyDestroy n) (fun _ => .ok) (fun d r => onHandle h.via n d r (fun _ _ => .ok))
      (fun d => match keyFor d n with
        | some (i, k) =>
          if 1 ≤ i ∧ i ≤ 0x1000 then { dual := [(2, .device), (2, .domain k.domain)] }
          else
            let r := keyRights n d
            { r with single := fun x => x == .firmware || r.single x }
        | none => {})
      (fun d => match keyFor d n with
        | some (i, _) =>
          if i ≤ 0x1000 && !(d.ks.migState == 0) then .policy
          else if !roomToJournal d.ks then .busyRetry else .ok
        | none => .keyInvalid) true
      (fun d role => match resolveFor d h.via role n with
        | .ok (i, _) => dropDomain i (destroyKey i (some h.via) (actorReq d h) d).2
        | .error e => answer h.via e [] d) d) s

/-- A new attribute word keeps the RO fields and changes the rest only as R57 allows. -/
def attrAllowed (k : KeyRec) (w : Nat) : Bool :=
  let fixed := fieldOf w 16 27 == fieldOf (attrWord k) 16 27
  fixed && Nat.land (fieldOf w 48 16) k.usage == fieldOf w 48 16 && decide (fieldOf w 44 4 ≤ k.exportPol) &&
    (bitOf w 43 || !k.dual)

/-- KEY_ATTR (R57, R563): the change is journalled, and cached copies are invalidated; a domain root's attributes never
change (R399). -/
def execKeyAttr (h : SvcHdr) (handle : BitVec 32) (attr : BitVec 64) (s : State) : Out :=
  onDev (fun d =>
    let n := handle.toNat
    let w := attr.toNat
    serve h (.keyAttr n w) (fun _ => .ok) (fun d r => onHandle h.via n d r (fun _ _ => .ok)) (keyRights n)
      (fun d => match keyFor d n with
        | some (i, k) =>
          if i ≤ 0x1000 || !attrAllowed k w then .policy else if !roomToJournal d.ks then .busyRetry else .ok
        | none => .keyInvalid) true
      (fun d role => match resolveFor d h.via role n with
        | .error e => answer h.via e [] d
        | .ok (i, k) =>
          let k' := { k with usage := fieldOf w 48 16, exportPol := fieldOf w 44 4, dual := bitOf w 43, label := fieldOf w 0 16 }
          let inv : Inval := { idx := i, gen := k.gen, destroy := false, via := some h.via }
          let ks := { d.ks with keys := ins d.ks.keys i k', invals := d.ks.invals ++ [inv] }
          let (seq, d) := queueRec i (.attr k'.usage k'.exportPol k'.dual k'.label) { d with ks := ks }
          raise srcKeyStore 0x0203 k.domain (actorReq d h) [(4, n), (1, k.cls), (1, k.typ)] (waitFor seq (.destroy i) d)) d) s

/-- The key that an import creates, before its material is known. -/
def importKey (typ cls attr : Nat) (m : Bytes) (actor : Nat) : NewKey :=
  { keyOfAttr (AttrArg.ofNat attr) typ cls m with event := 0x0201, actor := actor }

/-- Length of the material a wrapped object carries: KW adds 8 bytes; KWP pads to a multiple of 8. -/
def wrappedOk (form n : Nat) : Bool := n % 8 == 0 && (if form = 0 then decide (24 ≤ n) else decide (16 ≤ n)) && decide (n ≤ 4112)

/-- The effect of KEY_IMPORT: a use of UNWRAP is spent, the material is unwrapped under it, checked, and created as its child. While
the use waits for its lease, the object is held. -/
def importRun (h : SvcHdr) (n form typ cls attr : Nat) (obj : ObjRef) (wrapped : Bytes) (role : Role) (d : Dev) : Dev :=
  match resolveFor d h.via role n with
  | .error e => answer h.via e [] d
  | .ok (i, k) =>
    let b := objBytes h.via obj wrapped d
    withUse h (.keyImport n form typ cls attr { obj with source := 0, length := b.length } b) role i k (fun d =>
      match Config.kwUnwrap (form == 1) k.material b with
      | none => answer h.via .authFail [] d
      | some m =>
        if !(materialLenOk typ cls m.length && materialOk typ cls m) then answer h.via .authFail [] d
        else createAnswered i k.gen (importKey typ cls attr m (actorReq d h)) h.via d) d

/-- KEY_IMPORT (R66, R67, R166, R563): the material is unwrapped under UNWRAP, checked, and created as its child. -/
def execKeyImport (h : SvcHdr) (unwrap : BitVec 32) (form typ cls : BitVec 8) (attr : BitVec 64) (obj : ObjRef)
    (wrapped : Bytes) (s : State) : Out :=
  onDev (fun d =>
    let n := unwrap.toNat
    let blank := importKey typ.toNat cls.toNat attr.toNat [] actorFw
    serve h (.keyImport n form.toNat typ.toNat cls.toNat attr.toNat obj wrapped)
      (fun d =>
        if decide (2 ≤ form.toNat) || !attrArgOk (AttrArg.ofNat attr.toNat) || !createFormat blank then .format
        else if !(objStatus h.via obj d == .ok) then objStatus h.via obj d
        else if !wrappedOk form.toNat (objBytes h.via obj wrapped d).length then .lengthError else .ok)
      (fun d r => onHandle h.via n d r (fun _ k => if bitOf k.usage 5 && isAes k.typ then .ok else .usageDenied))
      (fun _ => { single := fun r => mayMakeKey r || r == .hostDriver })
      (fun d => match keyFor d n with
        | none => .keyInvalid
        | some (i, k) =>
          let len := if isPk typ.toNat then (if cls.toNat = 1 then privLen typ.toNat else pubLen typ.toNat) else symLen typ.toNat
          let st := createLate i { blank with material := zeros len } d
          if st == .ok then useStatus d i k else st) true
      (fun d role => importRun h n form.toNat typ.toNat cls.toNat attr.toNat obj wrapped role d) d) s

/-- KEY_INFO (R71, R563). -/
def execKeyInfo (h : SvcHdr) (handle : BitVec 32) (s : State) : Out :=
  onDev (fun d =>
    let n := handle.toNat
    serve h (.keyInfo n) (fun _ => .ok) (fun d r => onHandle h.via n d r (fun _ _ => .ok))
      (fun _ => { single := fun r => tenantOrDm r || r == .auditor }) (fun _ => .ok) false
      (fun d role => match resolveFor d h.via role n with
        | .ok (i, k) => answer h.via .ok (infoBytes i k) d
        | .error e => answer h.via e [] d) d) s

/-- The types a symmetric generation or derivation makes. -/
def isSym (t : Nat) : Bool := isAes t || isTdea t || isHmac t

/-- KEY_GENERATE (R66, R67, R461): symmetric material from the domain's instance. -/
def execKeyGenerate (h : SvcHdr) (parent : BitVec 32) (typ cls : BitVec 8) (attr : BitVec 64) (s : State) : Out :=
  onDev (fun d =>
    let n := parent.toNat
    let t := typ.toNat
    let new := keyOfAttr (AttrArg.ofNat attr.toNat) t cls.toNat (zeros (symLen t))
    serve h (.keyGenerate n t cls.toNat attr.toNat)
      (fun _ => if isSym t && attrArgOk (AttrArg.ofNat attr.toNat) && createFormat new then .ok else .format)
      (fun d r => onHandle h.via n d r (fun _ _ => .ok)) (fun _ => { single := mayMakeKey })
      (fun d => match keyFor d n with | some (i, _) => createLate i new d | none => .keyInvalid) true
      (fun d role => match resolveFor d h.via role n with
        | .error e => answer h.via e [] d
        | .ok (i, k) =>
          let (inst, d) := domainInst k.domain d
          generate inst (.key i k.gen t cls.toNat attr.toNat) h.via (actorReq d h) d) d) s

/-- The KDF of R562 keyed with a base. -/
def deriveKey (k : KeyRec) (label context : Bytes) (n : Nat) : Bytes :=
  if isAes k.typ then kdfCmac k.material label context n else kdfHmac k.material label context n

/-- The effect of KEY_DERIVE: a use of the base is spent, the KDF runs, and the key is created as its child. -/
def deriveRun (h : SvcHdr) (n t cls attr : Nat) (label context : Bytes) (role : Role) (d : Dev) : Dev :=
  match resolveFor d h.via role n with
  | .error e => answer h.via e [] d
  | .ok (i, k) =>
    withUse h (.keyDerive n t cls attr label context) role i k (fun d =>
      createAnswered i k.gen { keyOfAttr (AttrArg.ofNat attr) t cls (deriveKey k label context (symLen t)) with
        actor := actorReq d h } h.via d) d

/-- KEY_DERIVE (R66, R562, R563): the base is a class-3 key with usage bit 6, and becomes the parent. -/
def execKeyDerive (h : SvcHdr) (base : BitVec 32) (typ cls : BitVec 8) (attr : BitVec 64) (label context : Bytes)
    (s : State) : Out :=
  onDev (fun d =>
    let n := base.toNat
    let t := typ.toNat
    let new := keyOfAttr (AttrArg.ofNat attr.toNat) t cls.toNat (zeros (symLen t))
    serve h (.keyDerive n t cls.toNat attr.toNat label context)
      (fun _ =>
        if !(isSym t && attrArgOk (AttrArg.ofNat attr.toNat) && createFormat new) then .format
        else if decide (64 < label.length) || decide (1024 < context.length) then .lengthError else .ok)
      (fun d r => onHandle h.via n d r (fun _ k => if k.cls == 3 && bitOf k.usage 6 then .ok else .usageDenied))
      (fun _ => { single := mayMakeKey })
      (fun d => match keyFor d n with
        | some (i, k) =>
          let st := createLate i new d
          if st == .ok then useStatus d i k else st
        | none => .keyInvalid) true
      (fun d role => deriveRun h n t cls.toNat attr.toNat label context role d) d) s

/-- CLEAR_WRITE (R66, R166): the custodian writes key material in the clear, that of a public-key type checked as part of
check 3; the same request of a tenant world is refused. -/
def execClearWrite (cu : Fin 4) (tenant : Bool) (parent : BitVec 32) (typ cls : BitVec 8) (attr : BitVec 64)
    (material : Bytes) (s : State) : Out :=
  onDev (fun d =>
    let v : Via := .firmware cu
    let a := AttrArg.ofNat attr.toNat
    let new := { keyOfAttr a typ.toNat cls.toNat material with clearOrigin := true }
    if d.life.gait = 3 || !d.life.custUp then d
    else if d.life.hobbled then answer v .hobbled [] d
    else if !attrArgOk a || !createFormat new then answer v .format [] d
    else if isPk typ.toNat && !(materialLenOk typ.toNat cls.toNat material.length && materialOk typ.toNat cls.toNat material) then
      answer v .format [] d
    else if !materialLenOk typ.toNat cls.toNat material.length then answer v .lengthError [] d
    else if !d.life.ready then answer v .busyRetry [] d
    else match resolve d.ks true 0 parent.toNat with
    | .error e => answer v e [] d
    | .ok (i, k) =>
      let st := createLate i new d
      if tenant || st == .policy then answer v .policy [] d
      else if isThrottled d then answer v .busyRetry [] d
      else if !(st == .ok) then answer v st [] d
      else createAnswered i k.gen new v d) s

/-! Migration (R93, R94, R402). -/

/-- The slot that is not PRIMARY. -/
def spareSlot (d : Dev) : Nat := 1 - (bootDir d).primary

/-- Domain roots that live. -/
def liveRoots (d : Dev) : List (Nat × KeyRec) :=
  d.ks.keys.filter (fun e => decide (1 ≤ e.1 ∧ e.1 ≤ 0x1000) && liveKey d.ks e.2 && e.2.committed)

/-- A migration record waits for its commit. -/
def migWaits (d : Dev) : Bool := d.ks.waits.any (fun w => match w.kind with | .migrate _ => true | _ => false)

/-- The event of a migration step (R488). -/
def migEvent (ev : Nat) (target : Bytes) (actor : Nat) (d : Dev) : Dev :=
  raise srcCustodian ev 0 actor [(32, leVal (target.take 32))] d

/-- Step 2 of R93: one MIGRATE_WRAP for each live domain root that has none, under the storage root of the target measurement and
life-cycle state. Answers the last record's sequence. -/
def wrapRoots (target : Bytes) (lc seq : Nat) (d : Dev) : Nat × Dev :=
  let root := storageRoot d target lc
  let wrapOne := fun (x : Nat × Dev) (e : Nat × KeyRec) =>
    if (look x.2.ks.wraps (e.1 - 1)).isSome then x
    else
      let w : Wrapped := { kek := root, plain := e.2.material }
      let (seq, d) := queueRec 0 (.migrateWrap (e.1 - 1) w) x.2
      (seq, { d with ks := { d.ks with wraps := ins d.ks.wraps (e.1 - 1) w } })
  (liveRoots d).foldl wrapOne (seq, d)

/-- Steps 1 and 2 of R93: MIGRATE_BEGIN and the wrappings. Answers the last record's sequence. -/
def beginMigration (target : Bytes) (lc actor : Nat) (d : Dev) : Nat × Dev :=
  let (seq, d) := queueRec 0 (.migrateBegin target) d
  let (seq, d) := wrapRoots target lc seq { d with ks := { d.ks with migState := 1, migTarget := target, wraps := [] } }
  (seq, migEvent 0x0111 target actor d)

/-- Step 3: MIGRATE_READY; what follows its commit is the reset. A migration resumed after a reset that left its set of wrappings
incomplete makes them first (R93). -/
def readyMigration (actor : Nat) (d : Dev) : Nat × Dev :=
  let lc := if d.guard.lcPending = 1 then 5 else lcState d
  let (_, d) := wrapRoots d.ks.migTarget lc 0 d
  let (seq, d) := queueRec 0 (.migrateReady d.ks.migTarget) d
  (seq, migEvent 0x0112 d.ks.migTarget actor d)

/-- The rights and common checks of a migration step: 2DO; a step wants the state it follows; its records need journal room;
from 4,032 foundation copies on it is refused (R481). -/
def migrateStep (h : SvcHdr) (a : SvcAction) (allowed : Dev → Status) (run : Dev → Role → Dev) (s : State) : Out :=
  onDev (fun d =>
    serve h a (fun _ => .ok) (fun _ _ => .ok) (fun _ => { dual := [(2, .device)] })
      (fun d =>
        if foundationShut d then .policy
        else if !(allowed d == .ok) then allowed d
        else if migWaits d || !roomToJournal d.ks then .busyRetry else .ok) true run d) s

/-- MIGRATE_BEGIN (R93 steps 1 and 2): the image in the inactive slot is verified; the answer carries its measurement. -/
def execMigrateBegin (h : SvcHdr) (s : State) : Out :=
  migrateStep h .migrateBegin
    (fun d =>
      if !(d.ks.migState == 0) || !keyState d then .policy
      else match slotImage d (spareSlot d) with
      | none => .policy
      | some i => if fwValid d i then .ok else .policy)
    (fun d _ =>
      let target := ((slotImage d (spareSlot d)).map (fun i => padTo 48 i.measurement)).getD []
      let (seq, d) := beginMigration target (lcState d) (actorReq d h) d
      answerAt (some seq) h.via .ok target d) s

/-- MIGRATE_READY (R93 step 3, R402): committed, the boot directory is written and a full reset follows; the answer comes
first. -/
def execMigrateReady (h : SvcHdr) (s : State) : Out :=
  migrateStep h .migrateReady (fun d => if d.ks.migState == 1 then .ok else .policy)
    (fun d _ =>
      let (seq, d) := readyMigration (actorReq d h) d
      waitFor seq (.migrate 2) (answerAt (some seq) h.via .ok [] d)) s

/-- MIGRATE_FINAL (R93 step 5, R402): on the target firmware. -/
def execMigrateFinal (h : SvcHdr) (s : State) : Out :=
  migrateStep h .migrateFinal (fun d => if d.ks.migState == 3 then .ok else .policy)
    (fun d _ =>
      let (seq, d) := queueRec 0 (.migrateFinal d.ks.migTarget) d
      let d := migEvent 0x0113 d.ks.migTarget (actorReq d h) d
      waitFor seq (.migrate 3) (answerAt (some seq) h.via .ok [] d)) s

/-- MIGRATE_ABANDON (R93, R402): at any step before the final one. -/
def execMigrateAbandon (h : SvcHdr) (s : State) : Out :=
  migrateStep h .migrateAbandon (fun d => if d.ks.migState == 0 then .policy else .ok)
    (fun d _ =>
      let (seq, d) := queueRec 0 .migrateAbandon d
      let d := migEvent 0x0114 d.ks.migTarget (actorReq d h) d
      waitFor seq (.migrate 4) (answerAt (some seq) h.via .ok [] d)) s

/-- A life-cycle transition burns its flag once its LIFECYCLE record stands in storage (R517); zeroised hold has no recorder
to write it. After PR the factory seed is burned solid (R513). A reset follows. -/
def burnState (flag from_ to_ actor : Nat) (s : State) : State :=
  let s := if s.dev.life.zeroised then s
    else drainAudit { s with dev := raise srcGuard 0x0100 0 actor [(1, from_), (1, to_)] s.dev }
  let d := burnBit flag s.dev
  let otp := if flag = 2 then { d.guard.otp with seedSolid := true, factorySeed := [] } else d.guard.otp
  { s with dev := { d with guard := { d.guard with otp := otp } } }

/-- What follows a committed migration record (R402, R517). -/
def followMigration (s : State) : State :=
  match s.dev.cust.pendingMig with
  | none => s
  | some step =>
    let d := { s.dev with cust := { s.dev.cust with pendingMig := none } }
    if step = 2 then
      let d := { d with ks := { d.ks with migState := 2 } }
      if d.guard.lcPending = 1 then fullReset 2 (burnState 3 4 5 actorFw { s with dev := d })
      else
        let t := spareSlot d
        fullReset 2 { s with dev := writeDir (fun b => { b with trial := some t, tries := 3 }) d }
    else if step = 3 then
      let d := raiseFloor (finalDir { d with ks := finalWraps d.ks })
      let d := if d.guard.lcPending = 1 then { d with guard := { d.guard with lcPending := 0 } } else d
      { s with dev := d }
    else if step = 4 then
      let d := { d with ks := { d.ks with migState := 0, migTarget := [], wraps := [] } }
      let d := writeDir (fun b => { b with trial := none }) d
      { s with dev := { d with guard := { d.guard with lcPending := if d.guard.lcPending = 1 then 0 else d.guard.lcPending } } }
    else { s with dev := d }

/-- A journal sequence has committed. -/
def hasCommitted (d : Dev) (seq : Nat) : Bool := !d.ks.journal.any (fun p => p.recs.any (fun r => r.seq == seq))

/-- A service whose use of a key waited for its lease runs from its start (R68); an SA is checked again for what happened
meanwhile. -/
def resumeUse (w : UseWait) (d : Dev) : Dev :=
  match w.act with
  | .keyImport n form typ cls attr obj wrapped => importRun w.hdr n form typ cls attr obj wrapped w.role d
  | .keyDerive n t cls attr label context => deriveRun w.hdr n t cls attr label context w.role d
  | .saCreate p dr c a key ssci pn salt =>
    let st := saLate p dr c a key pn d
    if st == .ok then saRun w.hdr p dr c a key ssci pn salt w.role d else answer w.hdr.via st [] d
  | _ => d

/-- The services whose leases have committed go on, in order. -/
def resumeUses (d : Dev) : Dev :=
  let due := d.cust.useWaits.filter (fun w => hasCommitted d w.seq)
  due.foldl (fun d w => resumeUse w d)
    { d with cust := { d.cust with useWaits := d.cust.useWaits.filter (fun w => !hasCommitted d w.seq) } }

/-- JOURNAL_PAGE_PROGRAMMED (R90): a closed page's programming and marker check have ended. Its records commit once every
lower page has committed, in journal order. -/
def execJournalPageProgrammed (pageSeq : BitVec 64) (s : State) : Out :=
  let d := s.dev
  let pages := d.ks.journal.map (fun p =>
    if p.pageSeq == pageSeq.toNat && p.closed then { p with programmed := true } else p)
  let d := resumeUses (commitPages d.ks.journal.length { d with ks := { d.ks with journal := pages } })
  .next (followMigration { s with dev := d })

end Sys2Proof.Machine
end

