-- ==== Sys2Proof/Machine/CustRows.lean ====
section
/-! DEFINITION. The custodian's own services and its watchdog: information, domains, officers and logins, firmware staging,
reset (R386-R403, R564). -/

set_option linter.unusedVariables false

namespace Sys2Proof.Machine

open Sys2Proof

/-! SERVICE_INFO. -/

/-- SERVICE_INFO (R391, R563). -/
def execServiceInfo (h : SvcHdr) (s : State) : Out :=
  onDev (fun d =>
    serve h .serviceInfo (fun _ => .ok) (fun _ _ => .ok) (fun _ => { single := fun _ => true }) (fun _ => .ok) false
      (fun d _ =>
        let flags := b2n d.life.custUp + 2 * b2n d.life.hobbled
        let svn := ((runningFw d).map (fun i => i.svn)).getD 0
        answer h.via .ok (le 1 3 ++ le 1 flags ++ le 2 0 ++ le 4 (fwVersion d) ++ le 2 svn ++ le 2 0) d) d) s

/-! Domains (R399). -/

/-- Change the custodian's state. -/
def onCust (f : CustState → CustState) (d : Dev) : Dev := { d with cust := f d.cust }

/-- DOMAIN_CREATE (R399): the root's material comes from instance 116. -/
def execDomainCreate (h : SvcHdr) (domain : BitVec 16) (s : State) : Out :=
  onDev (fun d =>
    let dom := domain.toNat
    serve h (.domainCreate dom) (fun _ => if dom < 4096 then .ok else .format) (fun _ _ => .ok)
      (fun _ => { dual := [(2, .device)] })
      (fun d =>
        if has d.cust.domains dom || !(d.ks.migState == 0) || !keyState d || d.ks.locked || foundationShut d then .policy
        else if !roomToCreate d.ks then .busyRetry else .ok) true
      (fun d _ => generate 116 (.root dom) h.via (actorReq d h) d) d) s

/-- Host channels of a domain begin to close, as CHANNEL_CLOSE does, with no request to answer. -/
def closeDomainChans (dom : Nat) (d : Dev) : Dev :=
  let mine := keysOf (d.host.chans.filter (fun e => e.2.domain == dom && e.2.closing.isNone &&
    (match e.2.kind with | .listener _ => false | _ => true)))
  mine.foldl (fun d c => match look d.host.chans c with
    | none => d
    | some ch =>
      let d := match ch.kind with
        | .slot fn sn => onSlot fn sn (fun x => { x with state := .closing }) d
        | _ => d
      finishClose c (onChan c (fun ch => { ch with closing := some d.tb.now, quiet := true }) d)) d

/-- A route loses its VALID bit. -/
def dropRoute (r : Nat) (d : Dev) : Dev :=
  let b := blobOf d (dk 0x34E0 0 + r)
  (writeRoute r (overwrite b 0 (le 1 (setBit (leAt b 0 1) 0 false))) d).2

/-- Listeners and routes of a domain end. -/
def dropDomainNet (dom : Nat) (d : Dev) : Dev :=
  let d := (List.range 224).foldl (fun d n => if lisDomain d n == dom then killListener n d else d) d
  (routeNums d).foldl (fun d r => if (routeOf d r).domain == dom && (routeOf d r).valid then dropRoute r d else d) d

/-- VFs bound to a domain are unbound. -/
def unbindDomain (dom : Nat) (d : Dev) : Dev :=
  (List.range 2048).foldl (fun d v =>
    if vfBound d (4 + v) && vfDomain d (4 + v) == dom then
      setNum 0 (dk (0x4000 + v) 2) 0 (setNum 0 (dk (0x4000 + v) 3) 0 d)
    else d) d

/-- An officer is revoked: logged out, and its authorisations of open sessions are discarded (R395, R396, R398). -/
def revokeOfficer (id actor : Nat) (d : Dev) : Dev :=
  match look d.cust.officers id with
  | none => d
  | some o =>
    let drop := fun (_ : Nat) (s : Session) => if s.state = 0 then { s with officers := without s.officers id } else s
    let d := onCust (fun c => { c with
      officers := ins c.officers id { o with revoked := true }, logins := keep (fun _ l => !(l.officer == id)) c.logins,
      sessions := mapV drop c.sessions }) d
    raise srcCustodian 0x0102 o.domain actor [(2, id), (1, o.role.code), (2, o.domain)] d

/-- Officers in service of a role and domain. -/
def officersOf (d : Dev) (role : OfficerRole) (dom : Nat) : List Nat :=
  keysOf (d.cust.officers.filter (fun e => e.2.role == role && !e.2.revoked && (!(role == .domainOfficer) || e.2.domain == dom)))

/-- DOMAIN_DELETE (R399): answered once the root's DESTROY record has committed. A domain whose root KEY_DESTROY has destroyed exists
no more, so that no generation rises twice (R55, R80). -/
def execDomainDelete (h : SvcHdr) (domain : BitVec 16) (s : State) : Out :=
  onDev (fun d =>
    let dom := domain.toNat
    serve h (.domainDelete dom) (fun _ => if dom < 4096 then .ok else .format)
      (fun d _ => if has d.cust.domains dom then .ok else .keyInvalid)
      (fun _ => { dual := [(2, .device), (2, .domain dom)] })
      (fun d =>
        if !(d.ks.migState == 0) || foundationShut d then .policy
        else if !roomToJournal d.ks then .busyRetry else .ok) true
      (fun d _ =>
        let actor := actorReq d h
        let d := retireImage dom d
        let d := unbindDomain dom (closeDomainChans dom (dropDomainNet dom d))
        let (seq, d) := destroyKey (dom + 1) none actor d
        let d := (officersOf d .domainOfficer dom).foldl (fun d id => revokeOfficer id actor d) d
        let d := onCust (fun c => { c with domains := without c.domains dom }) d
        answerAt (some seq) h.via .ok [] (raiseAfter srcCustodian 0x0121 dom actor [(2, dom)] d)) d) s

/-! Officers (R394-R396). -/

/-- The card slot's state (R439). -/
def iccOf (d : Dev) (slot : Nat) : IccSlot := if slot = 0 then d.per.icc0 else d.per.icc1

/-- PIN_LEN and the PIN's twelve bytes (R563). -/
def pinFormat (pinLen : Nat) (pin : Bytes) : Bool :=
  pin.length == 12 && (pin.take pinLen).all (fun b => decide (0x30 ≤ b.toNat ∧ b.toNat ≤ 0x39)) &&
    (pin.drop pinLen).all (fun b => b == 0#8)

/-- The argument checks of a request that carries a PIN. -/
def pinStatus (slot pinLen : Nat) (pin : Bytes) : Status :=
  if 1 < slot || (decide (pinLen ≤ 12) && !pinFormat pinLen pin) then .format
  else if pinLen < 4 || 12 < pinLen then .lengthError else .ok

/-- INTERNAL AUTHENTICATE with a fresh challenge (R394): the signature verifies under the key named. A hobble has zeroed the
custodian's instance, which is instantiated again before this output (R468). -/
def cardSigns (slot : Nat) (card : CardReply) (d : Dev) : Status × Dev :=
  if !((iccOf d slot).state == 2) || !card.answered then (.timeout, d)
  else match draw 112 32 (if d.life.hobbled && !(instOf d 112).seeded then reseedInst 112 d else d) with
    | none => (.rngUnavailable, d)
    | some (_, d) => (if card.sigOk then .ok else .authFail, d)

/-- The three commands of R394 in order. With no card ready in the slot SELECT fails; a card that leaves it during an exchange ends
the request with TIMEOUT (R442). -/
def cardExchange (slot : Nat) (card : CardReply) (d : Dev) : Status × Dev :=
  if !((iccOf d slot).state == 2) then (.format, d)
  else if !card.answered then (.timeout, d)
  else if !card.selected then (.format, d)
  else if card.pinSw = 0x6983 then (.policy, d)
  else if !(card.pinSw == 0x9000) then (.authFail, d)
  else cardSigns slot card d

/-- The fields of an officer record (R564). -/
def recordOk (r : OfficerRec) : Bool :=
  r.lenOk && r.resv == 0 && decide (1 ≤ r.officer ∧ r.officer ≤ 0x1FFF ∧ r.role ≤ 3 ∧ r.domain < 4096) &&
    r.cardKey.length == 96 && r.rigEcdsa.length == 96 &&
    (if r.role = 1 then r.rigMldsa.length == 1952
     else r.domain == 0 && r.rigMldsa.isEmpty && r.rigEcdsa.all (fun b => b == 0#8))

/-- The officer record that bytes spell (R564). -/
def recordOfBytes (b : Bytes) : OfficerRec :=
  { officer := leAt b 0 2, role := leAt b 2 1, resv := leAt b 3 1 + leAt b 6 2, domain := leAt b 4 2, cardKey := padTo 96 (slice b 8 96),
    rigEcdsa := padTo 96 (slice b 0x68 96), rigMldsa := slice b 0xC8 1952,
    lenOk := b.length == (if leAt b 2 1 = 1 then 2152 else 200) }

/-- The record, and the firmware image, that a request names: what the bytes in the device spell, else what the request brought. -/
def recordNamed : Via → ObjRef → OfficerRec → Dev → OfficerRec := objContent recordOfBytes
def firmwareNamed : Via → ObjRef → FwImage → Dev → FwImage := objContent Config.firmwareOf

/-- The role a code names. -/
def roleOfCode (c : Nat) : OfficerRole :=
  if c = 0 then .deviceOfficer else if c = 1 then .domainOfficer else if c = 2 then .auditor else .operator

/-- The right to enrol or revoke an officer of a role (R396): 2DM for a DM of a domain that has its M, 2DO otherwise. The
first two DOs of a PROVISIONED device need no session; R396 does not say who may ask for them, and the model serves every
requester that has a role (R6), which is its choice (DESIGN CHOICE). -/
def officerRights (role : OfficerRole) (dom : Nat) (enrol : Bool) (d : Dev) : Rights :=
  if role = .domainOfficer ∧ scopeM d (.domain dom) ≤ (officersOf d .domainOfficer dom).length then
    { dual := [(2, .domain dom)] }
  else
    let first := enrol && role == .deviceOfficer && lcState d == 4 && decide ((officersOf d .deviceOfficer 0).length < 2)
    { single := fun r => first && !(r == .nobody), dual := [(2, .device)] }

/-- Room for one more officer (R396). -/
def officerRoom (d : Dev) (role : OfficerRole) (dom : Nat) : Bool :=
  match role with
  | .deviceOfficer => decide ((officersOf d role 0).length < 32)
  | .domainOfficer => decide ((officersOf d role dom).length < 32)
  | _ => true

/-- OFFICER_ENROL (R396, R564). -/
def execOfficerEnrol (h : SvcHdr) (slot pinLen : BitVec 8) (pin : Bytes) (obj : ObjRef) (record : OfficerRec)
    (card : CardReply) (s : State) : Out :=
  onDev (fun d =>
    let given := record
    let record := recordNamed h.via obj given d
    let role := roleOfCode record.role
    serve h (.officerEnrol slot.toNat pinLen.toNat pin obj given card)
      (fun d =>
        if !(pinStatus slot.toNat pinLen.toNat pin == .ok) then pinStatus slot.toNat pinLen.toNat pin
        else if !(objStatus h.via obj d == .ok) then objStatus h.via obj d
        else if recordOk record then .ok else .format)
      (fun _ _ => .ok) (officerRights role record.domain true)
      (fun d => if (look d.cust.officers record.officer).isSome || !officerRoom d role record.domain || foundationShut d
        then .policy else .ok) true
      (fun d _ =>
        match cardExchange slot.toNat card d with
        | (.ok, d) =>
          let o : Officer := { role := role, domain := record.domain, cardKey := record.cardKey, rigEcdsa := record.rigEcdsa,
                               rigMldsa := record.rigMldsa }
          let d := onCust (fun c => { c with officers := ins c.officers record.officer o }) d
          let d := raise srcCustodian 0x0101 record.domain (actorReq d h)
            [(2, record.officer), (1, record.role), (2, record.domain)] d
          answer h.via .ok [] d
        | (e, d) => answer h.via e [] d) d) s

/-- OFFICER_REVOKE (R396): not below the scope's M. -/
def execOfficerRevoke (h : SvcHdr) (officer : BitVec 16) (s : State) : Out :=
  onDev (fun d =>
    let id := officer.toNat
    let o := (look d.cust.officers id).filter (fun o => !o.revoked)
    serve h (.officerRevoke id) (fun _ => if 1 ≤ id ∧ id ≤ 0x1FFF then .ok else .format) (fun _ _ => .ok)
      (fun d => match o with
        | some o => officerRights o.role o.domain false d
        | none => { single := fun _ => true, dual := [(2, .device)] })
      (fun d => match o with
        | none => .policy
        | some o =>
          let left := (officersOf d o.role o.domain).length - 1
          let short := match o.role with
            | .deviceOfficer => decide (left < scopeM d .device)
            | .domainOfficer => decide (left < scopeM d (.domain o.domain))
            | _ => false
          if short || foundationShut d then .policy else .ok) true
      (fun d _ => answer h.via .ok [] (revokeOfficer id (actorReq d h) d)) d) s

/-- The association that a login's request binds its officer to (R417). -/
def boundBy (v : Via) : Option Nat :=
  match v with
  | .malath a _ => some a
  | .mailbox fn => if fn < 4 then some (48 + fn) else none
  | _ => none

/-- An event of a login (R488). -/
def loginEvent (ev id slot sw : Nat) (d : Dev) : Dev :=
  raise srcCustodian ev 0 (actorOfficer id) [(2, id), (1, slot), (2, sw)] d

/-- OFFICER_LOGIN (R394, R395): a login in an occupied slot replaces the officer there. -/
def execOfficerLogin (h : SvcHdr) (slot pinLen : BitVec 8) (officer : BitVec 16) (pin : Bytes) (card : CardReply)
    (s : State) : Out :=
  onDev (fun d =>
    let id := officer.toNat
    serve h (.officerLogin slot.toNat pinLen.toNat id pin card) (fun _ => pinStatus slot.toNat pinLen.toNat pin)
      (fun _ _ => .ok) (fun _ => { single := fun _ => true })
      (fun d => if (look d.cust.officers id).any (fun o => !o.revoked) then .ok else .policy) true
      (fun d _ =>
        match cardExchange slot.toNat card d with
        | (.ok, d) =>
          let l : Login := { officer := id, lastUse := d.tb.now, bound := boundBy h.via }
          let d := onCust (fun c => { c with logins := ins c.logins slot.toNat l }) d
          answer h.via .ok [] (loginEvent 0x0103 id slot.toNat card.pinSw d)
        | (e, d) => answer h.via e [] (loginEvent 0x0105 id slot.toNat card.pinSw d)) d) s

/-- The officer of a slot is logged out (R395). -/
def logoutSlot (slot : Nat) (d : Dev) : Dev :=
  match look d.cust.logins slot with
  | none => d
  | some l => loginEvent 0x0104 l.officer slot 0 (onCust (fun c => { c with logins := del c.logins slot }) d)

/-- OFFICER_LOGOUT (R395): naming an officer who is not logged in, it completes with OK and has no effect. What the right
'Officer in person' (R391) asks of a logout is not defined; the model serves every requester, with or without a role, for any
officer (DESIGN CHOICE). -/
def execOfficerLogout (h : SvcHdr) (officer : BitVec 16) (s : State) : Out :=
  onDev (fun d =>
    let id := officer.toNat
    serve h (.officerLogout id) (fun _ => .ok) (fun _ _ => .ok) (fun _ => { single := fun _ => true }) (fun _ => .ok) true
      (fun d _ =>
        let slots := keysOf (d.cust.logins.filter (fun e => e.2.officer == id))
        answer h.via .ok [] (slots.foldl (fun d n => logoutSlot n d) d)) d) s

/-- LOGIN_IDLE_EXPIRE (R395): LOGIN_IDLE seconds have passed with no request naming the officer. -/
def execLoginIdleExpire (slot : Fin 2) (s : State) : Out :=
  onDev (fun d =>
    match look d.cust.logins slot.val with
    | none => d
    | some l => logoutSlot slot.val (reach (l.lastUse + sec (numOf 900 d (dk 0x1800 3))) d)) s

/-! Firmware (R387, R402). -/

/-- FW_STAGE (R402): a valid newer image goes into the slot that is not PRIMARY; TRIAL is cleared. -/
def execFwStage (h : SvcHdr) (obj : ObjRef) (image : FwImage) (s : State) : Out :=
  onDev (fun d =>
    let given := image
    let image := firmwareNamed h.via obj given d
    serve h (.fwStage obj given)
      (fun d =>
        if !(objStatus h.via obj d == .ok) then objStatus h.via obj d
        else if !image.magicOk || !decide (1 ≤ image.svn ∧ image.svn ≤ 255) then .format
        else if !decide (image.length ≤ 256 * 2 ^ 20) then .lengthError else .ok)
      (fun _ _ => .ok) (fun _ => { single := fun r => r == .operator || r == .deviceOfficer })
      (fun d => if decide (image.version ≤ fwVersion d) || decide (image.svn < svnFloor d) then .policy else .ok) true
      (fun d _ =>
        if !fwSigned image then answer h.via .authFail [] d
        else
          let n := spareSlot d
          let d := writeDir (fun b => { b with trial := none }) d
          let d := raise srcCustodian 0x0110 0 (actorReq d h) [(1, n), (4, image.version), (2, image.svn)] (setSlot n image d)
          answer h.via .ok (le 1 n ++ zeros 3 ++ le 4 image.version ++ le 2 image.svn ++ le 2 0) d) d) s

/-- A reset that a service asked for, after its answer (R501, R563). -/
def resetIfDue (s : State) : State := if s.dev.life.resetDue then fullReset 2 s else s

/-- Ask for that reset. -/
def dueReset (d : Dev) : Dev := { d with life := { d.life with resetDue := true } }

/-- DEVICE_RESET (R7, R543): the answer precedes the reset. -/
def execDeviceReset (h : SvcHdr) (s : State) : Out :=
  let d := serve h .deviceReset (fun _ => .ok) (fun _ _ => .ok) (fun _ => { dual := [(2, .device)] }) (fun _ => .ok) false
    (fun d _ => dueReset (answer h.via .ok [] d)) s.dev
  .next (resetIfDue { s with dev := d })

/-! The secure watchdog (R400, R401). -/

/-- Change the watchdog. -/
def onWd (f : Watchdog → Watchdog) (d : Dev) : Dev := onCust (fun c => { c with wd := f c.wd }) d

/-- WD_KICK (R400): 0xA5 and then 0x5A within 1 ms restarts the period; any other write has no effect. -/
def execWdKick (v : BitVec 32) (s : State) : Out :=
  onDev (fun d =>
    if v == 0xA5#32 then onWd (fun w => { w with armed := some d.tb.now }) d
    else if v == 0x5A#32 then
      match d.cust.wd.armed with
      | some t => if d.tb.now ≤ t + ms 1 then onWd (fun w => { w with armed := none, since := d.tb.now }) d else d
      | none => d
    else d) s

/-- The requests a cluster reset leaves without their custodian are answered CUSTODIAN_UNAVAILABLE (R401 step 3). -/
def dropCustodianRequests (d : Dev) : Dev :=
  let st := Status.custodianUnavailable
  let vias := d.ks.waits.filterMap (fun w => match w.kind with | .answer v _ _ => some v | _ => none)
  let invs := d.ks.invals.filterMap (fun v => if v.committed then none else v.via)
  let gens := d.rng.gens.map (fun g => g.via)
  let rigs := (d.rig.domains.map (fun e => e.2.quiesce.toList.map (fun q => q.via) ++ e.2.queued.map (fun r => r.via))).flatten
  let waits := d.ks.waits.filter (fun w => match w.kind with | .answer .. => false | _ => true)
  let ks := { d.ks with waits := waits, invals := d.ks.invals.map (fun v => { v with via := none }) }
  let rig := { d.rig with domains := mapV (fun _ (r : DomainRig) => { r with quiesce := none, queued := [] }) d.rig.domains }
  let d := { d with ks := ks, rig := rig, rng := { d.rng with gens := [] } }
  let d := (vias ++ invs ++ gens ++ rigs).foldl (fun d v => answer v st [] d) d
  let boxes := keysOf (d.host.fns.filter (fun e => e.2.mbBusy.isSome && e.2.mbTaken && !(e.2.abi == 1)))
  let d := boxes.foldl (fun d fn => answerMailbox fn st [] d) d
  { d with host := { d.host with chans := mapV (fun _ (c : Chan) => if c.closing.isSome then { c with quiet := true } else c) d.host.chans } }

/-- Downloads to entries are aborted with CUSTODIAN_UNAVAILABLE, staging transfers are discarded, uploads continue (R423). -/
def dropDownloads (d : Dev) : Dev :=
  let down := d.mal.xfers.filter (fun e => e.2.dir == 0)
  let d := down.foldl (fun d e =>
    let ver := ((assocOf d e.2.assoc).map (fun x => x.version)).getD 1
    sendTo e.2.assoc { ver := ver, typ := 0x23, txn := e.2.txn, actor := 0,
                       payload := le 1 e.1 ++ le 1 Status.custodianUnavailable.code } d) d
  dropXfers (fun _ x => !(x.dir == 1)) d

/-- Jobs of class 0 and what custodian cores issued (R28, R115). -/
def custodianJob (o : Op) : Bool :=
  match o.req.src with
  | .engine _ _ => o.cls == 0 || o.reserve
  | _ => o.req.custodian || o.reserve

/-- The reset of the custodian cluster alone (R401 steps 1 to 3, R463, R490, R523). -/
def clusterReset (s : State) : State :=
  let d := s.dev
  let d := { d with life := { d.life with custUp := false }, vq := { d.vq with ctl := 0 },
                    audit := { d.audit with fnCtl := 0 } }
  let d := (tagsWhere custodianJob d).foldl (fun d t => squash t d) d
  let d := { d with op := { d.op with waitTag := [] } }
  let d := dropDownloads (dropCustodianRequests (dropUses .custodianUnavailable d))
  let d := onCust (fun c => { c with sessions := [], logins := [] }) d
  let d := (List.range 4).foldl (fun d n => setProc (512 + n) { procReset (512 + n) with off := true } d) d
  let d := (List.range 512).foldl (fun d p =>
    if (procOf d p).custodianWork then endWorld p (takeInterrupt p 0x81 d)
    else if (procOf d p).custDue then onProc p (fun q => { q with custDue := false }) d
    else d) d
  let d := endDebug ([112, 113, 114, 115].foldl (fun d i => zeroInst i d) d)
  let wd := { d.cust.wd with en := false, armed := none, period := 5000, periodSet := false, rebooting := true,
                             resets := d.cust.wd.resets ++ [d.tb.now], total := w32 (d.cust.wd.total + 1) }
  let d := raise srcCustodian 0x0004 0 actorHw [(1, wd.resets.length)] (onWd (fun _ => wd) d)
  { s with dev := d, mem := zeroRange s.mem sramBase 0x400000, memTags := zeroTags s.memTags sramBase 0x400000 }

/-- WATCHDOG_EXPIRE (R401): the cluster is reset, or the device while CRESETS is 2. -/
def execWatchdogExpire (s : State) : Out :=
  let w := s.dev.cust.wd
  if !w.en || w.rebooting || s.dev.life.gait == 3 then .next s
  else
    let s := { s with dev := reach (w.since + ms w.period) s.dev }
    if 2 ≤ w.resets.length then .next (fullReset 2 s) else .next (clusterReset s)

/-- CLUSTER_REBOOT_DONE (R401 step 4): a measurement other than the latched one escalates to a full reset. -/
def execClusterRebootDone (s : State) : Out :=
  let d := s.dev
  if !d.cust.wd.rebooting then .next s
  else if !((slotImage d d.cust.booted).any (fun i => i.measurement == d.cust.latch)) then .next (fullReset 2 s)
  else
    let d := [112, 113, 114, 115].foldl (fun d i => reseedInst i d) d
    let d := (List.range 4).foldl (fun d n => setProc (512 + n) (procReset (512 + n)) d) d
    let d := onWd (fun w => { w with en := true, period := numOf 1000 d (dk 0x1402 1), periodSet := true, since := d.tb.now,
                                     rebooting := false }) d
    .next { s with dev := { d with life := { d.life with custUp := true } } }

/-- CRESETS_EXPIRE (R400): the oldest watchdog reset passes out of the 600 s window. -/
def execCresetsExpire (s : State) : Out :=
  onDev (fun d =>
    match d.cust.wd.resets with
    | [] => d
    | t :: rest => onWd (fun w => { w with resets := rest }) (reach (t + sec 600) d)) s

end Sys2Proof.Machine
end

