-- ==== Sys2Proof/Machine/Shroud.lean ====
section
/-! DEFINITION. The Shroud: detectors and what their assertions decide, inverted shadows, VBAT, the external loop, and the
unlock (R493-R511). -/

set_option linter.unusedVariables false

namespace Sys2Proof.Machine

open Sys2Proof

/-! Hobble and zeroise decisions. -/

/-- What waits in the on-die buffer of Standby goes to the recorder (R487). -/
def flushStandby (d : Dev) : Dev :=
  { d with audit := { d.audit with vc3 := d.audit.standbyBuf ++ d.audit.vc3, standbyBuf := [] } }

/-- A hobble in Standby, or during entry to it, leaves it directly: the custodian and the recorder run, no unit is released
(R509, R540). -/
def leaveStandbyHobbled (d : Dev) : Dev :=
  if d.life.hobbled && (d.life.gait == 3 || d.pow.standbyAt.isSome) then
    flushStandby { d with life := { d.life with gait := 1, custUp := true }, lopeOn := true,
                          tb := showTime { d.tb with halted := false },
                          pow := { d.pow with standbyAt := none, wakeSource := if d.life.gait = 3 then 3 else d.pow.wakeSource } }
  else d

/-- A hobble-class event (R494, R500), none where the monitors are off (R497) or the device stands in zeroised hold (R504). -/
def hobbleNow (src : Nat) (l : TamperLatch) (d : Dev) : Dev :=
  if monitorsOff d || d.life.zeroised then d else leaveStandbyHobbled (hobbleEvent src l d)

/-- Setpoints of the main rails in mV (R530): VDD_CORE follows the gait and the reef level. -/
def railSetpoint (d : Dev) (rail : Nat) : Nat :=
  if rail = 0 then (if d.life.reef = 3 then 650 else if d.life.reef = 2 then 700 else if d.life.gait = 2 then 820 else 750)
  else if rail = 1 then 800 else if rail = 2 then 900 else if rail = 3 then 1100 else if rail = 4 then 1800 else 1200

/-- A reading beyond its zeroise limit (R494, R496, R507). -/
def extreme (d : Dev) (monitor item : Nat) (value : Int) : Bool :=
  if monitor = 4 then decide (value < -45000) || decide (135000 < value)
  else if monitor = 5 then decide (item < 6) && decide ((railSetpoint d item : Int) * 13 < value * 10)
  else if monitor = 9 then decide (4200 < value) || (!d.guard.mainPower && decide (value < 2300))
  else false

/-- Monitors whose two detectors must agree (R493). -/
def zeroiseClass (monitor : Nat) : Bool := monitor == 1 || monitor == 2 || monitor == 3 || monitor == 9

/-- Monitors in the battery domain; of the temperature sensors, those of the guard die run there (R493). -/
def onBattery (monitor : Nat) : Bool := zeroiseClass monitor || monitor == 4 || monitor == 8

/-- A monitor runs (R493, R497, R508). -/
def monitorRuns (d : Dev) (monitor : Nat) : Bool :=
  decide (1 ≤ monitor ∧ monitor ≤ 10) && !monitorsOff d && (d.guard.mainPower || onBattery monitor) &&
    (!(monitor == 8) || d.guard.loopOn)

/-- The latch entry of an event. -/
def latchOf (d : Dev) (monitor mask item : Nat) (value limit : Int) : TamperLatch :=
  { monitor := monitor, detectors := mask, item := item, power := b2n (!d.guard.mainPower), value := value, limit := limit }

/-- A detector asserts (R494). An assertion of a zeroise-class monitor, or with an extreme reading, is zeroise-class: with its
partner's within 20 µs it zeroises. Alone, a detector of a zeroise-class monitor waits for its partner; any other hobbles. -/
def assertDetector (monitor det item : Nat) (value limit : Int) (s : State) : State :=
  if !monitorRuns s.dev monitor then s
  else
    let key := monitor * 2 + det
    let partner := monitor * 2 + (1 - det)
    let now := s.dev.tb.now
    let g := s.dev.guard
    let d := { s.dev with guard := { g with asserted := ins g.asserted key now, lastAssert := some now } }
    let bad := extreme d monitor item value
    let near := (look g.alone partner).isSome && decide (now ≤ lookD 0 g.asserted partner + us 20)
    let hobble := fun (alone : FMap (Nat × Int × Int)) =>
      hobbleNow (monitorSrc monitor (det + 1)) (latchOf d monitor (det + 1) item value limit)
        { d with guard := { d.guard with alone := alone } }
    if (zeroiseClass monitor || bad) && near then zeroise (latchOf d monitor 3 item value limit) { s with dev := d }
    else if zeroiseClass monitor then
      if (look g.alone key).isSome then { s with dev := { d with guard := { d.guard with asserted := g.asserted } } }
      else { s with dev := { d with guard := { d.guard with alone := ins g.alone key (item, value, limit) } } }
    else { s with dev := hobble (if bad then ins g.alone key (item, value, limit) else del g.alone key) }

/-- DETECTOR_ASSERT (R494). The detector gives its item, its reading and the threshold it passed. -/
def execDetectorAssert (monitor : BitVec 8) (det : Fin 2) (item : BitVec 8) (value limit : BitVec 32) (s : State) : Out :=
  .next (assertDetector monitor.toNat det.val item.toNat value.toInt limit.toInt s)

/-- The detector of a zeroise-class monitor that has been alone longest. -/
def loneDetector (d : Dev) : Option (Nat × Nat × Int × Int) :=
  minBy? (fun (e : Nat × Nat × Int × Int) => lookD 0 d.guard.asserted e.1)
    (d.guard.alone.filter (fun e => zeroiseClass (e.1 / 2)))

/-- DETECTOR_DISAGREE_TIMEOUT (R494): alone for 20 µs, a detector of a zeroise-class monitor hobbles the device. -/
def execDetectorDisagreeTimeout (s : State) : Out :=
  onDev (fun d =>
    match loneDetector d with
    | none => d
    | some (key, item, value, limit) =>
      let d := reach (lookD 0 d.guard.asserted key + us 20) d
      let d := { d with guard := { d.guard with alone := del d.guard.alone key } }
      let mask := key % 2 + 1
      hobbleNow (monitorSrc (key / 2) mask) (latchOf d (key / 2) mask item value limit) (bump (dk 0x6803 (key / 2)) d)) s

/-- DETECTOR_SELF_CHECK (R495): a failure counts as an assertion; a detector that passes with its reading inside the window
asserts no more; it has asserted until now. -/
def execDetectorSelfCheck (monitor : BitVec 8) (det : Fin 2) (pass inside : Bool) (s : State) : Out :=
  if !pass then .next (assertDetector monitor.toNat det.val 0 0 0 s)
  else if inside then
    onDev (fun d =>
      let key := monitor.toNat * 2 + det.val
      let last := if (look d.guard.asserted key).isSome then some d.tb.now else d.guard.lastAssert
      { d with guard := { d.guard with asserted := del d.guard.asserted key, alone := del d.guard.alone key,
                                       lastAssert := last } }) s
  else .next s

/-- SHADOW_MISMATCH (R505): the device hobbles, and the mismatch is recorded; on one of the latches it reads as that latch
being set. `latch`: 1 the hobble latch, 2 the zeroise latch, 0 any other register. -/
def execShadowMismatch (cls : Fin 7) (unit : BitVec 16) (offset : BitVec 32) (latch : Fin 3) (s : State) : Out :=
  onDev (fun d =>
    if !monitorRuns d 10 then d
    else
      let l := latchOf d 0x0A 3 0 0 0
      let d := { d with guard := { d.guard with lastAssert := some d.tb.now } }
      let d := report unit.toNat 0x0503 0xFFFF [(1, cls.val), (1, 0), (2, unit.toNat), (4, offset.toNat)] (bump (dk 0x6805 2) d)
      let d := if latch.val = 2 && !d.guard.zeroise.set then
          { d with guard := { d.guard with zeroise := { l with set := true, rtc := w64 d.tb.rtc, events := 1 } } }
        else d
      hobbleNow unit.toNat l d) s

/-! VBAT (R507). -/

/-- With neither main power nor a battery nothing of the battery domain stands: BBRAM, the latches, the RTC and the Gallop
count (R46, R503, R506, R538). -/
def batteryGone (d : Dev) : Dev :=
  let d := blankBbram d
  { d with guard := { d.guard with hobble := {}, zeroise := {}, zeroPending := false, asserted := [], alone := [] },
           tb := { d.tb with rtc := 0 }, pow := { d.pow with overtemp := none, gallop := 0 },
           life := { d.life with hobbled := false, zeroised := false } }

/-- Main power has gone: the main-supply monitors stop, and VBAT alone supplies the battery domain (R493, R503, R507). -/
def mainGone (s : State) : State :=
  let g := s.dev.guard
  let s := { s with dev := { s.dev with guard := { g with
    asserted := keep (fun k _ => onBattery (k / 2)) g.asserted, alone := keep (fun k _ => onBattery (k / 2)) g.alone } } }
  if g.vbatMv = 0 then { s with dev := batteryGone s.dev }
  else if g.vbatMv < 2300 then zeroise (latchOf s.dev 9 3 0 g.vbatMv 2300) s else s

/-- VBAT_THRESHOLD (R507): VBAT in mV passes a threshold. BATTERY_LOW follows the reading. Zero is an absent battery. -/
def execVbatThreshold (mv : BitVec 16) (s : State) : Out :=
  let d := { s.dev with guard := { s.dev.guard with vbatMv := mv.toNat } }
  let l := latchOf d 9 3 0 mv.toNat (if 4200 < mv.toNat then 4200 else 2300)
  if !d.guard.mainPower && mv == 0#16 then .next (mainGone { s with dev := d })
  else if extreme d 9 0 mv.toNat then .next (zeroise l { s with dev := d }) else .next { s with dev := d }

/-! The external loop (R508). -/

/-- A write of EXT_LOOP_ENABLE: it takes effect 1 s after. -/
def extLoopEnable (on : Bool) (d : Dev) : Except Nat Dev :=
  .ok (setNum 1 (dk 0x6801 1) (b2n on) { d with guard := { d.guard with loopChange := some (d.tb.now + sec 1, on) } })

/-- EXT_LOOP_ENABLE (R508). -/
def execExtLoopEnable (on : Bool) (s : State) : Out := writeRow 0x6801 1 [BitVec.ofNat 8 (b2n on)] (extLoopEnable on) s

/-- EXT_LOOP_EFFECT (R508): the loop detectors turn on or off. -/
def execExtLoopEffect (s : State) : Out :=
  onDev (fun d =>
    match d.guard.loopChange with
    | none => d
    | some (t, on) =>
      let d := reach t d
      let off := fun (k : Nat) => !on && k / 2 == 8
      { d with guard := { d.guard with loopOn := on, loopChange := none, asserted := keep (fun k _ => !off k) d.guard.asserted } }) s

/-! Unlock (R501). -/

/-- Both conditions of the unlock hold: no detector asserts or has asserted during the last second, and after an
over-temperature every sensor is below 100 °C. -/
def unlockOk (d : Dev) : Bool :=
  !(d.guard.asserted.any (fun e => monitorRuns d (e.1 / 2))) && !(d.guard.lastAssert.any (fun t => decide (d.tb.now < t + sec 1))) &&
    (!(d.guard.hobble.monitor == 0x0B) || decide (d.guard.tj < 100000))

/-- The session that executes a request, with its officers. -/
def sessionOf (d : Dev) (v : Via) : Nat × List Nat :=
  match v with
  | .authorise i _ _ => (i, ((look d.cust.sessions i).map (fun s => s.officers)).getD [])
  | _ => (0, [])

/-- The latch and its shadow clear; HOBBLE_UNLOCK is recorded (R501, R510). -/
def clearHobble (session : Nat) (officers : List Nat) (d : Dev) : Dev :=
  let h := d.guard.hobble
  let ids := (List.range 5).map (fun i => (2, nth 0 officers i))
  let d := raise srcGuard 0x0501 0 actorFw
    ([(4, session)] ++ ids ++ [(1, h.events), (1, 0), (8, w64 (d.tb.rtc - h.rtc))]) d
  { d with guard := { d.guard with hobble := {} } }

/-- The unlock's effect when its session has reached M. -/
def unlock (h : SvcHdr) (d : Dev) : Dev :=
  if !unlockOk d then answer h.via .policy [] d
  else
    let (i, officers) := sessionOf d h.via
    dueReset (answer h.via .ok [] (clearHobble i officers d))

/-- A reset that waits for the records raised before it (R501, R517). -/
def resetAfterRecords (s : State) : State := if s.dev.life.resetDue then fullReset 2 (drainAudit s) else s

/-- HOBBLE_UNLOCK (R501): with no latch set there is nothing to unlock. -/
def execHobbleUnlock (h : SvcHdr) (s : State) : Out :=
  let d := serve h .hobbleUnlock (fun _ => .ok) (fun _ _ => .ok) (fun _ => { dual := [(2, .device)] })
    (fun d => if d.guard.hobble.set then .ok else .policy) true (fun d _ => unlock h d) s.dev
  .next (resetAfterRecords { s with dev := d })

end Sys2Proof.Machine
end

