-- ==== Sys2Proof/Machine/LifeRows.lean ====
section
/-! DEFINITION. The life cycle, test tokens, debug authorisation and the calibration set (R512-R529). -/

set_option linter.unusedVariables false

namespace Sys2Proof.Machine

open Sys2Proof

/-! Life-cycle transitions (R517). -/

/-- `n` fresh random bytes of the guard die. -/
def guardRandom (n : Nat) (d : Dev) : Bytes × Dev :=
  let (k, d) := freshFree d
  ((List.range n).map (fun i => Config.randomByte k i), d)

/-- A transition is due: its flag is burned once the LIFECYCLE record is durable. -/
def dueBurn (flag to_ actor : Nat) (d : Dev) : Dev :=
  { d with life := { d.life with burnDue := some (flag, lcState d, to_, actor), resetDue := true } }

/-- FACTORY to PROVISIONED: device root and memory-key seed are created in BBRAM; NAND, re-encrypted block by block, keeps
its contents (R513, R517). -/
def provision (actor : Nat) (d : Dev) : Dev :=
  let (root, d) := guardRandom 32 d
  let (seed, d) := guardRandom 32 d
  dueBurn 2 4 actor { d with guard := { d.guard with deviceRoot := root, seed := seed } }

/-- PROVISIONED to COMMISSIONED: the migration of R94 to MIGRATE_READY; what follows its commit burns CO. -/
def commission (actor : Nat) (d : Dev) : Dev :=
  let (_, d) := beginMigration d.cust.latch 5 actor { d with guard := { d.guard with lcPending := 1 } }
  let (seq, d) := readyMigration actor d
  waitFor seq (.migrate 2) d

/-- A write of LC_REQUEST (R517, R529). `hd` says that it came from a host driver. -/
def lcRequest (target : Nat) (hd : Bool) (actor : Nat) (d : Dev) : Except Nat Dev :=
  let lc := lcState d
  if hd && (!(target == 4) || !(lc == 3)) then .error 1
  else if !(d.ks.migState == 0) || foundationFull d then .error 4
  else if lc = 3 ∧ target = 4 then
    if hd && decide (2500 ≤ d.guard.vbatMv ∧ d.guard.vbatMv ≤ 3600) then .ok (provision actor d) else .error 4
  else if lc = 4 ∧ target = 5 ∧ !roomToJournal d.ks then .error busyReason
  else if lc = 4 ∧ target = 5 then (if roomToJournal d.ks && !migWaits d && !foundationShut d then .ok (commission actor d) else .error 4)
  else if (lc = 4 ∨ lc = 5) ∧ target = 6 then
    .ok (dueBurn 4 6 actor { d with guard := { d.guard with lcPending := 2 } })
  else if (lc = 4 ∨ lc = 5) ∧ target = 7 then
    .ok (dueBurn 5 7 actor { d with guard := { d.guard with lcPending := 3 } })
  else .error 4

/-- What a write or a service leaves to be done outside the dictionary: a flag is burned and the device resets (R517); a
reset that was asked for. -/
def afterWrite (s : State) : State :=
  match s.dev.life.burnDue with
  | some (flag, from_, to_, actor) =>
    fullReset 2 (burnState flag from_ to_ actor { s with dev := { s.dev with life := { s.dev.life with burnDue := none } } })
  | none => resetAfterRecords s

/-- A write row whose effect may reach past the dictionary. -/
def writeThen (index sub : Nat) (value : Bytes) (f : Dev → Except Nat Dev) (s : State) : Out :=
  .next (afterWrite { s with dev := (entryWrite index sub value actorFw f s.dev).2 })

/-- LC_REQUEST (R517). -/
def execLcRequest (target : BitVec 8) (hd : Bool) (s : State) : Out :=
  writeThen 0x7000 2 [target] (lcRequest target.toNat hd actorFw) s

/-! Test tokens (R520). -/

/-- JTAG answers: the device has main power and its test access port runs. -/
def jtagUp (d : Dev) : Bool := d.guard.mainPower && !d.life.powerOff

/-- Select an instruction of the test access port. -/
def onTap (n : Nat) (d : Dev) : Dev := { d with guard := { d.guard with tap := n } }

/-- The lowest-numbered unused token. -/
def nextToken (d : Dev) : Option Nat := (List.range 8).find? (fun t => !otpBit d (otpOpen t))

/-- TOKEN (R520): a match opens the token; a mismatch blocks TOKEN for 10 s. -/
def execToken (value : BitVec 256) (s : State) : Out :=
  if !jtagUp s.dev then .next s
  else
    let d := onTap 1 s.dev
    if !(lcState d == 1) || decide (d.tb.now < d.guard.tokenBlocked) || foundationFull d then .next { s with dev := d }
    else match nextToken d with
    | none => .next { s with dev := d }
    | some t =>
      if nth [] d.guard.otp.tokenHashes t == padTo 32 (Config.hash 1 (le 32 value.toNat)) then
        .next (burnState (otpOpen t) 1 2 actorHw { s with dev := d })
      else .next { s with dev := { d with guard := { d.guard with tokenBlocked := d.tb.now + sec 10 } } }

/-- TOKEN_CLOSE (R517). -/
def execTokenClose (s : State) : Out :=
  if !jtagUp s.dev then .next s
  else
    let d := onTap 2 s.dev
    match (if lcState d = 2 ∧ !foundationFull d then openToken d else none) with
    | none => .next { s with dev := d }
    | some t => .next (burnState (otpClose t) 2 1 actorHw { s with dev := d })

/-! Debug authorisation (R522-R525). -/

/-- The nonce of a challenge: from the custodian's instance, which the guard die stands in for while none is up. -/
def debugNonce (d : Dev) : Bytes × Dev :=
  match draw 112 32 d with
  | some r => r
  | none => guardRandom 32 d

/-- DBG_CHAL (R525): serial number, life-cycle code, requested level or target state, domain, nonce. -/
def execDbgChal (isTarget : Bool) (code : BitVec 8) (domain : BitVec 16) (s : State) : Out :=
  onDev (fun d =>
    if !jtagUp d || lcState d == 7 then d
    else
      let (n, d) := debugNonce (onTap 3 d)
      let c : DbgChal := { level := if isTarget then 0 else code.toNat, target := if isTarget then some code.toNat else none,
                           domain := domain.toNat, nonce := n, till := d.tb.now + sec 60 }
      emit (.readBytes (le 8 d.guard.otp.serial ++ le 1 (lcState d) ++ le 1 code.toNat ++ le 2 domain.toNat ++ n))
        { d with guard := { d.guard with chal := some c } }) s

/-- A vendor transition that a response authorises: its flag (R517). -/
def vendorFlag (d : Dev) (target : Nat) : Option Nat :=
  let lc := lcState d
  let held := d.guard.zeroise.set && decide (lc < 6)
  let owned := (lc == 4 || lc == 5) && !held
  if lc = 1 ∧ target = 3 then some 1
  else if held ∧ target = 6 then some 4
  else if target = 7 ∧ lc ≠ 7 ∧ !owned then some 5
  else none

/-- A consent covers a challenge (R524): level, domain at level 2, within 600 s. -/
def consented (d : Dev) (c : DbgChal) : Bool :=
  d.guard.consent.any (fun k => decide (d.tb.now < k.till ∧ c.level ≤ k.level) && (!(c.level == 2) || k.domain == c.domain))

/-- Why a response grants no level (R524, R525), as DBG_STAT reports it; 0 where it does: 1 no live nonce, 2 a signature, 3 no
consent or a level the state does not grant. -/
def grantFault (d : Dev) (c : Option DbgChal) (ok : Bool) : Nat :=
  match c.filter (fun c => decide (d.tb.now < c.till)) with
  | none => 1
  | some c =>
    if !ok then 2
    else match c.target with
    | some t => if (vendorFlag d t).isSome && !foundationFull d then 0 else 3
    | none =>
      let lc := lcState d
      let allowed := if lc = 4 ∨ lc = 5 then decide (c.level ≤ 2) && consented d c && !d.guard.zeroise.set
        else (lc == 1 || lc == 3 || lc == 6)
      if decide (1 ≤ c.level ∧ c.level ≤ 3) && allowed && !foundationShut d then 0 else 3

/-- Grant a level: until its consent's duration ends, or until reset where none was needed. -/
def grantDebug (c : DbgChal) (d : Dev) : Dev :=
  let till := match d.guard.consent with
    | some k => if keyState d then d.tb.now + sec k.duration else 0
    | none => 0
  let g := { d.guard with debugLevel := c.level, debugDomain := c.domain, debugTill := till, consent := none, dbgStat := 0 }
  raise srcGuard 0x0140 c.domain actorHw [(1, c.level)] (bump (dk 0x7001 4) { d with guard := g })

/-- DBG_RESP (R517, R525): the nonce is spent, and with a failed response the consent too. -/
def execDbgResp (mldsaOk ecdsaOk : Bool) (s : State) : Out :=
  if !jtagUp s.dev then .next s
  else
    let d := onTap 4 s.dev
    let c := d.guard.chal
    let fault := grantFault d c (mldsaOk && ecdsaOk)
    let d := { d with guard := { d.guard with chal := none } }
    if fault ≠ 0 then .next { s with dev := { d with guard := { d.guard with consent := none, dbgStat := fault } } }
    else match c with
    | none => .next { s with dev := d }
    | some c => match c.target with
      | none => .next { s with dev := grantDebug c d }
      | some t => match vendorFlag d t with
        | none => .next { s with dev := d }
        | some f =>
          let pending := if t = 6 then 2 else if t = 7 then 3 else 0
          .next (afterWrite { s with dev := dueBurn f t actorHw { d with guard := { d.guard with lcPending := pending } } })

/-- A write of DEBUG_CONSENT (R524, R529). -/
def debugConsent (level domain duration : Nat) (d : Dev) : Except Nat Dev :=
  if !keyState d then .error 4
  else if level < 1 ∨ 2 < level ∨ 4096 ≤ domain ∨ duration < 1 ∨ 3600 < duration then .error 3
  else
    let c : Consent := { level := level, domain := domain, duration := duration, till := d.tb.now + sec 600 }
    .ok { d with guard := { d.guard with consent := some c } }

/-- DEBUG_CONSENT (R524). -/
def execDebugConsent (level : BitVec 8) (domain : BitVec 16) (duration : BitVec 32) (s : State) : Out :=
  writeRow 0x7001 2 (le 1 level.toNat ++ le 2 domain.toNat ++ le 4 duration.toNat)
    (debugConsent level.toNat domain.toNat duration.toNat) s

/-- DEBUG_GRANT_EXPIRE (R523). -/
def execDebugGrantExpire (s : State) : Out :=
  onDev (fun d =>
    if d.guard.debugLevel = 0 ∨ d.guard.debugTill = 0 then d else endDebug (reach d.guard.debugTill d)) s

/-! The calibration set (R526-R528). -/

/-- The parts of the set in which two sets differ, one bit each: TRIMS, THRESHOLDS, EQUALISATION. -/
def calParts (a b : Bytes) : Nat :=
  b2n (!(slice a 0x20 256 == slice b 0x20 256)) + 2 * b2n (!(slice a 0x120 128 == slice b 0x120 128)) +
    4 * b2n (!(slice a 0x1A0 2048 == slice b 0x1A0 2048))

/-- A write of CAL_SET (R527): SEQ follows the current one, the CRC is right; ORIGIN is set to 1; first over the copy with the
lower SEQ, then over the other. Test firmware writes the set in the states before PROVISIONED, where ORIGIN stays as the set
carries it (R513). -/
def calSet (b : Bytes) (d : Dev) : Except Nat Dev :=
  let cur := calPick d.guard.calA d.guard.calB
  let lc := lcState d
  if lc < 1 ∨ 5 < lc ∨ foundationShut d then .error 4
  else if !calValid b || !(leAt b 8 4 == w32 ((if cur.isEmpty then 0 else leAt cur 8 4) + 1)) then .error 3
  else
    let b := if lc = 4 ∨ lc = 5 then overwrite b 6 (le 1 1) else b
    let b := overwrite b 0x9A0 (le 4 (crc32c (b.take 0x9A0)))
    .ok (raise srcCustodian 0x0130 0 actorFw [(1, calParts cur b)]
      { d with guard := { d.guard with calA := b, calB := b } })

/-- CAL_SET (R527). -/
def execCalSet (set : Bytes) (s : State) : Out := writeRow 0x12C0 2 set (calSet set) s

end Sys2Proof.Machine
end

