-- ==== Sys2Proof/Machine/Package.lean ====
section
/-! DEFINITION. The ball grid: row names and the balls of the port and PCIe lanes (R554-R557). -/

namespace Sys2Proof.Machine

open Sys2Proof

/-- The alphabet of the row names (R554). -/
def rowLetters : List Char := "ABCDEFGHJKLMNPTUVWY".toList

/-- The name of the row of index `r`, 1-78 (R554). -/
def rowName (r : Nat) : List Char :=
  let letter := fun (i : Nat) => rowLetters.getD i 'A'
  if r ≤ 19 then [letter (r - 1)] else [letter ((r - 20) / 19), letter ((r - 20) % 19)]

/-- The signals of a lane. -/
inductive LaneSignal
  | txp | txn | rxp | rxn
  deriving DecidableEq, Repr

/-- The ball, row index and column, of a signal of port lane `n`, 0-127 (R556). -/
def portBall (n : Nat) (sig : LaneSignal) : Nat × Nat :=
  let col := match sig with | .txp => 2 | .txn => 3 | .rxp => 5 | .rxn => 6
  if n < 64 then (8 + n, col) else (8 + (n - 64), 79 - col)

/-- The ball of a signal of PCIe lane `j`, 0-15, of link `h` (R557). -/
def pcieBall (h j : Nat) (sig : LaneSignal) : Nat × Nat :=
  let row := match sig with | .txp => 2 | .txn => 3 | .rxp => 5 | .rxn => 6
  (if h = 0 then row else row + 71, 10 + 2 * j)

/-- The half of a bifurcated link that a lane belongs to: 0 A, 1 B (R352, R557). -/
def pcieHalf (j : Nat) : Nat := j / 8

end Sys2Proof.Machine
end

