-- ==== Sys2Proof/Machine/Periph.lean ====
section
/-! DEFINITION. The ceremony card host, the officer card slots, the CAN controller, the general-purpose pins and the
management port (R429, R432-R451). -/

set_option linter.unusedVariables false

namespace Sys2Proof.Machine

open Sys2Proof

/-! The ceremony card host (R432-R438). -/

/-- Custodian firmware drives the interfaces: it runs, and the gait is not Standby. -/
def firmwareUp (d : Dev) : Bool := d.life.custUp && !(d.life.gait == 3) && !d.life.powerOff

/-- SD_CARD_DETECT (R433): a card has been stable in the slot for 20 ms. -/
def execSdCardDetect (card : SdCard) (s : State) : Out :=
  onDev (fun d =>
    if !(d.per.sd.state == 0) then d
    else
      let d := onSd (fun x => { x with card := some card }) d
      if firmwareUp d && !d.life.hobbled then identify card d else d) s

/-- SD_RETUNE (R434): every 60 s while the card is in use in SDR50 or SDR104. -/
def execSdRetune (run mid : Fin 64) (s : State) : Out :=
  onDev (fun d =>
    let x := d.per.sd
    if !(x.state == 2) || decide (x.mode < 6) then d
    else
      let d := bump (dk 0x7800 6) (reach x.retuneAt d)
      let to_ := retuned (x.card.getD {}) x.mode run.val mid.val
      onSd (fun x => { x with mode := to_.1, phase := to_.2, retuneAt := d.tb.now + sec 60 }) d) s

/-- SD_CARD_REMOVE (R438). -/
def execSdCardRemove (s : State) : Out :=
  onDev (fun d => if d.per.sd.card.isNone then d else bump (dk 0x7800 7) (onSd (fun _ => {}) d)) s

/-- CMD42 with its block of data, and what the card does with it where it arrives (R436, R437): a transfer that fails leaves the
card in state 4. -/
def sdLockCommand (c : SdCard) (does : Dev → Except Nat Dev) (d : Dev) : Except Nat Dev :=
  let sent := sdTransfer c true 1 d
  if sent.1 then does sent.2 else .ok sent.2

/-- A write of SD_UNLOCK (R437): REASON 3 where the card shows LOCK_UNLOCK_FAILED. -/
def sdUnlock (pwd : Bytes) (d : Dev) : Except Nat Dev :=
  if pwd.isEmpty || decide (16 < pwd.length) then .error 3
  else if !(d.per.sd.state == 3) then .error 4
  else match d.per.sd.card with
    | none => .error 4
    | some c =>
      sdLockCommand c (fun d => if c.password == pwd then .ok (onSd (fun x => { x with state := 2 }) d) else .error 3) d

/-- A write of SD_SET_PWD (R437, R451): the old and the new password, each with its length. -/
def sdSetPwd (v : Bytes) (d : Dev) : Except Nat Dev :=
  let n := leAt v 0 1
  let old := slice v 1 n
  let m := leAt v (1 + n) 1
  let new := slice v (2 + n) m
  if !(v.length == 2 + n + m) || decide (16 < n) || m == 0 || decide (16 < m) then .error 3
  else if !(d.per.sd.state == 2) then .error 4
  else match d.per.sd.card with
    | none => .error 4
    | some c =>
      sdLockCommand c (fun d =>
        if c.password == old then .ok (onSd (fun x => { x with card := some { c with password := new } }) d) else .error 3) d

/-- A write of SD_FORCE_ERASE (R437): 1 erases the card and its password. -/
def sdForceErase (on : Bool) (d : Dev) : Except Nat Dev :=
  if !on then .ok (onSd (fun x => { x with timedOut := false }) d)
  else match d.per.sd.card with
    | none => .error 4
    | some c =>
      if !(d.per.sd.state == 2) && !(d.per.sd.state == 3) then .error 4
      else sdLockCommand c (fun d => .ok (onSd (fun x => { x with
        state := 5, eraseTill := d.tb.now + sec 240, card := some { c with password := [], data := [] } }) d)) d

/-- SD_UNLOCK. -/
def execSdUnlock (pwd : Bytes) (s : State) : Out := writeRow 0x7800 9 [] (sdUnlock pwd) s

/-- SD_SET_PWD. -/
def execSdSetPwd (value : Bytes) (s : State) : Out := writeRow 0x7800 0xA [] (sdSetPwd value) s

/-- SD_FORCE_ERASE. -/
def execSdForceErase (on : Bool) (s : State) : Out := writeRow 0x7800 0xB (le 1 (b2n on)) (sdForceErase on) s

/-- SD_ERASE_DONE (R437): the erase has ended, within 240 s; the host identifies the card again. -/
def execSdEraseDone (s : State) : Out :=
  onDev (fun d => match d.per.sd.card with
    | some c => if d.per.sd.state == 5 then identify c d else d
    | none => d) s

/-! Officer card slots (R439-R442). -/

/-- Change a slot. -/
def onIcc (n : Nat) (f : IccSlot → IccSlot) (d : Dev) : Dev :=
  if n = 0 then { d with per := { d.per with icc0 := f d.per.icc0 } } else { d with per := { d.per with icc1 := f d.per.icc1 } }

/-- A slot activated at a class: 3 class C, 2 class B. -/
def iccActive (cls now : Nat) (x : IccSlot) : IccSlot := { present := x.present, state := 1, cls := cls, since := now }

/-- ICC_CARD_INSERT (R439). -/
def execIccCardInsert (slot : Fin 2) (s : State) : Out :=
  onDev (fun d =>
    let x := iccOf d slot.val
    if x.present && !(x.state == 0) then d
    else
      let d := onIcc slot.val (fun x => { x with present := true }) d
      if firmwareUp d then onIcc slot.val (iccActive 3 d.tb.now) d else d) s

/-- The card is refused: it is deactivated and left in state 4. -/
def iccRefuse (slot : Nat) (d : Dev) : Dev :=
  bump (dk (0x7801 + slot) 5) (onIcc slot (fun x => { present := x.present, state := 4, atr := x.atr }) d)

/-- What an ATR says (ISO/IEC 7816-3): whether its form and TCK hold, TA1, TA2, classes, T=1 offered, TA3, TC3 of T=1. -/
structure Atr where
  ok : Bool := true
  ta1 : Option Nat := none
  ta2 : Option Nat := none
  classes : Option Nat := none
  t1 : Bool := false
  tOther : Bool := false
  ta3 : Option Nat := none
  tc3 : Option Nat := none

/-- The interface bytes from group `i` on: `y` says which are present, `t` the protocol of the group. -/
def atrGroups : Nat → Nat → Nat → Nat → Bytes → Atr → Atr × Bytes
  | 0, _, _, _, b, a => ({ a with ok := false }, b)
  | fuel + 1, i, y, t, b, a =>
    let need := b2n (bitOf y 0) + b2n (bitOf y 1) + b2n (bitOf y 2) + b2n (bitOf y 3)
    if b.length < need then ({ a with ok := false }, b)
    else
      let at_ := fun (k : Nat) => leAt b ((List.range k).map (fun j => b2n (bitOf y j))).sum 1
      let ta := if bitOf y 0 then some (at_ 0) else none
      let tc := if bitOf y 2 then some (at_ 2) else none
      let a := if i = 1 then { a with ta1 := ta } else if i = 2 then { a with ta2 := ta }
        else if t = 15 then { a with classes := if a.classes.isNone then ta else a.classes }
        else if t = 1 then { a with ta3 := if a.ta3.isNone then ta else a.ta3, tc3 := if a.tc3.isNone then tc else a.tc3 }
        else a
      let rest := b.drop need
      if !bitOf y 3 then (a, rest)
      else
        let td := at_ 3
        let t' := td % 16
        let a := { a with t1 := a.t1 || t' == 1, tOther := a.tOther || (!(t' == 0) && !(t' == 15)) || t' == 15 }
        atrGroups fuel (i + 1) (td / 16) t' rest a

/-- Read an ATR: TS, T0, interface bytes, historical bytes and, where a protocol other than T=0 is named, TCK. -/
def readAtr (b : Bytes) : Atr :=
  let ts := leAt b 0 1
  let t0 := leAt b 1 1
  if b.length < 2 || 33 < b.length || !(ts == 0x3B || ts == 0x3F) then { ok := false }
  else
    let (a, rest) := atrGroups 8 1 (t0 / 16) 0 (b.drop 2) {}
    let tck := a.t1 || a.tOther
    let sum := (b.drop 1).foldl (fun x y => x ^^^ y) 0#8
    { a with ok := a.ok && rest.length == t0 % 16 + b2n tck && (!tck || sum == 0#8) }

/-- Fi and Di codes within the limits of R440: Fi 372 or 512, Di 1 to 16. -/
def fidiOk (ta1 : Nat) : Bool := has [0, 1, 9] (ta1 / 16) && decide (1 ≤ ta1 % 16 ∧ ta1 % 16 ≤ 5)

/-- The FI and DI a slot asks for or uses. -/
def fidiWord (ta1 : Option Nat) : Nat :=
  match ta1 with
  | some v => if fidiOk v then v / 16 * 256 + v % 16 else 0x0101
  | none => 0x0101

/-- ICC_ATR (R439-R441): the ATR of an activating card. One that names class B only at class C activates again at class B;
one without T=1, or with bytes the slot does not support, is refused; in negotiable mode a PPS follows. -/
def execIccAtr (slot : Fin 2) (atr : Bytes) (s : State) : Out :=
  onDev (fun d =>
    let n := slot.val
    let x := iccOf d n
    if !(x.state == 1) || x.ppsSent then d
    else
      let a := readAtr atr
      let bOnly := a.classes.any (fun c => bitOf c 1 && !bitOf c 2)
      let aOnly := a.classes.any (fun c => !bitOf c 1 && !bitOf c 2)
      let d := onIcc n (fun x => { x with atr := atr }) d
      if !a.ok || aOnly || !a.t1 then iccRefuse n d
      else if bOnly && x.cls == 3 then onIcc n (fun x => { iccActive 2 (d.tb.now + ms 10) x with triedB := true }) d
      else
        let link := fun (x : IccSlot) => { x with ifsc := a.ta3.getD 32, crc := a.tc3.any (fun c => bitOf c 0), ifsdSent := true }
        match a.ta2 with
        | some t => if t % 16 == 1 && fidiOk (a.ta1.getD 0x11) then
            onIcc n (fun x => { link x with state := 2, fidi := fidiWord a.ta1 }) d
          else iccRefuse n d
        | none =>
          if x.noPps then onIcc n (fun x => { link x with state := 2, fidi := 0x0101 }) d
          else onIcc n (fun x => { link x with ppsSent := true, fidi := fidiWord a.ta1 }) d) s

/-- ICC_ATR_TIMEOUT (R439): no ATR within 40,000 clocks of 4 MHz: class B after 10 ms, or the card is refused. -/
def execIccAtrTimeout (slot : Fin 2) (s : State) : Out :=
  onDev (fun d =>
    let x := iccOf d slot.val
    if !(x.state == 1) || x.ppsSent then d
    else
      let d := reach (x.since + ms 20) d
      if x.cls = 3 then onIcc slot.val (fun x => { iccActive 2 (d.tb.now + ms 10) x with triedB := true, noPps := x.noPps }) d
      else iccRefuse slot.val d) s

/-- ICC_PPS_RESPONSE (R440): an echo sets Fi and Di; anything else activates the card once more, without a PPS. -/
def execIccPpsResponse (slot : Fin 2) (echo : Bool) (s : State) : Out :=
  onDev (fun d =>
    let x := iccOf d slot.val
    if !(x.state == 1) || !x.ppsSent then d
    else if echo then onIcc slot.val (fun x => { x with state := 2, ppsSent := false }) d
    else onIcc slot.val (fun x => { iccActive x.cls d.tb.now x with triedB := x.triedB, noPps := true }) d) s

/-- A block error or timeout (R441): up to three R-blocks, then S(RESYNCH) once, then the card is deactivated. -/
def iccError (slot : Nat) (d : Dev) : Dev :=
  let x := iccOf d slot
  if x.rBlocks < 3 then bump (dk (0x7801 + slot) 5) (onIcc slot (fun x => { x with rBlocks := x.rBlocks + 1 }) d)
  else if !x.resynch then bump (dk (0x7801 + slot) 5) (onIcc slot (fun x => { x with resynch := true }) d)
  else iccRefuse slot d

/-- ICC_BLOCK_ERROR (R441). -/
def execIccBlockError (slot : Fin 2) (s : State) : Out :=
  onDev (fun d => if (iccOf d slot.val).state == 2 then iccError slot.val d else d) s

/-- ICC_BLOCK_RECEIVE (R441): `wtx` is the extension an S(WTX) request asks for, in ms, honoured up to 10 s for one APDU;
otherwise an information block of `len` bytes of an APDU of at most 261, `more` chained ones following. -/
def execIccBlockReceive (slot : Fin 2) (wtx : Option (BitVec 16)) (len : BitVec 8) (more : Bool) (s : State) : Out :=
  onDev (fun d =>
    let n := slot.val
    let x := iccOf d n
    if !(x.state == 2) then d
    else match wtx with
    | some t =>
      if 10000 < x.wtx + t.toNat then iccError n d
      else onIcc n (fun x => { x with wtx := x.wtx + t.toNat, rBlocks := 0, resynch := false }) d
    | none =>
      let total := x.chained + len.toNat
      if 261 < total || 254 < len.toNat then iccError n d
      else onIcc n (fun x => { x with chained := if more then total else 0, wtx := if more then x.wtx else 0, rBlocks := 0,
                                      resynch := false }) d) s

/-- ICC_CARD_REMOVE (R395, R442). -/
def execIccCardRemove (slot : Fin 2) (s : State) : Out :=
  onDev (fun d =>
    if !(iccOf d slot.val).present then d
    else logoutSlot slot.val (bump (dk (0x7801 + slot.val) 6) (onIcc slot.val (fun _ => {}) d))) s

/-! The CAN controller (R443-R445). -/

/-- Bus-off (R445). -/
def busOff (d : Dev) : Dev :=
  let d := onCan (fun c => { c with state := 2, busoffAt := d.tb.now, recovering := false }) d
  report srcCan 0x040C srcCan [(2, d.per.can.tec), (2, d.per.can.rec_)] (bump (dk 0x7808 6) d)

/-- CAN_ERROR_FRAME (R444, R445): a frame being sent is sent again unchanged and TEC rises by 8; one being received is
discarded and REC rises by 1 (ISO 11898-1). -/
def execCanErrorFrame (tx : Bool) (s : State) : Out :=
  onDev (fun d =>
    let c := d.per.can
    if c.state == 2 || (tx && c.queue.isEmpty) then d
    else
      let d := bump (dk 0x7808 5) (onCan (fun c => if tx then { c with tec := c.tec + 8 } else { c with rec_ := min 255 (c.rec_ + 1) }) d)
      let c := d.per.can
      if 256 ≤ c.tec then busOff d
      else if 128 ≤ c.tec ∨ 128 ≤ c.rec_ then onCan (fun c => { c with state := 1 }) d else d) s

/-- CAN_FRAME_ABANDON (R444): the oldest frame is still unsent 50 ms after it was queued. -/
def execCanFrameAbandon (s : State) : Out :=
  onDev (fun d =>
    match minBy? (fun (f : CanFrame) => f.queuedAt) d.per.can.queue with
    | none => d
    | some f => bump (dk 0x7808 7) (onCan (fun c => { c with queue := c.queue.erase f }) (reach (f.queuedAt + ms 50) d))) s

/-- CAN_BUSOFF (R445): TEC reaches 256. -/
def execCanBusoff (s : State) : Out :=
  onDev (fun d => if d.per.can.state == 2 then d else busOff (onCan (fun c => { c with tec := 256 }) d)) s

/-- BUSOFF_RECOVERY (R445): 100 ms after bus-off, or after a write of BUSOFF_AUTO, the controller has waited for its idle
sequences and resumes with its queue. -/
def execBusoffRecovery (s : State) : Out :=
  onDev (fun d =>
    let c := d.per.can
    if !(c.state == 2) then d
    else
      let go := onCan (fun c => { c with state := 0, tec := 0, rec_ := 0, recovering := false })
      if c.recovering then go d
      else if numOf 1 d (dk 0x7808 8) = 1 then go (reach (c.busoffAt + ms 100) d)
      else d) s

/-- A write of BUSOFF_AUTO (R445, R451). -/
def busoffAuto (v : Nat) (d : Dev) : Except Nat Dev :=
  if 1 < v then .error 3
  else
    let d := setNum 1 (dk 0x7808 8) v d
    .ok (if v = 1 ∧ d.per.can.state = 2 then onCan (fun c => { c with recovering := true }) d else d)

/-- BUSOFF_AUTO. -/
def execBusoffAuto (on : Bool) (s : State) : Out := writeRow 0x7808 8 (le 1 (b2n on)) (busoffAuto (b2n on)) s

/-- Time quanta of a bit: 1 + segment 1 + segment 2. -/
def canQuanta (v : Nat) : Nat := 1 + (fieldOf v 8 8 + 1) + fieldOf v 16 8

/-- Clocks of 80 MHz in a bit. -/
def canClocks (v : Nat) : Nat := fieldOf v 0 8 * canQuanta v

/-- The limits of R443 on one phase. -/
def canPhaseOk (v brp seg1min seg1max seg2max : Nat) : Bool :=
  let b := fieldOf v 0 8
  let s1 := fieldOf v 8 8 + 1
  let s2 := fieldOf v 16 8
  let j := fieldOf v 24 8
  decide (1 ≤ b ∧ b ≤ brp ∧ seg1min ≤ s1 ∧ s1 ≤ seg1max ∧ 1 ≤ s2 ∧ s2 ≤ seg2max ∧ 1 ≤ j ∧ j ≤ s2)

/-- The timing of both phases together: 125 kbit/s to 1 Mbit/s, and the nominal rate up to 8 Mbit/s. -/
def canTimingOk (nom dat : Nat) : Bool :=
  canPhaseOk nom 32 2 128 64 && canPhaseOk dat 8 1 32 16 &&
    decide (80 ≤ canClocks nom ∧ canClocks nom ≤ 640 ∧ 10 ≤ canClocks dat ∧ canClocks dat ≤ canClocks nom)

/-- A write of CAN_NOMINAL or CAN_DATA (R443): the controller integrates again; queued frames are kept. -/
def canTiming (data : Bool) (v : Nat) (d : Dev) : Except Nat Dev :=
  let nom := if data then numOf 0x0F103E02 d (dk 0x7808 1) else v
  let dat := if data then v else numOf 0x04050D02 d (dk 0x7808 2)
  if !canTimingOk nom dat then .error 3
  else
    let d := if data then setNum 0x04050D02 (dk 0x7808 2) v d else setNum 0x0F103E02 (dk 0x7808 1) v d
    .ok (if d.per.can.state = 2 then d else onCan (fun c => { c with state := 3 }) d)

/-- CAN_TIMING_WRITE (R443). -/
def execCanTimingWrite (data : Bool) (v : BitVec 32) (s : State) : Out :=
  writeRow 0x7808 (if data then 2 else 1) (le 4 v.toNat) (canTiming data v.toNat) s

/-- The controller has seen its 11 recessive bits and is on the bus again. -/
def canIntegrate (d : Dev) : Dev :=
  if d.per.can.state = 3 then
    onCan (fun c => { c with state := if 128 ≤ c.tec ∨ 128 ≤ c.rec_ then 1 else 0 }) d
  else d

/-! General-purpose pins (R446-R450). -/

/-- A pin; a pin not listed is as at reset. -/
def pinOf (d : Dev) (n : Nat) : Pin_ := lookD {} d.per.gp.pins n

/-- Change the pin block; change a pin. -/
def onGp (f : PinBlock → PinBlock) (d : Dev) : Dev := { d with per := { d.per with gp := f d.per.gp } }
def onPin (n : Nat) (f : Pin_ → Pin_) (d : Dev) : Dev := onGp (fun g => { g with pins := upd {} g.pins n f }) d

/-- A function may occupy a pin (R446). -/
def pinFuncOk (n f : Nat) : Bool :=
  if f ≤ 3 then true
  else if f = 4 then decide (n ≤ 3) else if f = 5 then decide (4 ≤ n ∧ n ≤ 7) else if f = 6 then decide (8 ≤ n ∧ n ≤ 11)
  else if f = 7 then n == 12 else if f = 8 then n == 13 else if f = 9 then n == 14 || n == 15 else false

/-- Clock period of a function in ns (R45, R446); 0 for a disabled pin. -/
def pinClock (f : Nat) : Nat := if f = 0 then 0 else if f = 5 then 40 else if f = 7 ∨ f = 8 then 1 else 10

/-- PINCFG takes a value (R448): reserved bits are ignored, a reserved PULL or FUNC is refused. -/
def pinValue (v : Nat) : Nat := setField (setBit v 31 false) 8 10 0
def pinCfgOk (n v : Nat) : Bool := pinFuncOk n (fieldOf v 0 4) && !(fieldOf v 4 2 == 3)

/-- A function drives its pin (R446), and the level at the pin: PIN_OUT in FUNC 2 and 3, else what stands at the pin. -/
def pinDrives (n f : Nat) : Bool := has [2, 3, 5, 7, 9] f || (f == 4 && n % 2 == 0) || (f == 6 && !(n == 10))
def pinLevelNow (n f : Nat) (d : Dev) : Bool := if f = 2 ∨ f = 3 then bitOf d.per.gp.out n else Config.pinSample n d.tb.now

/-- A UART, I2C or SPI transfer is under way at a pin (R446, R449), where no command says whether: a free value. -/
def pinTransfer (n : Nat) (d : Dev) : Bool := has [4, 5, 6] (fieldOf (pinOf d n).cfg 0 4) && Config.pinBusy n d.tb.now

/-- A write of PINCFG (R449): a change of FUNC, CUSTODIAN or DOMAIN opens a switch window of two cycles of the slower clock;
a transfer under way ends; a change of owner clears the pin's output bit. -/
def pinCfgWrite (n v : Nat) (busy : Bool) (d : Dev) : Except Nat Dev :=
  if !pinCfgOk n v then .error 3
  else
    let v := pinValue v
    let p := pinOf d n
    let owner := fieldOf p.cfg 18 13 == fieldOf v 18 13
    let func := fieldOf p.cfg 0 4 == fieldOf v 0 4
    let d := setNum 0x40000040 (dk (0x7810 + n) 1) v d
    if owner && func then .ok (onPin n (fun p => { p with cfg := v }) d)
    else
      let ns := 2 * max 1 (max (pinClock (fieldOf p.cfg 0 4)) (pinClock (fieldOf v 0 4)))
      let f := fieldOf p.cfg 0 4
      let d := onPin n (fun p => { p with cfg := v, window := some (d.tb.now + ns), heldLevel := pinLevelNow n f d,
                                          heldEnable := pinDrives n f }) d
      let d := if busy then onGp (fun g => { g with aborts := w32 (g.aborts + 1) }) d else d
      .ok (if owner then d
        else setNum 0 (dk (0x7810 + n) 2) 0 (onGp (fun g => { g with out := setBit g.out n false }) d))

/-- PINCFG_WRITE (R447-R449): `busy` says that a transfer of the old function is under way at the pin. -/
def execPincfgWrite (n : Fin 16) (v : BitVec 32) (busy : Bool) (s : State) : Out :=
  writeRow (0x7810 + n.val) 1 (le 4 v.toNat) (pinCfgWrite n.val v.toNat busy) s

/-- PIN_SWITCH_WINDOW_CLOSE (R449). -/
def execPinSwitchWindowClose (n : Fin 16) (s : State) : Out :=
  onDev (fun d =>
    match (pinOf d n.val).window with
    | none => d
    | some t => onPin n.val (fun p => { p with window := none, heldLevel := false, heldEnable := false }) (reach t d)) s

/-- TIME_CAPTURE (R446): a rising edge on GP13 in FUNC 8 stamps the time base. -/
def execTimeCapture (s : State) : Out :=
  onDev (fun d =>
    if fieldOf (pinOf d 13).cfg 0 4 = 8 then onGp (fun g => { g with captures := g.captures ++ [d.tb.now] }) d else d) s

/-- PIN_ABORTS_READ (R9, R447): a read at full width returns and clears the count; a narrower one clears nothing. -/
def execPinAbortsRead (full : Bool) (s : State) : Out :=
  onDev (fun d => emit (.readValue d.per.gp.aborts) (onGp (fun g => { g with aborts := if full then 0 else g.aborts }) d)) s

/-- PIN_IN bit n (R447): the level sampled, 0 with FUNC 0. -/
def pinIn (n : Nat) (d : Dev) : Nat := if fieldOf (pinOf d n).cfg 0 4 = 0 then 0 else b2n (Config.pinSample n d.tb.now)

/-- A write of PIN_LEVEL_OUT (R447). -/
def pinLevel (n : Nat) (v : Bool) (d : Dev) : Dev :=
  setNum 0 (dk (0x7810 + n) 2) (b2n v) (onGp (fun g => { g with out := setBit g.out n v }) d)

/-! The management port. -/

/-- MGT_LINK_CHANGE (R429): MGT_MODE takes effect as the link restarts. -/
def execMgtLinkChange (up : Bool) (s : State) : Out :=
  onDev (fun d => { d with mal := { d.mal with
    mgtUp := up, mgtMode := if up then numOf 0 d (dk 0x1020 7) else d.mal.mgtMode } }) s

end Sys2Proof.Machine
end

