-- ==== Sys2Proof/Machine/Power.lean ====
section
/-! DEFINITION. Gaits, reef levels, Standby, power and the reset commands (R530-R546), and the taking of audit events (R34,
R487). -/

set_option linter.unusedVariables false

namespace Sys2Proof.Machine

open Sys2Proof

/-! Gaits (R533, R535, R538). -/

/-- Change the power state. -/
def onPow (f : PowerState → PowerState) (d : Dev) : Dev := { d with pow := f d.pow }

/-- The Gallop wear budget in seconds. -/
def gallopBudget : Nat := 4320000

/-- The device takes a gait; a change is recorded as GAIT_CHANGE. Leaving Walk, a gated string runs on. -/
def setGait (g : Nat) (d : Dev) : Dev :=
  if d.life.gait = g then d
  else
    let old := d.life.gait
    let strings := if old = 0 then mapV (fun _ (x : StringState) => { x with gated := false, waking := false }) d.rig.strings
      else d.rig.strings
    let d := { d with life := { d.life with gait := g }, rig := { d.rig with strings := strings } }
    raise srcPmc 0x0007 0 actorHw [(1, old), (1, g)] d

/-- The entry conditions of a gait hold (R533). -/
def gaitAllowed (d : Dev) (g : Nat) : Bool :=
  if g = 2 then d.life.reef == 0 && decide (d.guard.tj < 103000 ∧ d.pow.gallop < gallopBudget)
  else if g = 3 then decide (d.life.reef ≤ 2)
  else true

/-- Step 1 of Standby entry (R539): functions drain, tenant pins go to FUNC 0, transport takes no segments. -/
def startStandby (d : Dev) : Dev :=
  let fns := ((List.range 4).map (fun h => fnsOfHalf d h)).flatten
  let d := tenantPinsOff (drainAll 3 0 fns d)
  onPow (fun p => { p with standbyAt := some d.tb.now }) d

/-! Standby exit (R540, R541). -/

/-- Keys of SAs are hoisted again; one whose key no longer resolves is lost (R325). -/
def rehoist (p : Nat) (d : Dev) : Dev :=
  let q := portOf d p
  let d := (keysOf (keep (fun _ a => !a.lost && !saKeyOk d p true a) q.txSas)).foldl (fun d an => loseTx p an d) d
  let d := (keysOf (keep (fun _ a => !a.lost && !saKeyOk d p false a) q.rxSas)).foldl (fun d i => loseRx p i d) d
  let again := fun (_ : Nat) (a : MacSa) => { a with keyIn := !a.lost }
  onPort p (fun q => { q with txSas := mapV again q.txSas, rxSas := mapV again q.rxSas }) d

/-- Standby ends: clocks, entropy, tests, admission, ports and pins (R540). `source` is WAKE_SOURCE. -/
def standbyExit (source gait : Nat) (d : Dev) : Dev :=
  let open_ := !(lcState d == 6)
  let d := { d with life := { d.life with gait := 3, custUp := true, ready := open_ }, lopeOn := true,
                    tb := showTime { d.tb with halted := false } }
  let d := testInHalves (raise srcPmc 0x0006 0 actorHw [] (setGait gait (flushStandby d)))
  let d := onPow (fun p => { p with wakeSource := source }) (restorePins (startRng d))
  let d := (List.range 64).foldl (fun d p => rehoist p d) d
  let d := onWd (fun w => { w with since := d.tb.now }) d
  if open_ then startNet d else d

/-- A write of GAIT_REQUEST (R533, R540, R546): in Standby it ends Standby. -/
def gaitRequest (v : Nat) (d : Dev) : Except Nat Dev :=
  if 3 < v then .error 3
  else if d.life.hobbled || d.life.zeroised || d.life.powerOff || d.pow.standbyAt.isSome || !gaitAllowed d v ||
      (!d.life.custUp && !(d.life.gait == 3)) then .error 4
  else
    let d := setNum 1 (dk 0x1200 2) v d
    if d.life.gait = 3 then .ok (if v = 3 then d else standbyExit 0 v d)
    else if v = 3 then .ok (startStandby d)
    else .ok (setGait v d)

/-- GAIT_REQUEST (R533). -/
def execGaitRequest (v : BitVec 8) (s : State) : Out := writeRow 0x1200 2 [v] (gaitRequest v.toNat) s

/-- WALK_IDLE_GATE (R533): in Walk a string with no slice and no message in flight for WALK_IDLE µs is clock-gated. -/
def execWalkIdleGate (string : Fin 32) (s : State) : Out :=
  onDev (fun d =>
    let n := string.val
    let st := stringOf d n
    let busy := decide (0 < stringLoad d n) || (List.range 16).any (fun k => (procOf d (16 * n + k)).slice.isSome)
    if !(d.life.gait == 0) || st.gated || busy then d
    else
      let d := reach (st.idleSince + us (numOf 1000 d (dk 0x1200 3))) d
      onString n (fun x => { x with gated := true, waking := false }) d) s

/-- STRING_WAKE_DONE (R534): a gated string that a message waits for runs again. -/
def execStringWakeDone (string : Fin 32) (s : State) : Out :=
  onDev (fun d =>
    if (stringOf d string.val).gated && (stringOf d string.val).waking then
      onString string.val (fun x => { x with gated := false, waking := false, idleSince := d.tb.now }) d
    else d) s

/-! Reef levels (R531, R536). -/

/-- The level a temperature calls for. -/
def tempLevel (tj : Int) : Nat := if 114000 ≤ tj then 3 else if 112000 ≤ tj then 2 else if 110000 ≤ tj then 1 else 0

/-- The level that the conditions call for, and REEF_CAUSE: temperature, average current, excursion, regulator, floor. -/
def reefWanted (d : Dev) (excursion : Bool) : Nat × Nat :=
  let floor := numOf 0 d (dk 0x1201 3)
  let cand : List (Nat × Nat) :=
    [(tempLevel d.guard.tj, 1), (if 380 ≤ d.pow.ampsAvg then 1 else 0, 2),
     (if excursion then (if 2 ≤ d.life.reef then 3 else 2) else 0, 3), (if d.pow.regFault then 2 else 0, 4), (floor, 5)]
  cand.foldl (fun x y => if x.1 < y.1 then y else x) (0, 0)

/-- Jobs in ISSUED in the Ostler and BN queues, of classes 2 and 3 and from hosts (R536). -/
def reefSquash (o : Op) : Bool :=
  o.phase == .issued && decide (o.cls = 2 ∨ o.cls = 3) &&
    (match o.req.src with | .host _ _ => true | .mailbox _ => true | _ => false)

/-- Enter a level from a lower one. -/
def reefUp (level cause : Nat) (d : Dev) : Dev :=
  let old := d.life.reef
  let d := { d with life := { d.life with reef := level }, pow := { d.pow with reefCause := cause } }
  let d := raise srcPmc 0x0008 0 actorHw [(1, old), (1, level)] (bump (dk 0x1201 (3 + level)) d)
  let d := if d.life.gait = 2 then setGait 1 d else d
  if level = 3 then (tagsWhere reefSquash d).foldl (fun d t => squash t d) d else d

/-- Step up to the highest level whose condition holds. -/
def reefCheck (excursion : Bool) (d : Dev) : Dev :=
  let (level, cause) := reefWanted d excursion
  if d.life.reef < level then reefUp level cause d else d

/-- REEF_STEP_UP (R536): readings of the hottest sensor in m°C, of the 1 s average current and the highest 10 µs average in
A, and whether 520 A has been met for 10 ms. -/
def execReefStepUp (tj : BitVec 32) (amps peak : BitVec 16) (excursion : Bool) (s : State) : Out :=
  onDev (fun d =>
    if !d.guard.mainPower || d.life.powerOff then d
    else
      let d := { d with guard := { d.guard with tj := tj.toInt }, pow := { d.pow with ampsAvg := amps.toNat } }
      let d := setNum 0 (dk 0x1203 2) (max (numOf 0 d (dk 0x1203 2)) peak.toNat) d
      reefCheck excursion d) s

/-- A level's condition has cleared, with 5 °C of margin (R536). -/
def reefClear (d : Dev) : Bool :=
  let low : Int := if d.life.reef = 1 then 105000 else if d.life.reef = 2 then 107000 else 109000
  decide (d.guard.tj ≤ low) && (!(d.life.reef == 1) || decide (d.pow.ampsAvg < 380)) &&
    decide (numOf 0 d (dk 0x1201 3) < d.life.reef) && !(d.life.reef == 2 && d.pow.regFault)

/-- REEF_STEP_DOWN (R536): the condition of the present level has been clear for 1 s, with these readings. -/
def execReefStepDown (tj : BitVec 32) (amps : BitVec 16) (s : State) : Out :=
  onDev (fun d =>
    let d := { d with guard := { d.guard with tj := tj.toInt }, pow := { d.pow with ampsAvg := amps.toNat } }
    if d.life.reef = 0 || !reefClear d then d
    else
      let n := d.life.reef - 1
      let d := { d with life := { d.life with reef := n }, pow := { d.pow with reefCause := if n = 0 then 0 else d.pow.reefCause } }
      raise srcPmc 0x0008 0 actorHw [(1, n + 1), (1, n)] d) s

/-- PMBUS_FAULT (R531): reef level 2 is held until the next reset. -/
def execPmbusFault (s : State) : Out :=
  onDev (fun d =>
    if !d.guard.mainPower || d.life.powerOff then d
    else reefCheck false (onPow (fun p => { p with regFault := true }) d)) s

/-- GALLOP_WEAR_TICK (R538). -/
def execGallopWearTick (s : State) : Out :=
  onDev (fun d =>
    if !(d.life.gait == 2) then d
    else
      let d := onPow (fun p => { p with gallop := p.gallop + 1 }) d
      if gallopBudget ≤ d.pow.gallop then setGait 1 d else d) s

/-- GALLOP_COUNT_SAVE (R538). -/
def execGallopCountSave (s : State) : Out :=
  onDev (fun d => if firmwareUp d then onPow (fun p => { p with gallopSaved := p.gallop }) d else d) s

/-! Standby (R539, R540). -/

/-- An operation that Standby ends: squashed, its requester answered where it can be (R539 step 2). -/
def endOp (tag : Nat) (d : Dev) : Dev :=
  match look d.op.ops tag with
  | none => d
  | some o =>
    let d := match o.req.src with
      | .engine p k => deliverSlot p k { tag := some tag, status := .squashed } d
      | _ => d
    retire tag d

/-- Every operation and every request on its way through admission ends. -/
def endWork (d : Dev) : Dev :=
  let tags := keysOf d.op.ops
  let d := tags.foldl (fun d t => squash t d) d
  let d := (tags.filter (fun t => (look d.op.ops t).any (fun o => o.parent.isSome))).foldl (fun d t => endOp t d) d
  let d := tags.foldl (fun d t => endOp t d) d
  let reqs := (waitingOf (fun _ => true) d ++ d.op.waitTag).filter (fun q => match q.src with | .engine _ _ => true | _ => false)
  let d := reqs.foldl (fun d q => refuse .busyRetry q d) d
  enginesIdle { d with op := { d.op with waitFill := [], waitLease := [], waitTag := [] }, rig := { d.rig with msgs := [] } }

/-- Every admission point returns its unspent leases (R70). -/
def returnAllLeases (d : Dev) : Dev :=
  (keysOf d.ks.leases).foldl (fun d k => returnLease (k / 2 ^ 24) (k % 2 ^ 24) d) d

/-- Ports in Standby: SAs and their positions stay, their key slots are cleared; connections and correlation entries go
without RST (R325, R348). -/
def portsStandby (d : Dev) : Dev :=
  let d := (List.range 64).foldl (fun d p => dropEgress p d) d
  let d := d.net.listeners.foldl (fun d e => setNum 0 (lk e.1 0x0B) 0 d) d
  let noKey := fun (_ : Nat) (a : MacSa) => { a with keyIn := false }
  let port := fun (_ : Nat) (q : Port) => { q with
    state := 1, mode := 0, fec := 0, lanes := [], blockLocked := false, downSince := none, restartAt := none,
    linked := false, txSas := mapV noKey q.txSas, rxSas := mapV noKey q.rxSas }
  { d with net := { ports := mapV port d.net.ports, connIncs := d.net.connIncs, connFree := d.net.connFree,
                    nextPort := d.net.nextPort } }

/-- STANDBY_ENTRY_DONE (R539): steps 2 to 4 are over. -/
def execStandbyEntryDone (s : State) : Out :=
  if s.dev.pow.standbyAt.isNone then .next s
  else
    let d := raise srcPmc 0x0005 0 actorHw [] (portsStandby (returnAllLeases (endWork s.dev)))
    let s := drainAudit { s with dev := d }
    let d := zeroDrbg .squashed (clearKeyCaches s.dev)
    let d := hostsOff { d with rng := { d.rng with queue := [], unreleased := [], wait := [] } }
    let sd : SdHost := { card := d.per.sd.card }
    let per := { d.per with sd := sd, icc0 := { present := d.per.icc0.present }, icc1 := { present := d.per.icc1.present } }
    let d := { d with life := { d.life with gait := 3, ready := false, custUp := false }, lopeOn := false,
                      per := per, tb := { d.tb with halted := true }, pow := { d.pow with standbyAt := none } }
    .next { s with dev := d }

/-- WAKE_N (R540): held low for 1 ms, it ends Standby at Trot. -/
def execWakeN (s : State) : Out := onDev (fun d => if d.life.gait = 3 then standbyExit 1 1 d else d) s

/-! Power and resets (R537, R543). -/

/-- OVERTEMP_POWER_OFF (R536, R537): a sensor reads 115 °C or more; PWR_KILL_N is asserted, and the main rails go. -/
def execOvertempPowerOff (sensor : BitVec 8) (temp : BitVec 32) (s : State) : Out :=
  if !s.dev.guard.mainPower || s.dev.life.powerOff || decide (temp.toInt < 115000) then .next s
  else
    let s := clearAll 3 s
    let d := s.dev
    .next (mainGone { s with dev := { d with
      life := { d.life with powerOff := true }, guard := { d.guard with mainPower := false, tj := temp.toInt },
      pow := { d.pow with killN := true, overtemp := some (sensor.toNat, temp.toInt) } } })

/-- PWR_KILL_RELEASE (R537): every guard-die sensor reads below 100 °C; `temp` is the hottest. -/
def execPwrKillRelease (temp : BitVec 32) (s : State) : Out :=
  onDev (fun d =>
    let d := { d with guard := { d.guard with tj := temp.toInt } }
    if decide (temp.toInt < 100000) then onPow (fun p => { p with killN := false }) d else d) s

/-- POWER_ON_RESET (R496, R507, R537, R543): PORST_N low, or a main rail below its power-good level. `rails` says that
every main rail stands when PORST_N is released; without them the device is left on its battery. While PWR_KILL_N is asserted
they cannot stand. -/
def execPowerOnReset (rails : Bool) (s : State) : Out :=
  if rails && !s.dev.pow.killN then
    let s := { s with dev := { s.dev with guard := { s.dev.guard with mainPower := true },
                                          life := { s.dev.life with powerOff := false } } }
    .next (fullReset (if s.dev.pow.overtemp.isSome then 3 else 0) s)
  else
    let s := clearAll 0 s
    let s := { s with dev := { s.dev with guard := { s.dev.guard with mainPower := false },
                                          life := { s.dev.life with powerOff := true } } }
    .next (mainGone s)

/-- WARM_RESET (R543). -/
def execWarmReset (s : State) : Out :=
  if s.dev.life.powerOff || !s.dev.guard.mainPower then .next s else .next (fullReset 1 s)

/-- JTAG_RESET (R543): the test access port only. -/
def execJtagReset (s : State) : Out := onDev (onTap 0) s

/-! Output pins (R544). -/

/-- The status outputs: ALIVE_N's period in µs (0 released), and whether each other output is driven low. -/
structure StatusPins where
  alivePeriod : Nat
  readyLow : Bool
  tamperLow : Bool
  hobbleLow : Bool
  killLow : Bool
  deriving DecidableEq, Repr

/-- The outputs in each state of the table of R544. -/
def outputPins (d : Dev) : StatusPins :=
  let battery := decide (0 < d.guard.vbatMv)
  if d.pow.killN then { alivePeriod := 0, readyLow := false, tamperLow := false, hobbleLow := true, killLow := true }
  else if !d.guard.mainPower then
    { alivePeriod := 0, readyLow := false, tamperLow := battery, hobbleLow := battery, killLow := false }
  else if d.life.zeroised || d.guard.zeroise.set && d.life.hobbled then
    { alivePeriod := 0, readyLow := false, tamperLow := true, hobbleLow := true, killLow := false }
  else if d.life.hobbled && !d.life.booting then
    { alivePeriod := 0, readyLow := false, tamperLow := false, hobbleLow := true, killLow := false }
  else if d.life.gait = 3 then
    { alivePeriod := 100000, readyLow := false, tamperLow := false, hobbleLow := false, killLow := false }
  else if d.life.ready then
    { alivePeriod := 1000, readyLow := true, tamperLow := false, hobbleLow := false, killLow := false }
  else { alivePeriod := 0, readyLow := false, tamperLow := d.life.booting, hobbleLow := true, killLow := false }

/-! Events on their way (R34, R487). -/

/-- AUDIT_EVENT (R34, R42, R487): the recorder takes the oldest event of VC3; in Standby the on-die buffer does, and a
security event that finds fewer than 64 of its entries free ends Standby. -/
def execAuditEvent (s : State) : Out :=
  match s.dev.audit.vc3 with
  | [] => .next s
  | e :: rest =>
    let d := { s.dev with audit := { s.dev.audit with vc3 := rest } }
    if s.dev.life.gait = 3 then
      let free := 1024 - s.dev.audit.standbyBuf.length
      if free = 0 && !(e.severity == 3) then .next s
      else
        let d := { d with audit := { d.audit with standbyBuf := d.audit.standbyBuf ++ [e] } }
        .next { s with dev := if e.severity = 3 ∧ free < 64 then standbyExit 2 1 d else d }
    else if auditStopped s.dev then .next s
    else .next (takeEvent e { s with dev := d })

end Sys2Proof.Machine
end

