-- ==== Sys2Proof/Machine/DictRead.lean ====
section
/-! DEFINITION. What every dictionary entry reads (R404-R408 and the tables of each chapter): entries that are stored read
their stored value, the others are computed from the state they report. -/

set_option linter.unusedVariables false

namespace Sys2Proof.Machine

open Sys2Proof

/-- The stored number of an entry, its Default where it has not been written. -/
def storedNum (i s : Nat) (d : Dev) : Nat := numOf (((dictRow i s).map (fun r => r.dflt)).getD 0) d (dk i s)

/-! Numbers, by chapter. -/

/-- Live keys that a test names. -/
def liveCount (p : KeyRec → Bool) (ks : KeyStore) : Nat := (ks.keys.filter (fun e => liveKey ks e.2 && p e.2)).length

/-- R95. -/
def numKeys (i s : Nat) (d : Dev) : Option Nat :=
  let ks := d.ks
  if i = 0x2000 then
    (if s = 1 then some (liveCount (fun _ => true) ks)
     else if s = 3 then some (ks.keys.length - liveCount (fun _ => true) ks)
     else if s = 4 then some (12582912 - ks.extUsed) else none)
  else if i = 0x2001 then
    (if s = 1 then some (journalFree ks) else if s = 2 then some (snapshotSize ks) else if s = 3 then some ks.compact.code
     else if s = 4 then some ks.epoch else if s = 5 then some ks.bootCount else if s = 6 then some ks.recovery else none)
  else if i = 0x2003 ∧ s = 1 then some ks.migState
  else if 0x2200 ≤ i ∧ i ≤ 0x220F then some (liveCount (fun k => k.domain == 256 * (i - 0x2200) + s) ks)
  else none

/-- R128. -/
def numPool (i s : Nat) (d : Dev) : Option Nat :=
  if i = 0x8100 ∧ s = 1 then some ((List.range 64).filter (fun n => (coreOf d n).state == .serving)).length
  else if i = 0x8100 ∧ s = 2 then some (poolHeld d)
  else if i = 0x8100 ∧ s = 3 then some (poolLimit d)
  else if i = 0x8101 then some (lookD {} d.pool.queues (s - 1)).jobs.length
  else if i = 0x8103 then some (coreOf d (s - 1)).state.code
  else none

/-- R192. -/
def numBn (i s : Nat) (d : Dev) : Option Nat :=
  if i = 0x8120 ∧ s = 1 then some ((List.range 48).filter (fun n => (engineOf d n).state == .serving)).length
  else if i = 0x8120 ∧ s = 2 then some (bnHeld d)
  else if i = 0x8120 ∧ s = 3 then some (bnLimitTags d)
  else if i = 0x8121 then some (lookD {} d.bn.queues (s - 1)).jobs.length
  else if i = 0x8122 then some (engineOf d (s - 1)).state.code
  else none

/-- Bytes of a string's instruction store that schedules of images take. -/
def istoreUsed (d : Dev) (n : Nat) : Nat :=
  let used := fun (e : RigEntry) =>
    ((e.places.filter (fun p => p.string == n)).map (fun p =>
      4 * ((e.img.classes.find? (fun c => c.cls == p.cls)).map (fun c => c.code.length)).getD 0)).foldl (· + ·) 0
  ((d.rig.domains.map (fun r => (r.2.current.toList ++ r.2.draining).map used)).flatten).foldl (· + ·) 0

/-- R292. -/
def numRig (i s : Nat) (d : Dev) : Option Nat :=
  if i = 0x5000 ∧ s = 2 then some (d.rig.domains.filter (fun r => r.2.current.isSome)).length
  else if i = 0x5000 ∧ s = 3 then
    some (0x6F000 - ((List.range 32).map (istoreUsed d)).foldl max 0)
  else if 0x5020 ≤ i ∧ i ≤ 0x502F then
    let r := rigOf d (256 * (i - 0x5020) + s)
    some (if r.quiesce.isSome then 3 else if r.current.isSome then (if r.draining.isEmpty then 1 else 2)
          else if !r.draining.isEmpty then 2 else if r.retired then 4 else 0)
  else none

/-- R326. -/
def numPort (i s : Nat) (d : Dev) : Option Nat :=
  if i < 0x3000 ∨ 0x303F < i then none
  else
    let p := i - 0x3000
    let q := portOf d p
    if s = 1 then some (if portFused d p then 0 else q.state)
    else if s = 7 then some q.mode
    else if s = 8 then some q.fec
    else if s = 0x12 then some (pnWarn d p)
    else if s = 0x13 then some (q.txAn.getD 0xFF)
    else if s = 0x14 then some (q.nextAn.getD 0xFF)
    else if 0x15 ≤ s ∧ s ≤ 0x18 then some (((look q.txSas (s - 0x15)).map (fun a => a.pn)).getD 0)
    else if 0x80 ≤ s ∧ s ≤ 0x8F then some (((look q.rxscs (s - 0x80)).map (fun c => c.sci)).getD 0)
    else if 0x90 ≤ s ∧ s ≤ 0xCF then some (((look q.rxSas (s - 0x90)).map (fun a => a.pn)).getD 0)
    else none

/-- R349, R350. -/
def numNet (i s : Nat) (d : Dev) : Option Nat :=
  if 0x3400 ≤ i ∧ i ≤ 0x34DF ∧ s = 1 then some (lookD {} d.net.listeners (i - 0x3400)).state
  else if 0x3400 ≤ i ∧ i ≤ 0x34DF ∧ s = 0x0C then
    some (d.net.conns.filter (fun c => c.2.listener == i - 0x3400 && c.2.route.isNone)).length
  else if i = 0x34F8 ∧ s = 1 then some d.net.conns.length
  else if i = 0x34F8 ∧ s = 0x12 then some (d.net.corr.filter (fun e => decide (d.tb.now < e.till))).length
  else if i = 0x34F8 ∧ s = 0x13 then some ((d.net.conns.map (fun c => c.2.held.length)).foldl (· + ·) 0 + d.net.udp.length)
  else none

/-- Host channels open on functions that a test names. -/
def chansOpen (p : Nat → Bool) (d : Dev) : Nat :=
  (d.host.chans.filter (fun e => match e.2.kind with | .slot fn _ => p fn | .implicit fn => p fn | .listener _ => false)).length

/-- A half of a host link as it stands. -/
def hostHalf (d : Dev) (h : Nat) : HostLink := lookD {} d.host.links h

/-- R384, R385. -/
def numHost (i s : Nat) (d : Dev) : Option Nat :=
  if i = 0x3800 ∨ i = 0x3801 then
    let k := i - 0x3800
    let a := hostHalf d (2 * k)
    let b := hostHalf d (2 * k + 1)
    (if s = 1 then some a.state else if s = 2 then some a.rate else if s = 3 then some a.width else if s = 4 then some (b2n a.flit)
     else if s = 0x0A then some b.state else if s = 0x0B then some b.rate else if s = 0x0C then some b.width
     else if s = 0x0D then some (b2n b.flit) else if s = 0x16 then some (chansOpen (fun fn => linkOf d fn == k) d) else none)
  else if i = 0x3802 ∧ s = 1 then some (retainTotal - d.host.retainUsed)
  else if 0x4000 ≤ i ∧ i < 0x4800 then
    let fn := 4 + (i - 0x4000)
    (if s = 1 then some (if (fnOf d fn).flr.isSome then 3 else if !fnEnabled d fn then 0 else if vfBound d fn then 2 else 1)
     else if s = 6 then some (fnOf d fn).abi
     else if s = 7 then some (chansOpen (fun f => f == fn) d) else none)
  else none

/-- The version of a slot's image, 0 when empty or invalid. -/
def slotVersion (d : Dev) (n : Nat) : Nat := ((slotImage d n).map (fun i => if fwValid d i then i.version else 0)).getD 0

/-- R403. -/
def numCust (i s : Nat) (d : Dev) : Option Nat :=
  let b := bootDir d
  if i = 0x1400 then
    (if s = 1 then some (fwVersion d) else if s = 2 then some (((runningFw d).map (fun i => i.svn)).getD 0)
     else if s = 4 then some b.primary else if s = 5 then some (b.trial.getD 0xFF) else if s = 6 then some b.tries
     else if s = 7 then some (slotVersion d 0) else if s = 8 then some (slotVersion d 1) else if s = 9 then some (svnFloor d)
     else none)
  else if i = 0x1401 then
    (if s = 1 then some d.cust.bootStep else if s = 2 then some d.cust.bootError else if s = 3 then some d.cust.readyTime else none)
  else if i = 0x1402 ∧ s = 2 then some d.cust.wd.resets.length
  else if i = 0x1402 ∧ s = 3 then some d.cust.wd.total
  else if i = 0x1800 ∧ s = 4 then some (d.cust.officers.filter (fun e => !e.2.revoked)).length
  else if i = 0x1800 ∧ s = 5 then some (d.cust.sessions.filter (fun e => e.2.state == 0)).length
  else if i = 0x1801 then some (((look d.cust.logins (s - 1)).map (fun l => l.officer)).getD 0)
  else none

/-- The clock domains that run (R45, R46): all but with no power or in Standby. -/
def clocksRunning (d : Dev) : Nat :=
  let on := if !d.guard.mainPower || d.life.powerOff then [28, 29, 39]
    else if d.life.gait = 3 then [2, 3, 19, 23, 26, 27, 28, 29, 38, 39] else List.range 40
  (on.map (fun k => 2 ^ k)).foldl (· + ·) 0

/-- Units present after fusing (R1, R429). -/
def unitsPresent (d : Dev) (s : Nat) : Nat :=
  let h := d.life.variantH
  if s = 1 then (if h then 32 else 64) else if s = 2 then (if h then 64 else 128) else if s = 3 then (if h then 256 else 512)
  else if s = 4 then (if h then 16 else 32) else if s = 5 then 64 else if s = 6 then 48 else if s = 7 then 4 else if s = 8 then 2
  else if s = 9 then 2048 else if s = 10 then 4096 else if s = 11 then 65536 else if s = 12 then 65536 else 32768

/-- R429, R430, R431. -/
def numGeneral (i s : Nat) (d : Dev) : Option Nat :=
  if i = 0x1000 then
    (if s = 3 then some (b2n d.life.variantH) else if s = 4 then some d.guard.otp.serial
     else if s = 5 ∨ s = 6 then some (Config.deviceId s) else if s = 8 then some (lcState d) else none)
  else if i = 0x1001 then
    (if s ≤ 0x0D then some (unitsPresent d s)
     else if s = 0x0E then some (if d.life.variantH then 2 ^ 64 - 2 ^ 32 else 0)
     else some (if d.life.variantH then 2 ^ 32 - 2 ^ 16 else 0))
  else if i = 0x1020 ∧ s = 8 then some (b2n d.mal.mgtUp)
  else if i = 0x1100 ∧ s = 1 then some d.tb.now
  else if i = 0x1100 ∧ s = 2 then some d.tb.rtc
  else if i = 0x1100 ∧ s = 3 then some (d.tb.slewPpb % 2 ^ 32).toNat
  else if i = 0x1101 then some (clocksRunning d)
  else if i = 0x8000 ∧ s = 3 then some (freeTags d)
  else none

/-- R451. -/
def numPeriph (i s : Nat) (d : Dev) : Option Nat :=
  let sd := d.per.sd
  let c := d.per.can
  if i = 0x7800 then
    (if s = 1 then some sd.state else if s = 2 then some sd.mode else if s = 3 then some sd.blocks
     else if s = 4 then some sd.phase else none)
  else if i = 0x7801 ∨ i = 0x7802 then
    let x := iccOf d (i - 0x7801)
    (if s = 1 then some x.state else if s = 2 then some x.cls else if s = 3 then some x.fidi else none)
  else if i = 0x7808 ∧ s = 3 then some c.state
  else if i = 0x7808 ∧ s = 4 then some (min 255 c.rec_ * 256 + min 255 c.tec)
  else if 0x7810 ≤ i ∧ i ≤ 0x781F ∧ s = 1 then some (pinOf d (i - 0x7810)).cfg
  else if 0x7810 ≤ i ∧ i ≤ 0x781F ∧ s = 3 then
    some (pinIn (i - 0x7810) d)
  else none

/-- R476. -/
def numRng (i s : Nat) (d : Dev) : Option Nat :=
  if i = 0x2800 ∧ s = 2 then some (healthy d)
  else if i = 0x2801 then some (if d.life.gait = 3 then 4 else (srcOf d (s - 1)).state)
  else if i = 0x2804 ∧ s = 3 then some d.rng.queue.length
  else if i = 0x2805 then some (drbgOf d (s - 1)).state
  else if i = 0x2806 ∧ s = 1 then some d.rng.domains.length
  else if i = 0x2806 ∧ s = 3 then some (d.rng.insts.filter (fun e => e.2.overdue)).length
  else none

/-- R492. The cursors are those of association `a`. -/
def numAudit (a i s : Nat) (d : Dev) : Option Nat :=
  if i = 0x6000 then
    (if s = 1 then some d.audit.nextSeq else if s = 2 then some d.audit.durableSeq else if s = 3 then some d.audit.oldestSeq
     else if s = 4 then some d.audit.foundation.length else if s = 5 then some (staged d)
     else if s = 6 then some (if auditStopped d then 3 else if isThrottled d then 2 else if 49152 ≤ staged d then 1 else 0)
     else none)
  else if i = 0x6001 ∧ s = 1 then some (lookD 0 d.audit.cursors a)
  else if i = 0x6001 ∧ s = 3 then some (lookD 0 d.audit.fcursors a)
  else if i = 0x8F00 ∧ s = 1 then some d.audit.faultTable.length
  else if i = 0x8F00 ∧ s = 2 then some d.audit.lastAck
  else none

/-- A monitor's state (R511). -/
def monitorState (d : Dev) (m : Nat) : Nat :=
  if m = 0x0B then (if d.pow.overtemp.isSome then 1 else 0)
  else if !monitorRuns d m then 4
  else b2n (look d.guard.asserted (2 * m)).isSome + 2 * b2n (look d.guard.asserted (2 * m + 1)).isSome

/-- R511. -/
def numShroud (i s : Nat) (d : Dev) : Option Nat :=
  if i = 0x6800 then
    (if s = 1 then some (if d.life.zeroised then 3 else if d.life.hobbled then 2 else if keyState d then 1 else 0)
     else if s = 3 then some d.guard.hobble.events else if s = 5 then some (zeroiseCount d) else if s = 6 then some d.guard.vbatMv
     else if s = 7 then some (b2n (decide (d.guard.vbatMv < 2600))) else none)
  else if i = 0x6802 then some (monitorState d s)
  else if i = 0x6804 ∧ s ≤ 6 then some (Config.railMv s d.tb.now)
  else if i = 0x6804 ∧ s = 7 then some (d.guard.tj % 2 ^ 32).toNat
  else none

/-- DEBUG_LEVEL (R513, R522): open in BLANK and TEST_UNLOCKED. -/
def debugLevelNow (d : Dev) : Nat := if lcState d = 0 ∨ lcState d = 2 then 3 else d.guard.debugLevel

/-- R529. -/
def numLife (i s : Nat) (d : Dev) : Option Nat :=
  let cal := d.guard.calNow
  if i = 0x7000 then
    (if s = 1 then some (((List.range 6).map (fun b => b2n (otpBit d b) * 2 ^ b)).foldl (· + ·) 0)
     else if s = 3 then some d.guard.lcPending
     else if s = 4 then some ((List.range 8).filter (fun t => !otpBit d (otpOpen t))).length else none)
  else if i = 0x7001 ∧ s = 1 then some (debugLevelNow d)
  else if i = 0x7001 ∧ s = 3 then some d.guard.debugTill
  else if i = 0x12C0 ∧ s = 1 then some (if cal.isEmpty then 2 else leAt cal 6 1)
  else if i = 0x12C0 ∧ s = 3 then some (if cal.isEmpty then 0 else leAt cal 8 4)
  else none

/-- R546. -/
def numPower (i s : Nat) (d : Dev) : Option Nat :=
  if i = 0x1200 ∧ s = 1 then some d.life.gait
  else if i = 0x1201 ∧ s = 1 then some d.life.reef
  else if i = 0x1201 ∧ s = 2 then some d.pow.reefCause
  else if i = 0x1202 ∧ s = 1 then some d.pow.gallop
  else if i = 0x1203 ∧ s = 1 then some d.pow.ampsAvg
  else if i = 0x1204 then some d.pow.resetCause
  else if i = 0x1205 then some d.pow.wakeSource
  else none

/-- The number an entry reads: what its chapter computes, else what is stored. -/
def entryNum (a i s : Nat) (d : Dev) : Nat :=
  let l : List (Option Nat) := [numKeys i s d, numPool i s d, numBn i s d, numRig i s d, numPort i s d, numNet i s d,
    numHost i s d, numCust i s d, numGeneral i s d, numPeriph i s d, numRng i s d, numAudit a i s d, numShroud i s d,
    numLife i s d, numPower i s d]
  (l.findSome? id).getD (storedNum i s d)

/-! Strings and blobs. -/

/-- A string's bytes. -/
def ascii (s : String) : Bytes := s.toList.map (fun c => BitVec.ofNat 8 c.toNat)

/-- A latch as the first 20 bytes of the HOBBLE layout; empty when it is not set (R510, R511). -/
def latchBytes (l : TamperLatch) : Bytes := if l.set then paramBytes (tamperParams l) else []

/-- ASSOC (R429): link, version, peer port or node, address, idle seconds, ACTOR bound. -/
def assocBytes (d : Dev) (a : Nat) : Bytes :=
  match assocOf d a with
  | none => []
  | some x =>
    let (link, port, addr) : Nat × Nat × Nat := match x.peer with
      | .mgt addr port => (0, port, addr)
      | .can node => (1, node, 0)
      | .inband pf => (2, 0, 0)
    let bound := ((d.cust.logins.find? (fun l => l.2.bound == some a)).map (fun l => l.2.officer)).getD 0
    le 1 link ++ le 1 x.version ++ le 2 port ++ be 16 addr ++ le 2 ((d.tb.now - x.lastFrame) / sec 1) ++ le 2 bound

/-- OFFICER (R403): role, state (0 in service, 1 revoked), domain, SHA-384 of the card key. -/
def officerBytes (d : Dev) (id : Nat) : Bytes :=
  match look d.cust.officers id with
  | none => []
  | some o => le 1 o.role.code ++ le 1 (b2n o.revoked) ++ le 2 o.domain ++ padTo 48 (Config.hash 2 o.cardKey)

/-- A running record as it stands in storage (R486): its staging slot, else its running slot, else nothing written. -/
def storedRecord (d : Dev) (k : Nat) : Bytes :=
  match (look d.audit.staging (k % 65536)).filter (fun r => r.seq == k) with
  | some r => auditBytes r
  | none => match look d.audit.running (k % 1048576) with
    | some r => auditBytes r
    | none => zeros 128

/-- BATCH and FBATCH: at most 64 records from the association's cursor (R486). -/
def batchBytes (d : Dev) (a : Nat) : Bytes :=
  let c := lookD 0 d.audit.cursors a
  ((List.range (min 64 (d.audit.nextSeq - c))).map (fun i => storedRecord d (c + i))).flatten
def fbatchBytes (d : Dev) (a : Nat) : Bytes :=
  (((d.audit.foundation.drop (lookD 0 d.audit.fcursors a)).take 64).map auditBytes).flatten

/-- Reading BATCH or FBATCH advances its cursor by the number returned. -/
def advanceCursor (a i s : Nat) (d : Dev) : Dev :=
  if i = 0x6001 ∧ s = 2 then
    { d with audit := { d.audit with cursors := put 0 d.audit.cursors a (lookD 0 d.audit.cursors a + (batchBytes d a).length / 128) } }
  else if i = 0x6001 ∧ s = 4 then
    { d with audit := { d.audit with fcursors := put 0 d.audit.fcursors a (lookD 0 d.audit.fcursors a + (fbatchBytes d a).length / 128) } }
  else d

/-- The bytes of a STR or BLOB entry. -/
def entryBlob (a i s : Nat) (d : Dev) : Bytes :=
  let stored := blobOf d (dk i s)
  if i = 0x2003 then d.ks.migTarget
  else if 0x3000 ≤ i ∧ i ≤ 0x303F ∧ s = 9 then be 6 (portMac d (i - 0x3000))
  else if 0x34E0 ≤ i ∧ i ≤ 0x34EF then padTo 32 stored
  else if (i = 0x3800 ∨ i = 0x3801) ∧ s = 7 then padTo 512 stored
  else if i = 0x1400 ∧ s = 3 then d.cust.latch
  else if 0x1840 ≤ i ∧ i ≤ 0x185F then officerBytes d (256 * (i - 0x1840) + s)
  else if i = 0x1000 ∧ s = 1 then ascii "Skervanis Microsystems"
  else if i = 0x1000 ∧ s = 2 then ascii "Chrorex CX9664"
  else if i = 0x1000 ∧ s = 9 then be 6 d.guard.otp.baseMac
  else if i = 0x1010 then assocBytes d (s - 1)
  else if (i = 0x7801 ∨ i = 0x7802) ∧ s = 4 then (iccOf d (i - 0x7801)).atr
  else if i = 0x6001 ∧ s = 2 then batchBytes d a
  else if i = 0x6001 ∧ s = 4 then fbatchBytes d a
  else if i = 0x8F00 then (d.audit.faultTable.map (le 8)).flatten
  else if i = 0x6800 ∧ s = 2 then latchBytes d.guard.hobble
  else if i = 0x6800 ∧ s = 4 then latchBytes d.guard.zeroise
  else if i = 0x6805 then Config.thresholds (slice d.guard.calNow 0x120 128)
  else if i = 0x12C0 ∧ s = 2 then calPick d.guard.calA d.guard.calB
  else stored

/-- Bytes of a number of each type (R405). -/
def typeBytes (t : Nat) : Nat := if t = 3 then 2 else if t = 4 ∨ t = 6 then 4 else if t = 5 then 8 else 1

/-- The value of an entry as a READ answers it (R405, R408). `a` is the association that reads. -/
def entryValue (a i s : Nat) (r : DictRow) (d : Dev) : Bytes :=
  if 7 ≤ r.typ then entryBlob a i s d else le (typeBytes r.typ) (entryNum a i s d)

/-- Entries that the custodian maintains (R408): those of its own tables and every stored configuration value. -/
def custodianKeeps (i s : Nat) (r : DictRow) : Bool :=
  !r.wr.isEmpty || decide (0x1400 ≤ i ∧ i ≤ 0x1402) || decide (0x1800 ≤ i ∧ i ≤ 0x185F) || decide (0x5000 ≤ i ∧ i ≤ 0x502F)

end Sys2Proof.Machine
end

