-- ==== Sys2Proof/Machine/DictWrite.lean ====
section
/-! DEFINITION. Writes of dictionary entries: who may write (R12, R406, R421), the rules and the effect of every writable
entry (R405, R407, R408 and the tables of each chapter), and FAULT_ACK and the audit cursors (R486, R492). -/

set_option linter.unusedVariables false

namespace Sys2Proof.Machine

open Sys2Proof

/-! Rights. -/

/-- The domain an entry belongs to, where it belongs to one (R12); a custodian pin belongs to none that a DM holds, a route
that has not been written to none at all. -/
def entryDomain (i s : Nat) (d : Dev) : Option Nat :=
  if 0x2200 ≤ i ∧ i ≤ 0x220F then some (256 * (i - 0x2200) + s)
  else if 0x2210 ≤ i ∧ i ≤ 0x221F then some (256 * (i - 0x2210) + s)
  else if 0x2310 ≤ i ∧ i ≤ 0x231F then some (256 * (i - 0x2310) + s)
  else if 0x5010 ≤ i ∧ i ≤ 0x501F then some (256 * (i - 0x5010) + s)
  else if 0x5020 ≤ i ∧ i ≤ 0x502F then some (256 * (i - 0x5020) + s)
  else if 0x1810 ≤ i ∧ i ≤ 0x181F then some (256 * (i - 0x1810) + s)
  else if 0x3000 ≤ i ∧ i ≤ 0x303F then some (portOwner d (i - 0x3000))
  else if 0x3400 ≤ i ∧ i ≤ 0x34DF then some (lisDomain d (i - 0x3400))
  else if 0x34E0 ≤ i ∧ i ≤ 0x34EF then
    let r := 256 * (i - 0x34E0) + s
    if (blobOf d (dk 0x34E0 0 + r)).all (fun b => b == 0#8) then none else some (routeOf d r).domain
  else if 0x4000 ≤ i ∧ i < 0x4800 then some (vfDomain d (4 + (i - 0x4000)))
  else if 0x7810 ≤ i ∧ i ≤ 0x781F then
    let c := (pinOf d (i - 0x7810)).cfg
    some (if bitOf c 30 then 4096 else fieldOf c 18 12)
  else none

/-- A role holds the right that a name of a rights list grants on an entry (R12). -/
def holds (role : Role) (dom : Option Nat) (w : Who) : Bool :=
  match w, role with
  | .any, _ => true
  | .au, .auditor => true
  | .op, .operator => true
  | .do_, .deviceOfficer => true
  | .dm, .domainOfficer n => dom.all (fun m => m == n)
  | .hd, .hostDriver => true
  | _, _ => false

/-- A digit of the write list names the requester's role (R421). -/
def needsSession (role : Role) (dom : Option Nat) (w : Who) : Bool :=
  match w, role with
  | .dualDo, .deviceOfficer => true
  | .dualDm, .domainOfficer n => dom.all (fun m => m == n)
  | _, _ => false

/-- An entry of a port that the fuses have removed (R3). -/
def fusedEntry (i : Nat) (d : Dev) : Bool := decide (0x3000 ≤ i ∧ i ≤ 0x303F) && portFused d (i - 0x3000)

/-- A write that names a port that the fuses have removed: an interface entry, a listener's PORT, a port's PAIR, PTP_PORT
(R3). -/
def namesFused (i s n : Nat) (d : Dev) : Bool :=
  (decide (0x34F0 ≤ i ∧ i ≤ 0x34F4) && portFused d (s - 1)) ||
    (((decide (0x3400 ≤ i ∧ i ≤ 0x34DF) && s == 3) || (decide (0x3000 ≤ i ∧ i ≤ 0x303F) && s == 0x0D) ||
      (i == 0x1100 && s == 6)) && decide (n < 64) && portFused d n)

/-- An interface entry of a port that has no interface (R327). -/
def noInterface (i s : Nat) (d : Dev) : Bool := decide (0x34F0 ≤ i ∧ i ≤ 0x34F4) && !(portRole d (s - 1) == 0)

/-- REASON a READ meets, 0 for none. -/
def readReason (i s : Nat) (r : DictRow) (role : Role) (d : Dev) : Nat :=
  if !(r.rd.any (holds role (entryDomain i s d))) then 1 else if noInterface i s d then 4 else 0

/-- REASON a direct write meets at check 8 of R419, 0 for none. -/
def writeReason (i s : Nat) (r : DictRow) (role : Role) (d : Dev) : Nat :=
  let dom := entryDomain i s d
  if r.wr.isEmpty || fusedEntry i d then 2
  else if r.wr.any (holds role dom) then 0
  else if r.wr.any (needsSession role dom) then 5
  else 1

/-! Rules and effects. -/

/-- Who writes: association, ACTOR of the audit record, role. -/
structure Writer where
  assoc : Nat
  actor : Nat
  role : Role

/-- The smallest and largest value of a number whose entry has no other rule or effect than a range. -/
def numRange (i s : Nat) : Option (Nat × Nat) :=
  if i = 0x2002 ∧ s = 1 then some (1, 64)
  else if 0x2210 ≤ i ∧ i ≤ 0x221F then some (0, 2 ^ 32 - 1)
  else if i = 0x2300 ∧ s = 1 then some (1, 65535)
  else if i = 0x2300 ∧ s = 2 then some (1, 3600)
  else if 0x2310 ≤ i ∧ i ≤ 0x231F then some (0, 3)
  else if i = 0x5001 ∧ s = 1 then some (2, 16)
  else if i = 0x5001 ∧ s = 2 then some (1, 1000)
  else if i = 0x3800 ∨ i = 0x3801 then
    (if s = 5 then some (0, 1) else if s = 6 then some (0, 1024) else if s = 8 then some (0, 4096)
     else if s = 9 then some (1, 4096) else none)
  else if 0x4000 ≤ i ∧ i < 0x4800 then
    (if s = 4 then some (1, 256) else if s = 5 then some (1, 4096) else none)
  else if i = 0x1402 ∧ s = 1 then some (10, 10000)
  else if i = 0x1800 ∧ s = 2 then some (60, 3600)
  else if i = 0x1800 ∧ s = 3 then some (60, 3600)
  else if 0x1810 ≤ i ∧ i ≤ 0x181F then some (2, 5)
  else if i = 0x1020 then
    (if s = 1 then some (1, 65535) else if s = 2 then some (1, 254) else if s = 3 then some (10, 1000)
     else if s = 4 then some (100, 10000) else if s = 6 then some (10, 3600) else if s = 7 then some (0, 1) else none)
  else if 0x34F4 = i then some (0, 1)
  else if i = 0x7800 ∧ s = 8 then some (2, 7)
  else if i = 0x2800 ∧ s = 1 then some (0, 1)
  else if i = 0x2800 ∧ s = 3 then some (10, 1000)
  else if i = 0x1200 ∧ s = 3 then some (100, 60000)
  else if i = 0x1206 ∧ s = 1 then some (8, 0x77)
  else none

/-- Lengths that a stored blob may have. -/
def blobOk (i s n : Nat) : Option Bool :=
  if i = 0x1000 ∧ s = 0x0A then some (decide (n ≤ 128))
  else if i = 0x1020 ∧ s = 5 then some (decide (n ≤ 72) && n % 18 == 0)
  else if i = 0x1020 ∧ s = 9 then some (n == 0 || n == 5)
  else if i = 0x1020 ∧ s = 0x0A then some (n == 0 || n == 4)
  else if i = 0x1020 ∧ s = 0x0B then some (n == 0 || n == 17)
  else if i = 0x1020 ∧ s = 0x0C then some (n == 0 || n == 16)
  else if i = 0x1800 ∧ s = 6 then some (decide (5 ≤ n ∧ n ≤ 16))
  else if (i = 0x3800 ∨ i = 0x3801) ∧ s = 7 then some (n == 512)
  else if i = 0x34F0 then some (n == 0 || n == 5)
  else if i = 0x34F1 then some (n == 0 || n == 17)
  else if i = 0x34F2 then some (n == 0 || n == 4)
  else if i = 0x34F3 then some (n == 0 || n == 16)
  else none

/-- Prefix lengths of an address with its prefix, and of ALLOW's entries, lie in their families. -/
def prefixOk (i : Nat) (v : Bytes) : Bool :=
  if i = 0x34F0 then v.isEmpty || decide (leAt v 4 1 ≤ 32)
  else if i = 0x34F1 then v.isEmpty || decide (leAt v 16 1 ≤ 128) else true

/-- Store a number whose Default is the table's; storing a blob of zeros where zeros is the Default removes it. -/
def storeNum (i s n : Nat) (d : Dev) : Dev := setNum (((dictRow i s).map (fun r => r.dflt)).getD 0) (dk i s) n d
def storeBlob (i s : Nat) (v : Bytes) (d : Dev) : Dev :=
  setBlob (dk i s) (if ((i = 0x3800 ∨ i = 0x3801) : Bool) && v.all (fun b => b == 0#8) then [] else v) d

/-- Writes of a port's other entries (R305, R308, R309, R326). -/
def portEntry (p s : Nat) (v : Bytes) (d : Dev) : Except Nat Dev :=
  let n := leVal v
  let idle := fun (q : Nat) => !portEnabled d q
  if s = 2 then (if n < 2 then .ok (setPortEnable p (n == 1) d) else .error 3)
  else if 3 ≤ s ∧ s ≤ 6 then portSetting p (s - 3) n d
  else if s = 0x0E then portSetting p 4 n d
  else if s = 0x10 then macsecWrite p n d
  else if s = 0x0A then (if 1518 ≤ n ∧ n ≤ 9216 then .ok (storeNum (0x3000 + p) s n d) else .error 3)
  else if s = 0x0B then
    let vids := (List.range (v.length / 2)).map (fun k => leAt v (2 * k) 2)
    (if decide (v.length ≤ 128) && v.length % 2 == 0 && vids.all (fun x => decide (x < 4096)) then
      .ok (storeBlob (0x3000 + p) s v d) else .error 3)
  else if s = 0x0C ∨ s = 0x0D then
    (if (if s = 0x0C then 2 else 63) < n then .error 3
     else if !(idle p) || (!(portRole d p == 0) && !(idle (portPair d p))) || (s == 0x0D && !(idle n)) then .error 4
     else .ok (storeNum (0x3000 + p) s n d))
  else if s = 0x0F then (if n < 4096 then .ok (storeNum (0x3000 + p) s n d) else .error 3)
  else if s = 0x12 then
    .ok (setNum (if macsecMode d p = 2 then 0xC000000000000000 else 0xC0000000) (pk p 0x12) n d)
  else .ok (storeNum (0x3000 + p) s n d)

/-- Writes of a listener's entries (R333, R335, R338, R349). -/
def listenerEntry (n s : Nat) (v : Bytes) (d : Dev) : Except Nat Dev :=
  let x := leVal v
  let l := lookD {} d.net.listeners n
  let put_ := fun (ok : Bool) => if ok then Except.ok (storeNum (0x3400 + n) s x d) else Except.error 3
  if s = 0x0A then
    (if 1 < x then .error 3
     else match setListener n (x == 1) d with
     | (.ok, d) => .ok d
     | _ => .error 4)
  else if s = 2 ∧ (l.state ≠ 0 ∨ numOf 0 d (lk n 0x0A) ≠ 0) then .error 4
  else if 3 ≤ s ∧ s ≤ 7 ∧ numOf 0 d (lk n 0x0A) ≠ 0 then .error 4
  else if s = 2 then put_ (decide (x < 4096))
  else if s = 3 then put_ (decide (x < 64))
  else if s = 4 then put_ (decide (x ≤ 3))
  else if s = 5 then put_ (decide (1 ≤ x))
  else if s = 6 then put_ (decide (x ≤ 4))
  else if s = 7 then put_ (decide (1 ≤ x ∧ x ≤ 32768))
  else if s = 8 then
    let ok := (List.range (v.length / 17)).all (fun k =>
      decide (leAt v (17 * k) 1 ≤ 128))
    (if v.length % 17 == 0 && decide (v.length ≤ 272) && ok then .ok (storeBlob (0x3400 + n) s v d) else .error 3)
  else put_ (decide (x ≤ 3600))

/-- A write of a VF's DOMAIN or BOUND (R378). -/
def bindingEntry (v s n : Nat) (d : Dev) : Except Nat Dev :=
  let free := chansOpen (fun f => f == 4 + v) d == 0
  if s = 2 then (if 4096 ≤ n then .error 3 else if !free && !(vfDomain d (4 + v) == n) then .error 4 else .ok (storeNum (0x4000 + v) 2 n d))
  else if 1 < n then .error 3
  else if n = 0 ∧ !free then .error 4
  else .ok (storeNum (0x4000 + v) 3 n d)

/-- FAULT_ACK (R492): one entry, or all of them. -/
def faultAck (seq : Nat) (d : Dev) : Except Nat Dev :=
  let t := if seq = 2 ^ 64 - 1 then [] else without d.audit.faultTable seq
  .ok { d with audit := { d.audit with faultTable := t, lastAck := seq } }

/-- A cursor is set (R486). -/
def setCursor (foundation : Bool) (a v : Nat) (d : Dev) : Except Nat Dev :=
  if (assocOf d a).isNone then .error 4
  else if foundation then .ok { d with audit := { d.audit with fcursors := put 0 d.audit.fcursors a v } }
  else .ok { d with audit := { d.audit with cursors := put 0 d.audit.cursors a v } }

/-- REEF_FLOOR (R536): the level is held at or above it. -/
def reefFloor (n : Nat) (d : Dev) : Except Nat Dev :=
  if 3 < n then .error 3 else .ok (reefCheck false (setNum 0 (dk 0x1201 3) n d))

/-- The write of an entry, its rights apart: check 10 of R419 and the effect. -/
def applyEntry (w : Writer) (i s : Nat) (r : DictRow) (v : Bytes) (d : Dev) : Except Nat Dev :=
  let n := leVal v
  if r.typ < 7 ∧ v.length ≠ typeBytes r.typ then .error 3
  else if r.typ = 1 ∧ 1 < n then .error 3
  else if noInterface i s d || namesFused i s n d then .error 4
  else match numRange i s with
  | some (lo, hi) => if lo ≤ n ∧ n ≤ hi then .ok (storeNum i s n d) else .error 3
  | none => match blobOk i s v.length with
  | some ok => if ok && prefixOk i v then .ok (storeBlob i s v d) else .error 3
  | none =>
    if 0x3000 ≤ i ∧ i ≤ 0x303F then portEntry (i - 0x3000) s v d
    else if 0x3400 ≤ i ∧ i ≤ 0x34DF then listenerEntry (i - 0x3400) s v d
    else if 0x34E0 ≤ i ∧ i ≤ 0x34EF then
      let own := match w.role with | .domainOfficer n => (Route.ofBytes (padTo 32 v)).domain == n | _ => true
      (if !own then .error 1
       else match writeRoute (256 * (i - 0x34E0) + s) v d with
       | (true, d) => .ok d
       | _ => .error 3)
    else if 0x4000 ≤ i ∧ i < 0x4800 then bindingEntry (i - 0x4000) s n d
    else if i = 0x1800 ∧ s = 1 then
      (if decide (2 ≤ n ∧ n ≤ 5) && decide (n ≤ (officersOf d .deviceOfficer 0).length) then .ok (storeNum i s n d) else .error 3)
    else if i = 0x1100 ∧ s = 2 then .ok { d with tb := { d.tb with rtc := n } }
    else if i = 0x1100 then (if n < 64 ∨ n = 0xFF then .ok (storeNum i s n d) else .error 3)
    else if i = 0x7800 ∧ s = 9 then sdUnlock v d
    else if i = 0x7800 ∧ s = 0x0A then sdSetPwd v d
    else if i = 0x7800 ∧ s = 0x0B then sdForceErase (n == 1) d
    else if i = 0x7808 ∧ s = 8 then busoffAuto n d
    else if i = 0x7808 then canTiming (s == 2) n d
    else if 0x7810 ≤ i ∧ i ≤ 0x781F ∧ s = 1 then pinCfgWrite (i - 0x7810) n (pinTransfer (i - 0x7810) d) d
    else if 0x7810 ≤ i ∧ i ≤ 0x781F then .ok (pinLevel (i - 0x7810) (n == 1) d)
    else if i = 0x6001 then setCursor (s == 3) w.assoc n d
    else if i = 0x8F00 then faultAck n d
    else if i = 0x6801 then extLoopEnable (n == 1) d
    else if i = 0x7000 then lcRequest n (w.role == .hostDriver) w.actor d
    else if i = 0x7001 then (if v.length = 7 then debugConsent (leAt v 0 1) (leAt v 1 2) (leAt v 3 4) d else .error 3)
    else if i = 0x12C0 then calSet v d
    else if i = 0x1200 then gaitRequest n d
    else if i = 0x1201 then reefFloor n d
    else .error 2

/-- The value recorded for a write: passwords are left out (R437). -/
def loggedValue (i s : Nat) (v : Bytes) : Bytes := if i = 0x7800 ∧ (s = 9 ∨ s = 0x0A) then [] else v

/-- A write as the custodian executes it (R408): REASON, 0 for success, and the device. Cursors are the responder's own and
are not recorded (R486). -/
def writeEntry (w : Writer) (i s : Nat) (r : DictRow) (v : Bytes) (d : Dev) : Nat × Dev :=
  if i = 0x6001 then
    (match applyEntry w i s r v d with
     | .ok d => (0, d)
     | .error e => (e, d))
  else entryWrite i s (loggedValue i s v) w.actor (applyEntry w i s r v) d

/-! Commands of single entries. -/

/-- FAULT_ACK. -/
def execFaultAck (seq : BitVec 64) (s : State) : Out := writeRow 0x8F00 2 (le 8 seq.toNat) (faultAck seq.toNat) s

/-- CURSOR and FCURSOR (R486). -/
def execCursor (assoc : Fin 52) (v : BitVec 64) (s : State) : Out :=
  onDev (fun d => match setCursor false assoc.val v.toNat d with
    | .ok d => d
    | .error _ => d) s
def execFcursor (assoc : Fin 52) (v : BitVec 16) (s : State) : Out :=
  onDev (fun d => match setCursor true assoc.val v.toNat d with
    | .ok d => d
    | .error _ => d) s

/-- BATCH and FBATCH (R486): the records, and the cursor advanced. -/
def execBatch (assoc : Fin 52) (s : State) : Out :=
  onDev (fun d => if (assocOf d assoc.val).isNone then d
    else advanceCursor assoc.val 0x6001 2 (emit (.readBytes (batchBytes d assoc.val)) d)) s
def execFbatch (assoc : Fin 52) (s : State) : Out :=
  onDev (fun d => if (assocOf d assoc.val).isNone then d
    else advanceCursor assoc.val 0x6001 4 (emit (.readBytes (fbatchBytes d assoc.val)) d)) s

end Sys2Proof.Machine
end

