-- ==== Sys2Proof/Machine/DictSvc.lean ====
section
/-! DEFINITION. The checks of a dictionary request (R404, R405, R419, R420) and the DICT_WRITE service (R408, R421, R563). -/

set_option linter.unusedVariables false

namespace Sys2Proof.Machine

open Sys2Proof

/-- The answer of a dictionary request that fails: STATUS, MCODE, REASON, DETAIL (R420). -/
structure DictErr where
  st : Status
  mcode : Nat := 0
  reason : Nat := 0
  detail : Nat := 0
  deriving DecidableEq

/-- The rows of R420. -/
def noEntry : DictErr := { st := .format, mcode := 1 }
def rightsErr (reason : Nat) : DictErr := { st := .policy, mcode := 2, reason := reason }
def typeErr (typ : Nat) : DictErr := { st := .format, mcode := 3, detail := typ }
def tooLong (n : Nat) : DictErr := { st := .lengthError, mcode := 4, detail := n }
def unknownXfer (x : Nat) : DictErr := { st := .format, mcode := 5, detail := x }
def limitErr : DictErr := { st := .busyRetry, mcode := 6 }
def plainErr (st : Status) : DictErr := { st := st }

/-- The error of a write that its entry refuses: a rights error, or BUSY_RETRY (R92, R420). -/
def writeErr (reason : Nat) : DictErr := if reason = busyReason then plainErr .busyRetry else rightsErr reason

/-- The answer of a request whose write has run: OK, or TIMEOUT and its ERROR body where the ceremony card failed (R436). -/
def writtenStatus (i s : Nat) (d : Dev) : Status := if cardTimedOut i s d then .timeout else .ok
def writtenBody (i s : Nat) (d : Dev) : Bytes := if cardTimedOut i s d then errorBytes .timeout 0 0 0 else []

/-- The most bytes a value of a type has (R405). -/
def typeLimit (t : Nat) : Nat := if t = 7 then 255 else if t = 8 then 1048576 else typeBytes t

/-- Checks 4 to 6 of R419 on a value to be written: the entry, its TCODE, the length. A value of a type of one length fails
check 10 where its length differs. -/
def writeTarget (i s tcode n : Nat) : Except DictErr DictRow :=
  match dictRow i s with
  | none => .error noEntry
  | some r =>
    if !(tcode == r.typ) then .error (typeErr r.typ)
    else if decide (7 ≤ r.typ) && decide (typeLimit r.typ < n) then .error (tooLong n)
    else .ok r

/-! DICT_WRITE. -/

/-- The digits of a write list as rights of a session: the device, or the entry's domain. -/
def dualRights (i s : Nat) (r : DictRow) (d : Dev) : List (Nat × Scope) :=
  r.wr.filterMap (fun w => match w with
    | .dualDo => some (2, .device)
    | .dualDm => (entryDomain i s d).map (fun n => (2, .domain n))
    | _ => none)

/-- The rights of DICT_WRITE on an entry. LC_REQUEST is the host driver's through the in-band window only (R517). -/
def dictRights (via : Via) (i s : Nat) (d : Dev) : Rights :=
  match dictRow i s with
  | none => {}
  | some r =>
    if r.wr.isEmpty || fusedEntry i d then {}
    else
      let window := match via with | .mailbox _ => i == 0x7000 | _ => false
      { single := fun role => r.wr.any (holds role (entryDomain i s d)) && !(window && role == .hostDriver),
        dual := dualRights i s r d }

/-- Who writes by a request. -/
def writerOf (h : SvcHdr) (role : Role) (d : Dev) : Writer :=
  let a : Nat := match h.via with
    | .malath a _ => a
    | .mailbox fn => 48 + fn
    | _ => 0xFFFF
  { assoc := a, actor := actorReq d h, role := role }

/-- The role that a request writes with: that of its session's scope where it executes a session's action. -/
def writeRole (h : SvcHdr) (role : Role) (d : Dev) : Role :=
  match h.via with
  | .authorise i _ _ => (match look d.cust.sessions i with
    | some s => (match s.scope with
      | some n => .domainOfficer n
      | none => .deviceOfficer)
    | none => role)
  | _ => role

/-- The ERROR body that a refusal of DICT_WRITE returns. -/
def dictBody (h : SvcHdr) (i s tcode : Nat) (value : Bytes) (d : Dev) (st : Status) : Bytes :=
  let e : DictErr := match writeTarget i s tcode value.length with
    | .error e => if e.st == st then e else plainErr st
    | .ok r =>
      if !(st == .policy) then plainErr st
      else match roleOf d h.via h.officer with
      | .error _ => rightsErr 6
      | .ok role =>
        if !rightMet d h.via role (dictRights h.via i s d) then
          rightsErr (if writeReason i s r role d = 0 then 1 else writeReason i s r role d)
        else match applyEntry (writerOf h (writeRole h role d) d) i s r value d with
        | .error e => writeErr e
        | .ok _ => rightsErr 4
  errorBytes e.st e.mcode e.reason e.detail

/-- DICT_WRITE (R408, R421, R563), and what it leaves to be done outside the dictionary. -/
def execDictWrite (h : SvcHdr) (index : BitVec 16) (sub tcode : BitVec 8) (obj : ObjRef) (given : Bytes) (s : State) : Out :=
  let i := index.toNat
  let n := sub.toNat
  let value := objBytes h.via obj given s.dev
  let row := dictRow i n
  let d := serveWith (dictBody h i n tcode.toNat value) h (.dictWrite i n tcode.toNat obj given)
    (fun d =>
      if !(objStatus h.via obj d == .ok) then objStatus h.via obj d
      else match writeTarget i n tcode.toNat value.length with
      | .error e => e.st
      | .ok _ => .ok)
    (fun _ _ => .ok) (dictRights h.via i n)
    (fun d => match row, roleOf d h.via h.officer with
      | some r, .ok role => (match applyEntry (writerOf h (writeRole h role d) d) i n r value d with
        | .ok _ => .ok
        | .error e => (writeErr e).st)
      | _, _ => .policy) true
    (fun d role => match row with
      | none => d
      | some r =>
        let done := (writeEntry (writerOf h (writeRole h role d) d) i n r value d).2
        answer h.via (writtenStatus i n done) (writtenBody i n done) done) s.dev
  .next (afterWrite { s with dev := d })

end Sys2Proof.Machine
end

