-- ==== Sys2Proof/Machine/LopeAcc.lean ====
section
/-! DEFINITION. Lope accumulator operations: OP 0x20 of R208. An instruction that reads or writes an accumulator a JOBX
result is due in stalls (R221). -/

set_option linter.unusedVariables false

namespace Sys2Proof.Machine

open Sys2Proof

/-- Xd = op Xa. -/
def xop1 (f : RFmt) (op : BitVec 256 → BitVec 256) (q : Proc) : LRes Proc :=
  noExt f.e (withX f.rd (fun rd => withX f.ra (fun ra => readyX q rd (readyX q ra
    (.ok (putX q rd (op q.x[ra]) q.xTag[ra]))))))

/-- Xd = Xa op Xb, tagged when either source is (R225). -/
def xop2 (f : RFmt) (op : BitVec 256 → BitVec 256 → BitVec 256) (q : Proc) : LRes Proc :=
  noExt f.e (withX f.rd (fun rd => withX f.ra (fun ra => withX f.rb (fun rb => readyX q rd (readyX q ra (readyX q rb
    (.ok (putX q rd (op q.x[ra] q.x[rb]) (q.xTag[ra] || q.xTag[rb])))))))))

/-- Dd = Xa op Xb. -/
def xcmp (f : RFmt) (op : BitVec 8 → BitVec 8 → Bool) (q : Proc) : LRes Proc :=
  noExt f.e (withX f.ra (fun ra => withX f.rb (fun rb => readyX q ra (readyX q rb
    (.ok (putD q (dReg f.rd)
      ((List.range 32).foldl (fun acc i =>
        if op (byteAt q.x[ra] i) (byteAt q.x[rb] i) then acc ||| (1#64 <<< i) else acc) 0#64)
      (q.xTag[ra] || q.xTag[rb])))))))

/-- An operation on the bytes of two accumulators. -/
def bytewise (op : BitVec 8 → BitVec 8 → BitVec 8) (a b : BitVec 256) : BitVec 256 :=
  ofBytes32 (fun i => op (byteAt a i) (byteAt b i))

/-- XMOV Xd, Xa (R208). -/
def execXmov (p : ProcId) (f : RFmt) (s : State) : Out :=
  issueReg p 4 1 (xop1 f (fun a => a)) s

/-- XAND Xd, Xa, Xb (R208). -/
def execXand (p : ProcId) (f : RFmt) (s : State) : Out :=
  issueReg p 4 1 (xop2 f (fun a b => a &&& b)) s

/-- The bitwise OR of OP 0x20, SUB 0x02 (R208). -/
def execXOr (p : ProcId) (f : RFmt) (s : State) : Out :=
  issueReg p 4 1 (xop2 f (fun a b => a ||| b)) s

/-- XXOR Xd, Xa, Xb (R208). -/
def execXxor (p : ProcId) (f : RFmt) (s : State) : Out :=
  issueReg p 4 1 (xop2 f (fun a b => a ^^^ b)) s

/-- XADDB Xd, Xa, Xb: bytewise modulo 256 (R208). -/
def execXaddb (p : ProcId) (f : RFmt) (s : State) : Out :=
  issueReg p 4 1 (xop2 f (bytewise (fun a b => a + b))) s

/-- XSUBB Xd, Xa, Xb: bytewise modulo 256 (R208). -/
def execXsubb (p : ProcId) (f : RFmt) (s : State) : Out :=
  issueReg p 4 1 (xop2 f (bytewise (fun a b => a - b))) s

/-- XCMPEQB Dd, Xa, Xb (R208). -/
def execXcmpeqb (p : ProcId) (f : RFmt) (s : State) : Out :=
  issueReg p 4 1 (xcmp f (fun a b => a == b)) s

/-- XCMPLTB Dd, Xa, Xb (R208). -/
def execXcmpltb (p : ProcId) (f : RFmt) (s : State) : Out :=
  issueReg p 4 1 (xcmp f (fun a b => a.ult b)) s

/-- XSEL Xd, Xa, Xb, Dm: byte i from Xa where Dm bit i is 1, else from Xb; m = AUX[3:0] (R208). -/
def execXsel (p : ProcId) (f : RFmt) (s : State) : Out :=
  issueReg p 4 1 (fun q =>
    let m := dReg (f.aux.truncate 4)
    noExt f.e (withX f.rd (fun rd => withX f.ra (fun ra => withX f.rb (fun rb => readyX q rd (readyX q ra (readyX q rb
      (.ok (putX q rd (ofBytes32 (fun i => if q.d[m].getLsbD i then byteAt q.x[ra] i else byteAt q.x[rb] i))
        (q.xTag[ra] || q.xTag[rb] || q.dTag[m])))))))))) s

/-- XINS Xd, Da, #k: lane AUX[1:0]; the other lanes of Xd stay, so its tag is a source's too (R208, R225). -/
def execXins (p : ProcId) (f : RFmt) (s : State) : Out :=
  issueReg p 4 1 (fun q => noExt f.e (withX f.rd (fun rd => readyX q rd
    (.ok (putX q rd (putLane q.x[rd] (f.aux.toNat % 4) q.d[dReg f.ra]) (q.xTag[rd] || q.dTag[dReg f.ra])))))) s

/-- XEXT Dd, Xa, #k: lane AUX[1:0] (R208). -/
def execXext (p : ProcId) (f : RFmt) (s : State) : Out :=
  issueReg p 4 1 (fun q => noExt f.e (withX f.ra (fun ra => readyX q ra
    (.ok (putD q (dReg f.rd) (laneOf q.x[ra] (f.aux.toNat % 4)) q.xTag[ra]))))) s

/-- XSHLB Xd, Xa, #n: AUX[4:0] bytes toward higher byte numbers (R208). -/
def execXshlb (p : ProcId) (f : RFmt) (s : State) : Out :=
  issueReg p 4 1 (xop1 f (fun a => a <<< (8 * (f.aux.toNat % 32)))) s

/-- XSHRB Xd, Xa, #n: AUX[4:0] bytes toward lower byte numbers (R208). -/
def execXshrb (p : ProcId) (f : RFmt) (s : State) : Out :=
  issueReg p 4 1 (xop1 f (fun a => a >>> (8 * (f.aux.toNat % 32)))) s

/-- XZERO Xd: zero, untagged (R208, R225). -/
def execXzero (p : ProcId) (f : RFmt) (s : State) : Out :=
  issueReg p 4 1 (fun q => noExt f.e (withX f.rd (fun rd => readyX q rd (.ok (putX q rd 0#256 false))))) s

/-- XBCAST Xd, Da: every byte Da[7:0] (R208). -/
def execXbcast (p : ProcId) (f : RFmt) (s : State) : Out :=
  issueReg p 4 1 (fun q => noExt f.e (withX f.rd (fun rd => readyX q rd
    (.ok (putX q rd (ofBytes32 (fun _ => byteAt q.d[dReg f.ra] 0)) q.dTag[dReg f.ra]))))) s

/-- XREV Xd, Xa: the 32 bytes reversed (R208). -/
def execXrev (p : ProcId) (f : RFmt) (s : State) : Out :=
  issueReg p 4 1 (xop1 f (fun a => ofBytes32 (fun i => byteAt a (31 - i)))) s

/-- XMASKL Dd, Da: 2^min(Da, 32) - 1 (R208). -/
def execXmaskl (p : ProcId) (f : RFmt) (s : State) : Out :=
  issueReg p 4 1 (fun q => noExt f.e (.ok (putD q (dReg f.rd)
    (BitVec.ofNat 64 (2 ^ min q.d[dReg f.ra].toNat 32 - 1)) q.dTag[dReg f.ra]))) s

end Sys2Proof.Machine
end

