-- ==== Sys2Proof/Machine/LopeAlu.lean ====
section
/-! DEFINITION. Lope arithmetic on D and A registers: OP 0x01-0x0A of R208, with the tags of R225 and the faults of
R196, R204, R205 and R227. -/

set_option linter.unusedVariables false

namespace Sys2Proof.Machine

open Sys2Proof

/-- Dd = op Da. -/
def alu1 (f : RFmt) (op : BitVec 64 → BitVec 64) (q : Proc) : LRes Proc :=
  noExt f.e (.ok (putD q (dReg f.rd) (op q.d[dReg f.ra]) q.dTag[dReg f.ra]))

/-- Dd = Da op Db, tagged when either source is. -/
def alu2 (f : RFmt) (op : BitVec 64 → BitVec 64 → BitVec 64) (q : Proc) : LRes Proc :=
  noExt f.e (.ok (putD q (dReg f.rd) (op q.d[dReg f.ra] q.d[dReg f.rb]) (q.dTag[dReg f.ra] || q.dTag[dReg f.rb])))

/-- Dd = Da op sign-extended immediate. -/
def aluI (f : IFmt) (op : BitVec 64 → BitVec 64 → BitVec 64) (q : Proc) : LRes Proc :=
  match immOf 64 true f with
  | none => .flt fIllegal 0
  | some i => .ok (putD q (dReg f.rd) (op q.d[dReg f.ra] i) q.dTag[dReg f.ra])

/-- Length in bytes of a format I instruction (R204). -/
def lenI (f : IFmt) : Nat := if f.e then 8 else 4

/-- Shift amount of a register shift and of an immediate shift (R208). -/
def shiftBy (b : BitVec 64) : Nat := b.toNat % 64
def shiftImm (f : RFmt) : Nat := f.aux.toNat % 64

/-- Bytes in reverse order. -/
def bswap64 (v : BitVec 64) : BitVec 64 :=
  (List.range 8).foldl (fun acc i => acc ||| ((byteAt v i).zeroExtend 64 <<< (8 * (7 - i)))) 0#64

/-- Number of set bits. -/
def popCount (v : BitVec 64) : BitVec 64 :=
  BitVec.ofNat 64 ((List.range 64).filter (fun i => v.getLsbD i)).length

/-- All ones or zero. -/
def maskOf (b : Bool) : BitVec 64 := if b then BitVec.allOnes 64 else 0#64

/-- MOV Dd, Da (R208). -/
def execMov (p : ProcId) (f : RFmt) (s : State) : Out :=
  issueReg p 4 1 (alu1 f (fun a => a)) s

/-- ADD Dd, Da, Db, modulo 2^64 (R208). -/
def execAdd (p : ProcId) (f : RFmt) (s : State) : Out :=
  issueReg p 4 1 (alu2 f (fun a b => a + b)) s

/-- SUB Dd, Da, Db, modulo 2^64 (R208). -/
def execSub (p : ProcId) (f : RFmt) (s : State) : Out :=
  issueReg p 4 1 (alu2 f (fun a b => a - b)) s

/-- AND Dd, Da, Db, modulo 2^64 (R208). -/
def execAnd (p : ProcId) (f : RFmt) (s : State) : Out :=
  issueReg p 4 1 (alu2 f (fun a b => a &&& b)) s

/-- OR Dd, Da, Db, modulo 2^64 (R208). -/
def execOr (p : ProcId) (f : RFmt) (s : State) : Out :=
  issueReg p 4 1 (alu2 f (fun a b => a ||| b)) s

/-- XOR Dd, Da, Db, modulo 2^64 (R208). -/
def execXor (p : ProcId) (f : RFmt) (s : State) : Out :=
  issueReg p 4 1 (alu2 f (fun a b => a ^^^ b)) s

/-- NOT Dd, Da (R208). -/
def execNot (p : ProcId) (f : RFmt) (s : State) : Out :=
  issueReg p 4 1 (alu1 f (fun a => ~~~a)) s

/-- NEG Dd, Da (R208). -/
def execNeg (p : ProcId) (f : RFmt) (s : State) : Out :=
  issueReg p 4 1 (alu1 f (fun a => -a)) s

/-- SHL Dd, Da, Db: left by Db[5:0] (R208). -/
def execShl (p : ProcId) (f : RFmt) (s : State) : Out :=
  issueReg p 4 1 (alu2 f (fun a b => a <<< shiftBy b)) s

/-- SHR Dd, Da, Db: right logically by Db[5:0] (R208). -/
def execShr (p : ProcId) (f : RFmt) (s : State) : Out :=
  issueReg p 4 1 (alu2 f (fun a b => a >>> shiftBy b)) s

/-- SAR Dd, Da, Db: right arithmetically by Db[5:0] (R208). -/
def execSar (p : ProcId) (f : RFmt) (s : State) : Out :=
  issueReg p 4 1 (alu2 f (fun a b => a.sshiftRight (shiftBy b))) s

/-- SHLI Dd, Da, #n: left by AUX[5:0] (R208). -/
def execShli (p : ProcId) (f : RFmt) (s : State) : Out :=
  issueReg p 4 1 (alu1 f (fun a => a <<< shiftImm f)) s

/-- SHRI Dd, Da, #n (R208). -/
def execShri (p : ProcId) (f : RFmt) (s : State) : Out :=
  issueReg p 4 1 (alu1 f (fun a => a >>> shiftImm f)) s

/-- SARI Dd, Da, #n (R208). -/
def execSari (p : ProcId) (f : RFmt) (s : State) : Out :=
  issueReg p 4 1 (alu1 f (fun a => a.sshiftRight (shiftImm f))) s

/-- MUL Dd, Da, Db: low 64 bits (R208). -/
def execMul (p : ProcId) (f : RFmt) (s : State) : Out :=
  issueReg p 4 3 (alu2 f (fun a b => a * b)) s

/-- MULHU Dd, Da, Db: high 64 bits of the unsigned product (R208). -/
def execMulhu (p : ProcId) (f : RFmt) (s : State) : Out :=
  issueReg p 4 3 (alu2 f (fun a b => BitVec.ofNat 64 (a.toNat * b.toNat / 2 ^ 64))) s

/-- DIVU Dd, Da, Db: unsigned quotient, all ones when Db = 0 (R208); TAG_TIME when either source is tagged (R227). -/
def execDivu (p : ProcId) (f : RFmt) (s : State) : Out :=
  issueReg p 4 36 (fun q =>
    if f.e then .flt fIllegal 0
    else if q.dTag[dReg f.ra] || q.dTag[dReg f.rb] then .flt fTagTime 0
    else alu2 f (fun a b => if b == 0#64 then BitVec.allOnes 64 else a / b) q) s

/-- CMP Da, Db: NZCV from Da - Db, FT the OR of the tags; RD must be 0 (R208, R225). -/
def execCmp (p : ProcId) (f : RFmt) (s : State) : Out :=
  issueReg p 4 1 (fun q =>
    if f.e || !(f.rd == 0#4) then .flt fIllegal 0
    else
      let sr := cmpSr q.sr q.d[dReg f.ra] q.d[dReg f.rb] (q.dTag[dReg f.ra] || q.dTag[dReg f.rb])
      .ok { q with sr := sr }) s

/-- CMPEQM Dd, Da, Db: all ones if equal, else 0 (R208). -/
def execCmpeqm (p : ProcId) (f : RFmt) (s : State) : Out :=
  issueReg p 4 1 (alu2 f (fun a b => maskOf (a == b))) s

/-- CMPLTM Dd, Da, Db: all ones if unsigned less, else 0 (R208). -/
def execCmpltm (p : ProcId) (f : RFmt) (s : State) : Out :=
  issueReg p 4 1 (alu2 f (fun a b => maskOf (a.ult b))) s

/-- SEL Dd, Da, Db, Dm: (Dm & Da) | (~Dm & Db), m = AUX[3:0]; the tag takes in Dm's (R208, R225). -/
def execSel (p : ProcId) (f : RFmt) (s : State) : Out :=
  issueReg p 4 1 (fun q =>
    let m := dReg (f.aux.truncate 4)
    noExt f.e (.ok (putD q (dReg f.rd) ((q.d[m] &&& q.d[dReg f.ra]) ||| (~~~q.d[m] &&& q.d[dReg f.rb]))
      (q.dTag[dReg f.ra] || q.dTag[dReg f.rb] || q.dTag[m])))) s

/-- BSWAP Dd, Da (R208). -/
def execBswap (p : ProcId) (f : RFmt) (s : State) : Out :=
  issueReg p 4 1 (alu1 f bswap64) s

/-- POPC Dd, Da (R208). -/
def execPopc (p : ProcId) (f : RFmt) (s : State) : Out :=
  issueReg p 4 1 (alu1 f popCount) s

/-- SETT Dd, Da: copy, tagged (R208, R225). -/
def execSett (p : ProcId) (f : RFmt) (s : State) : Out :=
  issueReg p 4 1 (fun q => noExt f.e (.ok (putD q (dReg f.rd) q.d[dReg f.ra] true))) s

/-- CLT Dd, Da: copy, untagged; privileged (R208, R225). -/
def execClt (p : ProcId) (f : RFmt) (s : State) : Out :=
  issueReg p 4 1 (fun q => noExt f.e (needPriv q (.ok (putD q (dReg f.rd) q.d[dReg f.ra] false)))) s

/-- ADDI Dd, Da, #imm: immediate sign-extended (R208). -/
def execAddi (p : ProcId) (f : IFmt) (s : State) : Out :=
  issueReg p (lenI f) 1 (aluI f (fun a b => a + b)) s

/-- ANDI Dd, Da, #imm: immediate sign-extended (R208). -/
def execAndi (p : ProcId) (f : IFmt) (s : State) : Out :=
  issueReg p (lenI f) 1 (aluI f (fun a b => a &&& b)) s

/-- ORI Dd, Da, #imm: immediate sign-extended (R208). -/
def execOri (p : ProcId) (f : IFmt) (s : State) : Out :=
  issueReg p (lenI f) 1 (aluI f (fun a b => a ||| b)) s

/-- XORI Dd, Da, #imm: immediate sign-extended (R208). -/
def execXori (p : ProcId) (f : IFmt) (s : State) : Out :=
  issueReg p (lenI f) 1 (aluI f (fun a b => a ^^^ b)) s

/-- MOVI Dd, #imm: sign-extended, untagged; RA must be 0 (R208, R225). -/
def execMovi (p : ProcId) (f : IFmt) (s : State) : Out :=
  issueReg p (lenI f) 1 (fun q =>
    match immOf 64 true f with
    | none => .flt fIllegal 0
    | some i => if f.ra == 0#4 then .ok (putD q (dReg f.rd) i false) else .flt fIllegal 0) s

/-- CMPI Da, #imm: NZCV from Da - immediate; RD must be 0 (R208). -/
def execCmpi (p : ProcId) (f : IFmt) (s : State) : Out :=
  issueReg p (lenI f) 1 (fun q =>
    match immOf 64 true f with
    | none => .flt fIllegal 0
    | some i => if f.rd == 0#4 then .ok { q with sr := cmpSr q.sr q.d[dReg f.ra] i q.dTag[dReg f.ra] }
                else .flt fIllegal 0) s

/-- MOVA Ad, Aa (R208). -/
def execMova (p : ProcId) (f : RFmt) (s : State) : Out :=
  issueReg p 4 1 (fun q => noExt f.e (withA f.rd (fun rd => withA f.ra (fun ra => .ok (putA q rd q.a[ra]))))) s

/-- MOVAD Ad, Da: Da[31:0]; TAG_ADDR when Da is tagged (R208, R227). -/
def execMovad (p : ProcId) (f : RFmt) (s : State) : Out :=
  issueReg p 4 1 (fun q => noExt f.e (withA f.rd (fun rd =>
    if q.dTag[dReg f.ra] then .flt fTagAddr 0 else .ok (putA q rd (q.d[dReg f.ra].truncate 32))))) s

/-- MOVDA Dd, Aa: zero-extended, untagged (R208, R225). -/
def execMovda (p : ProcId) (f : RFmt) (s : State) : Out :=
  issueReg p 4 1 (fun q => noExt f.e (withA f.ra (fun ra =>
    .ok (putD q (dReg f.rd) (q.a[ra].zeroExtend 64) false)))) s

/-- ADDA Ad, Aa, Ab, modulo 2^32 (R208). -/
def execAdda (p : ProcId) (f : RFmt) (s : State) : Out :=
  issueReg p 4 1 (fun q => noExt f.e (withA f.rd (fun rd => withA f.ra (fun ra => withA f.rb (fun rb =>
    .ok (putA q rd (q.a[ra] + q.a[rb]))))))) s

/-- SUBA Ad, Aa, Ab, modulo 2^32 (R208). -/
def execSuba (p : ProcId) (f : RFmt) (s : State) : Out :=
  issueReg p 4 1 (fun q => noExt f.e (withA f.rd (fun rd => withA f.ra (fun ra => withA f.rb (fun rb =>
    .ok (putA q rd (q.a[ra] - q.a[rb]))))))) s

/-- CMPA Aa, Ab: NZCV from Aa - Ab, FT = 0 (R208). -/
def execCmpa (p : ProcId) (f : RFmt) (s : State) : Out :=
  issueReg p 4 1 (fun q => noExt f.e (withA f.ra (fun ra => withA f.rb (fun rb =>
    .ok { q with sr := cmpSr q.sr q.a[ra] q.a[rb] false })))) s

/-- ADDAI Ad, Aa, #imm: immediate sign-extended (R208). -/
def execAddai (p : ProcId) (f : IFmt) (s : State) : Out :=
  issueReg p (lenI f) 1 (fun q =>
    match immOf 32 true f with
    | none => .flt fIllegal 0
    | some i => withA f.rd (fun rd => withA f.ra (fun ra => .ok (putA q rd (q.a[ra] + i))))) s

/-- MOVAI Ad, #imm: zero-extended (R208). -/
def execMovai (p : ProcId) (f : IFmt) (s : State) : Out :=
  issueReg p (lenI f) 1 (fun q =>
    match immOf 32 false f with
    | none => .flt fIllegal 0
    | some i => withA f.rd (fun rd => .ok (putA q rd i))) s

end Sys2Proof.Machine
end

