-- ==== Sys2Proof/Machine/LopeBranch.lean ====
section
/-! DEFINITION. Lope branches (R207, R208, R227). -/

set_option linter.unusedVariables false

namespace Sys2Proof.Machine

open Sys2Proof

/-- The target of a branch: its address plus 4 × offset (R207). -/
def branchTo (q : Proc) (off : BitVec 32) : BitVec 32 := q.pc + off * 4#32

/-- B cond: TAG_BRANCH when COND is not 0 and the flags are tagged; COND 0xF is ILLEGAL (R207, R227). -/
def execB (p : ProcId) (f : BFmt) (s : State) : Out :=
  issueJump p (fun q =>
    if f.e then .flt fIllegal 0
    else match condHolds q.sr f.cond.toNat with
    | none => .flt fIllegal 0
    | some t =>
      if !(f.cond == 0#4) && bitAt q.sr srFt then .flt fTagBranch 0
      else if t then .ok (q, 2, some (branchTo q (f.off.signExtend 32)))
      else .ok (q, 1, none)) s

/-- BL: A7 takes the return address; COND must be 0 (R208). -/
def execBl (p : ProcId) (f : BFmt) (s : State) : Out :=
  issueJump p (fun q =>
    if f.e || !(f.cond == 0#4) then .flt fIllegal 0
    else .ok (putA q 7 (q.pc + 4#32), 2, some (branchTo q (f.off.signExtend 32)))) s

/-- JR Aa; SUB must be 0 (R208). -/
def execJr (p : ProcId) (f : RFmt) (sub : BitVec 5) (s : State) : Out :=
  issueJump p (fun q =>
    if f.e || !(sub == 0#5) then .flt fIllegal 0
    else withA f.ra (fun ra => .ok (q, 2, some q.a[ra]))) s

/-- A branch on a D register: TAG_BRANCH when it is tagged (R208, R227). -/
def branchOn (f : BZFmt) (taken : BitVec 64 → Bool) (q : Proc) : LRes (Proc × Nat × Option (BitVec 32)) :=
  if f.e then .flt fIllegal 0
  else if q.dTag[dReg f.ds] then .flt fTagBranch 0
  else if taken q.d[dReg f.ds] then .ok (q, 2, some (branchTo q (f.off.signExtend 32)))
  else .ok (q, 1, none)

/-- BZ Da: branch if zero (R208). -/
def execBz (p : ProcId) (f : BZFmt) (s : State) : Out := issueJump p (branchOn f (fun v => v == 0#64)) s

/-- BNZ Da: branch if not zero (R208). -/
def execBnz (p : ProcId) (f : BZFmt) (s : State) : Out := issueJump p (branchOn f (fun v => !(v == 0#64))) s

end Sys2Proof.Machine
end

