-- ==== Sys2Proof/Machine/Regs.lean ====
section
/-! DEFINITION. The register blocks in the address space of the custodian cores (R249, R253, R400, R447, R464, R471, R490):
where they stand, what a load reads and does, what a store does. Each block takes 4 KiB; an offset of a block that no register
has reads as zero and takes no write. A register narrower than the access is read or written with it; a write that does not
cover a register leaves it. -/

set_option linter.unusedVariables false

namespace Sys2Proof.Machine

open Sys2Proof

/-- A register as a load finds it: offset, bytes, value. -/
structure RegView where
  off : Nat
  bytes : Nat
  val : Nat

/-- The blocks. -/
inductive RegBlock where
  | prot (engine : Nat)
  | vq
  | wd
  | pins
  | rng (cu : Nat)
  | cv (unit : Nat)
  | fn

/-- The block and offset of an address of custodian core `cu`. -/
def regBlock (cu a : Nat) : Option (RegBlock × Nat) :=
  let o := a % 0x1000
  if 0xC0000000 ≤ a ∧ a < 0xC2000000 then
    let n := (a - 0xC0000000) % 0x100000 / 0x1000
    if n < 16 then some (.prot (16 * ((a - 0xC0000000) / 0x100000) + n), o) else none
  else if a / 0x1000 = 0xC2000 then some (.vq, o)
  else if a / 0x1000 = 0xC3000 then some (.wd, o)
  else if a / 0x1000 = 0xC4000 then some (.pins, o)
  else if a / 0x1000 = 0xC5000 then some (.rng cu, o)
  else if a / 0x1000 = 0xC6000 then some (.cv (o / 0x100), o % 0x100)
  else if a / 0x1000 = 0xC7000 then some (.fn, o)
  else none

/-- PSTAT (R249). -/
def protStat (u : ProtUnit) : Nat :=
  badReg u.standby * 65536 + 4 * b2n u.rerr + 2 * b2n u.loadBusy.isSome + b2n u.revokeBusy

/-- The words of a rule set at a base offset. -/
def ruleWords (base : Nat) (r : RuleSet) : List RegView :=
  let b := ruleSetBytes r
  (List.range 68).map (fun i => { off := base + 4 * i, bytes := 4, val := leAt b (4 * i) 4 })

/-- Bits of sixteen pins. -/
def pinBits (f : Nat → Bool) : Nat := ((List.range 16).map (fun n => b2n (f n) * 2 ^ n)).foldl (· + ·) 0

/-- WD_REMAIN in ms (R400). -/
def wdRemain (d : Dev) : Nat := d.cust.wd.period - (d.tb.now - d.cust.wd.since) / ms 1

/-- The registers of a block. -/
def regViews (b : RegBlock) (d : Dev) : List RegView :=
  let r := fun (off bytes val : Nat) => ({ off := off, bytes := bytes, val := val } : RegView)
  match b with
  | .prot p =>
    let u := protOf d p
    [r 0 4 (b2n u.slock), r 4 4 (protStat u), r 8 4 u.gen, r 0xC 4 u.fencedGen, r 0x10 4 0, r 0x14 4 0,
     r 0x18 2 (u.sbySrc * 256 + u.actSrc)] ++ ruleWords 0x100 u.active ++ ruleWords 0x300 u.standby
  | .vq => [r 0 4 d.vq.ctl, r 4 4 d.vq.base, r 8 4 d.vq.size, r 0xC 4 d.vq.head, r 0x10 4 d.vq.tail, r 0x14 4 d.vq.lost]
  | .wd =>
    let w := d.cust.wd
    [r 0 4 (b2n w.en), r 4 4 w.period, r 8 4 0, r 0xC 4 (wdRemain d), r 0x10 4 w.resets.length, r 0x14 4 w.total]
  | .pins =>
    (List.range 16).map (fun n => r (4 * n) 4 (pinOf d n).cfg) ++
      [r 0x40 2 d.per.gp.out, r 0x44 2 (pinBits (fun n => pinIn n d == 1)),
       r 0x48 2 (pinBits (fun n => (pinOf d n).window.isSome)), r 0x4C 4 d.per.gp.aborts]
  | .rng cu =>
    let x := instOf d (112 + cu)
    let none_ := decide (x.buf.length < 8) || x.force || (instCore d (112 + cu)).isNone
    [r 0 8 (if none_ then 0 else leVal (x.buf.take 8)), r 8 4 (rngStat d cu), r 0xC 4 0, r 0x10 4 x.reseeds]
  | .cv k =>
    let u := lookD {} d.cv k
    [r 0 4 u.ctl, r 8 8 u.addr, r 0x10 4 u.seq, r 0x14 1 u.alive, r 0x18 4 0, r 0x20 8 0, r 0x28 8 u.state,
     r 0x30 8 (u.state ^^^ crcXor (cvPoly u)), r 0x38 8 u.len]
  | .fn => [r 0 4 d.audit.fnCtl, r 4 4 d.audit.fnBase, r 8 4 d.audit.fnHead, r 0xC 4 d.audit.fnTail, r 0x10 4 d.audit.fnOver]

/-- The byte of a block at an offset. -/
def regByte (l : List RegView) (o : Nat) : Byte :=
  match l.find? (fun r => decide (r.off ≤ o ∧ o < r.off + r.bytes)) with
  | some r => BitVec.ofNat 8 (r.val / 256 ^ (o - r.off))
  | none => 0#8

/-- What a read of a register at its full width does to it (R9, R252, R463). -/
def regReadEffect (b : RegBlock) (off : Nat) (d : Dev) : Dev :=
  match b, off with
  | .vq, 0x0C => { d with vq := { d.vq with sealed := d.vq.written } }
  | .vq, 0x14 => { d with vq := { d.vq with lost := 0 } }
  | .pins, 0x4C => onGp (fun g => { g with aborts := 0 }) d
  | .rng cu, 0 =>
    let x := instOf d (112 + cu)
    if decide (x.buf.length < 8) || x.force || (instCore d (112 + cu)).isNone then
      onInst (112 + cu) (fun x => { x with errEmpty := true }) d
    else onInst (112 + cu) (fun x => { x with buf := x.buf.drop 8 }) d
  | .fn, 0x10 => { d with audit := { d.audit with fnOver := 0 } }
  | _, _ => d

/-- A read of some bytes of RNG_DATA sets ERR_WIDTH (R466). -/
def rngNarrow (b : RegBlock) (o n : Nat) (d : Dev) : Dev :=
  match b with
  | .rng cu => if o < 8 ∧ ¬(o = 0 ∧ 8 ≤ n) then onInst (112 + cu) (fun x => { x with errWidth := true }) d else d
  | _ => d

/-- A load of `n` bytes by custodian core `cu`: the bytes, whether they are tagged (R466), and the device afterwards. -/
def regLoad (cu a n : Nat) (d : Dev) : Option (Bytes × Bool × Dev) :=
  match regBlock cu a with
  | none => none
  | some (b, o) =>
    let l := regViews b d
    let bytes := (List.range n).map (fun i => regByte l (o + i))
    let hit := l.filter (fun r => decide (o ≤ r.off ∧ r.off + r.bytes ≤ o + n))
    let d := hit.foldl (fun d r => regReadEffect b r.off d) (rngNarrow b o n d)
    let tagged := match b with | .rng _ => decide (o < 8) | _ => false
    some (bytes, tagged, d)

/-- A power of two that VQ_SIZE may hold (R253). -/
def vqSizeOk (n : Nat) : Bool := has [256, 512, 1024, 2048, 4096, 8192, 16384] n

/-- A write of a whole register. -/
def regWrite (b : RegBlock) (off v : Nat) (s : State) : State :=
  let dev := fun (f : Dev → Dev) => { s with dev := f s.dev }
  let v32 := BitVec.ofNat 32 v
  match b with
  | .prot p =>
    if h : p < 512 then
      let e : Fin 512 := ⟨p, h⟩
      if off = 0 then nextState s (execPctlWrite e v32 s)
      else if off = 0x10 then nextState s (execRevoke e v32 s)
      else if off = 0x14 then nextState s (execLoad e (Fin.ofNat 64 v) s)
      else if 0x300 ≤ off ∧ off < 0x410 then nextState s (execStandbySetWrite e (Fin.ofNat 68 ((off - 0x300) / 4)) v32 s)
      else s
    else s
  | .vq =>
    if off = 0 then dev (fun d => { d with vq := { d.vq with ctl := v % 4 } })
    else if off = 4 then dev (fun d => { d with vq := { d.vq with base := v / 4096 * 4096 } })
    else if off = 8 then
      dev (fun d => if bitOf d.vq.ctl 0 || !vqSizeOk v then d else { d with vq := { d.vq with size := v } })
    else if off = 0x10 then nextState s (execVqTailWrite v32 s)
    else s
  | .wd =>
    if off = 0 then dev (fun d => if d.cust.wd.en then d else onWd (fun w => { w with en := bitOf v 0 }) d)
    else if off = 4 then
      dev (fun d => if d.cust.wd.periodSet || decide (v < 10 ∨ 10000 < v) then d
        else onWd (fun w => { w with period := v, periodSet := true }) d)
    else if off = 8 then nextState s (execWdKick v32 s)
    else s
  | .pins =>
    if off < 0x40 then
      dev (fun d => match pinCfgWrite (off / 4) v false d with
        | .ok d => d
        | .error _ => d)
    else if off = 0x40 then dev (fun d => (List.range 16).foldl (fun d n => pinLevel n (bitOf v n) d) d)
    else s
  | .rng cu =>
    let k : Fin 4 := Fin.ofNat 4 cu
    if off = 8 then nextState s (execRngStatWrite k v32 s)
    else if off = 0xC then nextState s (execRngCtlReseed k v32 s)
    else s
  | .cv k =>
    let u : Fin 16 := Fin.ofNat 16 k
    let set := fun (f : CvUnit → CvUnit) => dev (onCv k f)
    if off = 0 then nextState s (execCvCtlWrite u v32 s)
    else if off = 8 then set (fun c => { c with addr := v })
    else if off = 0x10 then set (fun c => { c with seq := v })
    else if off = 0x14 then set (fun c => { c with alive := v })
    else if off = 0x18 then nextState s (execCvStart u v32 s)
    else if off = 0x28 then set (fun c => { c with state := v % 2 ^ crcWidth (cvPoly c) })
    else if off = 0x38 then set (fun c => { c with len := v })
    else s
  | .fn =>
    if off = 0 then dev (fun d => { d with audit := { d.audit with fnCtl := v % 4 } })
    else if off = 4 then dev (fun d => { d with audit := { d.audit with fnBase := v / 4096 * 4096 } })
    else if off = 0xC then nextState s (execFnTailWrite v32 s)
    else s

/-- A store by custodian core `cu`: every register that it covers is written, and 1, 2, 4 or 8 bytes at CV_DATA are absorbed
(R473). -/
def regStore (cu a : Nat) (bytes : Bytes) (s : State) : Option State :=
  match regBlock cu a with
  | none => none
  | some (b, o) =>
    let n := bytes.length
    match b with
    | .cv k =>
      if 0x20 ≤ o ∧ o + n ≤ 0x28 then some (nextState s (execCvData (Fin.ofNat 16 k) bytes s))
      else some (cover b o n bytes s)
    | _ => some (cover b o n bytes s)
where
  /-- The registers covered, in the order of their addresses. -/
  cover (b : RegBlock) (o n : Nat) (bytes : Bytes) (s : State) : State :=
    let hit := (regViews b s.dev).filter (fun r => decide (o ≤ r.off ∧ r.off + r.bytes ≤ o + n))
    hit.foldl (fun s r => regWrite b r.off (leAt bytes (r.off - o) r.bytes) s) s

end Sys2Proof.Machine
end

