-- ==== Sys2Proof/Machine/LopeMem.lean ====
section
/-! DEFINITION. Lope loads, stores and masked field moves (R203, R206-R211, R225-R227, R238-R241). -/

set_option linter.unusedVariables false

namespace Sys2Proof.Machine

open Sys2Proof

/-! Accesses. -/

/-- Cycles of an access (R203, R241): 2 to scratch and custodian SRAM, 4 to 20 to string data memory by address and cycle of
issue, at least 150 ns through the HBM window; a denied one takes as long. -/
def memCycles (p a : Nat) (q : Proc) (denied : Bool) (d : Dev) : Nat :=
  if 512 ≤ p then 2
  else match spaceOf a with
  | .general => 4 + Config.stringLatency a q.cycle.toNat % 17
  | .system => 4 + Config.stringLatency a q.cycle.toNat % 17
  | .hbm => (150 + (if denied then 0 else Config.hbmLatency a d.tb.now % 251)) * coreMHz d / 1000
  | _ => 2


/-- An access under REPU outside scratch and string data memory, or custodian SRAM on a custodian core (R195, R219). -/
def repuSlow (p a : Nat) (q : Proc) : Bool :=
  repuOn q && !(if p < 512 then decide (a ≤ 0x7FFF ∨ (0x100000 ≤ a ∧ a ≤ 0x1FFFFF)) else decide (a < 0x400000))

/-- The bytes of a load, their tag (R225, R241, R466) and the state it leaves: a denied load reads zero, tagged. -/
def loadBytes (p : Nat) (q : Proc) (a n : Nat) (s : State) : LRes (Bytes × Bool × State) :=
  if repuSlow p a q then .flt fRepIllegal a
  else if decide (512 ≤ p) && decide (0x400000 ≤ a) then
    match regLoad (p - 512) a n s.dev with
    | some (b, t, d) => .ok (b, t, { s with dev := d })
    | none => .flt fUnmapped a
  else match checkAccess s.dev p q a n true false with
  | .unmapped => .flt fUnmapped a
  | .denied k r => .ok (zeros n, true, denyAccess p k r a false s)
  | .granted phys hbm secret =>
    if poisonedAt phys n s.dev then .flt fPoison a
    else if memBad s.dev phys n then .flt fMemUe a
    else .ok (readBytes s.mem phys n, if hbm then secret else !untaggedStore phys && readTags s.memTags phys n, s)


/-- Bytes written at a physical address, with their tag where the memory holds tags. -/
def putBytes (phys : Nat) (hbm : Bool) (b : Bytes) (t : Bool) (s : State) : State :=
  { s with mem := writeBytes s.mem phys b, dev := healWords phys b.length s.dev,
           memTags := if hbm || untaggedStore phys then s.memTags else storeTags s.memTags phys b.length t }

/-- A store: a denied one changes nothing; tagged data through the HBM window needs a SECRET region (R227, R241). -/
def storeBytes (p : Nat) (q : Proc) (a : Nat) (b : Bytes) (t : Bool) (s : State) : LRes State :=
  if repuSlow p a q then .flt fRepIllegal a
  else if decide (512 ≤ p) && decide (0x400000 ≤ a) then
    match regStore (p - 512) a b s with
    | some s => .ok s
    | none => .flt fUnmapped a
  else match checkAccess s.dev p q a b.length false true with
  | .unmapped => .flt fUnmapped a
  | .denied k r => .ok (denyAccess p k r a true s)
  | .granted phys hbm secret =>
    if hbm && t && !secret then .flt fTagStore a
    else if memBad (healWords phys b.length s.dev) phys b.length then .flt fMemUe a
    else .ok (putBytes phys hbm b t s)

/-- The protection check denies an access. -/
def isDenied (p : Nat) (q : Proc) (a n : Nat) (rd wr : Bool) (s : State) : Bool :=
  decide (p < 512) && (match checkAccess s.dev p q a n rd wr with
    | .denied .. => true
    | _ => false)

/-- The base register after a MODE 2 access: its value then, plus the immediate (R206). -/
def postBase (f : MFmt) (b : Option (Fin 8 × BitVec 32)) (q : Proc) : Proc :=
  match b with
  | some (r, _) => putA q r (q.a[r] + f.imm16.signExtend 32)
  | none => q

/-- A load that finds poisoned data reports POISON with the physical address (R49, R479, R488). -/
def notePoison (p : ProcId) (len : Nat) (body : State → Proc → LRes (State × Proc)) (s : State) : State :=
  let q := procOf s.dev p.val
  if !canIssue s.dev p.val q || (boundaryFault s.dev p.val q len).isSome then s
  else match body s q with
    | .flt c a =>
      if !(c == fPoison) then s
      else match checkAccess s.dev p.val q a 1 true false with
      | .granted phys _ _ => { s with dev := reportPoison (srcProc p.val) phys 32 s.dev }
      | _ => s
    | _ => s

/-- Issue an instruction that reads memory: data found poisoned is reported, and the instruction takes its fault. -/
def issueRead (p : ProcId) (len cycles : Nat) (body : State → Proc → LRes (State × Proc)) (s : State) : Out :=
  issue p len cycles body (notePoison p len body s)

/-- Issue a load of `n` bytes, whose value `put_` writes. -/
def issueLoad (p : ProcId) (f : MFmt) (n : Nat) (ready : Proc → LRes Unit) (put_ : Proc → Bytes → Bool → Proc)
    (s : State) : Out :=
  let q0 := procOf s.dev p.val
  let cycles := match effAddr q0 f with
    | .ok (a, _) => memCycles p.val a.toNat q0 (isDenied p.val q0 a.toNat n true false s) s.dev
    | _ => 1
  issueRead p (if f.e then 8 else 4) cycles (fun s q =>
    match ready q with
    | .hold => .hold
    | .flt c a => .flt c a
    | .ok _ => match effAddr q f with
      | .flt c a => .flt c a
      | .hold => .hold
      | .ok (a, base) =>
        if a.toNat % n ≠ 0 then .flt fAlign a.toNat
        else match loadBytes p.val q a.toNat n s with
        | .flt c x => .flt c x
        | .hold => .hold
        | .ok (b, t, s) => .ok (s, postBase f base (put_ q b t))) s

/-- Issue a store of the bytes that `data` takes, with their tag. -/
def issueStore (p : ProcId) (f : MFmt) (n : Nat) (data : Proc → LRes (Bytes × Bool)) (s : State) : Out :=
  let q0 := procOf s.dev p.val
  let cycles := match effAddr q0 f with
    | .ok (a, _) => memCycles p.val a.toNat q0 (isDenied p.val q0 a.toNat n false true s) s.dev
    | _ => 1
  issue p (if f.e then 8 else 4) cycles (fun s q =>
    match data q with
    | .hold => .hold
    | .flt c a => .flt c a
    | .ok (b, t) => match effAddr q f with
      | .flt c a => .flt c a
      | .hold => .hold
      | .ok (a, base) =>
        if a.toNat % n ≠ 0 then .flt fAlign a.toNat
        else match storeBytes p.val q a.toNat b t s with
        | .flt c x => .flt c x
        | .hold => .hold
        | .ok s => .ok (s, postBase f base q)) s

/-! Loads. -/

/-- A load into Dd, zero-extended. -/
def loadD (p : ProcId) (f : MFmt) (n : Nat) (s : State) : Out :=
  issueLoad p f n (fun _ => .ok ()) (fun q b t => putD q (dReg f.rd) (BitVec.ofNat 64 (leVal b)) t) s

/-- LD.B Dd, addr (R208). -/
def execLdB (p : ProcId) (f : MFmt) (s : State) : Out := loadD p f 1 s

/-- LD.H Dd, addr (R208). -/
def execLdH (p : ProcId) (f : MFmt) (s : State) : Out := loadD p f 2 s

/-- LD.W Dd, addr (R208). -/
def execLdW (p : ProcId) (f : MFmt) (s : State) : Out := loadD p f 4 s

/-- LD.D Dd, addr (R208). -/
def execLdD (p : ProcId) (f : MFmt) (s : State) : Out := loadD p f 8 s

/-- An A register operand exists. -/
def hasA (f : BitVec 4) : LRes Unit := if (aReg f).isSome then .ok () else .flt fIllegal 0

/-- LDA Ad, addr (R208): an A register holds no tag. -/
def execLda (p : ProcId) (f : MFmt) (s : State) : Out :=
  issueLoad p f 4 (fun _ => hasA f.rd) (fun q b _ => match aReg f.rd with
    | some r => putA q r (BitVec.ofNat 32 (leVal b))
    | none => q) s

/-- An X register operand exists and waits for no JOBX result (R221). -/
def hasX (f : BitVec 4) (q : Proc) : LRes Unit :=
  match xReg f with
  | some r => if q.xPend[r] then .hold else .ok ()
  | none => .flt fIllegal 0

/-- LDX Xd, addr (R208). -/
def execLdx (p : ProcId) (f : MFmt) (s : State) : Out :=
  issueLoad p f 32 (hasX f.rd) (fun q b t => match xReg f.rd with
    | some r => putX q r (xOfBytes b) t
    | none => q) s

/-! Stores. -/

/-- A store of the low bytes of the D register that RD names. -/
def storeD (p : ProcId) (f : MFmt) (n : Nat) (s : State) : Out :=
  issueStore p f n (fun q => .ok (le n q.d[dReg f.rd].toNat, q.dTag[dReg f.rd])) s

/-- ST.B Da, addr (R208). -/
def execStB (p : ProcId) (f : MFmt) (s : State) : Out := storeD p f 1 s

/-- ST.H Da, addr (R208). -/
def execStH (p : ProcId) (f : MFmt) (s : State) : Out := storeD p f 2 s

/-- ST.W Da, addr (R208). -/
def execStW (p : ProcId) (f : MFmt) (s : State) : Out := storeD p f 4 s

/-- ST.D Da, addr (R208). -/
def execStD (p : ProcId) (f : MFmt) (s : State) : Out := storeD p f 8 s

/-- STA Aa, addr (R208, R227): never tagged. -/
def execSta (p : ProcId) (f : MFmt) (s : State) : Out :=
  issueStore p f 4 (fun q => match aReg f.rd with
    | some r => .ok (le 4 q.a[r].toNat, false)
    | none => .flt fIllegal 0) s

/-- STX Xa, addr (R208). -/
def execStx (p : ProcId) (f : MFmt) (s : State) : Out :=
  issueStore p f 32 (fun q => match xReg f.rd with
    | some r => if q.xPend[r] then .hold else .ok (bytesOfX q.x[r], q.xTag[r])
    | none => .flt fIllegal 0) s

/-! Masked field moves. -/

/-- The span of a masked field move: its address and MAX, all in scratch or all in string data memory (R209, R211,
R219). -/
def fieldSpan (p : Nat) (f : MFFmt) (q : Proc) : LRes (Nat × Nat) :=
  let n := f.max1.toNat + 1
  let a := (q.a[abReg f.ab] + f.off.zeroExtend 32).toNat
  let last := a + n - 1
  let ok := if 512 ≤ p then decide (last < 0x400000)
    else decide (last ≤ 0x7FFF) || decide (0x100000 ≤ a ∧ last ≤ 0x1FFFFF)
  if f.e || decide (32 < n) then .flt fIllegal 0 else if ok then .ok (a, n)
  else .flt (if repuOn q then fRepIllegal else fUnmapped) a

/-- Cycles of a masked field move (R208). -/
def fieldCycles (p : Nat) (f : MFFmt) (rd wr : Bool) (s : State) : Nat :=
  let q := procOf s.dev p
  match fieldSpan p f q with
  | .ok (a, n) => memCycles p a q (isDenied p q a n rd wr s) s.dev + (n + 7) / 8 - 1
  | _ => 1

/-- The bytes kept of a field: min(Dl, MAX) (R209). -/
def fieldKept (f : MFFmt) (n : Nat) (q : Proc) : Nat := min q.d[dReg f.dl].toNat n

/-- MFLD Xd, [A[AB] + OFF], Dl, MAX, S (R209, R225). -/
def execMfld (p : ProcId) (f : MFFmt) (s : State) : Out :=
  issueRead p 4 (fieldCycles p.val f true false s) (fun s q =>
    match fieldSpan p.val f q with
    | .flt c a => .flt c a
    | .hold => .hold
    | .ok (a, n) => readyX q (xReg2 f.xd) (match loadBytes p.val q a n s with
      | .flt c x => .flt c x
      | .hold => .hold
      | .ok (b, t, s) =>
        .ok (s, putX q (xReg2 f.xd) (xOfBytes (b.take (fieldKept f n q))) (t || q.dTag[dReg f.dl] || f.s)))) s

/-- MFST Xs, [A[AB] + OFF], Dl, MAX (R210, R226): reads and writes back MAX bytes; S must be 0. -/
def execMfst (p : ProcId) (f : MFFmt) (s : State) : Out :=
  issueRead p 4 (fieldCycles p.val f true true s) (fun s q =>
    if f.s then .flt fIllegal 0
    else match fieldSpan p.val f q with
    | .flt c a => .flt c a
    | .hold => .hold
    | .ok (a, n) => readyX q (xReg2 f.xd) (match checkAccess s.dev p.val q a n true true with
      | .unmapped => .flt fUnmapped a
      | .denied k r => .ok (denyAccess p.val k r a true s, q)
      | .granted phys hbm _ =>
        if poisonedAt phys n s.dev then .flt fPoison a
        else if memBad s.dev phys n then .flt fMemUe a
        else
          let kept := fieldKept f n q
          let b := (bytesOfX q.x[xReg2 f.xd]).take kept ++ (readBytes s.mem phys n).drop kept
          .ok ({ s with mem := writeBytes s.mem phys b,
                        memTags := mfstTags s.memTags phys n (q.xTag[xReg2 f.xd] || q.dTag[dReg f.dl]) }, q))) s
where
  /-- Every word that MFST touches takes the OR of its old tag, the data's and Dl's. -/
  mfstTags (t : FMap Bool) (a n : Nat) (v : Bool) : FMap Bool := if v then fillTags t a n true else t

end Sys2Proof.Machine
end

