-- ==== Sys2Proof/Machine/Malath.lean ====
section
/-! DEFINITION. The Malath responder's requests: HELLO, READ, WRITE, segmented transfers, the heartbeat and the end of idle
associations (R404-R428). -/

set_option linter.unusedVariables false

namespace Sys2Proof.Machine

open Sys2Proof

/-! Frames. -/

/-- The carrier of a peer brings frames: the MGT link is up, the CAN controller is on the bus, the physical function lives. -/
def carrierUp (p : MalPeer) (d : Dev) : Bool :=
  match p with
  | .mgt .. => d.mal.mgtUp
  | .can _ => decide (d.per.can.state < 2)
  | .inband pf => fnLive d pf

/-- The counter of frames that fail their carrier's checks (R412, R414). -/
def countBad (p : MalPeer) (d : Dev) : Dev :=
  match p with
  | .mgt .. => bump (dk 0x8010 2) d
  | .can _ => bump (dk 0x8010 3) d
  | .inband _ => d

/-- The rule of R415 on the ALIVE byte of a CAN frame of an association: whether it is accepted. -/
def aliveCheck (a alive : Nat) (d : Dev) : Bool × Dev :=
  match assocOf d a with
  | none => (false, d)
  | some x =>
    if !(x.link == .can) then (true, d)
    else
      let take := fun (v : Nat) (d : Dev) => onAssoc a (fun x => { x with aliveRx := some (v, d.tb.now) }) d
      match x.aliveRx with
      | none => (true, take alive d)
      | some (last, t) =>
        let n := (alive + 256 - last) % 256
        if t + sec 1 ≤ d.tb.now then (true, take alive d)
        else if n = 0 ∨ 128 ≤ n then (false, take last (bump (dk 0x8010 4) d))
        else (true, take alive (bumpBy (n - 1) (dk 0x8010 5) d))

/-- A PDU arrives (R409-R417): the association that it belongs to, begun by a first frame; none where it goes no further. A first
frame that finds the table full is answered without an association. -/
def arrive (h : MalHdr) (len : Nat) (d : Dev) : Option Nat × Dev :=
  if !responderUp d || !carrierUp h.peer d then (none, d)
  else
  let d := canReceived h.peer d
  if !h.intact then (none, countBad h.peer d)
  else if !h.lenOk || decide (maxPdu (peerLink h.peer) < 8 + len) || windowBusy h.peer d then (none, d)
  else match beginAssoc h.peer d with
  | (none, d) =>
    let p : Pdu := { ver := if peerLink h.peer == .can then 2 else 1, typ := 0x7F, txn := h.txn, actor := 0,
                     payload := errorBytes .busyRetry 6 0 0 }
    (none, sendPdu h.peer 0 p (bump (dk 0x8010 7) d))
  | (some a, d) =>
    match aliveCheck a h.alive d with
    | (true, d) => (some a, d)
    | (_, d) => (none, d)

/-- A request arrives and is taken up (R418). -/
def arriveRequest (h : MalHdr) (len : Nat) (d : Dev) : Option Nat × Dev :=
  match arrive h len d with
  | (none, d) => (none, d)
  | (some a, d) => match enterTxn a h.txn d with
    | (true, d) => (some a, d)
    | (_, d) => (none, d)

/-- The version of an association. -/
def assocVersion (d : Dev) (a : Nat) : Nat := ((assocOf d a).map (fun x => x.version)).getD 0

/-- Entries that are served in zeroised hold (R504). -/
def zeroisedEntry (i : Nat) : Bool := decide (0x1000 ≤ i ∧ i ≤ 0x10FF) || decide (0x6800 ≤ i ∧ i ≤ 0x6805)

/-- Checks 1 and 2 of R419. `held` says that zeroised hold serves the request, `hobbled` that the hobble does (R428). -/
def openGate (a version : Nat) (held hobbled : Bool) (d : Dev) : Option DictErr :=
  if d.life.zeroised && !held then some { st := .policy, mcode := 2, reason := 4 }
  else if d.life.hobbled && !d.life.zeroised && !hobbled then some (plainErr .hobbled)
  else if assocVersion d a < version then some (plainErr .version)
  else none

/-- Check 7 (R417): the role a request acts with, REASON 6 where its actor is not bound to the association. -/
def actorRole (a actor : Nat) (d : Dev) : Except DictErr Role :=
  if actor = 0 then .ok (baseRole d (.malath a 0))
  else match look d.cust.officers actor with
  | some o =>
    let bound := d.cust.logins.any (fun l => l.2.officer == actor && l.2.bound == some a)
    if decide (3 ≤ assocVersion d a) && bound && !o.revoked then .ok (officerRole o) else .error (rightsErr 6)
  | none => .error (rightsErr 6)

/-- Answer a request with an error. -/
def refusePdu (a txn : Nat) (e : DictErr) (d : Dev) : Dev := answerError a txn e.st e.mcode e.reason e.detail d

/-- A response held for an association, by the low byte of its handle (R404, R424). -/
def heldResponse (a sub : Nat) (d : Dev) : Option Bytes :=
  match assocOf d a with
  | none => none
  | some x => (x.responses.find? (fun r => r.1 % 256 == sub && decide (d.tb.now < r.2.1))).map (fun r => r.2.2)

/-- Checks 4 to 8 of a read of an entry, by READ (`room` bytes at most) or by an upload, which names a TCODE. -/
def readTarget (a i s actor : Nat) (tcode room : Option Nat) (d : Dev) : Except DictErr (DictRow × Bytes) :=
  match dictRow i s with
  | none => .error noEntry
  | some r =>
    let v := entryValue a i s r d
    if tcode.any (fun t => !(t == r.typ)) then .error (typeErr r.typ)
    else if room.any (fun n => decide (n < v.length)) then .error (tooLong v.length)
    else match actorRole a actor d with
    | .error e => .error e
    | .ok role =>
      if readReason i s r role d = 0 then .ok (r, v) else .error (rightsErr (readReason i s r role d))

/-! HELLO, READ, WRITE. -/

/-- The highest version that both sides offer (R417). -/
def commonVersion (offer : Nat) : Option Nat := [3, 2, 1].find? (fun v => bitOf offer v)

/-- HELLO resets an association's transfers, answer cache and subscription (R417). -/
def resetAssoc (a version : Nat) (subscribe : Bool) (d : Dev) : Dev :=
  onAssoc a (fun x => { x with version := version, subscribed := subscribe, held := [] })
    (dropXfers (fun _ x => x.assoc == a && !x.staged) d)

/-- HELLO (R411, R417). -/
def hello (h : MalHdr) (offer hflags maxp : Nat) (d : Dev) : Dev :=
  match arriveRequest h 4 d with
  | (none, d) => d
  | (some a, d) =>
    if 2 ≤ hflags then refusePdu a h.txn (plainErr .format) d
    else match commonVersion offer with
    | none => refusePdu a h.txn (plainErr .version) d
    | some v => answerPdu a h.txn 0x81
        (le 1 v ++ le 1 a ++ le 2 (maxPdu (peerLink h.peer)) ++ le 8 d.guard.otp.serial)
        (resetAssoc a v (bitOf hflags 0) d)
def execHello (h : MalHdr) (offer hflags : BitVec 8) (maxp : BitVec 16) (s : State) : Out :=
  onDev (hello h offer.toNat hflags.toNat maxp.toNat) s

/-- A domain officer's access to the level of a pin of another world or domain is denied: a violation of KIND 0x09 that names
the pin (R250, R447). The custodian makes the access for the officer, in the officer's domain. -/
def denyPin (e : DictErr) (a i sub actor : Nat) (wr : Bool) (s : State) : State :=
  let level := decide (0x7810 ≤ i ∧ i ≤ 0x781F) && (sub == 2 || (sub == 3 && !wr)) && e == rightsErr 1
  match actorRole a actor s.dev with
  | .ok (.domainOfficer n) =>
    if level && !(entryDomain i sub s.dev == some n) then
      violate { time := s.dev.tb.now, source := srcCustodian, kind := 0x09, flags := b2n wr, domain := n, region := 0xFF,
                gen := 0, last := s.dev.tb.now, count := 1, addr := i - 0x7810 } s
    else s
  | _ => s

/-- READ (R408, R411, R419). A BATCH moves its cursor by the records that it returned (R486). -/
def readPdu (h : MalHdr) (i sub resv : Nat) (s : State) : State :=
  match arriveRequest h 4 s.dev with
  | (none, d) => { s with dev := d }
  | (some a, d) =>
    match openGate a 1 (zeroisedEntry i) true d with
    | some e => { s with dev := refusePdu a h.txn e d }
    | none =>
      if resv ≠ 0 then { s with dev := refusePdu a h.txn (plainErr .format) d }
      else match readTarget a i sub h.actor none (some (maxPdu (peerLink h.peer) - 15)) d with
      | .error e => denyPin e a i sub h.actor false { s with dev := refusePdu a h.txn e d }
      | .ok (r, v) =>
        let stale := custodianKeeps i sub r && !d.life.custUp
        let body := le 2 i ++ le 1 sub ++ le 1 r.typ ++ le 1 (b2n stale) ++ le 2 v.length ++ v
        { s with dev := answerPdu a h.txn 0x90 body (advanceCursor a i sub (touchLogin h.actor d)) }
def execRead (h : MalHdr) (index : BitVec 16) (sub resv : BitVec 8) (s : State) : Out :=
  .next (readPdu h index.toNat sub.toNat resv.toNat s)

/-- ACTOR of a Malath write in its record (R478). -/
def actorPdu (a actor : Nat) : Nat := if actor ≠ 0 then actorOfficer actor else if 48 ≤ a then actorFn (a - 48) else actorOf 0 0

/-- Check 9 of R419 on a write of an entry: Standby accepts GAIT_REQUEST (R540), and the responder serves the cursors itself
(R486). -/
def writable (i s : Nat) (d : Dev) : Bool :=
  if d.life.gait == 3 then i == 0x1200 && s == 2 else d.life.custUp || i == 0x6001

/-- The write of a value: check 10, and the effect. -/
def installValue (a i s actor : Nat) (role : Role) (r : DictRow) (v : Bytes) (d : Dev) : Except DictErr Dev :=
  if !(writable i s d) then .error (plainErr .custodianUnavailable)
  else
    let w : Writer := { assoc := a, actor := actorPdu a actor, role := role }
    match applyEntry w i s r v d with
    | .error e => .error (writeErr e)
    | .ok _ =>
      if (isThrottled d || !d.life.ready) && !(i == 0x6001) && !(d.life.gait == 3) then .error (plainErr .busyRetry)
      else .ok (writeEntry w i s r v d).2

/-- Checks 4 to 8 of a write. -/
def writeRights (a i s tcode n actor : Nat) (d : Dev) : Except DictErr (DictRow × Role) :=
  match writeTarget i s tcode n with
  | .error e => .error e
  | .ok r => match actorRole a actor d with
    | .error e => .error e
    | .ok role => if writeReason i s r role d = 0 then .ok (r, role) else .error (rightsErr (writeReason i s r role d))

/-- WRITE (R408, R411, R419, R421). `vlenOk` says that VLEN is the number of value bytes. -/
def writePdu (h : MalHdr) (i sub tcode : Nat) (vlenOk : Bool) (v : Bytes) (s : State) : State :=
  match arriveRequest h (6 + v.length) s.dev with
  | (none, d) => { s with dev := d }
  | (some a, d) =>
    match openGate a 1 false false d with
    | some e => { s with dev := refusePdu a h.txn e d }
    | none =>
      if !vlenOk then { s with dev := refusePdu a h.txn (plainErr .format) d }
      else match writeRights a i sub tcode v.length h.actor d with
      | .error e => denyPin e a i sub h.actor true { s with dev := refusePdu a h.txn e d }
      | .ok (r, role) =>
        let d := touchLogin h.actor d
        match installValue a i sub h.actor role r v d with
        | .error e => { s with dev := refusePdu a h.txn e d }
        | .ok d =>
          if cardTimedOut i sub d then { s with dev := refusePdu a h.txn (plainErr .timeout) d }
          else { s with dev := answerPdu a h.txn 0x91 (le 2 i ++ le 1 sub ++ le 1 0) d }
def execWrite (h : MalHdr) (index : BitVec 16) (sub tcode : BitVec 8) (vlenOk : Bool) (value : Bytes) (s : State) : Out :=
  .next (afterWrite (writePdu h index.toNat sub.toNat tcode.toNat vlenOk value s))

/-! Segmented transfers. -/

/-- SEGSIZE and WINDOW of a link (R422). -/
def segSize (l : MalLink) : Nat := maxPdu l - 14
def segWindow (l : MalLink) : Nat := if l == .can then 4 else 16

/-- The transfer of an association and an XFER. -/
def xferKey (a x : Nat) : Nat := a * 256 + x
def onXfer (k : Nat) (f : Xfer → Xfer) (d : Dev) : Dev :=
  match look d.mal.xfers k with
  | none => d
  | some x => { d with mal := { d.mal with xfers := ins d.mal.xfers k (f x) } }
def delXfer (k : Nat) (d : Dev) : Dev := { d with mal := { d.mal with xfers := del d.mal.xfers k } }

/-- A transfer that still runs. -/
def liveXfer (a x : Nat) (d : Dev) : Option Xfer := (look d.mal.xfers (xferKey a x)).filter (fun t => !t.staged)

/-- A PDU of a transfer, which is no answer that is held (R418). -/
def sendXfer (a typ txn : Nat) (payload : Bytes) (d : Dev) : Dev :=
  sendTo a { ver := assocVersion d a, typ := typ, txn := txn, actor := 0, payload := payload } d

/-- An error to a PDU of a transfer. -/
def segError (a txn : Nat) (e : DictErr) (d : Dev) : Dev :=
  sendXfer a 0x7F txn (errorBytes e.st e.mcode e.reason e.detail) (bump (dk 0x8010 7) d)

/-- Send the segments of an upload from `sent` to the end of its window (R423). -/
def sendSegs (a x : Nat) (d : Dev) : Dev :=
  match liveXfer a x d, assocOf d a with
  | some t, some y =>
    let size := segSize y.link
    let till := min t.total (t.nextOff + segWindow y.link * size)
    let offs := (List.range ((till - t.sent + size - 1) / size)).map (fun n => t.sent + n * size)
    let d := offs.foldl (fun d o =>
      sendXfer a 0x21 t.txn (le 1 x ++ le 1 0 ++ le 4 o ++ slice t.data o (min size (till - o))) d) d
    onXfer (xferKey a x) (fun t => { t with sent := max t.sent till }) d
  | _, _ => d

/-- Two requests for a transfer: what SEG_INIT copies or opens, the value with its checks passed. -/
def initTarget (h : MalHdr) (a xdir i s tcode total : Nat) (d : Dev) : Except DictErr (Bytes × Role) :=
  let upload := fun (v : Bytes) => Except.ok (v, Role.nobody)
  if xdir = 1 ∧ i = 0xFFFF then
    match heldResponse a s d with
    | none => .error noEntry
    | some v =>
      if tcode ≠ 8 then .error (typeErr 8)
      else match actorRole a h.actor d with
      | .error e => .error e
      | .ok _ => upload v
  else if xdir = 1 then
    match readTarget a i s h.actor (some tcode) none d with
    | .error e => .error e
    | .ok (_, v) => upload v
  else if xdir = 0 then
    match writeTarget i s tcode 0 with
    | .error e => .error e
    | .ok r =>
      if typeLimit r.typ < total then .error (tooLong total)
      else match writeRights a i s tcode total h.actor d with
      | .error e => .error e
      | .ok (_, role) => if writable i s d then .ok ([], role) else .error (plainErr .custodianUnavailable)
  else if 16 * 2 ^ 20 < total then .error (tooLong total)
  else match actorRole a h.actor d with
  | .error e => .error e
  | .ok role => if d.life.custUp && !(d.life.gait == 3) then .ok ([], role) else .error (plainErr .custodianUnavailable)

/-- Transfers that run, of an association and of the device (R422). -/
def xferCount (p : Xfer → Bool) (d : Dev) : Nat := (d.mal.xfers.filter (fun e => !e.2.staged && p e.2)).length

/-- A download has arrived whole: it is staged, or its value is written once and answered with the TXN of SEG_INIT (R422). -/
def finishDownload (a x : Nat) (d : Dev) : Dev :=
  match liveXfer a x d with
  | none => d
  | some t =>
    if t.dir = 2 then onXfer (xferKey a x) (fun t => { t with staged := true, segs := [], lastMove := d.tb.now }) d
    else
      let d := delXfer (xferKey a x) d
      match dictRow t.index t.sub with
      | none => segError a t.txn noEntry d
      | some r => match installValue a t.index t.sub t.actor t.role r t.data d with
        | .error e => segError a t.txn e d
        | .ok d =>
          if cardTimedOut t.index t.sub d then segError a t.txn (plainErr .timeout) d
          else sendXfer a 0x91 t.txn (le 2 t.index ++ le 1 t.sub ++ le 1 0) d

/-- A transfer of no bytes is over at once; the segments of an upload follow its answer. -/
def startXfer (a x : Nat) (d : Dev) : Dev :=
  match liveXfer a x d with
  | none => d
  | some t =>
    if t.dir = 1 then (if t.total = 0 then delXfer (xferKey a x) d else sendSegs a x d)
    else if t.total = 0 then finishDownload a x d else d

/-- SEG_INIT (R422, R404). -/
def segInit (h : MalHdr) (xdir resv i s tcode total : Nat) (d : Dev) : Dev :=
  match arriveRequest h 10 d with
  | (none, d) => d
  | (some a, d) =>
    match openGate a 2 (xdir == 1 && (zeroisedEntry i || i == 0xFFFF)) (xdir == 1) d with
    | some e => refusePdu a h.txn e d
    | none =>
      if 2 < xdir ∨ resv ≠ 0 then refusePdu a h.txn (plainErr .format) d
      else match initTarget h a xdir i s tcode total d with
      | .error e => refusePdu a h.txn e d
      | .ok (v, role) =>
        let no := firstBelow 256 (fun x => (look d.mal.xfers (xferKey a x)).isNone)
        if 8 ≤ xferCount (fun t => t.assoc == a) d ∨ 64 ≤ xferCount (fun _ => true) d then refusePdu a h.txn limitErr d
        else match no with
        | none => refusePdu a h.txn limitErr d
        | some x =>
          let link := peerLink h.peer
          let size : Nat := if xdir = 1 then v.length else total
          let t : Xfer := { assoc := a, dir := xdir, index := i, sub := s, total := size, txn := h.txn, actor := h.actor,
                            data := v, role := role, lastMove := d.tb.now, lastAck := d.tb.now }
          let d := advanceUpload xdir a i s (touchLogin h.actor d)
          let d := { d with mal := { d.mal with xfers := ins d.mal.xfers (xferKey a x) t } }
          startXfer a x
            (answerPdu a h.txn 0xA0 (le 1 x ++ le 1 (segWindow link) ++ le 2 (segSize link) ++ le 4 size) d)
where
  /-- An upload of BATCH or FBATCH moves its cursor. -/
  advanceUpload (xdir a i s : Nat) (d : Dev) : Dev := if xdir = 1 then advanceCursor a i s d else d
def execSegInit (h : MalHdr) (xdir resv : BitVec 8) (index : BitVec 16) (sub tcode : BitVec 8) (total : BitVec 32)
    (s : State) : Out :=
  .next (afterWrite { s with
    dev := segInit h xdir.toNat resv.toNat index.toNat sub.toNat tcode.toNat total.toNat s.dev })

/-- A PDU of a transfer arrives: its association and the transfer, with checks 1 to 3 of R419 passed. -/
def arriveSeg (h : MalHdr) (len x resv : Nat) (d : Dev) : Option (Nat × Xfer) × Dev :=
  match arrive h len d with
  | (none, d) => (none, d)
  | (some a, d) =>
    let d := acceptPdu a d
    let up := (liveXfer a x d).any (fun t => t.dir == 1)
    match openGate a 2 up up d with
    | some e => (none, segError a h.txn e d)
    | none =>
      if resv ≠ 0 then (none, segError a h.txn (plainErr .format) d)
      else match liveXfer a x d with
      | none => (none, segError a h.txn (unknownXfer x) d)
      | some t => (some (a, t), d)

/-- Bytes of a download that have arrived without a gap: segments are joined on as long as one reaches further. -/
def joinSegs : Nat → Bytes → List (Nat × Bytes) → Bytes
  | 0, b, _ => b
  | n + 1, b, segs =>
    match segs.find? (fun s => decide (s.1 ≤ b.length) && decide (b.length < s.1 + s.2.length)) with
    | none => b
    | some s => joinSegs n (b ++ s.2.drop (b.length - s.1)) segs

/-- A segment lies in the window, and its offset is not held (R423). -/
def keepsSeg (l : MalLink) (t : Xfer) (off n : Nat) : Bool :=
  decide (0 < n) && decide (t.nextOff ≤ off) && decide (off + n ≤ min t.total (t.nextOff + segWindow l * segSize l)) &&
    !t.segs.any (fun s => decide (s.1 ≤ off) && decide (off < s.1 + s.2.length))

/-- SEG_DATA (R423). -/
def segData (h : MalHdr) (x resv off : Nat) (b : Bytes) (d : Dev) : Dev :=
  match arriveSeg h (6 + b.length) x resv d with
  | (none, d) => d
  | (some (a, t), d) =>
    if t.dir = 1 then segError a h.txn (unknownXfer x) d
    else if !(d.life.custUp) || d.life.gait == 3 then segError a h.txn (plainErr .custodianUnavailable) d
    else
      let segs := if keepsSeg (peerLink h.peer) t off b.length then t.segs ++ [(off, b)] else t.segs
      let data := joinSegs segs.length t.data segs
      let move := if data.length = t.data.length then t.lastMove else d.tb.now
      let left := segs.filter (fun s => decide (data.length < s.1 + s.2.length))
      let d := onXfer (xferKey a x) (fun t => { t with segs := left, data := data, nextOff := data.length, lastMove := move }) d
      let d := sendXfer a 0x22 t.txn (le 1 x ++ le 1 0 ++ le 4 data.length) d
      if data.length = t.total then finishDownload a x d else d
def execSegData (h : MalHdr) (xfer resv : BitVec 8) (offset : BitVec 32) (data : Bytes) (s : State) : Out :=
  .next (afterWrite { s with dev := segData h xfer.toNat resv.toNat offset.toNat data s.dev })

/-- SEG_ACK (R423): NEXT advances and the window moves on; at TOTAL the transfer ends. -/
def segAck (h : MalHdr) (x resv next : Nat) (d : Dev) : Dev :=
  match arriveSeg h 6 x resv d with
  | (none, d) => d
  | (some (a, t), d) =>
    if t.dir ≠ 1 then segError a h.txn (unknownXfer x) d
    else if t.total < next then d
    else if next = t.total then delXfer (xferKey a x) d
    else
      let move := if t.nextOff < next then d.tb.now else t.lastMove
      let up := fun (t : Xfer) =>
        { t with nextOff := max t.nextOff next, sent := max t.sent next, lastMove := move, lastAck := d.tb.now }
      sendSegs a x (onXfer (xferKey a x) up d)
def execSegAck (h : MalHdr) (xfer resv : BitVec 8) (next : BitVec 32) (s : State) : Out :=
  onDev (segAck h xfer.toNat resv.toNat next.toNat) s

/-- SEG_ABORT from the peer (R423). -/
def segAbort (h : MalHdr) (x : Nat) (d : Dev) : Dev :=
  match arriveSeg h 2 x 0 d with
  | (none, d) => d
  | (some (a, _), d) => dropXfers (fun k _ => k == xferKey a x) d
def execSegAbort (h : MalHdr) (xfer status : BitVec 8) (s : State) : Out := onDev (segAbort h xfer.toNat) s

/-- SEG_ACK_TIMEOUT (R423): with no SEG_ACK for 200 ms, the device sends again from the last NEXT acknowledged. -/
def segResend (a x : Nat) (d : Dev) : Dev :=
  match liveXfer a x d with
  | none => d
  | some t =>
    if t.dir ≠ 1 ∨ !(responderUp d) then d
    else
      let d := reach (t.lastAck + ms 200) d
      sendSegs a x (onXfer (xferKey a x) (fun t => { t with sent := t.nextOff, lastAck := d.tb.now }) d)
def execSegAckTimeout (assoc : Fin 52) (xfer : BitVec 8) (s : State) : Out := onDev (segResend assoc.val xfer.toNat) s

/-- SEG_PROGRESS_TIMEOUT (R423): a transfer without progress for 5 s is aborted. -/
def segStalled (a x : Nat) (d : Dev) : Dev :=
  match liveXfer a x d with
  | none => d
  | some t =>
    if !(responderUp d) then d
    else
      let d := reach (t.lastMove + sec 5) d
      dropXfers (fun k _ => k == xferKey a x) (sendXfer a 0x23 t.txn (le 1 x ++ le 1 Status.timeout.code) d)
def execSegProgressTimeout (assoc : Fin 52) (xfer : BitVec 8) (s : State) : Out :=
  onDev (segStalled assoc.val xfer.toNat) s

/-- STAGING_EXPIRE (R422): a staged object that no request has named for 600 s is discarded. -/
def execStagingExpire (assoc : Fin 52) (xfer : BitVec 8) (s : State) : Out :=
  onDev (fun d =>
    let k := xferKey assoc.val xfer.toNat
    match (look d.mal.xfers k).filter (fun t => t.staged) with
    | none => d
    | some t => delXfer k (reach (t.lastMove + sec 600) d)) s

/-! The heartbeat (R425-R427). -/

/-- The device sends heartbeats (R427, R504). -/
def heartbeats (d : Dev) : Bool :=
  responderUp d && !d.life.hobbled && !d.life.zeroised && (d.life.custUp || d.life.gait == 3)

/-- The payload of a heartbeat (R425). -/
def heartbeatBytes (seq : Nat) (d : Dev) : Bytes :=
  let state := b2n d.life.ready + 2 * b2n d.life.custUp + 4 * b2n (d.life.gait == 3) + 8 * b2n (!d.audit.faultTable.isEmpty)
  le 4 seq ++ le 1 state ++ le 1 d.life.gait ++ le 1 d.life.reef ++ le 1 (lcState d) ++ le 8 d.tb.now

/-- Destinations on MGT (R426): those of HB_DEST and the associations that subscribed, each with its version. -/
def heartbeatDests (d : Dev) : List (MalPeer × Nat) :=
  let blob := blobOf d (dk 0x1020 5)
  let listed := (List.range (blob.length / 18)).map (fun n =>
    (MalPeer.mgt (leVal (slice blob (18 * n) 16).reverse) (leAt blob (18 * n + 16) 2), 1))
  let subs := d.mal.assocs.filterMap (fun e =>
    if e.2.subscribed && e.2.link == .mgt then some (e.2.peer, e.2.version) else none)
  subs ++ listed.filter (fun p => !subs.any (fun q => q.1 == p.1))

/-- A heartbeat on CAN: the one still unsent is abandoned (R444). -/
def heartbeatCan (d : Dev) : Dev :=
  let old := d.per.can.queue.filter (fun f => f.heartbeat)
  let d := bumpBy old.length (dk 0x7808 7) (onCan (fun c => { c with queue := c.queue.filter (fun f => !f.heartbeat) }) d)
  let ident := canIdent 0x04 0xFF (canNode d)
  let p : Pdu := { ver := 2, typ := 0x40, txn := 0, actor := 0, payload := heartbeatBytes d.mal.hbSeqCan d }
  let f : CanFrame := { ident := ident, bytes := canData ident d.mal.hbAlive (pduBytes p), queuedAt := d.tb.now, heartbeat := true }
  let d := { d with mal := { d.mal with hbSeqCan := w32 (d.mal.hbSeqCan + 1), hbAlive := (d.mal.hbAlive + 1) % 256,
                                        hbLastCan := some d.tb.now } }
  bump (dk 0x8010 9) (canQueue f d)

/-- A heartbeat on MGT. -/
def heartbeatMgt (d : Dev) : Dev :=
  let body := heartbeatBytes d.mal.hbSeqMgt d
  let d' := (heartbeatDests d).foldl (fun d e =>
    emit (.pdu e.1 { ver := e.2, typ := 0x40, txn := 0, actor := 0, payload := body }) d) d
  bump (dk 0x8010 9) { d' with mal := { d'.mal with hbSeqMgt := w32 (d'.mal.hbSeqMgt + 1), hbLastMgt := some d'.tb.now } }

/-- The moment of a link's next heartbeat: its period after the last. -/
def heartbeatDue (can : Bool) (d : Dev) : Nat :=
  let period := if can then numOf 100 d (dk 0x1020 3) else numOf 1000 d (dk 0x1020 4)
  match if can then d.mal.hbLastCan else d.mal.hbLastMgt with
  | some t => t + ms period
  | none => d.tb.now

/-- HEARTBEAT (R426, R427). -/
def execHeartbeat (can : Bool) (s : State) : Out :=
  onDev (fun d =>
    if !heartbeats d || (!can && !d.mal.mgtUp) then d
    else
      let d := reach (heartbeatDue can d) d
      if can then heartbeatCan d else heartbeatMgt d) s

/-- ASSOC_IDLE_EXPIRE (R417): an association on MGT or CAN lapses. -/
def execAssocIdleExpire (assoc : Fin 52) (s : State) : Out :=
  onDev (fun d =>
    match assocOf d assoc.val with
    | none => d
    | some x =>
      if x.link == .inband then d
      else endAssoc assoc.val (reach (x.lastFrame + sec (numOf 60 d (dk 0x1020 6))) d)) s

end Sys2Proof.Machine
end

