-- ==== Sys2Proof/Machine/Sessions.lean ====
section
/-! DEFINITION. Dual-control sessions (R397, R398, R563, R565): SESSION_OPEN, SESSION_AUTHORISE, SESSION_CANCEL,
SESSION_STATUS and their expiry; the execution of an action by its last authorisation. -/

set_option linter.unusedVariables false

namespace Sys2Proof.Machine

open Sys2Proof

/-! An action as bytes (R389, R563, R564). -/

/-- SVC of an action (R391). -/
def svcCode (a : SvcAction) : Nat :=
  match a with
  | .serviceInfo => 0x0001
  | .keyDestroy .. => 0x0100
  | .keyAttr .. => 0x0101
  | .keyImport .. => 0x0102
  | .keyInfo .. => 0x0103
  | .keyGenerate .. => 0x0104
  | .keyDerive .. => 0x0105
  | .rxscSet .. => 0x0110
  | .saCreate .. => 0x0111
  | .saEnable .. => 0x0112
  | .txArm .. => 0x0113
  | .saDelete .. => 0x0114
  | .rigAdmit .. => 0x0120
  | .rigRetire .. => 0x0121
  | .domainCreate .. => 0x0130
  | .domainDelete .. => 0x0131
  | .officerEnrol .. => 0x0140
  | .officerRevoke .. => 0x0141
  | .officerLogin .. => 0x0142
  | .officerLogout .. => 0x0143
  | .fwStage .. => 0x0160
  | .migrateBegin => 0x0161
  | .migrateReady => 0x0162
  | .migrateFinal => 0x0163
  | .migrateAbandon => 0x0164
  | .deviceReset => 0x0165
  | .hobbleUnlock => 0x0170
  | .dictWrite .. => 0x0180

/-- The officer record of R564. -/
def officerRecBytes (r : OfficerRec) : Bytes :=
  le 2 r.officer ++ le 1 r.role ++ le 1 0 ++ le 2 r.domain ++ le 2 0 ++ padTo 96 r.cardKey ++ padTo 96 r.rigEcdsa ++
    (if r.role = 1 then padTo 1952 r.rigMldsa else [])

/-- An object in an action's arguments: a staged one by its SHA-384 in place of the reference, an inline one as it stands
(R390, R397). -/
def objectArg (o : ObjRef) (b : Bytes) : Bytes :=
  if o.source == 3 then le 1 3 ++ zeros 3 ++ le 4 o.length ++ le 8 0 ++ b else padTo 48 (Config.hash 2 b)

/-- The arguments of an action as the digest takes them. Only an action that a session can hold has a use for them. -/
def actionArgs (v : Via) (a : SvcAction) (d : Dev) : Bytes :=
  match a with
  | .keyDestroy h => le 4 h
  | .keyAttr h attr => le 4 h ++ le 4 0 ++ le 8 attr
  | .rigRetire n => le 2 n ++ le 2 0
  | .domainCreate n => le 2 n ++ le 2 0
  | .domainDelete n => le 2 n ++ le 2 0
  | .officerEnrol slot n pin obj r _ => le 1 slot ++ le 1 n ++ le 2 0 ++ padTo 12 pin ++ objectArg obj (objBytes v obj (officerRecBytes r) d)
  | .officerRevoke n => le 2 n ++ le 2 0
  | .dictWrite i s t obj value => le 2 i ++ le 1 s ++ le 1 t ++ le 4 0 ++ objectArg obj (objBytes v obj value d)
  | _ => []

/-- ARG_LEN of such an action. -/
def actionLen (a : SvcAction) (args : Bytes) : Nat :=
  match actionObject a with
  | some o => if o.source == 3 then args.length else args.length - 32
  | none => args.length

/-- The action digest (R397). -/
def actionDigest (h : SvcHdr) (a : SvcAction) (d : Dev) : Bytes :=
  let args := actionArgs h.via a d
  Config.hash 2 (le 1 h.ver ++ le 1 0 ++ le 2 (svcCode a) ++ le 2 (b2n h.quiesce + 2 * b2n h.dmScope) ++
    le 2 (actionLen a args) ++ le 4 0 ++ le 2 h.officer ++ le 2 0 ++ args)

/-! Execution. -/

/-- Run an action, with its header. -/
def runAction (h : SvcHdr) (a : SvcAction) (s : State) : State :=
  let b8 := BitVec.ofNat 8
  let b16 := BitVec.ofNat 16
  let b32 := BitVec.ofNat 32
  let b64 := BitVec.ofNat 64
  nextState s (match a with
  | .serviceInfo => execServiceInfo h s
  | .keyDestroy n => execKeyDestroy h (b32 n) s
  | .keyAttr n attr => execKeyAttr h (b32 n) (b64 attr) s
  | .keyImport u f t c attr obj w => execKeyImport h (b32 u) (b8 f) (b8 t) (b8 c) (b64 attr) obj w s
  | .keyInfo n => execKeyInfo h (b32 n) s
  | .keyGenerate p t c attr => execKeyGenerate h (b32 p) (b8 t) (b8 c) (b64 attr) s
  | .keyDerive n t c attr l x => execKeyDerive h (b32 n) (b8 t) (b8 c) (b64 attr) l x s
  | .rxscSet p r w sci => execRxscSet h (b8 p) (b8 r) (b32 w) (b64 sci) s
  | .saCreate p dir r an k ssci pn salt => execSaCreate h (b8 p) (b8 dir) (b8 r) (b8 an) (b32 k) (b32 ssci) (b64 pn) salt s
  | .saEnable p dir r an => execSaEnable h (b8 p) (b8 dir) (b8 r) (b8 an) s
  | .txArm p an => execTxArm h (b8 p) (b8 an) s
  | .saDelete p dir r an => execSaDelete h (b8 p) (b8 dir) (b8 r) (b8 an) s
  | .rigAdmit obj img => execRigAdmit h obj img s
  | .rigRetire n => execRigRetire h (b16 n) s
  | .domainCreate n => execDomainCreate h (b16 n) s
  | .domainDelete n => execDomainDelete h (b16 n) s
  | .officerEnrol sl n pin obj r c => execOfficerEnrol h (b8 sl) (b8 n) pin obj r c s
  | .officerRevoke n => execOfficerRevoke h (b16 n) s
  | .officerLogin sl n o pin c => execOfficerLogin h (b8 sl) (b8 n) (b16 o) pin c s
  | .officerLogout n => execOfficerLogout h (b16 n) s
  | .fwStage obj img => execFwStage h obj img s
  | .migrateBegin => execMigrateBegin h s
  | .migrateReady => execMigrateReady h s
  | .migrateFinal => execMigrateFinal h s
  | .migrateAbandon => execMigrateAbandon h s
  | .deviceReset => execDeviceReset h s
  | .hobbleUnlock => execHobbleUnlock h s
  | .dictWrite i sub t obj v => execDictWrite h (b16 i) (b8 sub) (b8 t) obj v s)

/-! Opening (R397). -/

/-- The domain of an action's object: the one that DM_SCOPE selects. -/
def actionDomain (a : SvcAction) (d : Dev) : Option Nat :=
  match a with
  | .keyDestroy h => (look d.ks.keys (handleIndex h)).map (fun k => k.domain)
  | .keyAttr h _ => (look d.ks.keys (handleIndex h)).map (fun k => k.domain)
  | .rigRetire n => some n
  | .domainDelete n => some n
  | .officerEnrol _ _ _ _ r _ => if r.role = 1 then some r.domain else none
  | .officerRevoke n => (look d.cust.officers n).bind (fun o => if o.role == .domainOfficer then some o.domain else none)
  | .dictWrite i s _ _ _ => entryDomain i s d
  | _ => none

/-- The status that the action meets short of executing, with the scope that its session would have: checked on a copy of the
device under a session that holds nothing else. -/
def probeAction (i : Nat) (x : Session) (s : State) : Status :=
  let d := s.dev
  let probe := { x with state := 255, actionStatus := 0xFF, asker := none }
  let t := runAction { x.req.hdr with via := .authorise i 0 { answered := true, selected := true, pinSw := 0x9000, sigOk := true } }
    x.req.action { s with dev := { d with cust := { d.cust with sessions := ins d.cust.sessions i probe } } }
  let code : Nat := ((look t.dev.cust.sessions i).map (fun y => y.actionStatus)).getD 0
  (statusOfCode code).getD .ok
where
  /-- The status of a code. -/
  statusOfCode (n : Nat) : Option Status :=
    [Status.ok, .authFail, .keyInvalid, .keyUseExhausted, .keyExpired, .usageDenied, .lengthError, .faultDetected,
     .rngUnavailable, .channelClosed, .squashed, .timeout, .hobbled, .policy, .busyRetry, .format, .custodianUnavailable,
     .version].find? (fun st => st.code == n)

/-- A session still has its record: open, or ended less than 600 s ago (R398). -/
def sessionHeld (d : Dev) (x : Session) : Bool := x.state == 0 || decide (d.tb.now < x.endedAt + sec 600)

/-- The session of an ID. -/
def liveSession (d : Dev) (i : Nat) : Option Session := (look d.cust.sessions i).filter (sessionHeld d)

/-- A random nonzero ID that no session has (R397). -/
def freshSession (d : Dev) : Nat × Dev :=
  let (n, d) := freshFree d
  let v := (Config.sessionId n).toNat
  let ok := fun (i : Nat) => !(i == 0) && (look d.cust.sessions i).isNone
  ((((List.range 4096).map (fun k => (v + k) % 2 ^ 32)).find? ok).getD 1, d)

/-- An event of a session (R488). -/
def sessionEvent (ev i actor : Nat) (x : Session) (d : Dev) : Dev :=
  raise srcCustodian ev (x.scope.getD 0) actor [(4, i), (32, leVal (x.digest.take 32))] d

/-- The requester is unknown outside its own domain (R391). -/
def foreign (role : Role) (dom : Option Nat) : Bool :=
  match role, dom with
  | .tenant n, some m => !(n == m)
  | .domainOfficer n, some m => !(n == m)
  | _, _ => false

/-- The status of the action's own object reference, and the action with the staged bytes in it (R390). -/
def objectStatus (v : Via) (a : SvcAction) (d : Dev) : Status :=
  match actionObject a with
  | some o => objStatus v o d
  | none => .ok
def holdObject (v : Via) (a : SvcAction) (d : Dev) : SvcAction :=
  match a with
  | .dictWrite i s t obj value => .dictWrite i s t obj (objBytes v obj value d)
  | .keyImport u f t c a obj wrapped => .keyImport u f t c a obj (objBytes v obj wrapped d)
  | .rigAdmit obj image => .rigAdmit obj (imageNamed v obj image d)
  | .officerEnrol n l pin obj record card => .officerEnrol n l pin obj (recordNamed v obj record d) card
  | .fwStage obj image => .fwStage obj (firmwareNamed v obj image d)
  | a => a

/-- SESSION_OPEN (R397). -/
def openSession (h : SvcHdr) (req : SvcReq) (s : State) : State :=
  let unlockIt := req.action == .hobbleUnlock
  let (taken, d) := takeRequest h.via unlockIt s.dev
  let no := fun (st : Status) => { s with dev := answer h.via st [] d }
  let act := { req.hdr with via := h.via }
  if !taken then { s with dev := d }
  else
    let st := headerStatus d h unlockIt false (act.session == 0)
    if !(st == .ok) then no st
    else match roleOf d h.via h.officer, roleOf d act.via act.officer with
    | .error e, _ => no e
    | _, .error e => no e
    | .ok _, .ok role =>
      let dom := actionDomain req.action d
      let fetched := fetchObject h.via req.action d
      let no := fun (st : Status) => { s with dev := answer h.via st [] fetched.2 }
      if !(objectStatus h.via req.action d == .ok) then no (objectStatus h.via req.action d)
      else if !(fetched.1 == .ok) then no fetched.1
      else if foreign role dom then no .keyInvalid
      else if act.dmScope && dom.isNone then no .policy
      else
        let scope := if act.dmScope then dom else none
        let sc : Scope := match scope with | some n => .domain n | none => .device
        let (i, d1) := freshSession fetched.2
        let x : Session := { req := { hdr := act, action := holdObject h.via req.action d }, opener := h.via, officer := h.officer, scope := scope,
                             m := max 2 (scopeM d sc), expires := d.tb.now + sec (numOf 300 d (dk 0x1800 2)),
                             digest := actionDigest act req.action d }
        let st := probeAction i x { s with dev := d1 }
        if !(st == .ok) then no st
        else if 64 ≤ (d.cust.sessions.filter (fun e => e.2.state == 0)).length then no .busyRetry
        else if isThrottled d && !unlockIt then no .busyRetry
        else
          let d2 := dropStaged h.via req.action (touchLogin h.officer d1)
          let kept := keep (fun _ y => sessionHeld d y) d2.cust.sessions
          let d2 := { d2 with cust := { d2.cust with sessions := ins kept i x } }
          { s with dev := answer h.via .ok (sessionRecord i x) (sessionEvent 0x0106 i (actorReq d h) x d2) }
def execSessionOpen (h : SvcHdr) (req : SvcReq) (s : State) : Out := .next (openSession h req s)

/-! The other services. -/

/-- A session service's checks before its own (R16, R393): the session that its header names, where one is held. -/
def sessionRequest (h : SvcHdr) (formatOk : Bool) (d : Dev) : Option (Option Session) × Dev :=
  let x := liveSession d h.session
  let unlockIt := x.any (fun y => y.req.action == .hobbleUnlock)
  match takeRequest h.via unlockIt d with
  | (false, d) => (none, d)
  | (true, d) =>
    let st := headerStatus d h unlockIt true formatOk
    if !(st == .ok) then (none, answer h.via st [] d)
    else match roleOf d h.via h.officer with
    | .error e => (none, answer h.via e [] d)
    | .ok _ => (some x, touchLogin h.officer d)

/-- An officer holds a session's role and scope (R398). -/
def inScope (o : Officer) (x : Session) : Bool :=
  !o.revoked && (match x.scope with
    | some n => o.role == .domainOfficer && o.domain == n
    | none => o.role == .deviceOfficer)

/-- The officer logged in at a slot, where its role and scope are the session's. -/
def slotOfficer (slot : Nat) (x : Session) (d : Dev) : Option Nat :=
  match look d.cust.logins slot with
  | none => none
  | some l => if (look d.cust.officers l.officer).any (fun o => inScope o x) then some l.officer else none

/-- One authorisation is counted (R398); the first one starts the window again. -/
def countOfficer (i id : Nat) (x : Session) (d : Dev) : Session × Dev :=
  let till := if x.begun then x.expires else d.tb.now + sec (numOf 300 d (dk 0x1800 2))
  let y := { x with officers := addOnce x.officers id, begun := true, expires := till }
  (y, sessionEvent 0x0107 i (actorOfficer id) y (onSession i (fun _ => y) d))

/-- SESSION_AUTHORISE (R398): when the count reaches M, the action is executed once against the state at that moment, and its
status and response answer the request. -/
def authorise (h : SvcHdr) (slot resv : Nat) (card : CardReply) (s : State) : State :=
  match sessionRequest h (decide (slot < 2) && resv == 0) s.dev with
  | (none, d) => { s with dev := d }
  | (some x, d) =>
    let no := fun (st : Status) (d : Dev) => { s with dev := answer h.via st [] d }
    match x with
    | none => no .policy d
    | some x =>
      if x.state ≠ 0 ∨ x.expires ≤ d.tb.now then no .policy d
      else match slotOfficer slot x d with
      | none => no .policy d
      | some id =>
        if isThrottled d && !(x.req.action == .hobbleUnlock) then no .busyRetry d
        else match cardSigns slot card (touchLogin id d) with
        | (.ok, d) =>
          let i := h.session
          let (y, d) := countOfficer i id x d
          if y.officers.length < y.m then { s with dev := answer h.via .ok (sessionRecord i y) d }
          else
            let z := { y with state := 1, expires := d.tb.now, endedAt := d.tb.now, asker := some h.via }
            let d := sessionEvent 0x0108 i (actorOfficer id) z (onSession i (fun _ => z) d)
            let hdr := { z.req.hdr with via := .authorise i (if slot = 0 then 0 else 1) card }
            runAction hdr z.req.action { s with dev := d }
        | (e, d) => no e d
def execSessionAuthorise (h : SvcHdr) (slot : BitVec 8) (resv : BitVec 24) (card : CardReply) (s : State) : Out :=
  .next (authorise h slot.toNat resv.toNat card s)

/-- The same requester: function, association or core (R398). -/
def sameSender (v w : Via) : Bool :=
  match v, w with
  | .mailbox a, .mailbox b => a == b
  | .malath a _, .malath b _ => a == b
  | .firmware a, .firmware b => a == b
  | _, _ => false

/-- An open session ends unexecuted. -/
def endSession (i state actor : Nat) (x : Session) (d : Dev) : Dev :=
  sessionEvent 0x0109 i actor x (onSession i (fun x => { x with state := state, endedAt := d.tb.now }) d)

/-- SESSION_CANCEL (R398): by the requester that opened the session, or any officer of its scope. -/
def cancelSession (h : SvcHdr) (d : Dev) : Dev :=
  match sessionRequest h true d with
  | (none, d) => d
  | (some x, d) => match x with
    | none => answer h.via .policy [] d
    | some x =>
      let own := sameSender h.via x.opener && h.officer == x.officer
      let officer := loggedIn d h.officer && (look d.cust.officers h.officer).any (fun o => inScope o x)
      if x.state ≠ 0 ∨ !(own || officer) then answer h.via .policy [] d
      else if isThrottled d && !(x.req.action == .hobbleUnlock) then answer h.via .busyRetry [] d
      else answer h.via .ok [] (endSession h.session 3 (actorReq d h) x d)
def execSessionCancel (h : SvcHdr) (s : State) : Out := onDev (cancelSession h) s

/-- SESSION_STATUS (R563): the record, and the action's response once it has executed. -/
def sessionStatus (h : SvcHdr) (d : Dev) : Dev :=
  match sessionRequest h true d with
  | (none, d) => d
  | (some x, d) => match x with
    | none => answer h.via .policy [] d
    | some x => answer h.via .ok (sessionRecord h.session x ++ x.response) d
def execSessionStatus (h : SvcHdr) (s : State) : Out := onDev (sessionStatus h) s

/-- SESSION_EXPIRE (R398). -/
def execSessionExpire (session : BitVec 32) (s : State) : Out :=
  onDev (fun d =>
    match look d.cust.sessions session.toNat with
    | none => d
    | some x => if x.state ≠ 0 then d else endSession session.toNat 2 actorFw x (reach x.expires d)) s

end Sys2Proof.Machine
end

