-- ==== Sys2Proof/Machine/Dispatch.lean ====
section
/-! DEFINITION. The dispatch: one arm for each command, one direct call of its meaning. -/

namespace Sys2Proof.Machine

open Sys2Proof

/-- The effect of a command on everything but the queue. -/
def exec (i : Instr) (s : State) : Host.Outcome State Fault Refusal :=
  match i with
  | .submissionRead fn slot desc inList outList input => Sys2Proof.Machine.execSubmissionRead fn slot desc inList outList input s
  | .jobComplete tag => Sys2Proof.Machine.execJobComplete tag s
  | .timeSlew ppb => Sys2Proof.Machine.execTimeSlew ppb s
  | .timeStep ns => Sys2Proof.Machine.execTimeStep ns s
  | .hbmChannelFail c addr => Sys2Proof.Machine.execHbmChannelFail c addr s
  | .lease n => Sys2Proof.Machine.execLease n s
  | .fill n => Sys2Proof.Machine.execFill n s
  | .stale n => Sys2Proof.Machine.execStale n s
  | .hoist tag second => Sys2Proof.Machine.execHoist tag second s
  | .keydata tag second => Sys2Proof.Machine.execKeydata tag second s
  | .lineageInval holder idx => Sys2Proof.Machine.execLineageInval holder idx s
  | .inval holder idx => Sys2Proof.Machine.execInval holder idx s
  | .cacheSweepDone point idx => Sys2Proof.Machine.execCacheSweepDone point idx s
  | .ack holder idx => Sys2Proof.Machine.execAck holder idx s
  | .keyDestroy h handle => Sys2Proof.Machine.execKeyDestroy h handle s
  | .keyAttr h handle attr => Sys2Proof.Machine.execKeyAttr h handle attr s
  | .keyImport h unwrap form typ cls attr obj wrapped => Sys2Proof.Machine.execKeyImport h unwrap form typ cls attr obj wrapped s
  | .keyInfo h handle => Sys2Proof.Machine.execKeyInfo h handle s
  | .keyGenerate h parent typ cls attr => Sys2Proof.Machine.execKeyGenerate h parent typ cls attr s
  | .keyDerive h base typ cls attr label context => Sys2Proof.Machine.execKeyDerive h base typ cls attr label context s
  | .clearWrite cu tenant parent typ cls attr material => Sys2Proof.Machine.execClearWrite cu tenant parent typ cls attr material s
  | .journalPageClose => Sys2Proof.Machine.execJournalPageClose s
  | .journalPageProgrammed pageSeq => Sys2Proof.Machine.execJournalPageProgrammed pageSeq s
  | .compactionBegin => Sys2Proof.Machine.execCompactionBegin s
  | .compactionCopyDone => Sys2Proof.Machine.execCompactionCopyDone s
  | .compactionEraseDone => Sys2Proof.Machine.execCompactionEraseDone s
  | .migrateBegin h => Sys2Proof.Machine.execMigrateBegin h s
  | .migrateReady h => Sys2Proof.Machine.execMigrateReady h s
  | .migrateFinal h => Sys2Proof.Machine.execMigrateFinal h s
  | .migrateAbandon h => Sys2Proof.Machine.execMigrateAbandon h s
  | .ostlerDispatch => Sys2Proof.Machine.execOstlerDispatch s
  | .cipherJobDone tag input => Sys2Proof.Machine.execCipherJobDone tag input s
  | .coreSelftestStart => Sys2Proof.Machine.execCoreSelftestStart s
  | .coreDrained n => Sys2Proof.Machine.execCoreDrained n s
  | .coreSelftestDone n test pass => Sys2Proof.Machine.execCoreSelftestDone n test pass s
  | .parityMismatch n unit tag => Sys2Proof.Machine.execParityMismatch n unit tag s
  | .pinFailInterval => Sys2Proof.Machine.execPinFailInterval s
  | .pinSuspendEnd idx => Sys2Proof.Machine.execPinSuspendEnd idx s
  | .bnDispatch => Sys2Proof.Machine.execBnDispatch s
  | .bnJobDone tag input outcome => Sys2Proof.Machine.execBnJobDone tag input outcome s
  | .bnJobTimeout tag => Sys2Proof.Machine.execBnJobTimeout tag s
  | .bnSelftestStart => Sys2Proof.Machine.execBnSelftestStart s
  | .bnSelftestDone n test pass => Sys2Proof.Machine.execBnSelftestDone n test pass s
  | .bnSlotcfg n => Sys2Proof.Machine.execBnSlotcfg n s
  | .bnLoad n => Sys2Proof.Machine.execBnLoad n s
  | .bnStore n => Sys2Proof.Machine.execBnStore n s
  | .bnMontin n => Sys2Proof.Machine.execBnMontin n s
  | .bnMontout n => Sys2Proof.Machine.execBnMontout n s
  | .bnModadd n => Sys2Proof.Machine.execBnModadd n s
  | .bnModsub n => Sys2Proof.Machine.execBnModsub n s
  | .bnModmul n => Sys2Proof.Machine.execBnModmul n s
  | .bnModsqr n => Sys2Proof.Machine.execBnModsqr n s
  | .bnModinv n => Sys2Proof.Machine.execBnModinv n s
  | .bnModexp n => Sys2Proof.Machine.execBnModexp n s
  | .bnMul n => Sys2Proof.Machine.execBnMul n s
  | .bnCmp n => Sys2Proof.Machine.execBnCmp n s
  | .bnCopy n => Sys2Proof.Machine.execBnCopy n s
  | .bnZero n => Sys2Proof.Machine.execBnZero n s
  | .bnEcadd n => Sys2Proof.Machine.execBnEcadd n s
  | .bnEcdbl n => Sys2Proof.Machine.execBnEcdbl n s
  | .bnEcmul n => Sys2Proof.Machine.execBnEcmul n s
  | .bnEccheck n => Sys2Proof.Machine.execBnEccheck n s
  | .bnNtt n => Sys2Proof.Machine.execBnNtt n s
  | .bnIntt n => Sys2Proof.Machine.execBnIntt n s
  | .bnPmul n => Sys2Proof.Machine.execBnPmul n s
  | .bnPadd n => Sys2Proof.Machine.execBnPadd n s
  | .bnEnd n => Sys2Proof.Machine.execBnEnd n s
  | .mov p f => Sys2Proof.Machine.execMov p f s
  | .add p f => Sys2Proof.Machine.execAdd p f s
  | .sub p f => Sys2Proof.Machine.execSub p f s
  | .and p f => Sys2Proof.Machine.execAnd p f s
  | .or p f => Sys2Proof.Machine.execOr p f s
  | .xor p f => Sys2Proof.Machine.execXor p f s
  | .not p f => Sys2Proof.Machine.execNot p f s
  | .neg p f => Sys2Proof.Machine.execNeg p f s
  | .shl p f => Sys2Proof.Machine.execShl p f s
  | .shr p f => Sys2Proof.Machine.execShr p f s
  | .sar p f => Sys2Proof.Machine.execSar p f s
  | .shli p f => Sys2Proof.Machine.execShli p f s
  | .shri p f => Sys2Proof.Machine.execShri p f s
  | .sari p f => Sys2Proof.Machine.execSari p f s
  | .mul p f => Sys2Proof.Machine.execMul p f s
  | .mulhu p f => Sys2Proof.Machine.execMulhu p f s
  | .divu p f => Sys2Proof.Machine.execDivu p f s
  | .cmp p f => Sys2Proof.Machine.execCmp p f s
  | .cmpeqm p f => Sys2Proof.Machine.execCmpeqm p f s
  | .cmpltm p f => Sys2Proof.Machine.execCmpltm p f s
  | .sel p f => Sys2Proof.Machine.execSel p f s
  | .bswap p f => Sys2Proof.Machine.execBswap p f s
  | .popc p f => Sys2Proof.Machine.execPopc p f s
  | .sett p f => Sys2Proof.Machine.execSett p f s
  | .clt p f => Sys2Proof.Machine.execClt p f s
  | .addi p f => Sys2Proof.Machine.execAddi p f s
  | .andi p f => Sys2Proof.Machine.execAndi p f s
  | .ori p f => Sys2Proof.Machine.execOri p f s
  | .xori p f => Sys2Proof.Machine.execXori p f s
  | .movi p f => Sys2Proof.Machine.execMovi p f s
  | .cmpi p f => Sys2Proof.Machine.execCmpi p f s
  | .mova p f => Sys2Proof.Machine.execMova p f s
  | .movad p f => Sys2Proof.Machine.execMovad p f s
  | .movda p f => Sys2Proof.Machine.execMovda p f s
  | .adda p f => Sys2Proof.Machine.execAdda p f s
  | .suba p f => Sys2Proof.Machine.execSuba p f s
  | .cmpa p f => Sys2Proof.Machine.execCmpa p f s
  | .addai p f => Sys2Proof.Machine.execAddai p f s
  | .movai p f => Sys2Proof.Machine.execMovai p f s
  | .ldB p f => Sys2Proof.Machine.execLdB p f s
  | .ldH p f => Sys2Proof.Machine.execLdH p f s
  | .ldW p f => Sys2Proof.Machine.execLdW p f s
  | .ldD p f => Sys2Proof.Machine.execLdD p f s
  | .stB p f => Sys2Proof.Machine.execStB p f s
  | .stH p f => Sys2Proof.Machine.execStH p f s
  | .stW p f => Sys2Proof.Machine.execStW p f s
  | .stD p f => Sys2Proof.Machine.execStD p f s
  | .lda p f => Sys2Proof.Machine.execLda p f s
  | .sta p f => Sys2Proof.Machine.execSta p f s
  | .ldx p f => Sys2Proof.Machine.execLdx p f s
  | .stx p f => Sys2Proof.Machine.execStx p f s
  | .mfld p f => Sys2Proof.Machine.execMfld p f s
  | .mfst p f => Sys2Proof.Machine.execMfst p f s
  | .xmov p f => Sys2Proof.Machine.execXmov p f s
  | .xand p f => Sys2Proof.Machine.execXand p f s
  | .xOr p f => Sys2Proof.Machine.execXOr p f s
  | .xxor p f => Sys2Proof.Machine.execXxor p f s
  | .xaddb p f => Sys2Proof.Machine.execXaddb p f s
  | .xsubb p f => Sys2Proof.Machine.execXsubb p f s
  | .xcmpeqb p f => Sys2Proof.Machine.execXcmpeqb p f s
  | .xcmpltb p f => Sys2Proof.Machine.execXcmpltb p f s
  | .xsel p f => Sys2Proof.Machine.execXsel p f s
  | .xins p f => Sys2Proof.Machine.execXins p f s
  | .xext p f => Sys2Proof.Machine.execXext p f s
  | .xshlb p f => Sys2Proof.Machine.execXshlb p f s
  | .xshrb p f => Sys2Proof.Machine.execXshrb p f s
  | .xzero p f => Sys2Proof.Machine.execXzero p f s
  | .xbcast p f => Sys2Proof.Machine.execXbcast p f s
  | .xrev p f => Sys2Proof.Machine.execXrev p f s
  | .xmaskl p f => Sys2Proof.Machine.execXmaskl p f s
  | .b p f => Sys2Proof.Machine.execB p f s
  | .bl p f => Sys2Proof.Machine.execBl p f s
  | .jr p f sub => Sys2Proof.Machine.execJr p f sub s
  | .bz p f => Sys2Proof.Machine.execBz p f s
  | .bnz p f => Sys2Proof.Machine.execBnz p f s
  | .wfe p f => Sys2Proof.Machine.execWfe p f s
  | .wfeWake p => Sys2Proof.Machine.execWfeWake p s
  | .wfeLimitExpire p => Sys2Proof.Machine.execWfeLimitExpire p s
  | .sev p f => Sys2Proof.Machine.execSev p f s
  | .sevAll p f => Sys2Proof.Machine.execSevAll p f s
  | .wtu p f => Sys2Proof.Machine.execWtu p f s
  | .wtuTargetReached p => Sys2Proof.Machine.execWtuTargetReached p s
  | .wtuLimitExpire p => Sys2Proof.Machine.execWtuLimitExpire p s
  | .rep p f => Sys2Proof.Machine.execRep p f s
  | .repu p f => Sys2Proof.Machine.execRepu p f s
  | .time p f => Sys2Proof.Machine.execTime p f s
  | .job p f => Sys2Proof.Machine.execJob p f s
  | .jobx p f => Sys2Proof.Machine.execJobx p f s
  | .jwait p f => Sys2Proof.Machine.execJwait p f s
  | .jobSlotComplete p k => Sys2Proof.Machine.execJobSlotComplete p k s
  | .mfc p f => Sys2Proof.Machine.execMfc p f s
  | .mtc p f => Sys2Proof.Machine.execMtc p f s
  | .nop p f => Sys2Proof.Machine.execNop p f s
  | .rfe p f => Sys2Proof.Machine.execRfe p f s
  | .halt p f => Sys2Proof.Machine.execHalt p f s
  | .fence p f => Sys2Proof.Machine.execFence p f s
  | .pswap p f => Sys2Proof.Machine.execPswap p f s
  | .gfence p f => Sys2Proof.Machine.execGfence p f s
  | .call p f => Sys2Proof.Machine.execCall p f s
  | .interruptEntry p => Sys2Proof.Machine.execInterruptEntry p s
  | .budgetExpire p => Sys2Proof.Machine.execBudgetExpire p s
  | .haltReq p => Sys2Proof.Machine.execHaltReq p s
  | .engineRestart p => Sys2Proof.Machine.execEngineRestart p s
  | .custodianSignal p => Sys2Proof.Machine.execCustodianSignal p s
  | .revoke p v => Sys2Proof.Machine.execRevoke p v s
  | .revokeFenceDone p => Sys2Proof.Machine.execRevokeFenceDone p s
  | .load p k => Sys2Proof.Machine.execLoad p k s
  | .loadDone p => Sys2Proof.Machine.execLoadDone p s
  | .vqHeadRead => Sys2Proof.Machine.execVqHeadRead s
  | .vqTailWrite v => Sys2Proof.Machine.execVqTailWrite v s
  | .vqLostRead full => Sys2Proof.Machine.execVqLostRead full s
  | .messageDeliver tag => Sys2Proof.Machine.execMessageDeliver tag s
  | .parseEnd tag => Sys2Proof.Machine.execParseEnd tag s
  | .sliceStart tag ix => Sys2Proof.Machine.execSliceStart tag ix s
  | .sliceDeadline tag ix => Sys2Proof.Machine.execSliceDeadline tag ix s
  | .emitEnd tag => Sys2Proof.Machine.execEmitEnd tag s
  | .messageRelease tag => Sys2Proof.Machine.execMessageRelease tag s
  | .rigAdmit h obj image => Sys2Proof.Machine.execRigAdmit h obj image s
  | .quiesceDrained dom => Sys2Proof.Machine.execQuiesceDrained dom s
  | .quiesceTimeout dom => Sys2Proof.Machine.execQuiesceTimeout dom s
  | .rigRetire h domain => Sys2Proof.Machine.execRigRetire h domain s
  | .portEnable p on => Sys2Proof.Machine.execPortEnable p on s
  | .portConfigChange p field v => Sys2Proof.Machine.execPortConfigChange p field v s
  | .anComplete p partner partnerFec => Sys2Proof.Machine.execAnComplete p partner partnerFec s
  | .trainingDone p => Sys2Proof.Machine.execTrainingDone p s
  | .trainingTimeout p => Sys2Proof.Machine.execTrainingTimeout p s
  | .anRestart p => Sys2Proof.Machine.execAnRestart p s
  | .blockLock p gained mid => Sys2Proof.Machine.execBlockLock p gained mid s
  | .amCandidate p lane pos => Sys2Proof.Machine.execAmCandidate p lane pos s
  | .amConfirm p lane ok skewOk => Sys2Proof.Machine.execAmConfirm p lane ok skewOk s
  | .amMiss p lane k mid => Sys2Proof.Machine.execAmMiss p lane k mid s
  | .linkDownTimeout p => Sys2Proof.Machine.execLinkDownTimeout p s
  | .fecWindow p codewords corrected uncorrected symbols mid => Sys2Proof.Machine.execFecWindow p codewords corrected uncorrected symbols mid s
  | .frameReceive p f => Sys2Proof.Machine.execFrameReceive p f s
  | .frameTransmit p frame => Sys2Proof.Machine.execFrameTransmit p frame s
  | .rxscSet h port rxsc window sci => Sys2Proof.Machine.execRxscSet h port rxsc window sci s
  | .saCreate h port dir rxsc an key ssci pn salt => Sys2Proof.Machine.execSaCreate h port dir rxsc an key ssci pn salt s
  | .saEnable h port dir rxsc an => Sys2Proof.Machine.execSaEnable h port dir rxsc an s
  | .txArm h port an => Sys2Proof.Machine.execTxArm h port an s
  | .saDelete h port dir rxsc an => Sys2Proof.Machine.execSaDelete h port dir rxsc an s
  | .macsecEnableWrite p v => Sys2Proof.Machine.execMacsecEnableWrite p v s
  | .saKeyResolveTimeout p tx ix => Sys2Proof.Machine.execSaKeyResolveTimeout p tx ix s
  | .neighbourRetry p addr => Sys2Proof.Machine.execNeighbourRetry p addr s
  | .neighbourTimeout p addr => Sys2Proof.Machine.execNeighbourTimeout p addr s
  | .neighbourLapse p addr => Sys2Proof.Machine.execNeighbourLapse p addr s
  | .heldMessageAdmit => Sys2Proof.Machine.execHeldMessageAdmit s
  | .tcpRetransmitTimeout c => Sys2Proof.Machine.execTcpRetransmitTimeout c s
  | .tcpKeepalive c => Sys2Proof.Machine.execTcpKeepalive c s
  | .timeWaitExpire c => Sys2Proof.Machine.execTimeWaitExpire c s
  | .halfOpenLapse c => Sys2Proof.Machine.execHalfOpenLapse c s
  | .routeReconnect r => Sys2Proof.Machine.execRouteReconnect r s
  | .routeWrite r b => Sys2Proof.Machine.execRouteWrite r b s
  | .listenerEnable n on => Sys2Proof.Machine.execListenerEnable n on s
  | .listenerCloseTimeout n => Sys2Proof.Machine.execListenerCloseTimeout n s
  | .sendBufferTimeout c => Sys2Proof.Machine.execSendBufferTimeout c s
  | .sqTailWrite fn slot v => Sys2Proof.Machine.execSqTailWrite fn slot v s
  | .bqTailWrite fn slot v => Sys2Proof.Machine.execBqTailWrite fn slot v s
  | .dqHeadWrite fn slot v => Sys2Proof.Machine.execDqHeadWrite fn slot v s
  | .delivery c bufs => Sys2Proof.Machine.execDelivery c bufs s
  | .deliveryTimeout c => Sys2Proof.Machine.execDeliveryTimeout c s
  | .negotiate fn seq versions => Sys2Proof.Machine.execNegotiate fn seq versions s
  | .channelOpen fn seq slot share dom resv kib => Sys2Proof.Machine.execChannelOpen fn seq slot share dom resv kib s
  | .channelClose fn seq handle => Sys2Proof.Machine.execChannelClose fn seq handle s
  | .channelCloseSquash c => Sys2Proof.Machine.execChannelCloseSquash c s
  | .redeliver fn seq handle first count flags dest => Sys2Proof.Machine.execRedeliver fn seq handle first count flags dest s
  | .mailboxJob fn seq desc input => Sys2Proof.Machine.execMailboxJob fn seq desc input s
  | .flr fn => Sys2Proof.Machine.execFlr fn s
  | .flrSquash kind origin => Sys2Proof.Machine.execFlrSquash kind origin s
  | .flrClose kind origin => Sys2Proof.Machine.execFlrClose kind origin s
  | .flrDone kind origin => Sys2Proof.Machine.execFlrDone kind origin s
  | .vfEnableChange pf n => Sys2Proof.Machine.execVfEnableChange pf n s
  | .hostLinkDown half => Sys2Proof.Machine.execHostLinkDown half s
  | .msixCoalTimer fn slot delivery => Sys2Proof.Machine.execMsixCoalTimer fn slot delivery s
  | .msixUnmask fn vec => Sys2Proof.Machine.execMsixUnmask fn vec s
  | .badAccessRead at_ => Sys2Proof.Machine.execBadAccessRead at_ s
  | .registerWrite fn off data poisoned => Sys2Proof.Machine.execRegisterWrite fn off data poisoned s
  | .serviceInfo h => Sys2Proof.Machine.execServiceInfo h s
  | .domainCreate h domain => Sys2Proof.Machine.execDomainCreate h domain s
  | .domainDelete h domain => Sys2Proof.Machine.execDomainDelete h domain s
  | .officerEnrol h slot pinLen pin obj record card => Sys2Proof.Machine.execOfficerEnrol h slot pinLen pin obj record card s
  | .officerRevoke h officer => Sys2Proof.Machine.execOfficerRevoke h officer s
  | .officerLogin h slot pinLen officer pin card => Sys2Proof.Machine.execOfficerLogin h slot pinLen officer pin card s
  | .officerLogout h officer => Sys2Proof.Machine.execOfficerLogout h officer s
  | .loginIdleExpire slot => Sys2Proof.Machine.execLoginIdleExpire slot s
  | .sessionOpen h req => Sys2Proof.Machine.execSessionOpen h req s
  | .sessionAuthorise h slot resv card => Sys2Proof.Machine.execSessionAuthorise h slot resv card s
  | .sessionCancel h => Sys2Proof.Machine.execSessionCancel h s
  | .sessionStatus h => Sys2Proof.Machine.execSessionStatus h s
  | .sessionExpire session => Sys2Proof.Machine.execSessionExpire session s
  | .fwStage h obj image => Sys2Proof.Machine.execFwStage h obj image s
  | .deviceReset h => Sys2Proof.Machine.execDeviceReset h s
  | .hobbleUnlock h => Sys2Proof.Machine.execHobbleUnlock h s
  | .dictWrite h index sub tcode obj given => Sys2Proof.Machine.execDictWrite h index sub tcode obj given s
  | .wdKick v => Sys2Proof.Machine.execWdKick v s
  | .watchdogExpire => Sys2Proof.Machine.execWatchdogExpire s
  | .clusterRebootDone => Sys2Proof.Machine.execClusterRebootDone s
  | .hello h offer hflags maxp => Sys2Proof.Machine.execHello h offer hflags maxp s
  | .read h index sub resv => Sys2Proof.Machine.execRead h index sub resv s
  | .write h index sub tcode vlenOk value => Sys2Proof.Machine.execWrite h index sub tcode vlenOk value s
  | .segInit h xdir resv index sub tcode total => Sys2Proof.Machine.execSegInit h xdir resv index sub tcode total s
  | .segData h xfer resv offset data => Sys2Proof.Machine.execSegData h xfer resv offset data s
  | .segAck h xfer resv next => Sys2Proof.Machine.execSegAck h xfer resv next s
  | .segAbort h xfer status => Sys2Proof.Machine.execSegAbort h xfer status s
  | .segAckTimeout assoc xfer => Sys2Proof.Machine.execSegAckTimeout assoc xfer s
  | .segProgressTimeout assoc xfer => Sys2Proof.Machine.execSegProgressTimeout assoc xfer s
  | .stagingExpire assoc xfer => Sys2Proof.Machine.execStagingExpire assoc xfer s
  | .heartbeat can => Sys2Proof.Machine.execHeartbeat can s
  | .assocIdleExpire assoc => Sys2Proof.Machine.execAssocIdleExpire assoc s
  | .canErrorFrame tx => Sys2Proof.Machine.execCanErrorFrame tx s
  | .canFrameAbandon => Sys2Proof.Machine.execCanFrameAbandon s
  | .canBusoff => Sys2Proof.Machine.execCanBusoff s
  | .busoffRecovery => Sys2Proof.Machine.execBusoffRecovery s
  | .busoffAuto on => Sys2Proof.Machine.execBusoffAuto on s
  | .canTimingWrite data v => Sys2Proof.Machine.execCanTimingWrite data v s
  | .sdCardDetect card => Sys2Proof.Machine.execSdCardDetect card s
  | .sdRetune run mid => Sys2Proof.Machine.execSdRetune run mid s
  | .sdCardRemove => Sys2Proof.Machine.execSdCardRemove s
  | .sdUnlock pwd => Sys2Proof.Machine.execSdUnlock pwd s
  | .sdSetPwd value => Sys2Proof.Machine.execSdSetPwd value s
  | .sdForceErase on => Sys2Proof.Machine.execSdForceErase on s
  | .sdEraseDone => Sys2Proof.Machine.execSdEraseDone s
  | .iccCardInsert slot => Sys2Proof.Machine.execIccCardInsert slot s
  | .iccAtr slot atr => Sys2Proof.Machine.execIccAtr slot atr s
  | .iccAtrTimeout slot => Sys2Proof.Machine.execIccAtrTimeout slot s
  | .iccPpsResponse slot echo => Sys2Proof.Machine.execIccPpsResponse slot echo s
  | .iccBlockError slot => Sys2Proof.Machine.execIccBlockError slot s
  | .iccCardRemove slot => Sys2Proof.Machine.execIccCardRemove slot s
  | .pincfgWrite n v busy => Sys2Proof.Machine.execPincfgWrite n v busy s
  | .pinSwitchWindowClose n => Sys2Proof.Machine.execPinSwitchWindowClose n s
  | .timeCapture => Sys2Proof.Machine.execTimeCapture s
  | .pinAbortsRead full => Sys2Proof.Machine.execPinAbortsRead full s
  | .entropyTestFail k adaptive => Sys2Proof.Machine.execEntropyTestFail k adaptive s
  | .sourceRestart k => Sys2Proof.Machine.execSourceRestart k s
  | .sourceRejoin k => Sys2Proof.Machine.execSourceRejoin k s
  | .blockComplete => Sys2Proof.Machine.execBlockComplete s
  | .blockRelease => Sys2Proof.Machine.execBlockRelease s
  | .reseed => Sys2Proof.Machine.execReseed s
  | .reseedInterval ix => Sys2Proof.Machine.execReseedInterval ix s
  | .reseedWaitTimeout ix => Sys2Proof.Machine.execReseedWaitTimeout ix s
  | .generateCall ix => Sys2Proof.Machine.execGenerateCall ix s
  | .drbgKat k => Sys2Proof.Machine.execDrbgKat k s
  | .drbgKatDone k pass => Sys2Proof.Machine.execDrbgKatDone k pass s
  | .rngDataRead cu off n => Sys2Proof.Machine.execRngDataRead cu off n s
  | .rngCtlReseed cu v => Sys2Proof.Machine.execRngCtlReseed cu v s
  | .cvStart k v => Sys2Proof.Machine.execCvStart k v s
  | .cvData k b => Sys2Proof.Machine.execCvData k b s
  | .cvCtlWrite k v => Sys2Proof.Machine.execCvCtlWrite k v s
  | .transferCheck engine addr len => Sys2Proof.Machine.execTransferCheck engine addr len s
  | .auditEvent => Sys2Proof.Machine.execAuditEvent s
  | .auditMergeWindowClose => Sys2Proof.Machine.execAuditMergeWindowClose s
  | .stormRecordClose => Sys2Proof.Machine.execStormRecordClose s
  | .stormTimeout => Sys2Proof.Machine.execStormTimeout s
  | .auditPageClose => Sys2Proof.Machine.execAuditPageClose s
  | .auditPageDurable => Sys2Proof.Machine.execAuditPageDurable s
  | .cursor assoc v => Sys2Proof.Machine.execCursor assoc v s
  | .batch assoc => Sys2Proof.Machine.execBatch assoc s
  | .fcursor assoc v => Sys2Proof.Machine.execFcursor assoc v s
  | .fbatch assoc => Sys2Proof.Machine.execFbatch assoc s
  | .faultAck seq => Sys2Proof.Machine.execFaultAck seq s
  | .fnTailWrite v => Sys2Proof.Machine.execFnTailWrite v s
  | .fnOverRead full => Sys2Proof.Machine.execFnOverRead full s
  | .detectorAssert monitor det item value limit => Sys2Proof.Machine.execDetectorAssert monitor det item value limit s
  | .detectorDisagreeTimeout => Sys2Proof.Machine.execDetectorDisagreeTimeout s
  | .detectorSelfCheck monitor det pass inside => Sys2Proof.Machine.execDetectorSelfCheck monitor det pass inside s
  | .shadowMismatch cls unit offset latch => Sys2Proof.Machine.execShadowMismatch cls unit offset latch s
  | .vbatThreshold mv => Sys2Proof.Machine.execVbatThreshold mv s
  | .extLoopEnable on => Sys2Proof.Machine.execExtLoopEnable on s
  | .extLoopEffect => Sys2Proof.Machine.execExtLoopEffect s
  | .lcRequest target hd => Sys2Proof.Machine.execLcRequest target hd s
  | .token value => Sys2Proof.Machine.execToken value s
  | .tokenClose => Sys2Proof.Machine.execTokenClose s
  | .dbgChal isTarget code domain => Sys2Proof.Machine.execDbgChal isTarget code domain s
  | .dbgResp mldsaOk ecdsaOk => Sys2Proof.Machine.execDbgResp mldsaOk ecdsaOk s
  | .debugConsent level domain duration => Sys2Proof.Machine.execDebugConsent level domain duration s
  | .debugGrantExpire => Sys2Proof.Machine.execDebugGrantExpire s
  | .calSet set => Sys2Proof.Machine.execCalSet set s
  | .gaitRequest v => Sys2Proof.Machine.execGaitRequest v s
  | .walkIdleGate string => Sys2Proof.Machine.execWalkIdleGate string s
  | .stringWakeDone string => Sys2Proof.Machine.execStringWakeDone string s
  | .reefStepUp tj amps peak excursion => Sys2Proof.Machine.execReefStepUp tj amps peak excursion s
  | .reefStepDown tj amps => Sys2Proof.Machine.execReefStepDown tj amps s
  | .overtempPowerOff sensor temp => Sys2Proof.Machine.execOvertempPowerOff sensor temp s
  | .pwrKillRelease temp => Sys2Proof.Machine.execPwrKillRelease temp s
  | .pmbusFault => Sys2Proof.Machine.execPmbusFault s
  | .gallopWearTick => Sys2Proof.Machine.execGallopWearTick s
  | .gallopCountSave => Sys2Proof.Machine.execGallopCountSave s
  | .standbyEntryDone => Sys2Proof.Machine.execStandbyEntryDone s
  | .wakeN => Sys2Proof.Machine.execWakeN s
  | .powerOnReset rails => Sys2Proof.Machine.execPowerOnReset rails s
  | .warmReset => Sys2Proof.Machine.execWarmReset s
  | .jtagReset => Sys2Proof.Machine.execJtagReset s
  | .hostLinkUp half rate w flit => Sys2Proof.Machine.execHostLinkUp half rate w flit s
  | .mgtLinkChange up => Sys2Proof.Machine.execMgtLinkChange up s
  | .corrEntryExpire => Sys2Proof.Machine.execCorrEntryExpire s
  | .cresetsExpire => Sys2Proof.Machine.execCresetsExpire s
  | .pctlWrite p v => Sys2Proof.Machine.execPctlWrite p v s
  | .standbySetWrite p word v => Sys2Proof.Machine.execStandbySetWrite p word v s
  | .iccBlockReceive slot wtx len more => Sys2Proof.Machine.execIccBlockReceive slot wtx len more s
  | .rngStatWrite cu v => Sys2Proof.Machine.execRngStatWrite cu v s

end Sys2Proof.Machine
end

