-- ==== Sys2Proof/Machine/Idle.lean ====
section
/-! DEFINITION. What the block does when no command waits: the boot chain ends, or one tick of the time base passes with the
work that needs no command of its own (R35, R36, R204, R321, R335, R337, R364, R386, R443, R444). -/

set_option linter.unusedVariables false

namespace Sys2Proof.Machine

open Sys2Proof

/-- Work that is due as soon as its condition holds: port events that waited for room, connections and listeners that have
drained, routes to connect, destructions and closes that are complete, the CAN controller and its queue. -/
def settle (d : Dev) : Dev :=
  let can := fun (d : Dev) => canFlush 16 (canIntegrate d)
  if d.life.zeroised then d
  else if !d.life.ready then can d
  else can (finishChans (finishInvals (openRoutes (finishListeners (finishCloses (flushEvents (runUnits d)))))))

/-- The RTC runs on its battery whether or not the device has power (R36). -/
def tickDev (d : Dev) : Dev :=
  if d.life.powerOff then { d with tb := { d.tb with rtc := d.tb.rtc + 1 } } else { d with tb := tick d.tb }

/-- Physical addresses of scratch, string data memory and the instruction stores. -/
def engineWord (w : Nat) : Bool := decide (w * 8 < istoreBase 32)

/-- What a tick brings that no command stands for: a memory error, a corrected error, a unit that becomes faulty,
custodian-dispatched work. -/
def environment (d : Dev) : Dev :=
  let now := d.tb.now
  { d with
    life := { d.life with
      badWords := match Config.memError now with
        | some w => if engineWord w then addOnce d.life.badWords w else d.life.badWords
        | none => d.life.badWords,
      faulty := match Config.unitFault now with
        | some (u, t) => if u < 112 then ins d.life.faulty u t else d.life.faulty
        | none => d.life.faulty },
    dict := match Config.corrected now with
      | some _ => (bump (dk 0x8120 7) d).dict
      | none => d.dict,
    procs := match Config.dispatched now with
      | some p => (requestWorld p d).procs
      | none => d.procs }

/-- The word of a processor's program counter, `n` bytes on (R200, R204). -/
def codeWord (p : Nat) (n : Nat) (s : State) : BitVec 32 :=
  BitVec.ofNat 32 (leVal (readBytes s.mem (codePhys p ((procOf s.dev p).pc.toNat + n)) 4))

/-- A processor runs the word at its program counter: the instruction it spells, or fault ILLEGAL for a word that spells none
(R204, R208). -/
def runWord (p : ProcId) (s : State) : State :=
  match decodeLope p (codeWord p.val 0 s) (codeWord p.val 4 s) with
  | some i => nextState s (exec i s)
  | none => nextState s (issueReg p 4 1 (fun _ => .flt fIllegal 0) s)

/-- The engines that run a slice in user mode: their code stands in the instruction store since rig admission (R234, R286). -/
def sliceEngines (s : State) : List Nat :=
  (s.dev.procs.filter (fun e => e.2.slice.isSome && !isPriv e.2)).map (fun e => e.1)

/-- Every engine that runs a slice runs one instruction of it. -/
def runSlices (s : State) : State :=
  (sliceEngines s).foldl (fun s p => if h : p < 516 then runWord ⟨p, h⟩ s else s) s

/-- One idle step: a device that is booting completes its boot; any other lets one tick pass, in which each engine that runs a
slice of a message runs one instruction. -/
def idle (s : State) : State :=
  if s.dev.life.booting && !s.dev.life.powerOff then boot s
  else if s.dev.life.powerOff then { s with dev := tickDev s.dev }
  else runSlices { s with dev := settle (environment (tickDev s.dev)) }

end Sys2Proof.Machine
end

