-- ==== Sys2Proof/Safety.lean ====
section
/-! DEFINITION. The terms the statements use: when a processor issues an instruction, what it leaves when the instruction
retires, and the forms of State that every step keeps. -/

set_option linter.unusedVariables false

namespace Sys2Proof.Machine

open Sys2Proof

/-- Processor `p` issues its next instruction, of `len` bytes: it runs (R194, R232), and nothing stops the instruction at its
boundary: the fetch is allowed, its words are sound and the budget lasts (R195, R229, R230, R237, R240). -/
abbrev Issues (s : State) (p : ProcId) (len : Nat := 4) : Prop :=
  canIssue s.dev p.val (procOf s.dev p.val) = true ∧ boundaryFault s.dev p.val (procOf s.dev p.val) len = none

/-- A command completes: the device becomes `d`, and memory, tags and queue are as before. -/
abbrev becomes (s : State) (d : Dev) : Out := .next { s with dev := d }

/-- An instruction of `len` bytes and `cycles` cycles retires with `q` as its processor's registers: counters and program
counter move on (R197, R217), and a revocation that waited for the end of a REPU takes effect (R247). -/
def retired (p : ProcId) (len cycles : Nat) (q : Proc) (s : State) : State :=
  { s with dev := lateRevoke p.val (setProc p.val (stepPc len (countInstr cycles q)) s.dev) }

/-- A branch retires with `q` and continues at `pc` (R207). -/
def branched (p : ProcId) (cycles : Nat) (q : Proc) (pc : BitVec 32) (s : State) : State :=
  { s with dev := setProc p.val { countInstr cycles q with pc := pc } s.dev }

/-- A request of the custodian service interface is read, passes checks 1 to 6, has its object copied where that is a file, and names
a role: `d` is the device then. No
throttle is in force, and it is not the check of an action that a session is opened with (R16, R389-R391, R397, R491). -/
abbrev Served (h : SvcHdr) (a : SvcAction) (s : State) (d : Dev) (role : Role) : Prop :=
  let taken := takeRequest h.via (servedHobbled a) s.dev
  let fetched := fetchObject h.via a taken.2
  taken.1 = true ∧ headerStatus taken.2 h (servedHobbled a) false true = .ok ∧ fetched.1 = .ok ∧
  d = touchLogin h.officer fetched.2 ∧ roleOf d h.via h.officer = .ok role ∧ isProbe h.via d = false ∧ isThrottled d = false

/-- The right of an administrative action on a key (R57, R75): its domain's officer, two of them where DUAL is set. -/
abbrev MayAdminister (h : SvcHdr) (k : KeyRec) (d : Dev) (role : Role) : Prop :=
  rightMet d h.via role (if k.dual then { dual := [(2, .domain k.domain)] }
    else { single := fun r => match r with | .domainOfficer n => n == k.domain | _ => false }) = true

/-- The right of a service that every role holds, called by a request of its own and not as a session's action (R391). -/
abbrev AnyRole (h : SvcHdr) (d : Dev) (role : Role) : Prop := rightMet d h.via role { single := fun _ => true } = true

/-- The right of an action that takes two device officers (R12, R391). -/
abbrev TwoDeviceOfficers (h : SvcHdr) (d : Dev) (role : Role) : Prop :=
  rightMet d h.via role { dual := [(2, .device)] } = true

/-- Engine `n` runs a program whose next command is `w`, with opcode `op` (R188-R190). -/
abbrev BnRuns (s : State) (n : Fin 48) (op : Nat) (p : BnProg) (w : Nat) : Prop :=
  (engineOf s.dev n.val).prog = some p ∧ p.ended = false ∧ p.failed = false ∧ p.cmds[p.pc]? = some w ∧ cOp w = op

/-- A mailbox request reaches its function: it is live and the request is the one outstanding, or none is (R373, R374). -/
abbrev MailReady (s : State) (fn : BitVec 12) (seq : BitVec 32) : Prop :=
  fnLive s.dev fn.toNat = true ∧ (fnOf s.dev fn.toNat).mbTaken = false ∧
  ((fnOf s.dev fn.toNat).mbBusy = none ∨ (fnOf s.dev fn.toNat).mbBusy = some seq.toNat)

/-- The device once the custodian or hardware has taken that request (R374). -/
def mailTaken (fn : BitVec 12) (seq : BitVec 32) (d : Dev) : Dev :=
  onFn fn.toNat (fun h => { h with mbBusy := some seq.toNat, mbTaken := true }) d

/-- The tag table is in its one canonical form: word numbers strictly rising, only set tags listed. -/
def tagsWf (t : FMap Bool) : Bool := rising t && t.all (fun c => c.2)

/-- The memories are in canonical form. -/
abbrev MemInv (s : State) : Prop := memWf s.mem = true ∧ tagsWf s.memTags = true


end Sys2Proof.Machine
end

