-- ==== Sys2Proof/Certificates/Slice0/Obligations.lean ====
section
/-! DEFINITION. The statements for the provers. Each names the rules of spec/ it formalises. -/

set_option linter.unusedVariables false

open Sys2Proof Sys2Proof.Machine

/-! The Lope processors. -/

/-- Arithmetic of two D registers: the result modulo 2^64 and the OR of the source tags go to Dd, whichever registers the
fields name; nothing else but the counters and the program counter changes (R208, R225). -/
def Obligations.AluOfTwoRegisters : Prop :=
  ∀ (s : State) (p : ProcId) (rd ra rb : BitVec 4) (aux : BitVec 8), Issues s p →
    let q := procOf s.dev p.val
    let f : RFmt := { rd := rd, ra := ra, rb := rb, aux := aux, e := false }
    let a := q.d[dReg ra]
    let b := q.d[dReg rb]
    let gives := fun (c : Instr) (cycles : Nat) (v : Word) =>
      exec c s = .next (retired p 4 cycles (putD q (dReg rd) v (q.dTag[dReg ra] || q.dTag[dReg rb])) s)
    gives (.add p f) 1 (a + b) ∧ gives (.sub p f) 1 (a - b) ∧ gives (.and p f) 1 (a &&& b) ∧
    gives (.or p f) 1 (a ||| b) ∧ gives (.xor p f) 1 (a ^^^ b) ∧
    gives (.shl p f) 1 (a <<< (b.toNat % 64)) ∧ gives (.shr p f) 1 (a >>> (b.toNat % 64)) ∧
    gives (.sar p f) 1 (a.sshiftRight (b.toNat % 64)) ∧
    gives (.mul p f) 3 (a * b) ∧ gives (.mulhu p f) 3 (BitVec.ofNat 64 (a.toNat * b.toNat / 2 ^ 64)) ∧
    gives (.cmpeqm p f) 1 (if a = b then BitVec.allOnes 64 else 0#64) ∧
    gives (.cmpltm p f) 1 (if a.toNat < b.toNat then BitVec.allOnes 64 else 0#64)

/-- Arithmetic of one D register, SEL, and the two moves that write a tag: the tag follows the sources, SETT sets it, CLT
clears it in privileged mode (R208, R225).
DIVU of untagged registers: the unsigned quotient, all ones for a divisor of zero (R208). -/
def Obligations.AluOfOneRegister : Prop :=
  (∀ (s : State) (p : ProcId) (rd ra rb : BitVec 4) (aux : BitVec 8), Issues s p →
     let q := procOf s.dev p.val
     let f : RFmt := { rd := rd, ra := ra, rb := rb, aux := aux, e := false }
     let a := q.d[dReg ra]
     let m := dReg (aux.truncate 4)
     let gives := fun (c : Instr) (v : Word) (t : Bool) =>
       exec c s = .next (retired p 4 1 (putD q (dReg rd) v t) s)
     gives (.mov p f) a q.dTag[dReg ra] ∧ gives (.not p f) (~~~a) q.dTag[dReg ra] ∧
     gives (.neg p f) (0#64 - a) q.dTag[dReg ra] ∧
     gives (.shli p f) (a <<< (aux.toNat % 64)) q.dTag[dReg ra] ∧
     gives (.shri p f) (a >>> (aux.toNat % 64)) q.dTag[dReg ra] ∧
     gives (.sari p f) (a.sshiftRight (aux.toNat % 64)) q.dTag[dReg ra] ∧
     gives (.popc p f) (popCount a) q.dTag[dReg ra] ∧
     (∃ v, gives (.bswap p f) v q.dTag[dReg ra] ∧ ∀ i < 8, byteAt v i = byteAt a (7 - i)) ∧
     gives (.sel p f) ((q.d[m] &&& a) ||| (~~~q.d[m] &&& q.d[dReg rb]))
       (q.dTag[dReg ra] || q.dTag[dReg rb] || q.dTag[m]) ∧
     gives (.sett p f) a true ∧
     (isPriv q = true → gives (.clt p f) a false)) ∧
  (∀ (s : State) (p : ProcId) (rd ra rb : BitVec 4) (aux : BitVec 8), Issues s p →
     let q := procOf s.dev p.val
     q.dTag[dReg ra] = false → q.dTag[dReg rb] = false →
     exec (.divu p { rd := rd, ra := ra, rb := rb, aux := aux, e := false }) s =
       .next (retired p 4 36 (putD q (dReg rd)
         (if q.d[dReg rb] = 0#64 then BitVec.allOnes 64 else q.d[dReg ra] / q.d[dReg rb]) false) s))

/-- Immediate forms: with E = 0 a 16-bit immediate and 4 bytes, with E = 1 the extension word and 8; sign-extended, for MOVAI
zero-extended (R205, R208, R225). -/
def Obligations.ImmediateForms : Prop :=
  ∀ (s : State) (p : ProcId) (rd ra : BitVec 4) (imm : BitVec 16) (ext : BitVec 32) (e : Bool), Issues s p (if e then 8 else 4) →
    let q := procOf s.dev p.val
    let w : BitVec 32 := if e then ext else imm.signExtend 32
    let i : Word := w.signExtend 64
    let len := if e then 8 else 4
    let f : IFmt := { rd := rd, ra := ra, resv := false, imm16 := if e then 0#16 else imm, e := e, ext := ext }
    let a := q.d[dReg ra]
    let gives := fun (c : Instr) (v : Word) =>
      exec c s = .next (retired p len 1 (putD q (dReg rd) v q.dTag[dReg ra]) s)
    gives (.addi p f) (a + i) ∧ gives (.andi p f) (a &&& i) ∧ gives (.ori p f) (a ||| i) ∧ gives (.xori p f) (a ^^^ i) ∧
    (ra = 0#4 → exec (.movi p f) s = .next (retired p len 1 (putD q (dReg rd) i false) s)) ∧
    (rd = 0#4 → exec (.cmpi p f) s = .next (retired p len 1 { q with sr := cmpSr q.sr a i q.dTag[dReg ra] } s)) ∧
    (∀ n m : Fin 8, aReg rd = some n → aReg ra = some m →
      exec (.addai p f) s = .next (retired p len 1 (putA q n (q.a[m] + w)) s)) ∧
    (∀ n : Fin 8, aReg rd = some n →
      exec (.movai p f) s = .next (retired p len 1 (putA q n (if e then ext else imm.zeroExtend 32)) s))

/-- Compares write NZCV and FT and nothing else of SR: C is the absence of a borrow, V the signed overflow, FT the OR of the
source tags, 0 for CMPA (R198, R208, R225). -/
def Obligations.CompareFlags : Prop :=
  ∀ (s : State) (p : ProcId) (ra rb : BitVec 4) (aux : BitVec 8), Issues s p →
    let q := procOf s.dev p.val
    let f : RFmt := { rd := 0#4, ra := ra, rb := rb, aux := aux, e := false }
    (∃ sr, exec (.cmp p f) s = .next (retired p 4 1 { q with sr := sr } s) ∧
      sr.getLsbD 3 = (q.d[dReg ra] - q.d[dReg rb]).msb ∧
      sr.getLsbD 2 = decide (q.d[dReg ra] = q.d[dReg rb]) ∧
      sr.getLsbD 1 = decide (q.d[dReg rb].toNat ≤ q.d[dReg ra].toNat) ∧
      sr.getLsbD 0 = decide (q.d[dReg ra].toInt - q.d[dReg rb].toInt ≠ (q.d[dReg ra] - q.d[dReg rb]).toInt) ∧
      sr.getLsbD srFt = (q.dTag[dReg ra] || q.dTag[dReg rb]) ∧
      ∀ i, 4 ≤ i → i ≠ srFt → sr.getLsbD i = q.sr.getLsbD i) ∧
    (∀ n m : Fin 8, aReg ra = some n → aReg rb = some m →
      ∃ sr, exec (.cmpa p f) s = .next (retired p 4 1 { q with sr := sr } s) ∧
        sr.getLsbD 3 = (q.a[n] - q.a[m]).msb ∧ sr.getLsbD 2 = decide (q.a[n] = q.a[m]) ∧
        sr.getLsbD 1 = decide (q.a[m].toNat ≤ q.a[n].toNat) ∧
        sr.getLsbD 0 = decide (q.a[n].toInt - q.a[m].toInt ≠ (q.a[n] - q.a[m]).toInt) ∧
        sr.getLsbD srFt = false ∧ ∀ i, 4 ≤ i → i ≠ srFt → sr.getLsbD i = q.sr.getLsbD i)

/-- Moves and sums of A registers, modulo 2^32; MOVAD needs an untagged source (R208, R225, R227).
Accumulator operations on registers no JOBX result is due in, byte 0 the least significant (R196, R208, R221, R225). -/
def Obligations.AddressesAndAccumulators : Prop :=
  (∀ (s : State) (p : ProcId) (rd ra rb : BitVec 4) (aux : BitVec 8), Issues s p →
     let q := procOf s.dev p.val
     let f : RFmt := { rd := rd, ra := ra, rb := rb, aux := aux, e := false }
     (∀ n m : Fin 8, aReg rd = some n → aReg ra = some m →
       exec (.mova p f) s = .next (retired p 4 1 (putA q n q.a[m]) s) ∧
       ∀ k : Fin 8, aReg rb = some k →
         exec (.adda p f) s = .next (retired p 4 1 (putA q n (q.a[m] + q.a[k])) s) ∧
         exec (.suba p f) s = .next (retired p 4 1 (putA q n (q.a[m] - q.a[k])) s)) ∧
     (∀ n : Fin 8, aReg rd = some n → q.dTag[dReg ra] = false →
       exec (.movad p f) s = .next (retired p 4 1 (putA q n (q.d[dReg ra].truncate 32)) s)) ∧
     (∀ m : Fin 8, aReg ra = some m →
       exec (.movda p f) s = .next (retired p 4 1 (putD q (dReg rd) (q.a[m].zeroExtend 64) false) s))) ∧
  (∀ (s : State) (p : ProcId) (rd ra rb : BitVec 4) (aux : BitVec 8) (x y z : Fin 4), Issues s p →
     let q := procOf s.dev p.val
     let f : RFmt := { rd := rd, ra := ra, rb := rb, aux := aux, e := false }
     let a := q.x[y]
     let b := q.x[z]
     let m := dReg (aux.truncate 4)
     let writes := fun (c : Instr) (v : BitVec 256) (t : Bool) => exec c s = .next (retired p 4 1 (putX q x v t) s)
     let bytes := fun (c : Instr) (t : Bool) (g : Nat → BitVec 8) =>
       ∃ v, writes c v t ∧ ∀ i < 32, byteAt v i = g i
     let flags := fun (c : Instr) (g : Nat → Bool) =>
       ∃ v, exec c s = .next (retired p 4 1 (putD q (dReg rd) v (q.xTag[y] || q.xTag[z])) s) ∧
         ∀ i < 64, v.getLsbD i = (decide (i < 32) && g i)
     (xReg rd = some x → q.xPend[x] = false → writes (.xzero p f) 0#256 false ∧
       bytes (.xbcast p f) q.dTag[dReg ra] (fun _ => byteAt q.d[dReg ra] 0) ∧
       writes (.xins p f) (putLane q.x[x] (aux.toNat % 4) q.d[dReg ra]) (q.xTag[x] || q.dTag[dReg ra])) ∧
     (xReg ra = some y → q.xPend[y] = false →
       exec (.xext p f) s = .next (retired p 4 1 (putD q (dReg rd) (laneOf a (aux.toNat % 4)) q.xTag[y]) s)) ∧
     exec (.xmaskl p f) s = .next (retired p 4 1
       (putD q (dReg rd) (BitVec.ofNat 64 (2 ^ min q.d[dReg ra].toNat 32 - 1)) q.dTag[dReg ra]) s) ∧
     (xReg rd = some x → xReg ra = some y → q.xPend[x] = false → q.xPend[y] = false →
       writes (.xmov p f) a q.xTag[y] ∧ bytes (.xrev p f) q.xTag[y] (fun i => byteAt a (31 - i)) ∧
       bytes (.xshlb p f) q.xTag[y] (fun i => if i < aux.toNat % 32 then 0#8 else byteAt a (i - aux.toNat % 32)) ∧
       bytes (.xshrb p f) q.xTag[y] (fun i => byteAt a (i + aux.toNat % 32))) ∧
     (xReg ra = some y → xReg rb = some z → q.xPend[y] = false → q.xPend[z] = false →
       flags (.xcmpeqb p f) (fun i => decide (byteAt a i = byteAt b i)) ∧
       flags (.xcmpltb p f) (fun i => decide ((byteAt a i).toNat < (byteAt b i).toNat))) ∧
     (xReg rd = some x → xReg ra = some y → xReg rb = some z →
       q.xPend[x] = false → q.xPend[y] = false → q.xPend[z] = false →
       writes (.xand p f) (a &&& b) (q.xTag[y] || q.xTag[z]) ∧ writes (.xOr p f) (a ||| b) (q.xTag[y] || q.xTag[z]) ∧
       writes (.xxor p f) (a ^^^ b) (q.xTag[y] || q.xTag[z]) ∧
       bytes (.xaddb p f) (q.xTag[y] || q.xTag[z]) (fun i => byteAt a i + byteAt b i) ∧
       bytes (.xsubb p f) (q.xTag[y] || q.xTag[z]) (fun i => byteAt a i - byteAt b i) ∧
       bytes (.xsel p f) (q.xTag[y] || q.xTag[z] || q.dTag[m])
         (fun i => if q.d[m].getLsbD i then byteAt a i else byteAt b i)))

/-- Branches: to their own address plus 4 × offset when taken, to the next instruction otherwise; BL keeps the return
address in A7 (R207, R208, R227). -/
def Obligations.Branches : Prop :=
  ∀ (s : State) (p : ProcId) (cond : BitVec 4) (off : BitVec 21) (boff : BitVec 20) (ds ra : BitVec 4), Issues s p →
    let q := procOf s.dev p.val
    let next := q.pc + 4#32
    let bz : BZFmt := { ds := ds, off := boff, e := false }
    (∀ t, condHolds q.sr cond.toNat = some t → (cond = 0#4 ∨ bitAt q.sr srFt = false) →
      exec (.b p { cond := cond, off := off, e := false }) s =
        .next (branched p (if t then 2 else 1) q (if t then q.pc + off.signExtend 32 * 4#32 else next) s)) ∧
    exec (.bl p { cond := 0#4, off := off, e := false }) s =
      .next (branched p 2 (putA q 7 next) (q.pc + off.signExtend 32 * 4#32) s) ∧
    (∀ n : Fin 8, aReg ra = some n → ∀ (rd rb : BitVec 4) (aux : BitVec 8),
      exec (.jr p { rd := rd, ra := ra, rb := rb, aux := aux, e := false } 0#5) s = .next (branched p 2 q q.a[n] s)) ∧
    (q.dTag[dReg ds] = false →
      let target := q.pc + boff.signExtend 32 * 4#32
      exec (.bz p bz) s = .next
        (if q.d[dReg ds] = 0#64 then branched p 2 q target s else branched p 1 q next s) ∧
      exec (.bnz p bz) s = .next
        (if q.d[dReg ds] = 0#64 then branched p 1 q next s else branched p 2 q target s))

/-- Loads: the access's bytes, zero-extended and little-endian, and its tag go to the destination, and MODE 2 adds the
immediate to the base; an access that is granted reads memory, one that is denied reads zero with the tag set (R206, R208,
R225, R241). -/
def Obligations.Loads : Prop :=
  (∀ (s s' : State) (p : ProcId) (f : MFmt) (a : BitVec 32) (base : Option (Fin 8 × BitVec 32)) (n : Nat) (b : Bytes) (t : Bool),
    Issues s p (if f.e then 8 else 4) →
    let q := procOf s.dev p.val
    effAddr q f = .ok (a, base) → a.toNat % n = 0 → loadBytes p.val q a.toNat n s = .ok (b, t, s') →
    let gives := fun (c : Instr) (r : Proc) => exec c s = .next (retired p (if f.e then 8 else 4)
      (memCycles p.val a.toNat q (isDenied p.val q a.toNat n true false s) s.dev) (postBase f base r) s')
    let d := putD q (dReg f.rd) (BitVec.ofNat 64 (leVal b)) t
    (n = 1 → gives (.ldB p f) d) ∧ (n = 2 → gives (.ldH p f) d) ∧ (n = 4 → gives (.ldW p f) d) ∧
    (n = 8 → gives (.ldD p f) d) ∧
    (∀ r, n = 4 → aReg f.rd = some r → gives (.lda p f) (putA q r (BitVec.ofNat 32 (leVal b)))) ∧
    (∀ r, n = 32 → xReg f.rd = some r → q.xPend[r] = false → gives (.ldx p f) (putX q r (xOfBytes b) t))) ∧
  (∀ (s : State) (p : Nat) (q : Proc) (a n phys : Nat) (hbm secret : Bool), a < 0x400000 ∨ p < 512 →
    repuSlow p a q = false →
    checkAccess s.dev p q a n true false = .granted phys hbm secret → poisonedAt phys n s.dev = false →
    memBad s.dev phys n = false → loadBytes p q a n s = .ok (readBytes s.mem phys n,
      if hbm then secret else !untaggedStore phys && readTags s.memTags phys n, s)) ∧
  (∀ (s : State) (p : Nat) (q : Proc) (a n kind region : Nat), p < 512 → repuSlow p a q = false →
    checkAccess s.dev p q a n true false = .denied kind region →
    loadBytes p q a n s = .ok (zeros n, true, denyAccess p kind region a false s))

/-- Stores: the source's low bytes and its tag go to the address, little-endian, and MODE 2 adds the immediate to the base; a
denied store changes no byte but the violation's record (R206, R208, R226, R241).
Masked field moves of the MAX bytes at A[AB] + OFF: MFLD keeps min(Dl, MAX) of them and zeros the rest of Xd; MFST
writes that many back and the others as they were (R209, R210, R225, R226). -/
def Obligations.StoresAndMaskedFields : Prop :=
  ((∀ (s s' : State) (p : ProcId) (f : MFmt) (a : BitVec 32) (base : Option (Fin 8 × BitVec 32)),
     Issues s p (if f.e then 8 else 4) →
     let q := procOf s.dev p.val
     effAddr q f = .ok (a, base) →
     let gives := fun (c : Instr) (n : Nat) (b : Bytes) (t : Bool) => a.toNat % n = 0 →
       storeBytes p.val q a.toNat b t s = .ok s' → exec c s = .next (retired p (if f.e then 8 else 4)
       (memCycles p.val a.toNat q (isDenied p.val q a.toNat n false true s) s.dev) (postBase f base q) s')
     let d := q.d[dReg f.rd].toNat
     let t := q.dTag[dReg f.rd]
     gives (.stB p f) 1 (le 1 d) t ∧ gives (.stH p f) 2 (le 2 d) t ∧ gives (.stW p f) 4 (le 4 d) t ∧
     gives (.stD p f) 8 (le 8 d) t ∧
     (∀ r, aReg f.rd = some r → gives (.sta p f) 4 (le 4 q.a[r].toNat) false) ∧
     (∀ r, xReg f.rd = some r → q.xPend[r] = false → gives (.stx p f) 32 (bytesOfX q.x[r]) q.xTag[r])) ∧
   (∀ (s : State) (p : Nat) (q : Proc) (a phys : Nat) (b : Bytes) (t hbm secret : Bool), a < 0x400000 ∨ p < 512 →
     repuSlow p a q = false → checkAccess s.dev p q a b.length false true = .granted phys hbm secret → (hbm && t && !secret) = false →
     memBad s.dev phys b.length = false → storeBytes p q a b t s = .ok (putBytes phys hbm b t s)) ∧
   (∀ (s : State) (p : Nat) (q : Proc) (a kind region : Nat) (b : Bytes) (t : Bool), p < 512 → repuSlow p a q = false →
     checkAccess s.dev p q a b.length false true = .denied kind region →
     storeBytes p q a b t s = .ok (denyAccess p kind region a true s))) ∧
  (∀ (s : State) (p : ProcId) (f : MFFmt) (n phys : Nat) (hbm secret : Bool), Issues s p → memWf s.mem = true →
     let q := procOf s.dev p.val
     let a := (q.a[abReg f.ab] + f.off.zeroExtend 32).toNat
     let x := xReg2 f.xd
     let kept := min q.d[dReg f.dl].toNat n
     f.e = false → n = f.max1.toNat + 1 → n ≤ 32 → q.xPend[x] = false → poisonedAt phys n s.dev = false →
     memBad s.dev phys n = false →
     (if p.val < 512 then a + n ≤ 0x8000 ∨ (0x100000 ≤ a ∧ a + n ≤ 0x200000) else a + n ≤ 0x400000) →
     (checkAccess s.dev p.val q a n true false = .granted phys hbm secret → hbm = false →
       ∃ cycles v, exec (.mfld p f) s = .next (retired p 4 cycles
           (putX q x v ((!untaggedStore phys && readTags s.memTags phys n) || q.dTag[dReg f.dl] || f.s)) s) ∧
         ∀ i < 32, byteAt v i = if i < kept then readByte s.mem (phys + i) else 0#8) ∧
     (checkAccess s.dev p.val q a n true true = .granted phys hbm secret → f.s = false →
       ∃ cycles s', exec (.mfst p f) s = .next (retired p 4 cycles q s') ∧ s'.dev = s.dev ∧ s'.pending = s.pending ∧
         ∀ y, readByte s'.mem y = if phys ≤ y ∧ y < phys + kept then byteAt q.x[x] (y - phys) else readByte s.mem y))
/-- Every byte of memory outside a granted store's own bytes is as before, and those bytes read as the data; a load that is
granted leaves all of memory (R226, R241). -/
def Obligations.StoreMemoryFrame : Prop :=
  ∀ (s t : State) (p : ProcId) (f : MFmt) (a : BitVec 32) (base : Option (Fin 8 × BitVec 32)) (phys : Nat) (hbm secret : Bool),
    Issues s p (if f.e then 8 else 4) → memWf s.mem = true →
    let q := procOf s.dev p.val
    effAddr q f = .ok (a, base) → (p.val < 512 ∨ a.toNat < 0x400000) → repuSlow p.val a.toNat q = false →
    let frame := fun (c : Instr) (n : Nat) (b : Bytes) (tag : Bool) => a.toNat % n = 0 →
      checkAccess s.dev p.val q a.toNat n false true = .granted phys hbm secret →
      (hbm && tag && !secret) = false → memBad s.dev phys n = false → exec c s = .next t →
      readBytes t.mem phys n = b ∧ ∀ x, (x < phys ∨ phys + n ≤ x) → readByte t.mem x = readByte s.mem x
    let d := q.d[dReg f.rd].toNat
    let tag := q.dTag[dReg f.rd]
    frame (.stB p f) 1 (le 1 d) tag ∧ frame (.stH p f) 2 (le 2 d) tag ∧ frame (.stW p f) 4 (le 4 d) tag ∧
    frame (.stD p f) 8 (le 8 d) tag ∧
    (∀ r, aReg f.rd = some r → frame (.sta p f) 4 (le 4 q.a[r].toNat) false) ∧
    (∀ r, xReg f.rd = some r → q.xPend[r] = false → frame (.stx p f) 32 (bytesOfX q.x[r]) q.xTag[r]) ∧
    (∀ n, a.toNat % n = 0 → checkAccess s.dev p.val q a.toNat n true false = .granted phys hbm secret →
      (n = 1 ∧ exec (.ldB p f) s = .next t ∨ n = 2 ∧ exec (.ldH p f) s = .next t ∨
       n = 4 ∧ (exec (.ldW p f) s = .next t ∨ exec (.lda p f) s = .next t) ∨
       n = 8 ∧ exec (.ldD p f) s = .next t ∨ n = 32 ∧ exec (.ldx p f) s = .next t) → t.mem = s.mem)


/-- Events and waits: SEV and SEV ALL set the sender's bit; WFE takes the selected bits, WTU compares the time base, JWAIT
frees a finished slot; each completes at once or waits, and ends by the event it waits for (R212-R216, R223).
The events that end a wait, and the custodian's signal: the waiting instruction completes with the value its rule gives,
at the moment it was due (R212-R215). -/
def Obligations.EventsAndWaits : Prop :=
  (∀ (s : State) (p : ProcId) (rd ra : BitVec 4) (ext : BitVec 32) (e : Bool), Issues s p (if e then 8 else 4) →
     let q := procOf s.dev p.val
     let f : EvFmt := { rd := rd, ra := ra, resv := 0#17, e := e, ext := ext }
     let mask : BitVec 32 := q.d[dReg ra].truncate 32
     let take := fun (r : Proc) => { putD r (dReg rd) ((r.ev &&& mask).zeroExtend 64) false with ev := r.ev &&& ~~~mask }
     let setC := fun (b : Bool) (r : Proc) => { r with sr := withBit r.sr 1 b }
     let ends := fun (c : Instr) (len : Nat) (g : Proc → Proc) => exec c s = becomes s (endWait p.val len g s.dev)
     let waits := fun (c : Instr) (w : LopeWait) =>
       exec c s = becomes s (onProc p.val (fun r => { r with wait := some w }) s.dev)
     (q.dTag[dReg ra] = false → (q.ev &&& mask ≠ 0#32 → ends (.wfe p f) (if e then 8 else 4) take) ∧
       (q.ev &&& mask = 0#32 → waits (.wfe p f) (.wfe (dReg rd) mask
         (if e then some (s.dev.tb.now + (if q.sr.getLsbD srLra ∧ q.pc = q.waitAt then q.lrem.toNat else ext.toNat)) else none)
         (if e then 8 else 4)))) ∧
     (e = false → q.dTag[dReg rd] = false → q.dTag[dReg ra] = false →
       let target := q.d[dReg rd].toNat
       let limit := if q.sr.getLsbD srLra ∧ q.pc = q.waitAt then q.lrem.toNat else q.d[dReg ra].toNat % 2 ^ 32
       (target ≤ s.dev.tb.now → ends (.wtu p f) 4 (setC false)) ∧
       (s.dev.tb.now < target → limit = 0 → ends (.wtu p f) 4 (setC true)) ∧
       (s.dev.tb.now < target → limit ≠ 0 → waits (.wtu p f) (.wtu target (s.dev.tb.now + limit)))) ∧
     (∀ k : BitVec 3, q.jobs[jsReg k].issued = true →
       let f : JwFmt := { rd := rd, resv := 0#18, js := k, e := false }
       (q.jstat[jsReg k].getLsbD 16 = false → ends (.jwait p f) 4 (fun r =>
         { putD r (dReg rd) r.jstat[jsReg k] false with
           ev := r.ev &&& ~~~(1#32 <<< (16 + (jsReg k).val)), jobs := r.jobs.set (jsReg k) {} })) ∧
       (q.jstat[jsReg k].getLsbD 16 = true → waits (.jwait p f) (.jwait (dReg rd) (jsReg k)))) ∧
     (∀ slot : BitVec 4, p.val < 512 →
       let f : SevFmt := { slot := slot, resv := 0#20, e := false }
       let bit := 1#32 <<< (p.val % 16)
       let dest := p.val / 16 * 16 + slot.toNat
       (dest ≠ p.val → exec (.sev p f) s = .next (retired p 4 1 q { s with dev := setEv dest bit s.dev })) ∧
       (dest = p.val → exec (.sev p f) s = .next (retired p 4 1 { q with ev := q.ev ||| bit } s)) ∧
       let all := ((List.range 16).filter (fun k => !(k == p.val % 16))).foldl
         (fun d k => setEv (p.val / 16 * 16 + k) bit d) s.dev
       exec (.sevAll p f) s = .next (retired p 4 1 q { s with dev := all }))) ∧
  (∀ (s : State) (p : ProcId),
     let q := procOf s.dev p.val
     let ends := fun (c : Instr) (at_ len : Nat) (g : Proc → Proc) =>
       exec c s = becomes s (endWait p.val len g (reach at_ s.dev))
     (∀ rd mask till len, q.wait = some (.wfe rd mask till len) → q.ev &&& mask ≠ 0#32 →
       (∀ t, till = some t → s.dev.tb.now ≤ t) →
       ends (.wfeWake p) 0 len (fun r =>
         { putD r rd ((r.ev &&& mask).zeroExtend 64) false with ev := r.ev &&& ~~~mask })) ∧
     (∀ rd mask till len, q.wait = some (.wfe rd mask (some till) len) → q.ev &&& mask = 0#32 →
       ends (.wfeLimitExpire p) till len (fun r => putD r rd 0#64 false)) ∧
     (∀ target till, q.wait = some (.wtu target till) →
       (target ≤ till → ends (.wtuTargetReached p) target 4 (fun r => { r with sr := withBit r.sr 1 false })) ∧
       (till < target → ends (.wtuLimitExpire p) till 4 (fun r => { r with sr := withBit r.sr 1 true }))) ∧
     exec (.custodianSignal p) s = becomes s (onProc p.val (fun r =>
       { r with ev := (r.ev ||| 0x02000000#32) &&& (if p.val < 512 then 0x03FFFFFF#32 else 0x03FF0000#32) }) s.dev))

/-- Repeats, the time base and control registers: what REP and REPU set up, what TIME, MFC and MTC move, and NOP
(R197, R198, R217-R219).
System instructions in the mode that may run them: RFE restores SR from ESR but for WORLD and DOMAIN and continues at EPC,
HALT stops, FENCE completes, CALL enters the exception at VBR + 0xC0 with the address behind it saved and in user mode ends a
slice with CALL #1, PSWAP exchanges the rule sets, GFENCE records the generation (R228, R243, R245, R275). -/
def Obligations.ControlAndSystemInstructions : Prop :=
  (∀ (s : State) (p : ProcId) (r : BitVec 4), Issues s p →
     let q := procOf s.dev p.val
     let marks := fun (u : Bool) => withBit (withBit q.sr srRepa true) srRepu u
     (∀ (reg : Bool) (n : BitVec 16) (op : BitVec 6) (nextE : Bool), repForbidden op.toNat = false →
       (reg = true → q.dTag[dReg r] = false) →
       let f : RepFmt := { reg := reg, dc := r, resv := 0#4, n := n, e := false, nextOp := op, nextE := nextE }
       let count : BitVec 32 := if reg then q.d[dReg r].truncate 32 else n.zeroExtend 32
       exec (.rep p f) s = .next (retired p 4 1
         (if count = 0#32 then { q with pc := q.pc + (if nextE then 8#32 else 4#32) }
          else { q with rc := count, sr := marks false, repAt := q.pc + 4#32 }) s)) ∧
     (∀ (n1 op : BitVec 6), repuAllowed op.toNat = true →
       exec (.repu p { n1 := n1, resv := 0#19, e := false, nextOp := op }) s = .next (retired p 4 1
         { q with rc := n1.zeroExtend 32 + 1#32, sr := marks true, repAt := q.pc + 4#32 } s)) ∧
     (∀ num : BitVec 12, let f : CFmt := { r := r, resv := 0#9, num := num, e := false }
       exec (.time p f) s = .next (retired p 4 2 (putD q (dReg r) (BitVec.ofNat 64 s.dev.tb.now) false) s) ∧
       (∀ v, crRead p.val q num.toNat = some v → (isPriv q = true ∨ userReads num.toNat = true) →
         exec (.mfc p f) s = .next (retired p 4 2 (putD q (dReg r) v false) s)) ∧
       ((crRead p.val q num.toNat).isSome = true → (isPriv q = true ∨ num.toNat ≤ 2) →
         (num.toNat ≤ 2 → q.dTag[dReg r] = false) →
         exec (.mtc p f) s = .next (retired p 4 2 (crWrite q num.toNat q.d[dReg r] q.dTag[dReg r]) s))) ∧
     (∀ (rd ra rb : BitVec 4) (aux : BitVec 8),
       exec (.nop p { rd := rd, ra := ra, rb := rb, aux := aux, e := false }) s = .next (retired p 4 1 q s))) ∧
  (∀ (s : State) (p : ProcId) (rd ra rb : BitVec 4) (aux : BitVec 8), Issues s p →
     let q := procOf s.dev p.val
     let u := protOf s.dev p.val
     let f : RFmt := { rd := rd, ra := ra, rb := rb, aux := aux, e := false }
     let ends := fun (c : Instr) (g : Proc → Proc) => exec c s = becomes s (endWait p.val 4 g s.dev)
     (isPriv q = true →
       (∃ sr, exec (.rfe p f) s =
           .next (branched p 4 { q with sr := sr, pc := q.epc, repAt := q.epc, waitAt := q.epc } q.epc s) ∧
         ∀ i < 32, sr.getLsbD i = if i = srWorld ∨ (12 ≤ i ∧ i < 24) then q.sr.getLsbD i
           else if i = 24 ∨ (4 ≤ i ∧ i < 12) then false else q.esr.getLsbD i) ∧
       ends (.halt p f) (fun r => { r with halted := true }) ∧
       (busySlots q = [] → u.slock = false → u.loadBusy = none →
         exec (.pswap p f) s =
           becomes s (onProc p.val (fun r => stepPc 4 (countInstr 4 r)) (swapSets p.val s.dev))) ∧
       (oldJobs u q = false → exec (.gfence p f) s = .next (retired p 4 1 q
         { s with dev := onProt p.val (fun u => { u with fencedGen := u.gen }) s.dev }))) ∧
     ends (.fence p f) (fun r => r) ∧
     (let d := onProc p.val (fun r =>
         { countInstr 4 r with
           epc := r.pc + 4#32, esr := r.sr, ecause := aux, eaddr := 0#32, wait := none, pc := r.vbr + 0xC0#32,
           sr := withBit (withBit r.sr srPriv true) srIe false }) s.dev
      exec (.call p f) s = becomes s (if aux = 1#8 ∧ q.custodianWork = true then endWorld p.val d
        else if aux = 1#8 ∧ isPriv q = false then endSlice p.val d else d)))

/-- What happens to a processor from outside its program: the interrupt at a boundary, the end of its budget, HALT_REQ, and
the restart after a double fault, which zeroes the scratch and makes both rule sets invalid (R228-R232, R541).
Commands of the protection block and the violation queue: a revocation copies the standby set and raises GEN at once, or
at the end of a REPU; LOAD and direct writes fill the standby set (R246-R249, R252, R253). -/
def Obligations.ProcessorAndProtectionEvents : Prop :=
  (∀ (s : State) (p : ProcId),
     let q := procOf s.dev p.val
     (q.dead = false → q.halted = false → q.off = false → repuOn q = false → q.haltReq = false → intOn q = true →
       q.preempt = false → q.ev &&& q.evm ≠ 0#32 → q.wait = none →
       ∃ r, exec (.interruptEntry p) s = becomes s (onProc p.val (fun _ => r) (onProc p.val (fun _ => q) s.dev)) ∧
         r.epc = q.pc ∧ r.esr = q.sr ∧ r.ecause = 0x80#8 ∧ r.pc = q.vbr + 0x80#32 ∧ isPriv r = true ∧ intOn r = false) ∧
     (p.val < 512 → q.dead = false → isPriv q = false → q.budget ≠ 0#64 → q.budget.toNat ≤ q.cycle.toNat →
       exec (.budgetExpire p) s = becomes s (takeFault p.val 0x0D 0 s.dev)) ∧
     (q.dead = false → q.halted = false → q.off = false →
       exec (.haltReq p) s = becomes s
         (if repuOn q then onProc p.val (fun r => { r with haltReq := true }) s.dev else takeInterrupt p.val 0x82 s.dev)) ∧
     (∀ n : Fin 512, (procOf s.dev n.val).dead = true →
       ∃ t, exec (.engineRestart n) s = .next t ∧
         t.dev = onProt n.val (fun u => { gen := (u.gen + 1) % 2 ^ 32, fencedGen := u.fencedGen })
           (setProc n.val {} (healWords (scratchBase n.val) 0x8000 s.dev)) ∧
         t.pending = s.pending ∧
         (memWf s.mem = true → ∀ a, readByte t.mem a =
           if n.val * 0x8000 ≤ a ∧ a < n.val * 0x8000 + 0x8000 then 0#8 else readByte s.mem a))) ∧
  (∀ (s : State) (p : Fin 512) (k : Fin 64) (v : BitVec 32) (word : Fin 68) (full : Bool),
     let u := protOf s.dev p.val
     (v.getLsbD 0 = true → u.revokeBusy = false → u.revokePending = false → rsValid u.standby = true →
       rsDomain u.standby = rsDomain u.active →
       let d := onProt p.val (fun u => { u with rerr := false }) s.dev
       let q := procOf s.dev p.val
       (repuOn q = false ∨ q.dead = true ∨ q.halted = true → exec (.revoke p v) s = becomes s (revokeNow p.val d)) ∧
       (repuOn q = true → q.dead = false → q.halted = false → exec (.revoke p v) s = becomes s
         (onProt p.val (fun u => { u with rerr := false, revokePending := true }) s.dev))) ∧
     (u.revokeBusy = true → oldJobs u (procOf s.dev p.val) = false →
       exec (.revokeFenceDone p) s = becomes s
         (onProt p.val (fun u => { u with revokeBusy := false, fencedGen := u.gen }) s.dev)) ∧
     (u.loadBusy = none → exec (.load p k) s = becomes s
       (onProt p.val (fun u => { u with loadBusy := some k.val, rerr := false }) s.dev)) ∧
     (u.loadBusy = some k.val → exec (.loadDone p) s = becomes s (resumeSwap p.val (onProt p.val (fun u =>
       { u with standby := ruleSetOf (readBytes s.mem (sdataBase (p.val / 16) + 0xF0000 + 512 * k.val) 272),
                loadBusy := none, sbySrc := k.val, sbyFor := classOfImage s.dev (p.val / 16) k.val }) s.dev))) ∧
     exec (.pctlWrite p v) s = becomes s
       (resumeSwap p.val (onProt p.val (fun u => { u with slock := v.getLsbD 0 }) s.dev)) ∧
     exec (.standbySetWrite p word v) s = becomes s (onProt p.val (fun u =>
       { u with standby := ruleSetOf (overwrite (ruleSetBytes u.standby) (4 * word.val) (le 4 v.toNat)),
                sbySrc := 0xFE }) s.dev) ∧
     exec .vqHeadRead s =
       becomes s (emit (.readValue s.dev.vq.head) { s.dev with vq := { s.dev.vq with sealed := s.dev.vq.written } }) ∧
     exec (.vqTailWrite v) s = becomes s { s.dev with vq := { s.dev.vq with tail := v.toNat, notified := false } } ∧
     exec (.vqLostRead full) s = becomes s (emit (.readValue s.dev.vq.lost)
       { s.dev with vq := { s.dev.vq with lost := if full then 0 else s.dev.vq.lost } }))

/-- Faults taken before the instruction has any effect: a tagged condition, address, quantity of time or control value
(R227), a privileged instruction in user mode (R229), E = 1 where the format has no extension (R204).
The accesses that stop: one that is not aligned to its size, one to an address that does not exist, one through the HBM
window under REPU (R206, R219, R229, R238).
Taking a fault: EPC keeps the instruction's address, ESR the status, ECAUSE and EADDR the cause; privileged mode with
interrupts off continues at VBR + 0x40; a fault of user mode ends the message's schedule, and one in privileged mode with IE
clear takes the processor out of service (R228, R231). -/
def Obligations.LopeFaults : Prop :=
  (∀ (s : State) (p : ProcId) (rd ra rb cond : BitVec 4) (aux : BitVec 8) (e : Bool), Issues s p →
     let q := procOf s.dev p.val
     let f : RFmt := { rd := rd, ra := ra, rb := rb, aux := aux, e := e }
     let faults := fun (c : Instr) (cause : Nat) => exec c s = becomes s (takeFault p.val cause 0 s.dev)
     (e = true → faults (.add p f) 0x01 ∧ faults (.mov p f) 0x01 ∧ faults (.xmov p f) 0x01 ∧ faults (.mova p f) 0x01 ∧
       faults (.nop p f) 0x01 ∧ faults (.fence p f) 0x01 ∧ faults (.call p f) 0x01 ∧ faults (.pswap p f) 0x01) ∧
     (e = false → isPriv q = false → faults (.clt p f) 0x02 ∧ faults (.rfe p f) 0x02 ∧ faults (.halt p f) 0x02 ∧
       faults (.pswap p f) 0x02 ∧ faults (.gfence p f) 0x02) ∧
     (cond ≠ 0#4 → cond ≠ 15#4 → q.sr.getLsbD srFt = true → ∀ off, faults (.b p { cond := cond, off := off, e := false }) 0x05) ∧
     (q.dTag[dReg ra] = true →
       (∀ off, faults (.bz p { ds := ra, off := off, e := false }) 0x05 ∧
         faults (.bnz p { ds := ra, off := off, e := false }) 0x05) ∧
       (e = false → (aReg rd).isSome = true → faults (.movad p f) 0x06) ∧
       (∀ num : BitVec 12, num.toNat ≤ 2 → faults (.mtc p { r := ra, resv := 0#9, num := num, e := false }) 0x06) ∧
       (e = false → faults (.divu p f) 0x07) ∧
       (∀ ext, (Issues s p (if e then 8 else 4) →
           faults (.wfe p { rd := rd, ra := ra, resv := 0#17, e := e, ext := ext }) 0x07) ∧
         faults (.wtu p { rd := rd, ra := ra, resv := 0#17, e := false, ext := ext }) 0x07) ∧
       (∀ g : RepFmt, g.reg = true → g.dc = ra → g.resv = 0#4 → g.e = false → faults (.rep p g) 0x07))) ∧
  (∀ (s : State) (p : ProcId) (f : MFmt) (a : BitVec 32) (base : Option (Fin 8 × BitVec 32)), Issues s p (if f.e then 8 else 4) →
     let q := procOf s.dev p.val
     effAddr q f = .ok (a, base) →
     let faults := fun (c : Instr) (cause : Nat) => exec c s = becomes s (takeFault p.val cause a.toNat s.dev)
     (a.toNat % 2 ≠ 0 → faults (.ldH p f) 0x03 ∧ faults (.stH p f) 0x03) ∧
     (a.toNat % 4 ≠ 0 → faults (.ldW p f) 0x03 ∧ faults (.stW p f) 0x03) ∧
     (a.toNat % 8 ≠ 0 → faults (.ldD p f) 0x03 ∧ faults (.stD p f) 0x03) ∧
     (a.toNat % 8 = 0 → repuOn q = true → p.val < 512 → spaceOf a.toNat = .hbm →
       faults (.ldB p f) 0x0C ∧ faults (.ldH p f) 0x0C ∧ faults (.ldW p f) 0x0C ∧ faults (.ldD p f) 0x0C ∧
       faults (.stB p f) 0x0C ∧ faults (.stH p f) 0x0C ∧ faults (.stW p f) 0x0C ∧ faults (.stD p f) 0x0C) ∧
     (a.toNat % 8 = 0 → repuOn q = false → p.val < 512 → spaceOf a.toNat = .reserved →
       faults (.ldB p f) 0x04 ∧ faults (.ldH p f) 0x04 ∧ faults (.ldW p f) 0x04 ∧ faults (.ldD p f) 0x04 ∧
       faults (.stB p f) 0x04 ∧ faults (.stH p f) 0x04 ∧ faults (.stW p f) 0x04 ∧ faults (.stD p f) 0x04)) ∧
  (∀ (d : Dev) (p cause addr : Nat),
     let q := procOf d p
     let entered := onProc p (fun r =>
       { r with epc := r.pc, esr := r.sr, ecause := BitVec.ofNat 8 cause, eaddr := BitVec.ofNat 32 addr, wait := none,
                pc := r.vbr + 0x40#32, sr := withBit (withBit r.sr srPriv true) srIe false }) d
     (isPriv q = false → takeFault p cause addr d = userFaultDrop p entered) ∧
     (isPriv q = true → intOn q = true → takeFault p cause addr d = entered) ∧
     (isPriv q = true → intOn q = false → takeFault p cause addr d = engineOut p cause d))

/-- What a register instruction leaves: every register but its destination, every other processor, the memories and their
tags, and everything else of the device but the processor's own counters, program counter and repeat count (R208). -/
def Obligations.RegisterFrame : Prop :=
  ∀ (s t : State) (p : ProcId) (f : RFmt) (c : Instr), Issues s p →
    c ∈ [Instr.mov p f, .add p f, .sub p f, .and p f, .or p f, .xor p f, .not p f, .neg p f, .shl p f, .shr p f, .sar p f,
         .shli p f, .shri p f, .sari p f, .mul p f, .mulhu p f, .cmpeqm p f, .cmpltm p f, .sel p f, .bswap p f, .popc p f,
         .sett p f] →
    f.e = false → (protOf s.dev p.val).revokePending = false → exec c s = .next t →
    let q := procOf s.dev p.val
    t.mem = s.mem ∧ t.memTags = s.memTags ∧ t.pending = s.pending ∧ { t.dev with procs := s.dev.procs } = s.dev ∧
    (∀ n, n ≠ p.val → procOf t.dev n = procOf s.dev n) ∧
    ∃ v tag pc rc sr cycle instret,
      t.dev.procs = put (procReset p.val) s.dev.procs p.val
        { putD q (dReg f.rd) v tag with pc := pc, rc := rc, sr := sr, cycle := cycle, instret := instret } ∧
      (repOn q = false → sr = q.sr ∧ rc = q.rc ∧ pc = q.pc + 4#32)

/-- JOB and JOBX: the template, read where the active set grants it, is patched from the registers that KP, K2P and LP name and takes
its parent's channel, the lists are read and the spans checked, denials are recorded, the slot becomes busy, the job takes the next
reserved child tag or the custodian reserve, and goes to admission; a reserved field, a misaligned or misplaced template, an operand
tagged secret, a busy slot and a message with no reserved tag left fault (R104, R220-R222, R225, R227, R242). -/
def Obligations.JobsIssued : Prop :=
  ∀ (s : State) (p : ProcId), Issues s p →
    let q := procOf s.dev p.val
    let jt := jobTag s.dev p.val q
    let low := fun (r : BitVec 4) => q.d[dReg r].toNat % 2 ^ 32
    let moved := fun (cycles : Nat) (q' : Proc) (d : Dev) =>
      let d := setProc p.val (stepPc 4 (countInstr cycles q')) d
      match jt with
      | .child t c => drawTag t c d
      | _ => d
    let mine := fun (r : Req) => match jt with
      | .child t c => r.parent = some t ∧ r.childTag = some c
      | _ => r.parent = none ∧ r.childTag = none
    let traps := fun (c : Instr) (code a : Nat) => exec c s = becomes s (takeFault p.val code a s.dev)
    (512 ≤ p.val ∨ q.custodianWork = true → jt = .reserve) ∧
    (p.val < 512 → q.custodianWork = false → ∀ t i o, q.slice = some (t, i) → look s.dev.op.ops t = some o →
      (∀ c l, o.resv = c :: l → jt = .child t c) ∧ (o.resv = [] → jt = .over)) ∧
    (∀ (f : JFmt),
      let a := q.a[abReg f.at_].toNat
      (f.e = true ∨ f.resv ≠ 0#3 → traps (.job p f) fIllegal 0) ∧
      (f.e = false → f.resv = 0#3 →
       (a % 64 ≠ 0 → traps (.job p f) fAlign a) ∧
       (a % 64 = 0 → templateAt p.val a = false → traps (.job p f) fUnmapped a) ∧
       (∀ phys x y, a % 64 = 0 → templateAt p.val a = true → checkAccess s.dev p.val q a 64 true false = .granted phys x y →
         memBad s.dev phys 64 = false →
         let tpl := Job.ofBytes (readBytes s.mem phys 64)
         let j := { tpl with key := if f.kp then low f.dk else tpl.key, inLen := if f.lp then low f.dl else tpl.inLen,
                             iv := if f.k2p then le 4 (low f.dk2) ++ tpl.iv.drop 4 else tpl.iv, channel := parentChannel s.dev jt }
         let l1 := if j.inSgl then readList s p.val q 256 j.inAddr else {}
         let l2 := if j.outSgl then readList s p.val q 256 j.outAddr else {}
         let spans := fun (sgl : Bool) (l : ListRead) (at_ n : Nat) => if sgl then l.entries.map (fun e => (e.addr, e.len)) else [(at_, n)]
         let secret := (f.kp && q.dTag[dReg f.dk]) || (f.k2p && q.dTag[dReg f.dk2]) || (f.lp && q.dTag[dReg f.dl])
         (f.k2p = true → tpl.service = 1 → traps (.job p f) fIllegal 0) ∧
         (f.k2p = false ∨ tpl.service ≠ 1 →
           (secret = true → traps (.job p f) fTagJob 0) ∧
           (secret = false → q.jobs[jsReg f.js].issued = true → traps (.job p f) fJobSlot 0) ∧
           (secret = false → q.jobs[jsReg f.js].issued = false → jt = .over → traps (.job p f) fJobOver 0) ∧
           (∀ (inP outP bad1 bad2 : List (Nat × Nat)), secret = false → q.jobs[jsReg f.js].issued = false → jt ≠ .over →
             l1.bad = none → l2.bad = none → l1.poisoned = none → l2.poisoned = none →
             checkSpans s.dev p.val q false (spans j.inSgl l1 j.inAddr j.inLen) = (inP, bad1) →
             checkSpans s.dev p.val q true (spans j.outSgl l2 j.outAddr j.outLen) = (outP, bad2) →
             (readsAtAdmission j = true → inP.any (fun e => poisonedAt e.1 e.2 s.dev) = false) →
             let u := bad2.foldl (fun s e => denyAccess p.val 0x07 e.2 e.1 true s)
               (bad1.foldl (fun s e => denyAccess p.val 0x07 e.2 e.1 false s) s)
             let granted := bad1.isEmpty && bad2.isEmpty
             ∃ r, mine r ∧ r.src = .engine p.val (jsReg f.js).val ∧ r.job = j ∧ r.domain = srDomain q ∧ r.spanFault = !granted ∧
               r.inPhys = inP ∧ r.outPhys = (if granted then outP else []) ∧
               r.input = padTo j.inLen (if granted then gather s.mem inP else []) ∧
               exec (.job p f) s = .next { u with dev := tryAdmit r (moved 4
                 (takeJobSlot (jsReg f.js) none (f.s || alwaysSecret j) (protOf s.dev p.val).gen q) u.dev) }))))) ∧
    (∀ (f : JXFmt),
      (f.e = true ∨ f.resv ≠ 0#3 ∨ f.func.toNat ∉ [0x01, 0x02, 0x10, 0x11] → traps (.jobx p f) fIllegal 0) ∧
      (f.e = false → f.resv = 0#3 → f.func.toNat ∈ [0x01, 0x02, 0x10, 0x11] →
       (q.dTag[dReg f.dk] = true → traps (.jobx p f) fTagJob 0) ∧
       (q.dTag[dReg f.dk] = false → q.xPend[xReg2 f.xs] = false → q.xPend[xReg2 f.xd] = false →
         (q.jobs[jsReg f.js].issued = true → traps (.jobx p f) fJobSlot 0) ∧
         (q.jobs[jsReg f.js].issued = false → jt = .over → traps (.jobx p f) fJobOver 0) ∧
         (q.jobs[jsReg f.js].issued = false → jt ≠ .over →
           let secret := f.s || decide (f.func.toNat = 0x02 ∨ f.func.toNat = 0x11)
           ∃ r, mine r ∧ r.src = .engine p.val (jsReg f.js).val ∧ r.job.service = 1 ∧ r.job.func = f.func.toNat ∧
             r.job.key = low f.dk ∧ r.job.inLen = 8 * (f.len.toNat + 1) ∧ r.job.outLen = 8 * (f.len.toNat + 1) ∧
             r.job.channel = parentChannel s.dev jt ∧ r.domain = srDomain q ∧
             r.input = (bytesOfX q.x[xReg2 f.xs]).take (8 * (f.len.toNat + 1)) ∧
             exec (.jobx p f) s = becomes s (tryAdmit r (moved 2
               (takeJobSlot (jsReg f.js) (some (xReg2 f.xd)) secret (protOf s.dev p.val).gen q) s.dev))))))

/-- Jobs come in and go out: a submission slot's descriptor goes to admission and head moves on (R367, R368); a host job's
result is delivered and its tag retires (R23, R371); an engine's job writes its output before JSTAT and EV (R33, R223). -/
def Obligations.JobsComeAndGo : Prop :=
  (∀ (s : State) (fn slot : BitVec 12) (b : Bytes) (inL outL inp : ReadResult) (c : Nat) (ch : Chan),
    let sl := slotOf s.dev fn.toNat slot.toNat
    sl.state = .opened → sl.head ≠ sl.sqTail → sl.busy.all (fun e => e.1 != sl.head) = true → fnLive s.dev fn.toNat = true →
    chanOf s.dev sl.handle = some (c, ch) →
    ∃ r, r.src = .host c sl.head ∧ r.job = Job.ofBytes (padTo 64 b) ∧ r.domain = ch.domain ∧
      r.descAddr = sl.sqBase + 64 * sl.head ∧
      exec (.submissionRead fn slot (.bytes b) inL outL inp) s = becomes s (tryAdmit r (onSlot fn.toNat slot.toNat (fun y =>
        { y with head := (y.head + 1) % sqSize y, pass := if y.head + 1 = sqSize y then y.pass + 1 else y.pass,
                 busy := y.busy ++ [(sl.head, y.pass)] }) s.dev))) ∧
  (∀ (s : State) (tag : BitVec 16) (o : Op), opOf s.dev tag.toNat = some o → isHostSrc o.req = true →
    o.phase = .completing → o.produced = true → o.waitSeq = none →
    exec (.jobComplete tag) s = becomes s (finishChans (finishInvals (retire tag.toNat
      (deliver o.req (doneOf tag.toNat o) (noteMade o s.dev)))))) ∧
  (∀ (s : State) (p : ProcId) (k : Fin 8) (t : Nat) (o : Op), (procOf s.dev p.val).jobs[k].tag = some t →
    opOf s.dev t = some o → o.phase = .completing → o.produced = true → o.waitSeq = none → o.untrusted = false →
    let w := writeSpans (procOf s.dev p.val).jobs[k].secret (spread o.req.outPhys o.out) s
    let d := finishInvals (retire t (deliverSlot p.val k.val (doneOf t o) s.dev))
    exec (.jobSlotComplete p k) s = .next { w with dev := match d.op.waitTag with
      | [] => d
      | q :: rest => tryAdmit q { d with op := { d.op with waitTag := rest } } })


/-! Keys. -/

/-- Misses and leases: FILL installs the record at the tier that missed and admission is tried again, STALE counts and
repeats the lookup, LEASE debits the counter and queues the record that the grant waits for (R68, R84, R86).
Key material on its way to an engine: HOIST starts it, KEYDATA loads the slot with the pinned record's material; only the
slot of the pinned index and generation changes (R82-R84). -/
def Obligations.MissesLeasesHoists : Prop :=
  (∀ (s : State) (n : Nat) (q : Req) (rest : List Req),
     (pluck s.dev.op.waitFill n = some (q, rest) →
       let d := { s.dev with op := { s.dev.op with waitFill := rest } }
       (∀ h tier k, firstMiss d q (reqKeys q.job) = some (h, tier) → look d.ks.keys (handleIndex h) = some k →
         k.destroyed = false → k.committed = true → orphaned d.ks k = false → d.ks.locked = false → 32 ≤ tier →
         poisonedAt (warmEntry (handleIndex h)) 128 d = false → k.material.length ≤ 48 →
         (cacheSet d.ks tier (handleIndex h)).length < 16 →
         let filled := onSet tier (handleIndex h) (fun ls => ls ++ [{ idx := handleIndex h, key := k }]) d.ks
         exec (.fill n) s = becomes s (tryAdmit q { d with ks := filled })) ∧
       (q.stales < 7 → exec (.stale n) s =
         becomes s (tryAdmit { q with stales := q.stales + 1 } (bump (dk 0x2004 5) d)))) ∧
     (pluck s.dev.op.waitLease n = some (q, rest) → q.leaseAsked = false →
       let d := { s.dev with op := { s.dev.op with waitLease := rest } }
       ∀ h u k point idx, findKeys d q (reqKeys q.job) = .ok [(h, u, some k)] →
         drawUses d q [(h, u, k)] d.ks.leases = .lease point idx → look d.ks.keys idx = some k →
         roomToCreate d.ks = true → k.volatileKey = false → leaseComing d point idx = false →
         let amount := max 1 (min (leaseMax d) (k.uses / 64))
         ∃ seq d', exec (.lease n) s = becomes s (waitFor seq (.lease point idx amount k.gen) d') ∧
           queueRec idx (.lease amount point)
             { d with ks := { d.ks with keys := ins d.ks.keys idx { k with uses := k.uses - amount } },
                      op := { d.op with waitLease := rest ++ [{ q with leaseAsked := true }] } } = (seq, d'))) ∧
  (∀ (s : State) (tag : BitVec 16) (second : Bool) (o : Op) (pin : Pin) (r : KeyRec),
     opOf s.dev tag.toNat = some o → pinAt o second = some pin → pinnedRec s.dev pin = some r →
     let mine := fun (k : KeySlot) => k.idx = pin.idx ∧ k.gen = pin.gen
     exec (.hoist tag second) s = becomes s (onSlots o (fun l => l.map (fun k =>
       if mine k ∧ k.loaded = false then { k with hoisted := true } else k)) s.dev) ∧
     exec (.keydata tag second) s = becomes s (onSlots o (fun l => l.map (fun k =>
       if mine k ∧ k.hoisted = true then { k with loaded := true, hoisted := false, material := r.material } else k)) s.dev))

/-- An invalidation at a holder: it is noted as received; a point marks its lines and gives up its leases; the sweep removes
what no job pins; the acknowledgement goes to the key store (R70, R76-R78, R83-R85). -/
def Obligations.Invalidations : Prop :=
  ∀ (s : State) (holder : Fin 257) (point : Fin 33) (idx : BitVec 24) (v : Inval),
    (invalFor s.dev true holder.val idx.toNat = some v →
      let d := onInval v (fun v => { v with received := v.received ++ [holder.val] }) s.dev
      (32 < holder.val → exec (.lineageInval holder idx) s = becomes s (holderClears v holder.val d)) ∧
      (holder.val ≤ 32 → ∃ leases, exec (.lineageInval holder idx) s =
        (let d := staleLines holder.val (fun l => endedBy v l.idx l.key) d
         becomes s { d with ks := { d.ks with leases := leases } }) ∧
        ∀ k x, (k, x) ∈ leases ↔ (k, x) ∈ s.dev.ks.leases ∧ ¬ (k / 2 ^ 24 = holder.val ∧
          (look s.dev.ks.keys (k % 2 ^ 24)).all (fun r => endedBy v (k % 2 ^ 24) r) = true))) ∧
    (invalFor s.dev false holder.val idx.toNat = some v →
      let d := onInval v (fun v => { v with received := v.received ++ [holder.val] }) s.dev
      exec (.inval holder idx) s = becomes s (if holder.val ≤ 32 then
        returnLease holder.val idx.toNat (staleLines holder.val (fun l => l.idx == v.idx) d)
        else holderClears v holder.val d)) ∧
    (s.dev.ks.invals.find? (fun v => v.idx == idx.toNat && has v.received point.val && !has v.swept point.val) = some v →
      ∃ d, exec (.cacheSweepDone point idx) s = becomes s d ∧
        d.ks.invals = s.dev.ks.invals.map (fun w => if w = v then { w with swept := w.swept ++ [point.val] } else w) ∧
        (∀ k ls l, (k, ls) ∈ d.ks.caches → k / 65536 = point.val → l ∈ ls → l.stale = true → l.pins = 0 →
          (if v.destroy then endedBy v l.idx l.key else l.idx == v.idx) = false)) ∧
    (s.dev.ks.invals.find? (fun v => v.idx == idx.toNat && !has v.acked holder.val &&
        (if holder.val ≤ 32 then has v.swept holder.val else has v.received holder.val)) = some v →
      exec (.ack holder idx) s =
        becomes s (finishInvals (onInval v (fun v => { v with acked := v.acked ++ [holder.val] }) s.dev)))

/-- The journal: the open page closes 200 µs after its first record; a programmed page commits once no lower page is open: it joins the
programmed pages, the parity page of its stripe follows its seventh data page, the keys whose CREATE records it holds can be named, and
operations that waited for its records wait no longer, while a page behind an open one only notes that it is programmed; compaction queues
COMPACT_BEGIN and copies the live records with no material in the clear, queues COMPACT_END and frees what it left out, and erases the
pages before S once COMPACT_END has committed; below its threshold, or out of its order, a step of it changes nothing (R63, R72, R89-R92).
The steps of a firmware migration, each by two device officers in the state it follows: the records are queued and the answer waits for the
last of them; in another state, without a verified image in the inactive slot, or where the foundation area is all but full a step is
refused with POLICY, while an earlier step's record waits or the journal lacks room with BUSY_RETRY (R92, R93, R402, R481). -/
def Obligations.JournalCompactionMigration : Prop :=
  (∀ (s : State) (p : JPage) (rest : List JPage),
     let d := s.dev
     (d.ks.journal = rest ++ [p] →
       (p.closed = false → exec .journalPageClose s = becomes s
         (let d := reach (p.since + us 200) d
          { d with ks := { d.ks with journal := rest ++ [{ p with closed := true }] } })) ∧
       (p.closed = true → exec .journalPageClose s = .next s)) ∧
     (d.ks.journal = [] → exec .journalPageClose s = .next s) ∧
     (d.ks.journal = p :: rest → p.closed = true → p.pageSeq < 2 ^ 64 →
       (∀ q ∈ rest, q.pageSeq ≠ p.pageSeq ∧ q.programmed = false) →
       (∀ w ∈ d.ks.waits, w.seq ≤ pageLast p → (∃ i, w.kind = .keyReady i) ∨ (∃ v st r, w.kind = .answer v st r)) →
       ∃ c, exec (.journalPageProgrammed (BitVec.ofNat 64 p.pageSeq)) s = .next (followMigration { s with dev := resumeUses c }) ∧
         c.ks.journal = rest ∧ c.ks.pages = d.ks.pages ++ [{ p with programmed := true }] ∧
         c.ks.parity = d.ks.parity ++ (if p.pageSeq % 7 = 6 then [p.pageSeq / 7] else []) ∧
         c.ks.waits = d.ks.waits.filter (fun w => decide (pageLast p < w.seq)) ∧
         (∀ i k, look d.ks.keys i = some k →
           look c.ks.keys i = some (if d.ks.waits.any (fun w => decide (w.seq ≤ pageLast p) && w.kind == .keyReady i)
             then { k with committed := true } else k)) ∧
         c.op.ops = mapV (fun _ o => if o.waitSeq.any (fun n => decide (n ≤ pageLast p)) then { o with waitSeq := none } else o)
           d.op.ops) ∧
     (∀ n : BitVec 64, d.ks.journal = p :: rest → p.programmed = false → p.pageSeq ≠ n.toNat → d.cust.pendingMig = none →
       d.cust.useWaits = [] →
       exec (.journalPageProgrammed n) s = becomes s { d with ks := { d.ks with journal := d.ks.journal.map (fun q =>
         if q.pageSeq = n.toNat ∧ q.closed = true then { q with programmed := true } else q) } })) ∧
  (∀ (s : State),
     let d := s.dev
     let idle := fun (c : Instr) => exec c s = .next s
     (d.ks.compact ≠ .idle ∨ snapshotSize d.ks + 2147483648 ≤ journalFree d.ks → idle .compactionBegin) ∧
     (d.ks.compact = .idle → journalFree d.ks < snapshotSize d.ks + 2147483648 →
       let sq := d.ks.nextSeq - 1
       ∃ c b gone, exec .compactionBegin s = becomes s c ∧ c.ks.building = some b ∧
         c = (let x := (queueRec 0 (.compactBegin (d.ks.epoch + 1) sq) d).2
           { x with ks := { x.ks with compact := .copying, compactS := sq, building := some b, sweeping := gone } }) ∧
         b.epoch = d.ks.epoch + 1 ∧ b.seq = sq ∧ keysOf b.keys = keysOf (d.ks.keys.filter (fun e => liveKey d.ks e.2)) ∧
         (∀ i sk, (i, sk) ∈ b.keys → ∃ k, (i, k) ∈ d.ks.keys ∧ liveKey d.ks k = true ∧ sk.kr.material = zeros k.material.length ∧
           (k.volatileKey = true → sk.wrapped = none ∧ sk.kr.uses = 0 ∧ sk.kr.ivctr = 0)) ∧
         (∀ i, has gone i = true ↔ ∃ k, (i, k) ∈ d.ks.keys ∧ liveKey d.ks k = false ∧ k.committed = true)) ∧
     (d.ks.compact ≠ .copying → idle .compactionCopyDone) ∧
     (d.ks.compact = .copying → rising d.ks.keys = true →
       let x := (queueRec 0 (.compactEnd (d.ks.epoch + 1) d.ks.compactS) d).2
       ∃ keys free ext, exec .compactionCopyDone s = becomes s { x with ks := { x.ks with
           keys := keys, free := free, extUsed := ext, compact := .erasing, sweeping := [] } } ∧
         (∀ i k, look d.ks.keys i = some k → look keys i =
           if has d.ks.sweeping i && !liveKey d.ks k && d.ks.invals.all (fun v => v.idx != i) then none else some k)) ∧
     (d.ks.compact ≠ .erasing ∨ d.ks.building.isSome = true → idle .compactionEraseDone) ∧
     (∀ b, d.ks.compact = .erasing → d.ks.building = none → d.ks.snap = some b →
       ∃ c, exec .compactionEraseDone s = becomes s c ∧ c.ks.compact = .idle ∧ c.ks.epoch = b.epoch ∧
         c.ks.pages = d.ks.pages.filter (fun p => decide (b.seq < pageLast p)) ∧
         c.ks.keys = d.ks.keys ∧ c.ks.journal = d.ks.journal ∧ c.op = d.op)) ∧
  (∀ (s : State) (h : SvcHdr) (d : Dev) (role : Role), TwoDeviceOfficers h d role →
     let free := foundationShut d = false ∧ migWaits d = false ∧ roomToJournal d.ks = true
     let gives := fun (c : Instr) (st : Status) => exec c s = becomes s (answer h.via st [] d)
     let held := foundationShut d = false ∧ (migWaits d = true ∨ roomToJournal d.ks = false)
     let step := fun (body : JBody) (ev k : Nat) =>
       let x := queueRec 0 body d
       let e := migEvent ev x.2.ks.migTarget (actorReq x.2 h) x.2
       waitFor x.1 (.migrate k) (answerAt (some x.1) h.via .ok [] e)
     (Served h .migrateBegin s d role →
       (foundationShut d = true ∨ d.ks.migState ≠ 0 ∨ keyState d = false ∨ slotImage d (spareSlot d) = none →
         gives (.migrateBegin h) .policy) ∧
       (∀ img, slotImage d (spareSlot d) = some img →
         (fwValid d img = false → gives (.migrateBegin h) .policy) ∧
         (d.ks.migState = 0 → keyState d = true → fwValid d img = true →
           (held → gives (.migrateBegin h) .busyRetry) ∧
           (free → let x := beginMigration (padTo 48 img.measurement) (lcState d) (actorReq d h) d
             x.2.ks.migState = 1 ∧ x.2.ks.migTarget = padTo 48 img.measurement ∧
             exec (.migrateBegin h) s = becomes s (answerAt (some x.1) h.via .ok (padTo 48 img.measurement) x.2))))) ∧
     (Served h .migrateReady s d role →
       (foundationShut d = true ∨ d.ks.migState ≠ 1 → gives (.migrateReady h) .policy) ∧
       (d.ks.migState = 1 → (held → gives (.migrateReady h) .busyRetry) ∧
         (free → let w := (wrapRoots d.ks.migTarget (if d.guard.lcPending = 1 then 5 else lcState d) 0 d).2
           let x := queueRec 0 (.migrateReady w.ks.migTarget) w
           (∀ e ∈ liveRoots d, (look w.ks.wraps (e.1 - 1)).isSome = true) ∧
           exec (.migrateReady h) s = becomes s (waitFor x.1 (.migrate 2)
             (answerAt (some x.1) h.via .ok [] (migEvent 0x0112 x.2.ks.migTarget (actorReq d h) x.2)))))) ∧
     (Served h .migrateFinal s d role →
       (foundationShut d = true ∨ d.ks.migState ≠ 3 → gives (.migrateFinal h) .policy) ∧
       (d.ks.migState = 3 → (held → gives (.migrateFinal h) .busyRetry) ∧
         (free → exec (.migrateFinal h) s = becomes s (step (.migrateFinal d.ks.migTarget) 0x0113 3)))) ∧
     (Served h .migrateAbandon s d role →
       (foundationShut d = true ∨ d.ks.migState = 0 → gives (.migrateAbandon h) .policy) ∧
       (d.ks.migState ≠ 0 → (held → gives (.migrateAbandon h) .busyRetry) ∧
         (free → exec (.migrateAbandon h) s = becomes s (step .migrateAbandon 0x0114 4)))))

/-- Services on one key, for a requester that has the right: KEY_INFO answers the record's bytes; KEY_ATTR changes only what
R57 lets change, sends the invalidation and waits for its record, any other change, and one of a domain root, gives POLICY; KEY_DESTROY,
of a key and of a domain root, raises the generation by one, ends the record, sends LINEAGE_INVAL and queues DESTROY, a root during a
migration gives POLICY (R55, R57, R71, R75, R76, R399, R563); that a domain ends with its root is the model's choice (log entry 247).
Services that make a key: KEY_GENERATE with what its domain's instance draws, or waiting for that instance's reseed, KEY_DERIVE with what
the KDF gives under its base, KEY_IMPORT with what unwraps, CLEAR_WRITE with the custodian's material marked as of clear origin. The key's
record stands in the store and its handle is answered once the CREATE record commits; a type that is not symmetric gives FORMAT to the
first two, an object that does not unwrap or carries bad material AUTH_FAIL, a clear write of a tenant world POLICY (R66, R67, R461, R462,
R562, R563). -/
def Obligations.KeyServices : Prop :=
  (∀ (s : State) (h : SvcHdr) (handle : BitVec 32) (attr : BitVec 64) (d : Dev) (role : Role) (i : Nat) (k : KeyRec),
     resolveFor d h.via role handle.toNat = .ok (i, k) → keyFor d handle.toNat = some (i, k) → look d.ks.keys i = some k →
     (Served h (.keyInfo handle.toNat) s d role → tenantOrDm role = true ∨ role = .auditor →
       exec (.keyInfo h handle) s = becomes s (answer h.via .ok (infoBytes i k) d)) ∧
     (Served h (.keyAttr handle.toNat attr.toNat) s d role → MayAdminister h k d role →
       (i ≤ 0x1000 ∨ attrAllowed k attr.toNat = false → exec (.keyAttr h handle attr) s = becomes s (answer h.via .policy [] d)) ∧
       (0x1000 < i → attrAllowed k attr.toNat = true → roomToJournal d.ks = true →
         ∃ k' d', exec (.keyAttr h handle attr) s = becomes s d' ∧ d'.ks.keys = ins d.ks.keys i k' ∧ d'.ks.gens = d.ks.gens ∧
           d'.ks.invals = d.ks.invals ++ [{ idx := i, gen := k.gen, destroy := false, via := some h.via }] ∧
           d'.ks.waits = d.ks.waits ++ [{ seq := d.ks.nextSeq, kind := .destroy i }] ∧
           (∃ p ∈ d'.ks.journal, { idx := i, seq := d.ks.nextSeq, body := .attr k'.usage k'.exportPol k'.dual k'.label } ∈ p.recs) ∧
           k' = { k with usage := attr.toNat / 2 ^ 48 % 2 ^ 16, exportPol := attr.toNat / 2 ^ 44 % 2 ^ 4,
                         dual := attr.toNat / 2 ^ 43 % 2 == 1, label := attr.toNat % 2 ^ 16 })) ∧
     (Served h (.keyDestroy handle.toNat) s d role →
       (1 ≤ i → i ≤ 0x1000 → TwoDeviceOfficers h d role → d.ks.migState ≠ 0 →
         exec (.keyDestroy h handle) s = becomes s (answer h.via .policy [] d)) ∧
       (roomToJournal d.ks = true →
        (0x1000 < i ∧ (MayAdminister h k d role ∨ role = .firmware) ∨
          1 ≤ i ∧ i ≤ 0x1000 ∧ TwoDeviceOfficers h d role ∧ d.ks.migState = 0) →
        ∃ t, exec (.keyDestroy h handle) s = becomes s t ∧ t.ks.gens = put 0 d.ks.gens i (genOf d.ks i + 1) ∧
          t.ks.keys = ins d.ks.keys i { k with destroyed := true } ∧
          t.ks.invals = d.ks.invals ++ [{ idx := i, gen := genOf d.ks i + 1, destroy := true, via := some h.via }] ∧
          t.ks.waits = d.ks.waits ++ [{ seq := d.ks.nextSeq, kind := .destroy i }] ∧
          (∃ p ∈ t.ks.journal, { idx := i, seq := d.ks.nextSeq, body := .destroy (genOf d.ks i + 1) } ∈ p.recs)))) ∧
  ((∀ (s : State) (h : SvcHdr) (handle : BitVec 32) (typ cls : BitVec 8) (attr : BitVec 64) (d : Dev) (role : Role) (i : Nat)
     (k : KeyRec) (label context : Bytes),
     let taken := (takeRequest h.via false s.dev).2
     let new := fun (m : Bytes) => keyOfAttr (AttrArg.ofNat attr.toNat) typ.toNat cls.toNat m
     let answers := fun (seq n : Nat) (d : Dev) => becomes s (waitFor seq (.answer h.via .ok (le 4 n)) d)
     let generates := Served h (.keyGenerate handle.toNat typ.toNat cls.toNat attr.toNat) s d role
     let derives := Served h (.keyDerive handle.toNat typ.toNat cls.toNat attr.toNat label context) s d role
     (isSym typ.toNat = false →
       (generates → exec (.keyGenerate h handle typ cls attr) s = becomes s (answer h.via .format [] taken)) ∧
       (derives → exec (.keyDerive h handle typ cls attr label context) s = becomes s (answer h.via .format [] taken))) ∧
     (resolveFor d h.via role handle.toNat = .ok (i, k) → keyFor d handle.toNat = some (i, k) →
      attrArgOk (AttrArg.ofNat attr.toNat) = true →
      (isSym typ.toNat = true → rightMet d h.via role { single := mayMakeKey } = true → createFormat (new (zeros (symLen typ.toNat))) = true →
        createLate i (new (zeros (symLen typ.toNat))) d = .ok →
       (generates →
         let x := domainInst k.domain d
         (∀ (m : Bytes) (d1 d2 : Dev) (idx n seq : Nat), drawPr x.1 (symLen typ.toNat) x.2 = some (m, d1) →
           liveParent d1 i k.gen = some k → createKey i k { new m with actor := actorReq x.2 h } d1 = .ok (idx, n, seq, d2) →
           exec (.keyGenerate h handle typ cls attr) s = answers seq n d2) ∧
         (drawPr x.1 (symLen typ.toNat) x.2 = none → (instCore x.2 x.1).isSome = true →
           ∃ t, exec (.keyGenerate h handle typ cls attr) s = becomes s t ∧ t.rng.gens = x.2.rng.gens ++
             [{ inst := x.1, since := x.2.tb.now, kind := .key i k.gen typ.toNat cls.toNat attr.toNat, via := h.via,
                actor := actorReq x.2 h }] ∧ t.ks = x.2.ks ∧ ∃ t0, (x.1, t0) ∈ t.rng.wait)) ∧
       (derives → label.length ≤ 64 → context.length ≤ 1024 → k.cls = 3 → bitOf k.usage 6 = true →
         ∀ (d1 d2 : Dev) (idx n seq : Nat), spendUse i k d = .ok (none, d1) → liveParent d1 i k.gen = some k →
         createKey i k { new (deriveKey k label context (symLen typ.toNat)) with actor := actorReq d1 h } d1 = .ok (idx, n, seq, d2) →
         exec (.keyDerive h handle typ cls attr label context) s = answers seq n d2)) ∧
      (∀ (form : BitVec 8) (obj : ObjRef) (wrapped : Bytes) (d1 : Dev),
       let a : SvcAction := .keyImport handle.toNat form.toNat typ.toNat cls.toNat attr.toNat obj wrapped
       let blank := importKey typ.toNat cls.toNat attr.toNat [] actorFw
       Served h a s d role → rightMet d h.via role { single := fun r => mayMakeKey r || r == .hostDriver } = true →
       form.toNat < 2 → createFormat blank = true →
       objStatus h.via obj taken = .ok → wrappedOk form.toNat (objBytes h.via obj wrapped taken).length = true →
       bitOf k.usage 5 = true → isAes k.typ = true →
       createLate i { blank with material := zeros (if isPk typ.toNat then
         (if cls.toNat = 1 then privLen typ.toNat else pubLen typ.toNat) else symLen typ.toNat) } d = .ok →
       spendUse i k d = .ok (none, d1) →
       let m := Config.kwUnwrap (form.toNat == 1) k.material (objBytes h.via obj wrapped d)
       (m.all (fun m => !(materialLenOk typ.toNat cls.toNat m.length && materialOk typ.toNat cls.toNat m)) = true →
         exec (.keyImport h handle form typ cls attr obj wrapped) s = becomes s (dropStaged h.via a (answer h.via .authFail [] d1))) ∧
       (∀ (b : Bytes) (d2 : Dev) (idx n seq : Nat), m = some b →
         materialLenOk typ.toNat cls.toNat b.length = true → materialOk typ.toNat cls.toNat b = true →
         liveParent d1 i k.gen = some k →
         createKey i k (importKey typ.toNat cls.toNat attr.toNat b (actorReq d1 h)) d1 = .ok (idx, n, seq, d2) →
         exec (.keyImport h handle form typ cls attr obj wrapped) s =
           becomes s (dropStaged h.via a (waitFor seq (.answer h.via .ok (le 4 n)) d2)))))) ∧
   (∀ (s : State) (cu : Fin 4) (parent : BitVec 32) (typ cls : BitVec 8) (attr : BitVec 64) (material : Bytes) (i : Nat)
     (k : KeyRec) (d2 : Dev) (idx n seq : Nat),
     let d := s.dev
     let new := { keyOfAttr (AttrArg.ofNat attr.toNat) typ.toNat cls.toNat material with clearOrigin := true }
     d.life.gait ≠ 3 → d.life.custUp = true → d.life.hobbled = false → d.life.ready = true → isThrottled d = false →
     attrArgOk (AttrArg.ofNat attr.toNat) = true → createFormat new = true →
     materialLenOk typ.toNat cls.toNat material.length = true →
     (isPk typ.toNat = true → materialOk typ.toNat cls.toNat material = true) → resolve d.ks true 0 parent.toNat = .ok (i, k) →
     createLate i new d = .ok → liveParent d i k.gen = some k → createKey i k new d = .ok (idx, n, seq, d2) →
     exec (.clearWrite cu false parent typ cls attr material) s = becomes s (waitFor seq (.answer (.firmware cu) .ok (le 4 n)) d2) ∧
     exec (.clearWrite cu true parent typ cls attr material) s = becomes s (answer (.firmware cu) .policy [] d)))

/-- What a creation puts into the key store (R54-R56, R65, R67, R72): at a free general index, under the index's generation, a record of
the parent's level plus 1 and domain, that inherits DUAL and VOLATILE, names the parent last in its LINEAGE, cannot be named until its
record commits; the CREATE record, or the VOLATILE_ALLOC record, holds no material in the clear. -/
def Obligations.CreatedKey : Prop :=
  ∀ (pidx : Nat) (parent : KeyRec) (n : NewKey) (d t : Dev) (idx hnd seq : Nat), d.ks.free.next < 16773119 →
    createKey pidx parent n d = .ok (idx, hnd, seq, t) →
    idx = 0x1001 + d.ks.free.next ∧
    (∃ k, t.ks.keys = ins d.ks.keys idx k ∧ k.gen = genOf d.ks idx ∧ k.level = parent.level + 1 ∧ k.level ≤ 6 ∧
      k.domain = parent.domain ∧ k.dual = (n.dual || parent.dual) ∧ k.volatileKey = (n.volatileKey || parent.volatileKey) ∧
      k.exportPol ≤ parent.exportPol ∧ k.lineage = parent.lineage ++ [(pidx, parent.gen)] ∧ k.material = n.material ∧
      k.committed = false ∧ hnd = mkHandle k.cls idx k.gen ∧ seq = d.ks.nextSeq ∧
      t.ks.waits = d.ks.waits ++ [{ seq := seq, kind := .keyReady idx }] ∧
      (k.volatileKey = false → 0x1000 < idx ∧ ∃ p ∈ t.ks.journal, ∃ r ∈ p.recs, r.seq = seq ∧ r.idx = idx ∧
        ∃ sk, r.body = .create sk ∧ sk.kr.material = zeros k.material.length ∧
          sk.wrapped.map (fun w => w.plain) = some k.material))

/-! Engines. -/

/-- The cipher pool: a dispatched job runs on the chosen core with its key slots taken, and draws its nonce where its function has one,
waiting in RUNNING for its core's next reservation where the value is not there yet; a symmetric job ends with its function's result under
the material of its slot, with FAULT_DETECTED where its read fails or finds poisoned data, and with KEY_USE_EXHAUSTED where no nonce is left;
a payment job passes through its units and then ends; the pass of squashed work is discarded (R28, R33, R49, R110-R112, R116, R119, R134).
The pool's own checks: one core at a time drains and tests, a test ends with the core's slots cleared or its retirement, a parity mismatch
ends the job in the context named and drains the core, one in a retired core does nothing (the model's choice, log entry 43); the PIN counts
return to zero each second, and a suspension ends at its time (R120-R125, R143). -/
def Obligations.CipherPool : Prop :=
  ((∀ (s : State) (cls turn n : Nat) (j : QJob) (qs : FMap ClassQueue) (o : Op),
     pickJob 4096 s.dev.pool.turn (coreFor s.dev) s.dev.pool.queues = some (cls, j, turn, qs) →
     opOf s.dev j.tag = some o → chooseCore s.dev o = some n →
     let u := unitsOf s.dev o
     let stamp := s.dev.pool.stamp + 1
     let started := onOp j.tag (fun o => { o with
         phase := .running, unit := some n, started := s.dev.tb.now, steps := u.drop 1 })
       (onCore n (fun c => { c with
           jobs := c.jobs ++ [(j.tag, u.headD .aes)],
           slots := o.pins.foldl (fun sl p => takeSlot (32 - c.transient.length) stamp p sl) c.slots })
         { s.dev with pool := { s.dev.pool with queues := qs, turn := turn, stamp := stamp } })
     let starts := fun (d : Dev) => exec .ostlerDispatch s = becomes s d
     (jobDraws o.req.job = false ∨ o.nonce ≠ [] ∨ o.pins = [] → starts started) ∧
     (jobDraws o.req.job = true → o.nonce = [] → ∀ p r d, o.pins = p :: r →
       (∀ v, drawNonce n p.idx p.gen started = (.value v, d) →
         starts (onOp j.tag (fun o => { o with nonce := v, ivWait := false }) d)) ∧
       (drawNonce n p.idx p.gen started = (.wait, d) →
         starts (if o.ivWait then d else bump (dk 0x8104 3) (onOp j.tag (fun o => { o with ivWait := true }) d))) ∧
       (drawNonce n p.idx p.gen started = (.exhausted, d) → starts d))) ∧
   (∀ (s : State), pickJob 4096 s.dev.pool.turn (coreFor s.dev) s.dev.pool.queues = none → exec .ostlerDispatch s = .next s) ∧
   (∀ (s : State) (tag : BitVec 16) (read : ReadResult) (o : Op),
     let ends := fun (d : Dev) => exec (.cipherJobDone tag read) s = becomes s d
     let t := tag.toNat
     (opOf s.dev t = none → ends (dropLate t s.dev)) ∧
     (opOf s.dev t = some o → o.phase ≠ .running ∨ o.unit = none → ends (dropLate t s.dev)) ∧
     (opOf s.dev t = some o → o.phase = .running → ∀ core, o.unit = some core →
       (isBnService o.req.job.service = true ∨ slotsLoaded s.dev o = false → ends s.dev) ∧
       (slotsLoaded s.dev o = true → o.req.job.service = 1 → ∀ f, symFn o.req.job.func = some f →
         (jobInput o read.get? s.dev = none → ends (endStatus t o .faultDetected (poisonInput (srcCore core) o s.dev))) ∧
         (∀ b, jobInput o read.get? s.dev = some b →
           let typ := ((opKeys s.dev o).head?.map (fun k => k.typ)).getD 0
           let result := fun (nonce : Bytes) (d : Dev) =>
             let x := symRun f o.req.job typ ((slotMaterial d o 0).getD []) nonce (padTo o.req.job.inLen b)
             countDone o x.status (endJob t x d)
           (drawsNonce f = false → ends (result [] s.dev)) ∧
           (drawsNonce f = true → o.nonce ≠ [] → ends (result o.nonce s.dev)) ∧
           (drawsNonce f = true → o.nonce = [] → ∀ p r d, o.pins = p :: r →
             (∀ v, drawNonce core p.idx p.gen s.dev = (.value v, d) → ends (result v d)) ∧
             (drawNonce core p.idx p.gen s.dev = (.wait, d) →
               ends (if o.ivWait then d else bump (dk 0x8104 3) (onOp t (fun o => { o with ivWait := true }) d))) ∧
             (drawNonce core p.idx p.gen s.dev = (.exhausted, d) → ends (endStatus t o .keyUseExhausted d))))) ∧
       (slotsLoaded s.dev o = true → o.req.job.service = 2 →
         let d := passUnits o.steps.length t core s.dev
         (holdsContext t core d = true → ends (endPay t core o o.req.input d)) ∧
         (holdsContext t core d = false → ends d))))) ∧
  (∀ (s : State) (n : Fin 64) (test : Fin 5) (unit : Fin 3) (idx : BitVec 24),
     let core := coreOf s.dev n.val
     let drains := fun (c : CipherCore) => if c.state == .serving then
       { c with state := if coreEmpty c then .testing else .draining } else c
     (let d := reach (s.dev.pool.testAt + ms 2) s.dev
      exec .coreSelftestStart s = becomes s (onCore s.dev.pool.rotation drains
        { d with pool := { d.pool with rotation := (s.dev.pool.rotation + 1) % 64, testAt := d.tb.now } })) ∧
     (core.state = .draining → core.jobs = [] → core.unitWait = [] →
       exec (.coreDrained n) s = becomes s (onCore n.val (fun c => { c with state := .testing }) s.dev)) ∧
     (core.state ≠ .draining ∨ core.jobs ≠ [] ∨ core.unitWait ≠ [] →
       ∃ d, exec (.coreDrained n) s = becomes s d ∧ ∀ k, coreOf d k = coreOf s.dev k) ∧
     (core.state ≠ .testing → ∀ pass, exec (.coreSelftestDone n test pass) s = .next s) ∧
     (core.state = .testing →
       exec (.coreSelftestDone n test true) s = becomes s (exitTested n.val (bump (dk 0x8100 4)
         (onCore n.val (fun c => { c with state := .serving, slots := [], transient := [] }) s.dev))) ∧
       exec (.coreSelftestDone n test false) s = becomes s (exitTested n.val (retireCore n.val test.val
         (bump (dk 0x8100 5) s.dev)))) ∧
     (core.state = .retired → ∀ tag, exec (.parityMismatch n unit tag) s = .next s) ∧
     (core.state ≠ .retired →
       let parity := fun (d : Dev) => onCore n.val drains
         (report (srcCore n.val) 0x0403 (srcCore n.val) [(2, srcCore n.val), (1, unit.val)] d)
       exec (.parityMismatch n unit none) s = becomes s (parity s.dev) ∧
       (∀ tag : BitVec 16,
         (core.jobs.any (fun e => e.1 == tag.toNat) = false ∨ opOf s.dev tag.toNat = none →
           exec (.parityMismatch n unit (some tag)) s = becomes s (parity s.dev)) ∧
         (∀ o, core.jobs.any (fun e => e.1 == tag.toNat) = true → opOf s.dev tag.toNat = some o →
           exec (.parityMismatch n unit (some tag)) s =
             becomes s (parity (bump (dk 0x8100 6) (endStatus tag.toNat o .faultDetected s.dev)))))) ∧
     (let d := reach ((s.dev.tb.now / sec 1 + 1) * sec 1) s.dev
      exec .pinFailInterval s = becomes s
        { d with pool := { d.pool with pinFails := [], pinSecond := d.tb.now / sec 1 } }) ∧
     (look s.dev.pool.pinSuspended idx.toNat = none → exec (.pinSuspendEnd idx) s = .next s) ∧
     (∀ till, look s.dev.pool.pinSuspended idx.toNat = some till →
       let d := reach till s.dev
       exec (.pinSuspendEnd idx) s = becomes s
         { d with pool := { d.pool with pinSuspended := del d.pool.pinSuspended idx.toNat } }))

/-- Jobs of the big-number engines: dispatch to an idle engine, whose key area takes the job's keys and which starts a program at its
first command; the end of a program with OK or AUTH_FAIL; the end of a public-key job on its input, after the draws of the functions that
draw, with FAULT_DETECTED where its read fails; FAULT_DETECTED after a failed comparison of a function that has one, and after an
uncorrectable error; TIMEOUT of a signature that is not found in time and of every job at its limit; the self-test in rotation, which a busy
engine drains for, and its end in service or in retirement (R49, R123, R162, R163, R171, R177-R185, R191). -/
def Obligations.BigNumberJobs : Prop :=
  (∀ (s : State) (cls turn n : Nat) (j : QJob) (qs : FMap ClassQueue) (o : Op),
    pickJob 50 s.dev.bn.turn (engineFor s.dev) s.dev.bn.queues = some (cls, j, turn, qs) →
    opOf s.dev j.tag = some o → chooseEngine s.dev o = some n →
    let stamp := s.dev.bn.stamp + 1
    (engineOf s.dev n).state = .serving ∧ (engineOf s.dev n).job = none ∧
    exec .bnDispatch s = becomes s (onOp j.tag (fun o => { o with phase := .running, unit := some n, started := s.dev.tb.now })
      (onEngine n (fun e => { e with
          job := some j.tag, work := [],
          prog := if o.req.job.service = 4 then some { cmds := progCmds o.req.job o.req.input, data := o.req.input } else none,
          slots := o.pins.foldl (fun sl p => takeSlot 4 stamp p sl) e.slots })
        { s.dev with bn := { s.dev.bn with queues := qs, turn := turn, stamp := stamp } }))) ∧
  (∀ (s : State), pickJob 50 s.dev.bn.turn (engineFor s.dev) s.dev.bn.queues = none → exec .bnDispatch s = .next s) ∧
  (∀ (s : State) (tag : BitVec 16) (read : ReadResult),
    opOf s.dev tag.toNat = none → ∀ out, exec (.bnJobDone tag read out) s = .next s ∧ exec (.bnJobTimeout tag) s = .next s) ∧
  (∀ (s : State) (tag : BitVec 16) (o : Op) (read : ReadResult) (out : Fin 4), opOf s.dev tag.toNat = some o →
    let t := tag.toNat
    let ends := fun (d : Dev) => exec (.bnJobDone tag read out) s = becomes s d
    (o.phase ≠ .running ∨ o.unit = none ∨ isBnService o.req.job.service = false →
      ends s.dev ∧ exec (.bnJobTimeout tag) s = becomes s s.dev) ∧
    (o.phase = .running → ∀ n, o.unit = some n → isBnService o.req.job.service = true →
      exec (.bnJobTimeout tag) s = becomes s (bump (dk 0x8120 8) (testEngine n (endBn t n { tag := none, status := .timeout }
        (reach (o.started + bnLimit o.req.job) s.dev)))) ∧
      (slotsLoaded s.dev o = false → ends s.dev) ∧
      (slotsLoaded s.dev o = true →
        (out = 3 ∨ out = 1 ∧ o.req.job.service = 3 ∧ (pkChecked o.req.job.func = true ∨ expandsPrivate s.dev n o = true) →
          ends (bnFault t n (faultTyp s.dev o) (faultIdx o) o s.dev)) ∧
        (o.req.job.service = 4 → out ≠ 3 → ∀ p, (engineOf s.dev n).prog = some p →
          (p.failed = true → ends (endBn t n { tag := none, status := .authFail } s.dev)) ∧
          (p.failed = false → p.ended = true → ends (endBn t n { tag := none, status := .ok, outlen := p.top } s.dev)) ∧
          (p.failed = false → p.ended = false → ends s.dev)) ∧
        (o.req.job.service = 3 → out = 2 → o.req.job.func = 0x01 → isMldsa (faultTyp s.dev o) = true →
          ends (bump (dk 0x8120 8) (testEngine n (endBn t n { tag := none, status := .timeout } s.dev)))) ∧
        (o.req.job.service = 3 → bnFails s.dev n o out = false →
          ¬(out = 2 ∧ o.req.job.func = 0x01 ∧ isMldsa (faultTyp s.dev o) = true) →
          (jobInput o read.get? s.dev = none →
            ends (endBn t n { tag := none, status := .faultDetected } (poisonInput (srcBn n) o s.dev))) ∧
          (∀ b, jobInput o read.get? s.dev = some b →
            let j := o.req.job
            let b := padTo j.inLen b
            let keys := (opKeys s.dev o)
            let k1 := if pkInline j then none else keys.head?.map (fun k => { k with material := (slotMaterial s.dev o 0).getD [] })
            let k2 := if pkInline j then none
              else (keys.drop 1).head?.map (fun k => { k with material := (slotMaterial s.dev o 1).getD [] })
            (pkNeedsRandom j.func (!expandsPrivate s.dev n o) = false → ends (bnEnd t n o k1 k2 b [] [] s.dev)) ∧
            (pkNeedsRandom j.func (!expandsPrivate s.dev n o) = true → ends (bnDraws t n o k1 k2 b s.dev) ∧
              (∀ r d, draw (64 + n) (pkDraw j.func) s.dev = some (r, d) → j.func ≠ 0x30 → transportSecret j k1 k2 b r = none →
                bnDraws t n o k1 k2 b s.dev = bnEnd t n o k1 k2 b r [] d))))))) ∧
  (∀ (s : State) (n : Fin 48) (test : Fin 8),
    let r := s.dev.bn.rotation
    let moved := let d := reach (s.dev.bn.testAt + ms 250) s.dev
      { d with bn := { d.bn with rotation := (r + 1) % 48, testAt := d.tb.now } }
    ((engineOf s.dev r).state ≠ .serving → exec .bnSelftestStart s = becomes s moved) ∧
    ((engineOf s.dev r).state = .serving →
      ((engineOf s.dev r).job = none → exec .bnSelftestStart s = becomes s (testEngine r moved)) ∧
      ((engineOf s.dev r).job ≠ none →
        exec .bnSelftestStart s = becomes s (onEngine r (fun e => { e with state := .draining }) moved))) ∧
    ((engineOf s.dev n.val).state ≠ .testing → ∀ pass, exec (.bnSelftestDone n test pass) s = .next s) ∧
    ((engineOf s.dev n.val).state = .testing →
      let passed := bump (dk 0x8120 4) s.dev
      ((engineOf s.dev n.val).doomed = false → exec (.bnSelftestDone n test true) s =
        becomes s (bnExitTested n.val (onEngine n.val (fun e => { e with state := .serving }) passed))) ∧
      ((engineOf s.dev n.val).doomed = true → exec (.bnSelftestDone n test true) s =
        becomes s (bnExitTested n.val (retireEngine n.val test.val passed))) ∧
      exec (.bnSelftestDone n test false) s =
        becomes s (bnExitTested n.val (retireEngine n.val test.val (bump (dk 0x8120 5) s.dev)))))

/-- Commands of a program, each on a running program whose next command it is: the result of the opcode goes to DST's words, cut to its
length, and the program steps on; STORE writes its bytes to the job's output as it runs and raises the highest byte written; SLOTCFG sets a
slot, LOAD fills one, END ends the program. A value with no inverse, an inequality with REQ_EQUAL and a point that is off its curve or is the
identity end it. Where the spec states no result (a modulus of zero, a radix with no inverse, a sum that is the identity) DST takes a free
value (the model's choice, log entry 58) and the program steps on alike. A command that is not the next one of its engine's program changes
nothing (R189-R191). -/
def Obligations.BigNumberCommands : Prop :=
  (∀ (s : State) (n : Fin 48) (p : BnProg) (w : Nat),
    let e := engineOf s.dev n.val
    let slot := fun (i : Nat) => lookD { base := 0, words := 1 } p.slots i
    let dst := slot (cDst w)
    let a := slotVal e (slot (cA w))
    let b := slotVal e (slot (cB w))
    let m := slotVal e (slot (cMod w))
    let r := 2 ^ (512 * (slot (cMod w)).words)
    let step := fun (c : Instr) (e : BnEngine) (p : BnProg) (d : Dev) =>
      exec c s = becomes s (onEngine n.val (fun _ => { e with prog := some { p with pc := p.pc + 1 } }) d)
    let writes := fun (c : Instr) (v : Nat) => step c (slotPut dst v e) p { s.dev with free := s.dev.free + 1 }
    let gives := fun (c : Instr) (v : Option Nat) => writes c (v.getD (Config.freeNat s.dev.free))
    let fails := fun (c : Instr) (bad : Bool) => step c e { p with failed := bad } s.dev
    let mod := fun (v : Nat) => if m = 0 then none else some (v % m)
    (BnRuns s n 0x01 p w → step (.bnSlotcfg n) e { p with slots := ins p.slots (cDst w) (cfgSlot w) } s.dev) ∧
    (BnRuns s n 0x02 p w →
      step (.bnLoad n) (slotPut dst (beAt p.data (cImm w * 64) (64 * dst.words)) e) p s.dev) ∧
    (BnRuns s n 0x03 p w →
      let o := cImm w * 64
      let k := 64 * (slot (cA w)).words
      exec (.bnStore n) s = .next { storeOut n.val o (be k a) s with
        dev := onEngine n.val (fun _ => { e with prog := some { p with top := max p.top (o + k), pc := p.pc + 1 } }) s.dev }) ∧
    (BnRuns s n 0x04 p w → gives (.bnMontin n) (mod (a * r))) ∧
    (BnRuns s n 0x05 p w → gives (.bnMontout n) ((modInv r m).map (fun i => a * i % m))) ∧
    (BnRuns s n 0x06 p w → gives (.bnModadd n) (mod (a + b))) ∧
    (BnRuns s n 0x07 p w → gives (.bnModsub n) (if m = 0 then none else some (((a : Int) - b) % (m : Int)).toNat)) ∧
    (BnRuns s n 0x08 p w → gives (.bnModmul n) (mod (a * b))) ∧
    (BnRuns s n 0x09 p w → gives (.bnModsqr n) (mod (a * a))) ∧
    (BnRuns s n 0x0A p w → (∀ v, modInv a m = some v → v * a % m = 1 % m ∧ step (.bnModinv n) (slotPut dst v e) p s.dev) ∧
      (modInv a m = none → fails (.bnModinv n) true) ∧
      (m = 0 ∨ (∀ v, v * a % m ≠ 1 % m) → fails (.bnModinv n) true)) ∧
    (BnRuns s n 0x0B p w → gives (.bnModexp n) (if m = 0 then none else some (a ^ b % m))) ∧
    (BnRuns s n 0x0C p w → writes (.bnMul n) (a * b)) ∧
    (BnRuns s n 0x0D p w → fails (.bnCmp n) (bitOf (cFlags w) 0 && decide (a ≠ b))) ∧
    (BnRuns s n 0x0E p w → writes (.bnCopy n) a) ∧
    (BnRuns s n 0x0F p w → writes (.bnZero n) 0) ∧
    (let point := fun (c : Curve) (v : Nat) => (v / 2 ^ (8 * c.len) % 2 ^ (8 * c.len), v % 2 ^ (8 * c.len))
     let coded := fun (c : Curve) (q : Nat × Nat) => q.1 * 2 ^ (8 * c.len) + q.2
     let on := fun (f : Curve → Option (Nat × Nat)) => (curveOf (cImm w)).bind (fun c => (f c).map (coded c))
     (BnRuns s n 0x10 p w → gives (.bnEcadd n) (on (fun c => ptAdd c (some (point c a)) (some (point c b))))) ∧
     (BnRuns s n 0x11 p w → gives (.bnEcdbl n) (on (fun c => ptAdd c (some (point c a)) (some (point c a))))) ∧
     (BnRuns s n 0x12 p w → gives (.bnEcmul n) (on (fun c => ptMul c b (point c a)))) ∧
     (BnRuns s n 0x13 p w →
       fails (.bnEccheck n) (!((curveOf (cImm w)).any (fun c => ptValid c (point c a)))))) ∧
    (BnRuns s n 0x18 p w → writes (.bnNtt n) (polyRun1 (cImm w) nttOf a)) ∧
    (BnRuns s n 0x19 p w → writes (.bnIntt n) (polyRun1 (cImm w) inttOf a)) ∧
    (BnRuns s n 0x1A p w → writes (.bnPmul n) (polyRun2 (cImm w) polyMul a b)) ∧
    (BnRuns s n 0x1B p w → writes (.bnPadd n) (polyRun2 (cImm w) polySum a b)) ∧
    (BnRuns s n 0x3F p w → step (.bnEnd n) e { p with ended := true } s.dev)) ∧
  (∀ (s : State) (n : Fin 48), ∀ x ∈ [(Instr.bnSlotcfg n, 0x01), (.bnLoad n, 0x02), (.bnStore n, 0x03), (.bnMontin n, 0x04),
      (.bnMontout n, 0x05), (.bnModadd n, 0x06), (.bnModsub n, 0x07), (.bnModmul n, 0x08), (.bnModsqr n, 0x09), (.bnModinv n, 0x0A),
      (.bnModexp n, 0x0B), (.bnMul n, 0x0C), (.bnCmp n, 0x0D), (.bnCopy n, 0x0E), (.bnZero n, 0x0F), (.bnEcadd n, 0x10),
      (.bnEcdbl n, 0x11), (.bnEcmul n, 0x12), (.bnEccheck n, 0x13), (.bnNtt n, 0x18), (.bnIntt n, 0x19), (.bnPmul n, 0x1A),
      (.bnPadd n, 0x1B), (.bnEnd n, 0x3F)],
    (∀ p w, ¬ BnRuns s n x.2 p w) → exec x.1 s = .next s)


/-! Random numbers and check values. -/

/-- Entropy sources: a failed test takes the source out of service and drops the blocks not yet released, it restarts a second
later and rejoins after its start-up test; a block is built only while four sources are healthy, and is released 10.24 µs
after its last bit into a queue of 64 (R454-R458).
Instances: a reseed takes a whole count of blocks and resets the call count, an interval or 2^16 calls ask for one, a wait
of 1 ms ends the generations that wait with RNG_UNAVAILABLE; a call fills the buffer; a core that fails its known-answer tests
is retired (R456, R458, R462, R463, R467). -/
def Obligations.EntropyAndInstances : Prop :=
  (∀ (s : State) (k : Fin 8) (adaptive : Bool),
     let x := srcOf s.dev k.val
     (x.state = 0 → 5 ≤ healthy s.dev →
       ∃ d, exec (.entropyTestFail k adaptive) s = becomes s d ∧ d.rng.unreleased = [] ∧ d.rng.queue = s.dev.rng.queue ∧
         (srcOf d k.val).failedAt = s.dev.tb.now ∧
         (srcOf d k.val).state =
           if 2 ≤ (x.fails.filter (fun t => decide (s.dev.tb.now < t + 60000000000))).length then 3 else 2) ∧
     (x.state = 2 → exec (.sourceRestart k) s =
       becomes s (onSrc k.val (fun x => { x with state := 1 }) (reach (x.failedAt + 1000000000) s.dev))) ∧
     (x.state = 1 → 4 ≤ healthy s.dev →
       exec (.sourceRejoin k) s = becomes s (onSrc k.val (fun x => { x with state := 0 }) s.dev)) ∧
     (4 ≤ healthy s.dev → ∃ d, exec .blockComplete s = becomes s d ∧
       d.rng.unreleased = s.dev.rng.unreleased ++ [(s.dev.rng.nextBlock, s.dev.tb.now)]) ∧
     (healthy s.dev < 4 → exec .blockComplete s = becomes s s.dev) ∧
     (∀ b t rest, s.dev.rng.unreleased = (b, t) :: rest →
       ∃ d, exec .blockRelease s = becomes s d ∧ d.rng.unreleased = rest ∧
         (s.dev.rng.queue.length < 64 → d.rng.queue = s.dev.rng.queue ++ [b]) ∧
         (64 ≤ s.dev.rng.queue.length → d.rng.queue = s.dev.rng.queue))) ∧
  (∀ (s : State) (i : Fin 4096) (k : Fin 4),
     let x := instOf s.dev i.val
     (∀ t rest, s.dev.rng.wait = (i.val, t) :: rest → (instCore s.dev i.val).isSome = true →
       let n := if x.seeded then reseedBlocks s.dev else reseedBlocks s.dev + 1
       n ≤ s.dev.rng.queue.length → s.dev.rng.gens = [] →
       ∃ d, exec .reseed s = becomes s d ∧ d.rng.wait = rest ∧ d.rng.queue = s.dev.rng.queue.drop n ∧
         (instOf d i.val).seeded = true ∧ (instOf d i.val).calls = 0 ∧ (instOf d i.val).buf = [] ∧
         (instOf d i.val).reseedAt = s.dev.tb.now) ∧
     (∀ t, s.dev.rng.wait.find? (fun w => w.1 == i.val) = some (i.val, t) →
       ∃ d, exec (.reseedWaitTimeout i) s = becomes s d ∧
         ∀ u, (i.val, u) ∉ d.rng.wait) ∧
     (x.seeded = true → isPr i.val = false → s.dev.rng.wait.any (fun w => w.1 == i.val) = false →
       let d := if 65536 ≤ x.calls then s.dev else reach (x.reseedAt + 1000000 * numOf 100 s.dev (dk 0x2800 3)) s.dev
       exec (.reseedInterval i) s =
         becomes s { d with rng := { d.rng with wait := d.rng.wait ++ [(i.val, d.tb.now)] } }) ∧
     (x.seeded = true → isPr i.val = false → x.buf.length ≤ 64 → x.force = false → x.calls < 1048576 →
       coreServes s.dev i.val = true →
       exec (.generateCall i) s = becomes s (onInst i.val (fun x =>
         { x with buf := x.buf ++ padTo 64 (Config.drbgOut i.val x.pers x.seed x.calls), calls := x.calls + 1 }) s.dev)) ∧
     ((drbgOf s.dev k.val).state = 0 → ∃ d, exec (.drbgKat k) s = becomes s d ∧ (drbgOf d k.val).state = 1) ∧
     ((drbgOf s.dev k.val).state = 1 →
       exec (.drbgKatDone k true) s = becomes s (onDrbg k.val (fun c => { c with state := 0 }) s.dev) ∧
       ∃ d, exec (.drbgKatDone k false) s = becomes s d ∧ (drbgOf d k.val).state = 2))

/-- A custodian core's own instance: a full-width read takes 8 bytes, a narrower one marks ERR_WIDTH and takes none, an empty
buffer reads zero and marks ERR_EMPTY; RESEED discards the buffer, the status bits clear by writing 1 (R464-R466).
Check-value units: CV_START loads the polynomial's initial value and absorbs the fold prefix, CV_DATA absorbs 1, 2, 4 or 8
bytes, CV_CTL takes POLY 0-3 and FOLD 0-2 and nothing else; a transfer that mismatches is counted, reported and poisons its
destination (R470, R472, R473, R475). -/
def Obligations.RandomRegistersCheckValues : Prop :=
  (∀ (s : State) (cu : Fin 4) (v : BitVec 32),
     let i := 112 + cu.val
     let x := instOf s.dev i
     (8 ≤ x.buf.length → x.force = false → (instCore s.dev i).isSome = true →
       exec (.rngDataRead cu 0 8) s = becomes s (onInst i (fun x => { x with buf := x.buf.drop 8 })
         (emit (.readValue (leVal (x.buf.take 8))) s.dev)) ∧
       ∀ (off : Fin 8) (n : Fin 9), (off ≠ 0 ∨ n ≠ 8) → ∃ d, exec (.rngDataRead cu off n) s = becomes s d ∧
         d.out.head? = some (.readValue (leAt (x.buf.take 8) off.val n.val)) ∧ (instOf d i).buf = x.buf ∧
         (instOf d i).errWidth = true) ∧
     (x.buf.length < 8 → ∃ d, exec (.rngDataRead cu 0 8) s = becomes s d ∧ d.out.head? = some (.readValue 0) ∧
       (instOf d i).errEmpty = true) ∧
     (v.getLsbD 0 = true → ∃ d, exec (.rngCtlReseed cu v) s = becomes s d ∧ (instOf d i).buf = [] ∧
       (instOf d i).force = true ∧ d.rng.wait.any (fun w => w.1 == i) = true) ∧
     exec (.rngStatWrite cu v) s = becomes s (onInst i (fun x =>
       { x with errWidth := x.errWidth && !v.getLsbD 2, errEmpty := x.errEmpty && !v.getLsbD 1 }) s.dev)) ∧
  (∀ (s : State) (k : Fin 16) (v engine len : Nat) (b : Bytes) (addr : BitVec 40),
     let u := lookD {} s.dev.cv k.val
     (exec (.cvStart k 1) s = becomes s (onCv k.val (fun u =>
       { u with state := crcRun (cvPoly u) (crcInit (cvPoly u)) (foldPrefix u), len := 0 }) s.dev)) ∧
     (b.length ∈ [1, 2, 4, 8] → exec (.cvData k b) s = becomes s (onCv k.val (fun u =>
       { u with state := crcRun (cvPoly u) u.state b, len := (u.len + b.length) % 2 ^ 64 }) s.dev)) ∧
     (v < 2 ^ 32 → let poly := v % 8; let fold := v / 16 % 4
       exec (.cvCtlWrite k (BitVec.ofNat 32 v)) s = becomes s
         (if 4 ≤ poly ∨ fold = 3 then s.dev else onCv k.val (fun u => { u with ctl := poly + 16 * fold }) s.dev)) ∧
     (engine < 2 ^ 16 → len < 2 ^ 32 → ∃ d,
       exec (.transferCheck (BitVec.ofNat 16 engine) addr (BitVec.ofNat 32 len)) s = becomes s d ∧
       d.life.poison = s.dev.life.poison ++ [(addr.toNat, len, engine)] ∧
       lookD 0 d.xferSeq engine = lookD 0 s.dev.xferSeq engine + 1))

/-! Messages and rig images. -/

/-- A message in its string: delivered untagged into its buffer, parsed and routed 22 + 2 × steps + 32 × routes fabric cycles
after T0, or dropped where it does not parse and has no REJECT class (R234, R266-R271). -/
def Obligations.MessagesDeliveredAndParsed : Prop :=
  ∀ (s : State) (tag : BitVec 16) (m : Msg), look s.dev.rig.msgs tag.toNat = some m →
    (m.delivered = false → (stringOf s.dev m.string).gated = false →
      let a := strPhys m.string (msgAddr s.dev m)
      exec (.messageDeliver tag) s = .next { s with
        dev := onOp tag.toNat (fun o => { o with phase := .running })
          (onMsg tag.toNat (fun m => { m with delivered := true, t0 := s.dev.tb.now }) s.dev),
        mem := writeBytes s.mem a m.bytes, memTags := fillTags s.memTags a m.bytes.length false }) ∧
    (∀ e c p, msgEntry s.dev m = some e → classAt e m.cls m.string = some (c, p) → m.delivered = true → m.parsed = false →
      (∀ x, parseWith c m.bytes = some x → exec (.parseEnd tag) s = .next (routed tag.toNat c p m x
        (m.t0 + fabNs (22 + 2 * c.parse.length + 32 * c.routes.length)) s)) ∧
      (parseWith c m.bytes = none → classAt e c.reject m.string = none → exec (.parseEnd tag) s =
        becomes s (dropMsg tag.toNat (dk 0x5002 2) (reach (m.t0 + fabNs (22 + 2 * c.parse.length)) s.dev))))

/-- Slices and emit: a slice that is ready and first in line enters its engine in user mode at its code address with the
message's addresses in the A registers; its deadline ends it where CALL #1 was taken; emit writes the output and OUT_LEN; a
message whose final slice has ended goes to egress (R273-R275, R279, R280). -/
def Obligations.SlicesAndRelease : Prop :=
  ∀ (s : State) (tag : BitVec 16) (i : Fin 32) (m : Msg) (c : RigClass) (pl : ClassPlace),
    look s.dev.rig.msgs tag.toNat = some m → msgClass s.dev m = some (c, pl) →
    (∀ sl, c.slices[i.val]? = some sl → sliceReady s.dev m c pl i.val sl = true →
      sliceAhead s.dev tag.toNat m (sliceEngine m sl) (sliceDue m sl) = false →
      ∃ d, exec (.sliceStart tag i) s = becomes s d ∧
        (procOf d (16 * m.string + sl.slot)).pc = BitVec.ofNat 32 (pl.codeBase + sl.codeOff) ∧
        (procOf d (16 * m.string + sl.slot)).slice = some (tag.toNat, i.val) ∧
        isPriv (procOf d (16 * m.string + sl.slot)) = false ∧ intOn (procOf d (16 * m.string + sl.slot)) = true ∧
        (procOf d (16 * m.string + sl.slot)).a[0] = BitVec.ofNat 32 (ctxAddr pl m)) ∧
    (∀ r, m.slices.find? (fun r => r.idx == i.val) = some r → exec (.sliceDeadline tag i) s =
      becomes s (onMsg tag.toNat (fun m => { m with slices := m.slices.map (fun x =>
          if x.idx = i.val ∧ x.called.isSome = true ∧ x.ended = none then { x with ended := some x.deadline } else x) })
        (reach r.deadline s.dev))) ∧
    (∀ steps t, c.emit = some steps → emitAt c m = some t → m.emitEnd = none → m.released = false →
      let fa := strPhys m.string (faAddr c pl m)
      let out := strPhys m.string (outAddr c pl m)
      let b := (emitAll c (readBytes s.mem fa c.faLen) steps steps [] []).1
      let stop := t + fabNs (22 + 2 * steps.length)
      (b.length ≤ c.outMax → ∃ u, exec (.emitEnd tag) s = .next u ∧
        u.mem = writeBytes (writeBytes s.mem out b) (strPhys m.string (ctxAddr pl m) + 0x38) (le 2 b.length) ∧
        u.dev = onMsg tag.toNat (fun m => { m with emitStart := some t, emitEnd := some stop, outLen := b.length })
          (reach stop s.dev)) ∧
      (c.outMax < b.length → exec (.emitEnd tag) s = becomes s (dropMsg tag.toNat (dk 0x5002 5) (reach stop s.dev)))) ∧
    (∀ t, releaseAt c m = some t → m.released = false → m.parsed = true →
      let fa := strPhys m.string (faAddr c pl m)
      exec (.messageRelease tag) s = becomes s (finishCloses (releaseMsg tag.toNat m (readByte s.mem fa).toNat
        (leVal (readBytes s.mem (fa + 4) 4)) (fun o n => padTo n (slice (readBytes s.mem fa c.faLen) o n))
        (readBytes s.mem (strPhys m.string (outAddr c pl m)) m.outLen) (reach t s.dev))))

/-- Rig images: an image that passes the checks is accepted and loaded, QUIESCE holds it until the old one has drained or
QUIESCE_LIMIT passes, RIG_RETIRE takes the domain's image out of force (R285-R290). The image is what the bytes staged in the
device or on the card spell, else what the request brought (log entry 85). -/
def Obligations.RigImages : Prop :=
  (∀ (s : State) (h : SvcHdr) (obj : ObjRef) (given : RigImage) (d : Dev) (role : Role),
    let img := imageNamed h.via obj given s.dev
    let r : RigReq := { img := img, via := h.via, officer := h.officer, quiesce := h.quiesce }
    Served h (.rigAdmit obj given) s d role →
    objStatus h.via obj (takeRequest h.via (servedHobbled (.rigAdmit obj given)) s.dev).2 = .ok → d.ks.migState = 0 →
    ((∃ n, role = .domainOfficer n) ∨ role = .operator ∨ role = .hostDriver) →
    (rigOf d img.domain).quiesce = none → admitCheck d h.officer h.quiesce img = (.ok, 0) →
    (h.quiesce = false ∨ rigBusy d img.domain = false → ∀ places, placeImage d img h.quiesce = some places →
      exec (.rigAdmit h obj given) s = .next (rigStep img.domain
        (fun _ => dropStaged h.via (.rigAdmit obj given) (acceptImage r (rigActor d r) places d)) s)) ∧
    (h.quiesce = true → rigBusy d img.domain = true →
      let held : Quiesce :=
        { img := img, via := h.via, officer := h.officer, till := d.tb.now + ms (numOf 20 d (dk 0x5001 2)) }
      exec (.rigAdmit h obj given) s = .next (rigStep img.domain (fun _ => dropStaged h.via (.rigAdmit obj given)
        (onRig img.domain (fun x => { x with quiesce := some held }) d)) s))) ∧
  (∀ (s : State) (dom : BitVec 12) (q : Quiesce), (rigOf s.dev dom.toNat).quiesce = some q →
    let r : RigReq := { img := q.img, via := q.via, officer := q.officer, quiesce := true }
    (rigBusy s.dev dom.toNat = false → ∀ places,
      let d := onRig dom.toNat (fun x => { x with quiesce := none }) s.dev
      placeImage d q.img true = some places → exec (.quiesceDrained dom) s = .next (rigStep dom.toNat
        (fun _ => runQueued dom.toNat 256 (acceptImage r (rigActor d r) places d)) s)) ∧
    (let d := onRig dom.toNat (fun x => { x with quiesce := none }) (reach q.till s.dev)
     exec (.quiesceTimeout dom) s = .next (rigStep dom.toNat
       (fun _ => runQueued dom.toNat 256 (refuseImage r (rigActor d r) .timeout 0 d)) s))) ∧
  (∀ (s : State) (h : SvcHdr) (domain : BitVec 16) (d : Dev) (role : Role) (e : RigEntry),
    Served h (.rigRetire domain.toNat) s d role → domain.toNat < 4096 → (rigOf d domain.toNat).current = some e →
    rightMet d h.via role { dual := [(2, .device), (2, .domain domain.toNat)] } = true →
    exec (.rigRetire h domain) s = becomes s (answer h.via .ok [] (raise srcCustodian 0x0212 domain.toNat (actorReq d h)
      [(4, e.img.version), (1, 0), (4, 0)] (retireImage domain.toNat d))))

/-! Ports, MACsec and Message Transport. -/

/-- A port's way to its link: ENABLE and the settings that restart it, the highest common mode, training and its limit
(R294, R296, R297, R299).
Lock and loss: block lock and alignment-marker lock, three misses in a row, the return within 10 ms, the restart after it,
and the FEC window (R300, R301, R303, R304). -/
def Obligations.PortLinks : Prop :=
  ((∀ (d : Dev) (p : Nat), rising d.net.ports = true → (portOf d p).egress = [] → pairOk d p = true →
     (anEnabled d p = true → (portOf (startPort p d) p).state = 2 ∧ (portOf (startPort p d) p).mode = 0) ∧
     (anEnabled d p = false →
       (portOf (startPort p d) p).state = 3 ∧ (portOf (startPort p d) p).mode = modeForced d p)) ∧
   ∀ (s : State) (p : Fin 64) (on : Bool) (v : BitVec 16), portFused s.dev p.val = false →
     let q := portOf s.dev p.val
     let n := v.toNat
     let wrote := fun (sub : Nat) (b : Bytes) (d : Dev) => becomes s (emit (.wrote (0x3000 + p.val) sub 0)
       (raise srcCustodian 0x0240 0 actorFw [(2, 0x3000 + p.val), (1, sub), (16, leVal (b.take 16))] d))
     let again := fun (d0 sub : Nat) => restartPort p.val (setNum d0 (pk p.val sub) n s.dev)
     exec (.portEnable p on) s = wrote 2 [BitVec.ofNat 8 (b2n on)] (setPortEnable p.val on s.dev) ∧
     (n < 512 → exec (.portConfigChange p 0 v) s = wrote 3 (le 2 n) (again 0x1FF 3)) ∧
     (n < 2 → exec (.portConfigChange p 1 v) s = wrote 4 (le 1 n) (again 1 4)) ∧
     (1 ≤ n → n ≤ 9 → bitOf (modeAllowed s.dev p.val) (n - 1) = true →
       exec (.portConfigChange p 2 v) s = wrote 5 (le 1 n) (again 1 5)) ∧
     (bitOf (modeAllowed s.dev p.val) (n - 1) = false →
       exec (.portConfigChange p 2 v) s = becomes s (emit (.wrote (0x3000 + p.val) 5 3) s.dev)) ∧
     (n < 2 → exec (.portConfigChange p 3 v) s = wrote 6 (le 1 n) (again 1 6)) ∧
     (n < 16 → exec (.portConfigChange p 4 v) s = wrote 0x0E (le 1 n) (again 0 0x0E)) ∧
     (∀ (partner : BitVec 9) (rs : Bool) (i : Fin 9), q.state = 2 → q.restartAt = none → portRole s.dev p.val = 0 →
       bitOf (modeAllowed s.dev p.val) i.val = true → partner.getLsbD i.val = true →
       (∀ j < i.val, (bitOf (modeAllowed s.dev p.val) j && partner.getLsbD j) = false) →
       exec (.anComplete p partner rs) s = becomes s (onPort p.val (fun q => { q with
         state := 3, mode := i.val + 1, trainSince := s.dev.tb.now,
         fec := if i.val < 6 then 2 else if i.val < 8 then b2n (fec25 s.dev p.val || rs) else 0 }) s.dev)) ∧
     (q.state = 3 → exec (.trainingDone p) s =
       becomes s (onPort p.val (fun q => { q with state := 4, lanes := [], blockLocked := false }) s.dev)) ∧
     (q.state = 3 → ∃ d t, exec (.trainingTimeout p) s = becomes s d ∧ (portOf d p.val).state = 2 ∧
       (portOf d p.val).restartAt = some t ∧ d.tb.now + 50000000 ≤ t ∧ t ≤ d.tb.now + 100000000 ∧
       d.tb = reachTime s.dev.tb (q.trainSince + (if 7 ≤ q.mode then 500000000 else 3000000000)) ∧
       numOf 0 d (pk p.val 0x37) = numOf 0 s.dev (pk p.val 0x37) + 1) ∧
     (∀ t, q.restartAt = some t → exec (.anRestart p) s = becomes s (startPort p.val (reach t s.dev)))) ∧
  (∀ (s : State) (p : Fin 64) (lane : Fin 8) (pos k : BitVec 64) (mid skewOk : Bool) (cw ok bad sym : BitVec 32),
     let q := portOf s.dev p.val
     let lanes := fun (x : LaneLock) => onPort p.val (setLane lane.val x)
     (7 ≤ q.mode → q.state = 4 ∨ q.state = 6 → linkLost q s.dev.tb.now = false → ∃ d, exec (.blockLock p true mid) s = becomes s d ∧
       (portOf d p.val).state = 5 ∧ (portOf d p.val).blockLocked = true ∧ (portOf d p.val).downSince = none ∧
       numOf 0 d (pk p.val 0x35) = numOf 0 s.dev (pk p.val 0x35) + b2n (q.state == 6)) ∧
     (7 ≤ q.mode → q.state = 5 → q.egress = [] → ∃ d, exec (.blockLock p false mid) s = becomes s d ∧
       (portOf d p.val).state = 6 ∧ (portOf d p.val).downSince = some s.dev.tb.now ∧
       numOf 0 d (pk p.val 0x25) = numOf 0 s.dev (pk p.val 0x25) + b2n mid) ∧
     (locking q = true → lane.val < fecLanes q.mode →
       (∀ f, fecLane q lane.val = .search f → f ≤ pos.toNat →
         exec (.amCandidate p lane pos) s = becomes s (lanes (.confirm pos.toNat) s.dev)) ∧
       (∀ b, fecLane q lane.val = .confirm b →
         exec (.amConfirm p lane false skewOk) s = becomes s (lanes (.search (b + 1)) s.dev) ∧
         (allLocked (setLane lane.val (.locked b 0 0) q) = false →
           exec (.amConfirm p lane true skewOk) s = becomes s (lanes (.locked b 0 0) s.dev)) ∧
         (allLocked (setLane lane.val (.locked b 0 0) q) = true → q.state = 4 → linkLost q s.dev.tb.now = false →
           3 ≤ q.mode ∨ skewOk = true →
           ∃ d, exec (.amConfirm p lane true skewOk) s = becomes s d ∧ (portOf d p.val).state = 5)) ∧
       (∀ b n last, fecLane q lane.val = .locked b n last →
         let d := bump (pk p.val 0x33) s.dev
         (n = 0 ∨ last + 1 ≠ k.toNat → exec (.amMiss p lane k mid) s = becomes s (lanes (.locked b 1 k.toNat) d)) ∧
         (n = 1 → last + 1 = k.toNat → exec (.amMiss p lane k mid) s = becomes s (lanes (.locked b 2 k.toNat) d)) ∧
         (n = 2 → last + 1 = k.toNat → exec (.amMiss p lane k mid) s =
           becomes s (if q.state = 5 then portDown p.val mid (lanes (.search (b + 1)) d) else lanes (.search (b + 1)) d)))) ∧
     (∀ t, q.downSince = some t → exec (.linkDownTimeout p) s = becomes s (startPort p.val (portEvent p.val 9 0 0 0 []
       (onPort p.val (fun q => { q with linked := false }) (bump (pk p.val 0x36) (reach (t + 10000000) s.dev)))))) ∧
     (q.state = 5 → q.fec ≠ 0 →
       let d := bumpBy sym.toNat (pk p.val 0x32) (bumpBy bad.toNat (pk p.val 0x31) (bumpBy ok.toNat (pk p.val 0x30) s.dev))
       exec (.fecWindow p cw ok bad sym mid) s = becomes s (if cw.toNat < bad.toNat * 8192 then
         portDown p.val mid (onPort p.val (fun q => { q with lanes := [], blockLocked := false }) d) else d)))

/-- Secure channels and associations: what each request does for the custodian, the owner domain's tenant or its driver; an
association whose key no longer resolves is disabled 4 µs later (R313, R315-R317, R319, R322). -/
def Obligations.MacsecAssociations : Prop :=
  (∀ (s : State) (h : SvcHdr) (port dir rxsc an : BitVec 8) (window key ssci : BitVec 32) (sci pn : BitVec 64) (salt : Bytes)
    (d : Dev) (role : Role), rightMet d h.via role (saRights port.toNat h d) = true → portFused d port.toNat = false →
    let p := port.toNat
    let (dr, c, a) := (dir.toNat, rxsc.toNat, an.toNat)
    let event := fun (handle : Nat) => raise (srcPort p) 0x0230 (portOwner d p) (actorReq d h)
      [(1, p), (1, saByte (dr == 0) c a), (4, handle)] d
    (Served h (.rxscSet p c window.toNat sci.toNat) s d role → p < 64 → c < 16 → window.toNat < 2 ^ 30 →
      exec (.rxscSet h port rxsc window sci) s = becomes s (answer h.via .ok [] (onPort p (fun q =>
        if sci = 0 then { q with rxscs := del q.rxscs c, rxSas := keep (fun i _ => !(i / 4 == c)) q.rxSas }
        else { q with rxscs := ins q.rxscs c { sci := sci.toNat, window := window.toNat } }) d))) ∧
    (Served h (.txArm p a) s d role → p < 64 → a < 4 ∨ a = 255 →
      exec (.txArm h port an) s = becomes s
        (answer h.via .ok [] (onPort p (fun q => { q with nextAn := if a = 255 then none else some a }) d))) ∧
    (saArgs p dr c a = true → ∀ sa, saOf (portOf d p) dr c a = some sa →
      (Served h (.saDelete p dr c a) s d role → exec (.saDelete h port dir rxsc an) s =
        becomes s (answer h.via .ok [] (dropSa p dr c a (event sa.handle)))) ∧
      (Served h (.saEnable p dr c a) s d role → sa.keyIn = true → sa.ready = true → sa.lost = false → dr = 1 →
        exec (.saEnable h port dir rxsc an) s = becomes s
          (answer h.via .ok [] (onRxSa p (4 * c + a) (fun sa => { sa with enabled := true }) (event sa.handle)))) ∧
      (Served h (.saEnable p dr c a) s d role → sa.keyIn = true → sa.ready = true → sa.lost = false → dr = 0 →
        exec (.saEnable h port dir rxsc an) s = becomes s (answer h.via .ok [] (warnPn p a (onPort p (fun q =>
          { q with txAn := some a, switchTo := none, exhaustedSent := false })
          (onTxSa p a (fun sa => { sa with enabled := true }) (event sa.handle))))))) ∧
    (∀ i k d', Served h (.saCreate p dr c a key.toNat ssci.toNat pn.toNat salt) s d role →
      saArgs p dr c a = true → salt.length = 12 →
      (macsecMode (takeRequest h.via false s.dev).2 p = 2 ∨ ssci = 0 ∧ salt.all (fun b => b == 0#8) = true ∧ pn.toNat < 2 ^ 32) →
      resolve d.ks false (portOwner d p) key.toNat = .ok (i, k) → saKeys p dr key.toNat d role = .ok →
      saLate p dr c a key.toNat pn.toNat d = .ok → spendUse i k d = .ok (none, d') →
      let sa : MacSa := { handle := key.toNat, idx := i, gen := k.gen, ssci := ssci.toNat, salt := salt, pn := pn.toNat }
      let e := raise (srcPort p) 0x0230 k.domain (actorReq d' h) [(1, p), (1, saByte (dr == 0) c a), (4, key.toNat)] d'
      (dr = 1 → exec (.saCreate h port dir rxsc an key ssci pn salt) s = becomes s
        (answer h.via .ok [] (onPort p (fun q => { q with rxSas := ins q.rxSas (4 * c + a) sa }) e))) ∧
      (dr = 0 → ∃ stop, stop ≤ saReserve k.ivctr pn.toNat ∧ exec (.saCreate h port dir rxsc an key ssci pn salt) s = becomes s
        (let v := saReserve k.ivctr pn.toNat
         let new := { sa with pn := firstPn k.ivctr pn.toNat, stop := stop, ready := false }
         let x := reserveIv (txHolder p a) i k.gen (v - 2 ^ 24) v (onPort p (fun q => { q with txSas := ins q.txSas a new }) e)
         waitFor x.1 (.answer h.via .ok (le 8 (firstPn k.ivctr pn.toNat))) x.2)))) ∧
  (∀ (s : State) (p : Fin 64) (v : BitVec 8) (tx : Bool) (i : Fin 64) (a : MacSa) (t : Nat),
    (portFused s.dev p.val = false → v.toNat ≤ 2 → portRole s.dev p.val ≠ 2 ∨ v = 0 → ∃ d,
      exec (.macsecEnableWrite p v) s = becomes s d ∧ d.net.ports = (setMacsec p.val v.toNat s.dev).net.ports) ∧
    ((if tx then look (portOf s.dev p.val).txSas i.val else look (portOf s.dev p.val).rxSas i.val) = some a →
      a.resolving = some t → a.lost = false →
      let d := reach (t + 4000) s.dev
      let calm := fun (a : MacSa) => { a with resolving := none }
      let gone := fun (a : MacSa) => { a with enabled := false, lost := true, keyIn := false, resolving := none }
      (saKeyOk d p.val tx a = true → exec (.saKeyResolveTimeout p tx i) s =
        becomes s (if tx then onTxSa p.val i.val calm d else onRxSa p.val i.val calm d)) ∧
      (saKeyOk d p.val tx a = false → exec (.saKeyResolveTimeout p tx i) s = becomes s
        (portEvent p.val 7 (if tx then saByte true 0 i.val else saByte false (i.val / 4) (i.val % 4)) a.pn 0 []
          (if tx then onTxSa p.val i.val gone d else onRxSa p.val i.val gone d)))))

/-- Frames: what a port that is up receives and drops, each drop under its own counter and with nothing delivered (R304, R305,
R307, R320); a frame given to a port that is down is lost and counted; a frame that leaves under an association takes its
packet number, and the next frame a higher one (R306, R313, R317). -/
def Obligations.FramesInAndOut : Prop :=
  ∀ (s : State) (p : Fin 64) (f : RxFrame), portRole s.dev p.val = 0 →
    let n := f.bytes.length + 4
    let drops := fun (sub : Nat) => exec (.frameReceive p f) s = becomes s (bump (pk p.val sub) s.dev)
    let good := f.fcsOk = true ∧ f.fecOk = true ∧ 64 ≤ n ∧ n ≤ portMtu s.dev p.val ∧ n ≤ 9216 ∧ etherType f.bytes ≠ 0x8808
    (portUp s.dev p.val = true →
      (f.fcsOk = false ∨ f.fecOk = false → drops 0x21) ∧
      (f.fcsOk = true → f.fecOk = true → n < 64 ∨ portMtu s.dev p.val < n ∨ 9216 < n → drops 0x22) ∧
      (f.fcsOk = true → f.fecOk = true → 64 ≤ n → n ≤ portMtu s.dev p.val → n ≤ 9216 → etherType f.bytes = 0x8808 →
        drops 0x24) ∧
      (good → macsecMode s.dev p.val = 0 → vlanOk s.dev p.val f.bytes = false → drops 0x23) ∧
      (good → macsecMode s.dev p.val = 0 → vlanOk s.dev p.val f.bytes = true →
        exec (.frameReceive p f) s = becomes s (frameUse p.val n f.bytes s.dev)) ∧
      (good → macsecMode s.dev p.val ≠ 0 → etherType f.bytes ≠ 0x88E5 → etherType f.bytes ≠ 0x888E → drops 0x44) ∧
      (good → macsecMode s.dev p.val ≠ 0 → ∀ b d, macsecIn p.val f.bytes s.dev = (.plain b, d) → vlanOk d p.val b = true →
        exec (.frameReceive p f) s = becomes s (frameUse p.val n b d))) ∧
    (f.bytes ≠ [] →
      (portUp s.dev p.val = false →
        exec (.frameTransmit p f.bytes) s = becomes s (bump (pk p.val 0x29) s.dev)) ∧
      (∀ an a, portUp s.dev p.val = true → macsecMode s.dev p.val ≠ 0 → etherType f.bytes ≠ 0x888E →
        (portOf s.dev p.val).txAn = some an → look (portOf s.dev p.val).txSas an = some a → saServes a = true →
        a.resolving = none → a.follow = none → a.pn ≤ lastPn (macsecMode s.dev p.val) → a.pn < a.stop →
        f.bytes.length + 36 ≤ portMtu s.dev p.val →
        ∃ d b, exec (.frameTransmit p f.bytes) s = becomes s d ∧
          d.out.head? = some (.frame p.val (protect s.dev p.val an a f.bytes) false) ∧
          look (portOf d p.val).txSas an = some b ∧ b.pn = a.pn + 1))

/-- Neighbours, held messages, listeners and routes: the retry each 250 ms, the drop after a second, the lapse after 300 s;
ENABLE opens the listener's channel; a descriptor is written and its route connects (R329, R333, R336, R337, R346, R348).
The timers of a connection: retransmission doubled up to 2 s, eight of them, four SYNs, three unanswered probes, 4 s of
TIME-WAIT, 3 s half open, 100 ms for room; and the correlation entry next to expire (R331, R334, R344, R345). -/
def Obligations.TransportTimersAndTables : Prop :=
  ((∀ (s : State) (p : Fin 64) (addr : Bytes) (n : Neighbour), neighbourOf s.dev p.val addr = some n →
     (n.mac = none → exec (.neighbourRetry p addr) s = becomes s (askNeighbour p.val addr
       (onNeighbour p.val addr (fun n => { n with nextTry := n.nextTry + 250000000 }) (reach n.nextTry s.dev)))) ∧
     (n.mac = none → exec (.neighbourTimeout p addr) s = becomes s
       (dropWaiting n.waiting (dropNeighbour p.val addr (reach (n.since + 1000000000) s.dev)))) ∧
     (n.mac.isSome = true → exec (.neighbourLapse p addr) s =
       becomes s (dropNeighbour p.val addr (reach (n.confirmed + 300000000000) s.dev)))) ∧
   (∀ (s : State), exec .heldMessageAdmit s = becomes s (finishCloses (admitTurn s.dev))) ∧
   (∀ (s : State) (n : Fin 224) (on : Bool) (d : Dev), setListener n.val on s.dev = (.ok, d) →
     exec (.listenerEnable n on) s = becomes s (emit (.wrote (0x3400 + n.val) 0x0A 0) (raise srcCustodian 0x0240 0 actorFw
       [(2, 0x3400 + n.val), (1, 0x0A), (16, b2n on)] d))) ∧
   (∀ (d : Dev) (n : Nat), (lisOf d n).state = 0 → endpoint d (lisPort d n) = true → lisClash d n = false → d.life.reef ≠ 3 →
     lisLocal d n ≠ 0 → (lisFraming d n = 0 ↔ 2 ≤ lisProto d n) →
     ∀ c h e, openChan (.listener n) (lisDomain d n) 256 0 d = some (c, h, e) →
       (setListener n true d).1 = .ok ∧ (setListener n true d).2 = openRoutes
         (setNum 0 (lk n 0x0A) 1 (setNum 0 (lk n 0x0B) h (onLis n (fun _ => { state := 1, chan := c }) e)))) ∧
   (∀ (s : State) (n : Fin 224), (lisOf s.dev n.val).state = 2 → exec (.listenerCloseTimeout n) s = becomes s
     (finishListeners (resetListener n.val (reach (lisOf s.dev n.val).closeAt s.dev)))) ∧
   (∀ (s : State) (r : Fin 4096) (b : Bytes), rising s.dev.dict.blobs = true → b.length = 32 → routeOk s.dev (Route.ofBytes b) = true →
     (lookD {} s.dev.net.routes r.val).conn = none → (Route.ofBytes b).valid = false →
     exec (.routeWrite r b) s = becomes s (emit (.wrote (0x34E0 + r.val / 256) (r.val % 256) 0)
       (raise srcCustodian 0x0240 0 actorFw
         [(2, 0x34E0 + r.val / 256), (1, r.val % 256), (16, leVal (b.take 16))]
         (setBlob (dk 0x34E0 0 + r.val) (if b.all (fun y => y == 0#8) then [] else b)
           { s.dev with net := { s.dev.net with routes := del s.dev.net.routes r.val } })))) ∧
   (∀ (s : State) (r : Fin 4096), (lookD {} s.dev.net.routes r.val).conn = none → routeOpens s.dev r.val = true →
     exec (.routeReconnect r) s = becomes s (openRoute r.val
       (match (lookD {} s.dev.net.routes r.val).at_ with | some t => reach t s.dev | none => s.dev)))) ∧
  ((∀ (s : State) (c : Fin 32768) (t : TcpConn), connOf s.dev c.val = some t →
     (∀ at_, t.timer = some at_ →
       let d := reach at_ s.dev
       let syn := t.state = .synSent ∨ t.state = .synRcvd
       (8 ≤ t.retries ∨ (syn ∧ 3 ≤ t.retries) → exec (.tcpRetransmitTimeout c) s = becomes s (abortConn c.val d)) ∧
       (t.retries < 8 → ¬ syn → inFlight t ≠ 0 →
         let rto := min 2000000000 (2 * t.rto)
         exec (.tcpRetransmitTimeout c) s = becomes s (resend c.val (onConn c.val (fun t => { t with
           retries := t.retries + 1, rto := rto, timer := some (d.tb.now + rto), rttAt := none, dupAcks := 0,
           sacked := [], recovering := true, lost := true, recover := t.sndNxt, highRxt := t.sndUna,
           ssthresh := max (inFlight t / 2) (2 * t.mss), cwnd := t.mss }) d)))) ∧
     (t.state = .established → lisKeepalive s.dev t.listener ≠ 0 →
       let d := reach (t.lastActive + 1000000000 * ((t.probes + 1) * lisKeepalive s.dev t.listener)) s.dev
       (3 ≤ t.probes → exec (.tcpKeepalive c) s = becomes s (abortConn c.val d)) ∧
       (t.probes < 3 → exec (.tcpKeepalive c) s = becomes s
         (let e := onConn c.val (fun t => { t with probes := t.probes + 1 }) d
          sendSeg t (segment e t (seqSub t.sndNxt 1) 0x10 []) t.vlan 0 none e))) ∧
     (t.state = .timeWait → exec (.timeWaitExpire c) s =
       becomes s (finishListeners (removeConn c.val (reach (t.stateAt + 4000000000) s.dev)))) ∧
     (t.state = .synRcvd → exec (.halfOpenLapse c) s =
       becomes s (removeConn c.val (reach (t.created + 3000000000) s.dev))) ∧
     (∀ w rest, t.waiting = w :: rest → exec (.sendBufferTimeout c) s = becomes s (finishCloses (dropOut 0x0C w.tag
       (onConn c.val (fun t => { t with waiting := rest }) (reach (w.since + 100000000) s.dev)))))) ∧
   (∀ (s : State) (e : CorrEntry), minBy? (fun (e : CorrEntry) => e.till) s.dev.net.corr = some e →
     exec .corrEntryExpire s = becomes s
       (let d := reach e.till s.dev
        { d with net := { d.net with corr := d.net.corr.erase e } })))

/-! The host interface. -/

/-- Rings: a doorbell moves its pointer, or is discarded and counted where the slot is not open or the value is not below the
ring's size; a delivery fills buffers, writes its record and advances the ring; a buffer read that fails stops the channel with
cause 2; a message that has waited 100 ms is dropped and counted (R360, R363, R369, R370, R384).
Registers and interrupts of a function: BAD_ACCESS reads and clears, a masked vector's pending message is sent when it is
unmasked, TIME sends the due message, and a write to a doorbell, a slot register, a reserved place or with poison does what its
place says (R355, R356, R358-R360, R362, R382, R383). -/
def Obligations.HostRingsAndRegisters : Prop :=
  ((∀ (s : State) (fn slot : BitVec 12) (v : BitVec 32), fnLive s.dev fn.toNat = true →
     let sl := slotOf s.dev fn.toNat slot.toNat
     let puts := fun (c : Instr) (f : Slot → Slot) => exec c s = becomes s (flushEvents (onSlot fn.toNat slot.toNat f s.dev))
     let bad := fun (c : Instr) => exec c s = becomes s (badAccess fn.toNat 1 s.dev)
     (slot.toNat < slotCount fn.toNat → sl.state = .opened →
       (v.toNat < sqSize sl → v.toNat < 65536 → exec (.sqTailWrite fn slot v) s =
         becomes s (onSlot fn.toNat slot.toNat (fun x => { x with sqTail := v.toNat }) s.dev)) ∧
       (v.toNat < dqSize sl → v.toNat < 65536 → puts (.bqTailWrite fn slot v) (fun x => { x with bqTail := v.toNat }) ∧
         puts (.dqHeadWrite fn slot v) (fun x => { x with dqHead := v.toNat }))) ∧
     (sl.state ≠ .opened ∨ slotCount fn.toNat ≤ slot.toNat →
       bad (.sqTailWrite fn slot v) ∧ bad (.bqTailWrite fn slot v) ∧ bad (.dqHeadWrite fn slot v)) ∧
     (sqSize sl ≤ v.toNat → bad (.sqTailWrite fn slot v)) ∧
     (dqSize sl ≤ v.toNat → bad (.bqTailWrite fn slot v) ∧ bad (.dqHeadWrite fn slot v))) ∧
   (∀ (s : State) (c : Nat) (ch : Chan) (fn sn : Nat) (x : Delivery) (rest : List Delivery),
     look s.dev.host.chans c = some ch → ch.kind = .slot fn sn → ch.deliveries = x :: rest →
     let sl := slotOf s.dev fn sn
     (takesDeliveries sl = true → ch.closing = none → fnLive s.dev fn = true →
       (∀ r : ReadResult, r.get? = none → exec (.delivery c r) s =
         becomes s (onSlot fn sn (fun y => { y with state := .error, cause := 2 }) s.dev)) ∧
       (∀ (b : Bytes) (addr len : Nat), 1 ≤ freeBufs sl → 1 ≤ freeEntries sl → b.length = 16 → leAt b 0 8 = addr →
         leAt b 8 4 = len → 256 ≤ len → len ≤ 65536 → x.data.length ≤ len → 1 ≤ x.data.length →
         ∃ d, exec (.delivery c (.bytes b)) s = becomes s d ∧
           .hostWrite fn (sl.dqBase + 32 * sl.dqTail)
             (deliveryRecord x 1 (chanHandle c ch) (sl.bqNext % dqSize sl) ch.nextDseq (sl.dqPass % 2 == 0)) ∈ d.out ∧
           .hostWrite fn addr x.data ∈ d.out)) ∧
     (∀ t, x.tag = some t → exec (.deliveryTimeout c) s = becomes s (endMsg t (countDeliveryDrop fn
       (onChan c (fun ch => { ch with deliveries := rest }) (reach (x.since + 100000000) s.dev))))))) ∧
  (∀ (s : State) (fn slot : BitVec 12) (vec : BitVec 11) (off : BitVec 23) (b : Bytes), fnLive s.dev fn.toNat = true →
     let n := fn.toNat
     let sl := slotOf s.dev n slot.toNat
     exec (.badAccessRead ⟨fn, BitVec.ofNat 23 (badAccessAt n), 4⟩) s = becomes s (onFn n (fun h => { h with badAccess := 0 })
       (emit (.readBytes (le 4 (fnOf s.dev n).badAccess)) s.dev)) ∧
     (∀ w : BitVec 7, badAccessAt n < off.toNat ∨ off.toNat + w.toNat < badAccessAt n + 4 →
       ∃ bytes, bytes.length = w.toNat ∧ exec (.badAccessRead ⟨fn, off, w⟩) s = becomes s (emit (.readBytes bytes) s.dev)) ∧
     (vec.toNat < vecCount n → exec (.msixUnmask fn vec) s = becomes s
       (let d := onFn n (fun h => { h with
          vectors := upd {} h.vectors vec.toNat (fun v => { v with masked := false, pending := false }) }) s.dev
        if (lookD {} (fnOf s.dev n).vectors vec.toNat).pending then emit (.msix n vec.toNat) d else d)) ∧
     (coalTime sl ≠ 0 →
       (sl.cqDue ≠ 0 → exec (.msixCoalTimer fn slot false) s = becomes s (sendMsix n (fieldOf sl.vector 0 11)
         (onSlot n slot.toNat (fun x => { x with cqDue := 0 }) (reach (sl.cqSince + coalTime sl) s.dev)))) ∧
       (sl.dqDue ≠ 0 → exec (.msixCoalTimer fn slot true) s = becomes s (sendMsix n (fieldOf sl.vector 16 11)
         (onSlot n slot.toNat (fun x => { x with dqDue := 0 }) (reach (sl.dqSince + coalTime sl) s.dev))))) ∧
     exec (.registerWrite fn off b true) s = becomes s (badAccess n 1 s.dev) ∧
     (n < 4 → b.length = 4 → ∀ which : Fin 3, off.toNat = 0x100000 + 16 * slot.toNat + 4 * which.val →
       exec (.registerWrite fn off b false) s = becomes s (ringBell n slot.toNat which.val (leVal b) s.dev)) ∧
     (n < 4 → b.length = 8 → sl.state = .free → ∀ k : Fin 4, off.toNat = 0x200000 + 64 * slot.toNat + 8 * k.val →
       exec (.registerWrite fn off b false) s = becomes s
         (onFn n (fun h => { h with lowHalf := del h.lowHalf (slot.toNat * 64 + 8 * k.val) })
           (onSlot n slot.toNat (putSlotReg (8 * k.val) (leVal b)) s.dev))) ∧
     (n < 4 → b.length = 8 → off.toNat = 0x300000 → exec (.registerWrite fn off b false) s =
       becomes s (badAccess n 1 s.dev)))
/-- Requests on channels: NEGOTIATE agrees on the highest common version, CHANNEL_OPEN opens the slot and answers its handle,
CHANNEL_CLOSE closes it and its unfinished jobs are squashed 20 ms later, their completions written; REDELIVER writes held records
again, those in memory that has failed left out; JOB of version 1 goes to admission on the implicit channel (R361, R364, R365, R374,
R376, R377). -/
def Obligations.ChannelRequests : Prop :=
  (∀ (s : State) (fn : BitVec 12) (seq handle versions kib first : BitVec 32) (slot share dom resv count flags : BitVec 16)
    (dest : BitVec 64) (desc : Bytes) (input : ReadResult), MailReady s fn seq →
    let n := fn.toNat
    let d := mailTaken fn seq s.dev
    (bitOf versions.toNat 3 = true → chansOf s.dev n = [] → exec (.negotiate fn seq versions) s =
      becomes s (answerMailbox n .ok (le 1 3) (onFn n (fun h => { h with abi := 3 }) d))) ∧
    (bitOf versions.toNat 3 = false → bitOf versions.toNat 1 = true → chansOf s.dev n = [] →
      ∀ dm c h e, implicitDomain d n = some dm → openChan (.implicit n) dm 16 0 d = some (c, h, e) →
      exec (.negotiate fn seq versions) s = becomes s (answerMailbox n .ok (le 1 1) (onFn n (fun h => { h with abi := 1 })
        (onFn n (fun h => { h with implicitChan := some c }) e)))) ∧
    (s.dev.life.hobbled = false →
      (∀ c h e, openStatus n slot.toNat share.toNat dom.toNat resv.toNat kib.toNat d = .ok →
        let dm := if n < 4 then dom.toNat else vfDomain d n
        openChan (.slot n slot.toNat) dm share.toNat (kib.toNat * 1024) d = some (c, h, e) →
        exec (.channelOpen fn seq slot share dom resv kib) s = becomes s (answerMailbox n .ok (le 4 h)
          (raise (srcFn n) 0x0220 dm (actorFn n) [(4, h), (2, n)] (onSlot n slot.toNat (fun x =>
            { sqBase := x.sqBase, cqBase := x.cqBase, bqBase := x.bqBase, dqBase := x.dqBase, sizes := x.sizes,
              vector := x.vector, coal := x.coal, ctl := x.ctl, handle := h, state := SlotState.opened }) e)))) ∧
      ((fnOf s.dev n).abi = 3 → unboundVf s.dev n = false → ∀ c ch sn, ownChan s.dev n handle.toNat = some (c, ch, sn) →
        (s.dev.life.custUp = true → ch.closing = none → exec (.channelClose fn seq handle) s = becomes s (finishClose c
          (onChan c (fun ch => { ch with closing := some s.dev.tb.now })
            (onSlot n sn (fun x => { x with state := .closing }) d)))) ∧
        (∀ r rest, flags.toNat ≤ 1 → 1 ≤ count.toNat → count.toNat ≤ 256 → ch.held = r :: rest →
          let es := (heldIn ch first.toNat count.toNat).filter
            (fun e => !poisonedAt (heldEntry (handle.toNat / 65536) e.2.seq) 32 d)
          let e := es.foldl (fun d e => rewrite n dest.toNat (flags.getLsbD 0) e d) d
          ∃ bits, exec (.redeliver fn seq handle first count flags dest) s = becomes s
            (answerMailbox n .ok (le 2 es.length ++ le 2 0 ++ le 4 r.seq ++ le 4 (slotOf e n sn).lastSeq ++ le 32 bits)
              (bumpBy es.length (dk (0x3800 + linkOf e n) 0x12) e)))) ∧
      ((fnOf s.dev n).abi = 1 → unboundVf s.dev n = false → 4 ≤ n → desc.length = 64 →
        ∀ c ch, (fnOf s.dev n).implicitChan = some c → look s.dev.host.chans c = some ch →
        ∃ r, r.src = .mailbox n ∧ r.job = Job.ofBytes desc ∧ r.domain = ch.domain ∧
          exec (.mailboxJob fn seq desc input) s =
            becomes s (tryAdmit r (onFn n (fun h => { h with mbox := mboxPut 0x10 desc h.mbox }) d))))) ∧
  (∀ (s : State) (c : BitVec 16) (ch : Chan) (t : Nat), look s.dev.host.chans c.toNat = some ch → ch.closing = some t →
    let d := reach (t + ms 20) s.dev
    let mine := fun (q : Req) => srcChan d q.src == some c.toNat
    let unfinished := tagsWhere (fun o => mine o.req && !(o.phase == .completing)) d
    let ends := fun (d : Dev) (tag : Nat) =>
      match opOf (squash tag d) tag with
      | none => squash tag d
      | some o => retire tag (deliver o.req (doneOf tag o) (squash tag d))
    waitingOf mine d = [] → exec (.channelCloseSquash c) s = becomes s (finishChans (finishInvals (unfinished.foldl ends d))))

/-- Drains: an FLR abandons the function's requests and squashes what is not yet running; at 20, 22 and 25 ms what runs is
squashed, the channels close and the function is reset; a changed number of VFs and a link that goes down drain too
(R351, R352, R378-R380, R384). -/
def Obligations.FunctionDrains : Prop :=
  (∀ (s : State) (fn : BitVec 12), fnLive s.dev fn.toNat = true → 4 ≤ fn.toNat →
    let early := fun (o : Op) => fnOfSrc s.dev o.req.src == some fn.toNat && (o.phase == .admitted || o.phase == .issued)
    let n := (tagsWhere early s.dev).length
    ∃ d, exec (.flr fn) s = becomes s d ∧ (fnOf d fn.toNat).mbBusy = none ∧ (fnOf d fn.toNat).mbTaken = false ∧
      (fnOf d fn.toNat).flr = some { kind := 0, origin := fn.toNat, start := s.dev.tb.now, step := 2, squashed := n }) ∧
  (∀ (s : State) (kind : Fin 4) (origin : BitVec 12) (fn : Nat) (x : FlrState),
    draining kind.val origin.toNat s.dev = [(fn, x)] →
    let stands := fun (n : Nat) (d : Dev) =>
      onFn fn (fun h => { h with flr := h.flr.map (fun x => { x with step := n }) }) d
    (x.step = 2 → exec (.flrSquash kind origin) s =
      becomes s (stands 3 (drainSquash fn (reach (x.start + 20000000) s.dev)))) ∧
    (x.step = 3 → exec (.flrClose kind origin) s =
      becomes s (stands 4 (drainClose fn (reach (x.start + 22000000) s.dev)))) ∧
    (x.step = 4 → exec (.flrDone kind origin) s = becomes s
      (endDrain kind.val origin.toNat [(fn, x)] (resetFn fn (reach (x.start + 25000000) s.dev))))) ∧
  (∀ (s : State) (pf half : Fin 4) (n : BitVec 11) (rate : Fin 6) (w : Fin 5) (flit : Bool),
    (fnLive s.dev pf.val = true → lookD 0 s.dev.host.bifurcated (pf.val / 2) ≠ 1 → n.toNat ≤ 1024 →
      lookD 0 s.dev.host.numVfs pf.val = 0 → n ≠ 0 → look s.dev.host.vfPending pf.val = none →
      (fnsOfHalf s.dev pf.val).filter (fun f => decide (4 ≤ f)) = [] → draining 1 pf.val s.dev = [] →
      exec (.vfEnableChange pf n) s = becomes s
        { s.dev with host := { s.dev.host with numVfs := put 0 s.dev.host.numVfs pf.val n.toNat } }) ∧
    ((lookD {} s.dev.host.links half.val).state ≠ 0 → exec (.hostLinkDown half) s = becomes s
      (let d := drainAll 2 half.val (fnsOfHalf s.dev half.val) s.dev
       bump (dk (0x3800 + half.val / 2) 0x15)
         { d with host := { d.host with links := put {} d.host.links half.val {} } })) ∧
    ((lookD {} s.dev.host.links half.val).state ≠ 2 → s.dev.life.powerOff = false → s.dev.life.gait ≠ 3 → half.val % 2 = 0 →
      lookD 0 s.dev.host.bifurcated (half.val / 2) ≠ 1 → ∃ l, exec (.hostLinkUp half rate w flit) s =
        becomes s { s.dev with host := { s.dev.host with links := ins s.dev.host.links half.val l } } ∧
        l = { state := 2, rate := rate.val + 1, width := 2 ^ w.val, flit := flit || rate.val == 5 }))


/-! The custodian: services, officers, sessions, the watchdog; the Shroud. -/

/-- Services of the custodian: SERVICE_INFO answers its 12 bytes; a domain is created from a generated root and deleted with its
images, listeners, channels, bindings and officers; a signed newer image goes to the spare slot; DEVICE_RESET resets after its
answer; DICT_WRITE writes its entry (R7, R391, R399, R402, R408, R421, R563). -/
def Obligations.CustodianServices : Prop :=
  ∀ (s : State) (h : SvcHdr) (domain index : BitVec 16) (sub tcode : BitVec 8) (obj : ObjRef) (brought : FwImage) (given : Bytes)
    (d : Dev) (role : Role),
    let dom := domain.toNat
    let image := firmwareNamed h.via obj brought s.dev
    let taken := (takeRequest h.via false s.dev).2
    (Served h .serviceInfo s d role → AnyRole h d role → exec (.serviceInfo h) s = becomes s (answer h.via .ok
      (le 1 3 ++ le 1 (b2n d.life.custUp + 2 * b2n d.life.hobbled) ++ le 2 0 ++ le 4 (fwVersion d) ++
        le 2 (((runningFw d).map (fun i => i.svn)).getD 0) ++ le 2 0) d)) ∧
    (Served h (.domainCreate dom) s d role → TwoDeviceOfficers h d role → dom < 4096 → dom ∉ d.cust.domains →
      d.ks.migState = 0 → keyState d = true → d.ks.locked = false → foundationShut d = false → roomToCreate d.ks = true →
      exec (.domainCreate h domain) s = becomes s (generate 116 (.root dom) h.via (actorReq d h) d)) ∧
    (Served h (.domainDelete dom) s d role → rightMet d h.via role { dual := [(2, .device), (2, .domain dom)] } = true →
      dom < 4096 → has d.cust.domains dom = true → d.ks.migState = 0 → foundationShut d = false → roomToJournal d.ks = true →
      let cut := unbindDomain dom (closeDomainChans dom (dropDomainNet dom (retireImage dom d)))
      let x := destroyKey (dom + 1) none (actorReq d h) cut
      let e := (officersOf x.2 .domainOfficer dom).foldl (fun f id => revokeOfficer id (actorReq d h) f) x.2
      let gone := { e with cust := { e.cust with domains := without e.cust.domains dom } }
      exec (.domainDelete h domain) s = becomes s
        (waitFor x.1 (.answer h.via .ok []) (raiseAfter srcCustodian 0x0121 dom (actorReq d h) [(2, dom)] gone))) ∧
    (Served h (.fwStage obj brought) s d role → role = .operator ∨ role = .deviceOfficer → objStatus h.via obj taken = .ok →
      image.magicOk = true → 1 ≤ image.svn → image.svn ≤ 255 → image.length ≤ 2 ^ 28 → fwVersion d < image.version →
      svnFloor d ≤ image.svn →
      let n := spareSlot d
      let e := writeDir (fun b => { b with trial := none }) d
      exec (.fwStage h obj brought) s = becomes s (dropStaged h.via (.fwStage obj brought)
        (if fwSigned image then
          answer h.via .ok (le 1 n ++ zeros 3 ++ le 4 image.version ++ le 2 image.svn ++ le 2 0)
            (raise srcCustodian 0x0110 0 (actorReq e h) [(1, n), (4, image.version), (2, image.svn)] (setSlot n image e))
         else answer h.via .authFail [] d))) ∧
    (Served h .deviceReset s d role → TwoDeviceOfficers h d role →
      exec (.deviceReset h) s = .next (fullReset 2 { s with dev := dueReset (answer h.via .ok [] d) })) ∧
    (let value := objBytes h.via obj given s.dev
     let w := writerOf h (writeRole h role d) d
     let a : SvcAction := .dictWrite index.toNat sub.toNat tcode.toNat obj given
     Served h a s d role → objStatus h.via obj taken = .ok → rightMet d h.via role (dictRights h.via index.toNat sub.toNat d) = true →
     ∀ r e, dictRow index.toNat sub.toNat = some r → writeTarget index.toNat sub.toNat tcode.toNat value.length = .ok r →
      applyEntry w index.toNat sub.toNat r value d = .ok e →
      let wrote := (writeEntry w index.toNat sub.toNat r value d).2
      let done := dropStaged h.via a (answer h.via (writtenStatus index.toNat sub.toNat wrote) (writtenBody index.toNat sub.toNat wrote) wrote)
      exec (.dictWrite h index sub tcode obj given) s = .next (afterWrite { s with dev := done }))

/-- Officers: enrolment and login by the card's three commands, the login in its slot bound to its association, logout, expiry
when idle, and revocation, which logs the officer out and discards its authorisations (R394-R396, R417, R564). That a logout serves
any requester, and the first device officers' enrolment any with a role, is the model's choice (log entries 239 and 240). -/
def Obligations.OfficersAndLogins : Prop :=
  (∀ (s : State) (h : SvcHdr) (slot pinLen : BitVec 8) (officer : BitVec 16) (pin : Bytes) (obj : ObjRef) (brought : OfficerRec)
    (card : CardReply) (d e : Dev) (role : Role),
    let n := slot.toNat
    let id := officer.toNat
    let record := recordNamed h.via obj brought s.dev
    let kind := roleOfCode record.role
    (Served h (.officerEnrol n pinLen.toNat pin obj brought card) s d role → pinStatus n pinLen.toNat pin = .ok →
      objStatus h.via obj (takeRequest h.via false s.dev).2 = .ok → recordOk record = true →
      rightMet d h.via role (officerRights kind record.domain true d) = true → look d.cust.officers record.officer = none →
      officerRoom d kind record.domain = true → foundationShut d = false → cardExchange n card d = (.ok, e) →
      let o : Officer := { role := kind, domain := record.domain, cardKey := record.cardKey, rigEcdsa := record.rigEcdsa, rigMldsa := record.rigMldsa }
      let more := { e with cust := { e.cust with officers := ins e.cust.officers record.officer o } }
      exec (.officerEnrol h slot pinLen pin obj brought card) s = becomes s
        (dropStaged h.via (.officerEnrol n pinLen.toNat pin obj brought card) (answer h.via .ok [] (raise srcCustodian 0x0101
          record.domain (actorReq e h) [(2, record.officer), (1, record.role), (2, record.domain)] more)))) ∧
    (Served h (.officerLogin n pinLen.toNat id pin card) s d role → AnyRole h d role → pinStatus n pinLen.toNat pin = .ok →
      ∀ o, look d.cust.officers id = some o → o.revoked = false → cardExchange n card d = (.ok, e) →
      let l : Login := { officer := id, lastUse := e.tb.now, bound := boundBy h.via }
      let inn := { e with cust := { e.cust with logins := ins e.cust.logins n l } }
      exec (.officerLogin h slot pinLen officer pin card) s =
        becomes s (answer h.via .ok [] (loginEvent 0x0103 id n card.pinSw inn))) ∧
    (Served h (.officerLogout id) s d role → AnyRole h d role → exec (.officerLogout h officer) s = becomes s (answer h.via .ok []
      ((keysOf (d.cust.logins.filter (fun e => e.2.officer == id))).foldl (fun d n => logoutSlot n d) d))) ∧
    (Served h (.officerRevoke id) s d role → 1 ≤ id → id ≤ 0x1FFF → ∀ o, look s.dev.cust.officers id = some o →
      o.revoked = false → rightMet d h.via role (officerRights o.role o.domain false d) = true → foundationShut d = false →
      (o.role = .deviceOfficer → scopeM d .device < (officersOf d o.role o.domain).length) →
      (o.role = .domainOfficer → scopeM d (.domain o.domain) < (officersOf d o.role o.domain).length) →
      exec (.officerRevoke h officer) s = becomes s (answer h.via .ok [] (revokeOfficer id (actorReq d h) d)))) ∧
  (∀ (s : State) (slot : Fin 2) (l : Login), look s.dev.cust.logins slot.val = some l →
    exec (.loginIdleExpire slot) s = becomes s (logoutSlot slot.val
      (reach (l.lastUse + 1000000000 * numOf 900 s.dev (dk 0x1800 3)) s.dev))) ∧
  (∀ (d : Dev) (id actor : Nat) (o : Officer), look d.cust.officers id = some o →
    let e := revokeOfficer id actor d
    (∀ n l, (n, l) ∈ e.cust.logins → l.officer ≠ id) ∧
    (∀ i x, (i, x) ∈ e.cust.sessions → x.state = 0 → id ∉ x.officers) ∧
    ∃ p, look e.cust.officers id = some p ∧ p.revoked = true)

/-- Dual control: a session opens with the scope's M, at least two; an authorisation counts its officer once and starts the
window at the first; the one that reaches M executes the action once; cancelling and expiry end it unexecuted (R397, R398). -/
def Obligations.DualControlSessions : Prop :=
  (∀ (s : State) (h : SvcHdr) (req : SvcReq) (d : Dev) (r role : Role),
    let act := { req.hdr with via := h.via }
    let fetched := fetchObject h.via req.action d
    let fresh := freshSession fetched.2
    fetched.1 = .ok → takeRequest h.via false s.dev = (true, d) → req.action ≠ .hobbleUnlock →
    headerStatus d h false false (act.session == 0) = .ok → roleOf d h.via h.officer = .ok r →
    roleOf d act.via act.officer = .ok role → objectStatus h.via req.action d = .ok →
    foreign role (actionDomain req.action d) = false → act.dmScope = false → isThrottled d = false →
    (d.cust.sessions.filter (fun e => e.2.state == 0)).length < 64 →
    let x : Session := { req := { hdr := act, action := holdObject h.via req.action d }, opener := h.via, officer := h.officer, scope := none, m := max 2 (scopeM d .device), expires := d.tb.now + sec (numOf 300 d (dk 0x1800 2)), digest := actionDigest act req.action d }
    probeAction fresh.1 x { s with dev := fresh.2 } = .ok →
    let e := dropStaged h.via req.action (touchLogin h.officer fresh.2)
    let held := keep (fun _ y => sessionHeld d y) e.cust.sessions
    let more := { e with cust := { e.cust with sessions := ins held fresh.1 x } }
    exec (.sessionOpen h req) s = becomes s
      (answer h.via .ok (sessionRecord fresh.1 x) (sessionEvent 0x0106 fresh.1 (actorReq d h) x more))) ∧
  (∀ (s : State) (h : SvcHdr) (slot : BitVec 8) (card : CardReply) (d e : Dev) (x : Session) (id : Nat),
    sessionRequest h (decide (slot.toNat < 2) && true) s.dev = (some (some x), d) →
    x.state = 0 → d.tb.now < x.expires → slotOfficer slot.toNat x d = some id → isThrottled d = false →
    cardSigns slot.toNat card (touchLogin id d) = (.ok, e) →
    let y := (countOfficer h.session id x e).1
    let f := (countOfficer h.session id x e).2
    y.officers = addOnce x.officers id ∧
    y.expires = (if x.begun then x.expires else e.tb.now + sec (numOf 300 e (dk 0x1800 2))) ∧
    (y.officers.length < y.m → exec (.sessionAuthorise h slot 0 card) s =
      becomes s (answer h.via .ok (sessionRecord h.session y) f)) ∧
    (y.m ≤ y.officers.length →
      let z := { y with state := 1, expires := f.tb.now, endedAt := f.tb.now, asker := some h.via }
      let hdr := { z.req.hdr with via := .authorise h.session (if slot.toNat = 0 then 0 else 1) card }
      let g := sessionEvent 0x0108 h.session (actorOfficer id) z (onSession h.session (fun _ => z) f)
      exec (.sessionAuthorise h slot 0 card) s = .next (runAction hdr z.req.action { s with dev := g }))) ∧
  (∀ (s : State) (h : SvcHdr) (d : Dev) (x : Session), sessionRequest h true s.dev = (some (some x), d) →
    exec (.sessionStatus h) s = becomes s (answer h.via .ok (sessionRecord h.session x ++ x.response) d) ∧
    (x.state = 0 → isThrottled d = false → sameSender h.via x.opener = true → h.officer = x.officer →
      exec (.sessionCancel h) s = becomes s (answer h.via .ok [] (sessionEvent 0x0109 h.session (actorReq d h) x
        (onSession h.session (fun x => { x with state := 3, endedAt := d.tb.now }) d))))) ∧
  (∀ (s : State) (i : BitVec 32) (x : Session), look s.dev.cust.sessions i.toNat = some x → x.state = 0 →
    let d := reach x.expires s.dev
    exec (.sessionExpire i) s = becomes s (sessionEvent 0x0109 i.toNat actorFw x
      (onSession i.toNat (fun x => { x with state := 2, endedAt := d.tb.now }) d)))

/-- The watchdog: 0xA5 and then 0x5A within 1 ms restart the period, any other write has no effect; an expiry resets the cluster
alone: CUSTODIAN_UP clears, sessions and logins are gone, its SRAM is zero, violations are only counted, while every other byte, the
time base, the keys and the network stay as they are; and it resets the device while CRESETS is 2; the cluster runs again where its
measurement is the latched one, else the device is reset; a watchdog reset leaves CRESETS after 600 s (R400, R401).
The time base and failed memory: TIME_SLEW within 500 ppm either way and POLICY beyond; TIME_STEP forward, counted and audited, a step
above 1 µs only while no listener and no route connection is open; HBM_CHANNEL_FAIL marks the channel, whose bytes then read poisoned,
and reports it once (R37, R38, R49). The POLICY of a slew or a step out of range is the model's reading (log entry 18). -/
def Obligations.WatchdogTimeMemory : Prop :=
  (∀ (s : State) (t : Nat),
     let w := s.dev.cust.wd
     let onw := fun (w : Watchdog) => { s.dev with cust := { s.dev.cust with wd := w } }
     (exec (.wdKick 0xA5) s = becomes s (onw { w with armed := some s.dev.tb.now })) ∧
     (w.armed = some t → s.dev.tb.now ≤ t + 1000000 →
       exec (.wdKick 0x5A) s = becomes s (onw { w with armed := none, since := s.dev.tb.now })) ∧
     (w.armed = some t → t + 1000000 < s.dev.tb.now → exec (.wdKick 0x5A) s = becomes s s.dev) ∧
     (w.armed = none → exec (.wdKick 0x5A) s = becomes s s.dev) ∧
     (∀ v : BitVec 32, v ≠ 0xA5 → v ≠ 0x5A → exec (.wdKick v) s = becomes s s.dev) ∧
     (w.en = true → w.rebooting = false → s.dev.life.gait ≠ 3 →
       let u := { s with dev := reach (w.since + 1000000 * w.period) s.dev }
       let v := clusterReset u
       (2 ≤ w.resets.length → exec .watchdogExpire s = .next (fullReset 2 u)) ∧
       (w.resets.length < 2 → exec .watchdogExpire s = .next v ∧
         v.dev.life.custUp = false ∧ v.dev.cust.wd.rebooting = true ∧ v.dev.cust.wd.en = false ∧
         v.dev.cust.wd.resets = w.resets ++ [u.dev.tb.now] ∧ v.dev.cust.sessions = [] ∧ v.dev.cust.logins = [] ∧
         v.dev.vq.ctl = 0 ∧
         (∀ a, sramBase ≤ a → a < sramBase + 0x400000 → readByte v.mem a = 0) ∧
         (∀ a, a < sramBase ∨ sramBase + 0x400000 ≤ a → readByte v.mem a = readByte s.mem a) ∧
         v.dev.tb = u.dev.tb ∧ v.dev.ks.keys = u.dev.ks.keys ∧ v.dev.net = u.dev.net ∧ v.pending = s.pending)) ∧
     (w.rebooting = true →
       ((∀ i, slotImage s.dev s.dev.cust.booted = some i → i.measurement ≠ s.dev.cust.latch) →
         exec .clusterRebootDone s = .next (fullReset 2 s)) ∧
       (∀ i, slotImage s.dev s.dev.cust.booted = some i → i.measurement = s.dev.cust.latch →
         ∃ d, exec .clusterRebootDone s = becomes s d ∧ d.life.custUp = true ∧ d.ks = s.dev.ks ∧
           d.cust.wd.en = true ∧ d.cust.wd.rebooting = false ∧ d.cust.wd.resets = w.resets)) ∧
     (∀ rest, w.resets = t :: rest → exec .cresetsExpire s = becomes s
       (let d := reach (t + 600000000000) s.dev
        { d with cust := { d.cust with wd := { d.cust.wd with resets := rest } } }))) ∧
  (∀ (s : State) (ppb : BitVec 32) (ns : BitVec 64) (c : Fin 32) (addr : BitVec 40),
     let replies := fun (st : Status) (d : Dev) => becomes s (answer (.firmware 0) st [] d)
     (-500000 ≤ ppb.toInt → ppb.toInt ≤ 500000 → exec (.timeSlew ppb) s =
       replies .ok { s.dev with tb := { s.dev.tb with slewPpb := ppb.toInt } }) ∧
     (ppb.toInt < -500000 ∨ 500000 < ppb.toInt → exec (.timeSlew ppb) s = replies .policy s.dev) ∧
     (ns.toNat ≤ 1000 ∨ transportBusy s.dev = false → s.dev.tb.now + ns.toNat < 2 ^ 64 → exec (.timeStep ns) s =
       replies .ok (raise srcCustodian 0x0009 0 actorFw [(8, ns.toNat)] (setNum 0 (dk 0x1100 5) ns.toNat (bump (dk 0x1100 4)
         { s.dev with tb := showTime { s.dev.tb with now := s.dev.tb.now + ns.toNat } })))) ∧
     (1000 < ns.toNat → transportBusy s.dev = true → exec (.timeStep ns) s = replies .policy s.dev) ∧
     (c.val ∉ s.dev.life.hbmFailed → ∃ d, exec (.hbmChannelFail c addr) s = becomes s d ∧
       d = report (0x0B50 + c.val) 0x0404 (0x0B50 + c.val) [(1, c.val), (8, addr.toNat)]
         { s.dev with life := { s.dev.life with hbmFailed := s.dev.life.hbmFailed ++ [c.val] } } ∧
       ∀ a, hbmBase ≤ a → (a - hbmBase) / 256 % 32 = c.val → poisonedAt a 1 d = true) ∧
     (c.val ∈ s.dev.life.hbmFailed → exec (.hbmChannelFail c addr) s = becomes s s.dev))
/-- Detectors: two detectors of a zeroise-class monitor, or two with extreme readings, within 20 µs zeroise; one of a zeroise-class
monitor alone waits and hobbles after them, any other hobbles; a failed self-check counts as an assertion; a shadow's mismatch hobbles (R493-R495, R505, R507). -/
def Obligations.Detectors : Prop :=
  (∀ (s : State) (monitor item : BitVec 8) (det : Fin 2) (value limit : BitVec 32),
    let m := monitor.toNat
    let key := m * 2 + det.val
    let partner := m * 2 + (1 - det.val)
    let now := s.dev.tb.now
    let g := s.dev.guard
    let d := { s.dev with guard := { g with asserted := ins g.asserted key now, lastAssert := some now } }
    let latch := fun (mask : Nat) => latchOf d m mask item.toNat value.toInt limit.toInt
    let near := (look g.alone partner).isSome = true ∧ now ≤ lookD 0 g.asserted partner + 20000
    let reading := (item.toNat, value.toInt, limit.toInt)
    let alone := fun (a : FMap (Nat × Int × Int)) => { d with guard := { d.guard with alone := a } }
    let hobbles := fun (a : FMap (Nat × Int × Int)) => hobbleNow (monitorSrc m (det.val + 1)) (latch (det.val + 1)) (alone a)
    (monitorRuns s.dev m = true →
      (zeroiseClass m = true ∨ extreme d m item.toNat value.toInt = true → near →
        exec (.detectorAssert monitor det item value limit) s = .next (zeroise (latch 3) { s with dev := d })) ∧
      (zeroiseClass m = true → ¬ near → look g.alone key = none → exec (.detectorAssert monitor det item value limit) s =
        becomes s (alone (ins g.alone key reading))) ∧
      (zeroiseClass m = false → extreme d m item.toNat value.toInt = true → ¬ near →
        exec (.detectorAssert monitor det item value limit) s = becomes s (hobbles (ins g.alone key reading))) ∧
      (zeroiseClass m = false → extreme d m item.toNat value.toInt = false →
        exec (.detectorAssert monitor det item value limit) s = becomes s (hobbles (del g.alone key)))) ∧
    (monitorRuns s.dev m = false → exec (.detectorAssert monitor det item value limit) s = .next s) ∧
    (∀ inside, exec (.detectorSelfCheck monitor det false inside) s = exec (.detectorAssert monitor det 0 0 0) s) ∧
    exec (.detectorSelfCheck monitor det true true) s =
      becomes s { s.dev with guard := { g with asserted := del g.asserted key, alone := del g.alone key,
                                               lastAssert := if (look g.asserted key).isSome then some now else g.lastAssert } } ∧
    exec (.detectorSelfCheck monitor det true false) s = .next s) ∧
  (∀ (s : State) (key item : Nat) (value limit : Int), loneDetector s.dev = some (key, item, value, limit) →
    let d := reach (lookD 0 s.dev.guard.asserted key + 20000) s.dev
    let e := { d with guard := { d.guard with alone := del d.guard.alone key } }
    exec .detectorDisagreeTimeout s = becomes s (hobbleNow (monitorSrc (key / 2) (key % 2 + 1))
      (latchOf e (key / 2) (key % 2 + 1) item value limit) (bump (dk 0x6803 (key / 2)) e))) ∧
  (∀ (s : State) (cls : Fin 7) (unit : BitVec 16) (offset : BitVec 32), monitorRuns s.dev 10 = true →
    let d := { s.dev with guard := { s.dev.guard with lastAssert := some s.dev.tb.now } }
    exec (.shadowMismatch cls unit offset 0) s = becomes s (hobbleNow unit.toNat (latchOf s.dev 10 3 0 0 0)
      (report unit.toNat 0x0503 0xFFFF [(1, cls.val), (1, 0), (2, unit.toNat), (4, offset.toNat)] (bump (dk 0x6805 2) d)))) ∧
  (∀ (s : State) (mv : BitVec 16), mv.toNat ≤ 4200 → s.dev.guard.mainPower = true ∨ 2300 ≤ mv.toNat →
    exec (.vbatThreshold mv) s = becomes s { s.dev with guard := { s.dev.guard with vbatMv := mv.toNat } }) ∧
  (∀ (s : State) (mv : BitVec 16), 4200 < mv.toNat →
    let d := { s.dev with guard := { s.dev.guard with vbatMv := mv.toNat } }
    ∃ l, exec (.vbatThreshold mv) s = .next (zeroise l { s with dev := d }))

/-- A hobble and a zeroisation: the latch keeps its first cause, the device stops serving and its caches are empty; after a
zeroisation with main power every memory reads zero and the guard die's keys are gone; the external loop follows its setting a
second later, and the unlock resets the device (R498, R500-R502, R508). -/
def Obligations.HobbleZeroiseUnlock : Prop :=
  (∀ (d : Dev) (src : Nat) (l : TamperLatch), monitorsOff d = false → keyState d = true →
    (d.guard.hobble.set = false →
      let e := hobbleEvent src l d
      e.life.hobbled = true ∧ e.life.ready = false ∧ e.ks.caches = [] ∧ e.ks.leases = [] ∧ e.op.ops = [] ∧
      e.rng.insts = [] ∧ e.guard.hobble = { l with rtc := w64 d.tb.rtc, set := true, events := 1 }) ∧
    (d.guard.hobble.set = true → ∃ n, (hobbleEvent src l d).guard.hobble = { d.guard.hobble with events := n } ∧
      n = min 255 (d.guard.hobble.events + 1))) ∧
  (∀ (s : State) (l : TamperLatch), monitorsOff s.dev = false → s.dev.guard.mainPower = true →
    let t := zeroise l s
    t.mem = [] ∧ t.memTags = [] ∧ t.dev.life.zeroised = true ∧ t.dev.ks.keys = [] ∧ t.dev.guard.deviceRoot = [] ∧
    t.dev.guard.seed = [] ∧ t.dev.guard.zeroise.set = true ∧ t.dev.cust.officers = [] ∧ t.pending = s.pending) ∧
  (∀ (s : State) (h : SvcHdr) (d : Dev) (role : Role), Served h .hobbleUnlock s d role → TwoDeviceOfficers h d role →
    d.guard.hobble.set = true → unlockOk d = true →
    let e := dueReset (answer h.via .ok [] (clearHobble (sessionOf d h.via).1 (sessionOf d h.via).2 d))
    exec (.hobbleUnlock h) s = .next (fullReset 2 (drainAudit { s with dev := e }))) ∧
  (∀ (s : State) (on : Bool) (t : Nat),
    let d := { s.dev with guard := { s.dev.guard with loopChange := some (s.dev.tb.now + 1000000000, on) } }
    (exec (.extLoopEnable on) s = becomes s (emit (.wrote 0x6801 1 0) (raise srcCustodian 0x0240 0 actorFw
      [(2, 0x6801), (1, 1), (16, b2n on)] (setNum 1 (dk 0x6801 1) (b2n on) d)))) ∧
    (s.dev.guard.loopChange = some (t, on) → ∃ d, exec .extLoopEffect s = becomes s d ∧ d.guard.loopOn = on ∧
      d.guard.loopChange = none ∧ (on = false → ∀ k x, (k, x) ∈ d.guard.asserted → k / 2 ≠ 8)))

/-! The Malath responder. -/

/-- Requests taken up on an association: HELLO agrees on the highest common version and resets the association, READ answers
the value with its TCODE, WRITE installs it and answers its index and sub-index, SEG_INIT opens a transfer on the first free XFER
(R408, R411, R417, R419, R421, R422).
Segments: data in order is joined on and acknowledged, the window follows NEXT, the end of an upload and SEG_ABORT remove the
transfer; no SEG_ACK for 200 ms sends again, 5 s without progress aborts, a staged object lapses after 600 s; heartbeats go out on
their period and an idle association lapses (R417, R422, R423, R425-R427). -/
def Obligations.MalathResponder : Prop :=
  (∀ (s : State) (h : MalHdr) (offer hflags sub tcode : BitVec 8) (maxp index : BitVec 16) (value : Bytes) (total : BitVec 32)
     (a : Nat) (d : Dev),
     let i := index.toNat
     let n := sub.toNat
     (∀ v, arriveRequest h 4 s.dev = (some a, d) → hflags.toNat < 2 → commonVersion offer.toNat = some v →
       exec (.hello h offer hflags maxp) s = becomes s (answerPdu a h.txn 0x81
         (le 1 v ++ le 1 a ++ le 2 (maxPdu (peerLink h.peer)) ++ le 8 d.guard.otp.serial)
         (resetAssoc a v (bitOf hflags.toNat 0) d))) ∧
     (∀ r v, arriveRequest h 4 s.dev = (some a, d) → openGate a 1 (zeroisedEntry i) true d = none →
       readTarget a i n h.actor none (some (maxPdu (peerLink h.peer) - 15)) d = .ok (r, v) →
       exec (.read h index sub 0) s = becomes s (answerPdu a h.txn 0x90
         (le 2 i ++ le 1 n ++ le 1 r.typ ++ le 1 (b2n (custodianKeeps i n r && !d.life.custUp)) ++ le 2 v.length ++ v)
         (advanceCursor a i n (touchLogin h.actor d)))) ∧
     (∀ r role e, arriveRequest h (6 + value.length) s.dev = (some a, d) → openGate a 1 false false d = none →
       writeRights a i n tcode.toNat value.length h.actor d = .ok (r, role) →
       installValue a i n h.actor role r value (touchLogin h.actor d) = .ok e → cardTimedOut i n e = false →
       exec (.write h index sub tcode true value) s =
         .next (afterWrite { s with dev := answerPdu a h.txn 0x91 (le 2 i ++ le 1 n ++ le 1 0) e })) ∧
     (∀ x role, arriveRequest h 10 s.dev = (some a, d) → openGate a 2 false false d = none →
       initTarget h a 0 i n tcode.toNat total.toNat d = .ok ([], role) → total.toNat ≠ 0 →
       firstBelow 256 (fun x => (look d.mal.xfers (xferKey a x)).isNone) = some x →
       xferCount (fun t => t.assoc == a) d < 8 → xferCount (fun _ => true) d < 64 →
       let e := touchLogin h.actor d
       let t : Xfer := { assoc := a, dir := 0, index := i, sub := n, total := total.toNat, txn := h.txn, actor := h.actor, data := [], role := role, lastMove := d.tb.now, lastAck := d.tb.now }
       let link := peerLink h.peer
       let f := answerPdu a h.txn 0xA0 (le 1 x ++ le 1 (segWindow link) ++ le 2 (segSize link) ++ le 4 total.toNat)
         { e with mal := { e.mal with xfers := ins e.mal.xfers (xferKey a x) t } }
       exec (.segInit h 0 0 index sub tcode total) s = .next (afterWrite { s with dev := f }))) ∧
  ((∀ (s : State) (h : MalHdr) (xfer status : BitVec 8) (offset next : BitVec 32) (b : Bytes) (a : Nat) (t : Xfer) (d : Dev),
     let x := xfer.toNat
     let size := segWindow (peerLink h.peer) * segSize (peerLink h.peer)
     (arriveSeg h (6 + b.length) x 0 s.dev = (some (a, t), d) → t.dir ≠ 1 → d.life.custUp = true → d.life.gait ≠ 3 →
       t.segs = [] → t.data.length = t.nextOff → offset.toNat = t.nextOff → b ≠ [] → t.nextOff + b.length < t.total →
       b.length ≤ size → d.life.burnDue = none → d.life.resetDue = false → look d.mal.xfers (xferKey a x) = some t →
       let m := t.nextOff + b.length
       let u := { t with segs := [], data := t.data ++ b, nextOff := m, lastMove := d.tb.now }
       exec (.segData h xfer 0 offset b) s = becomes s (sendXfer a 0x22 t.txn (le 1 x ++ le 1 0 ++ le 4 m)
         { d with mal := { d.mal with xfers := ins d.mal.xfers (xferKey a x) u } })) ∧
     (arriveSeg h 6 x 0 s.dev = (some (a, t), d) → t.dir = 1 →
       (next.toNat = t.total → exec (.segAck h xfer 0 next) s = becomes s (delXfer (xferKey a x) d)) ∧
       (next.toNat < t.total → t.nextOff < next.toNat → look d.mal.xfers (xferKey a x) = some t →
         let u := { t with nextOff := next.toNat, sent := max t.sent next.toNat, lastMove := d.tb.now, lastAck := d.tb.now }
         exec (.segAck h xfer 0 next) s = becomes s
           (sendSegs a x { d with mal := { d.mal with xfers := ins d.mal.xfers (xferKey a x) u } }))) ∧
     (arriveSeg h 2 x 0 s.dev = (some (a, t), d) →
       exec (.segAbort h xfer status) s = becomes s (dropXfers (fun k _ => k == xferKey a x) d))) ∧
   (∀ (s : State) (assoc : Fin 52) (xfer : BitVec 8) (t : Xfer), responderUp s.dev = true →
     let x := xfer.toNat
     let k := xferKey assoc.val x
     liveXfer assoc.val x s.dev = some t →
     (t.dir = 1 → let d := reach (t.lastAck + 200000000) s.dev
       exec (.segAckTimeout assoc xfer) s = becomes s (sendSegs assoc.val x
         (onXfer k (fun t => { t with sent := t.nextOff, lastAck := d.tb.now }) d))) ∧
     exec (.segProgressTimeout assoc xfer) s = becomes s (dropXfers (fun j _ => j == k) (sendXfer assoc.val 0x23 t.txn
       (le 1 x ++ le 1 Status.timeout.code) (reach (t.lastMove + 5000000000) s.dev)))) ∧
   (∀ (s : State) (assoc : Fin 52) (xfer : BitVec 8) (t : Xfer) (y : Assoc) (can : Bool),
     let k := xferKey assoc.val xfer.toNat
     (look s.dev.mal.xfers k = some t → t.staged = true →
       exec (.stagingExpire assoc xfer) s = becomes s (delXfer k (reach (t.lastMove + 600000000000) s.dev))) ∧
     (assocOf s.dev assoc.val = some y → y.link ≠ .inband → exec (.assocIdleExpire assoc) s = becomes s
       (endAssoc assoc.val (reach (y.lastFrame + 1000000000 * numOf 60 s.dev (dk 0x1020 6)) s.dev))) ∧
     (heartbeats s.dev = true → (can = true ∨ s.dev.mal.mgtUp = true) →
       let d := reach (heartbeatDue can s.dev) s.dev
       exec (.heartbeat can) s = becomes s (if can then heartbeatCan d else heartbeatMgt d))))

/-! Peripherals and pins. -/

/-- The ceremony card host: a card is identified when it is stable in the slot, retuned each minute, unlocked, given a password,
erased within 240 s and identified again, and forgotten when it goes (R432-R434, R437, R438, R451). An error in a transfer is tried
again from its block up to three times, a data error in SDR50 and SDR104 retuning first; then the transfer drops one mode and starts
again, or fails in Default Speed, and a failed one leaves the card in state 4 and ends with TIMEOUT (R436; what reaches a transfer is
a free value, log entry 165).
Officer card slots: insertion activates at class C, an ATR with T=1 leads to a PPS whose echo makes the slot ready, no ATR in
time or a failed PPS activates again, block errors are answered in turn, a removed card logs its officer out (R395, R439-R442). -/
def Obligations.CardHosts : Prop :=
  (∀ (s : State) (card c : SdCard) (run mid : Fin 64) (pwd v : Bytes) (e : Dev),
     let x := s.dev.per.sd
     let wrote := fun (sub n : Nat) (d : Dev) => becomes s (emit (.wrote 0x7800 sub 0)
       (raise srcCustodian 0x0240 0 actorFw [(2, 0x7800), (1, sub), (16, n)] d))
     (x.state = 0 → firmwareUp s.dev = true → s.dev.life.hobbled = false → exec (.sdCardDetect card) s =
       becomes s (identify card { s.dev with per := { s.dev.per with sd := { x with card := some card } } })) ∧
     (x.state = 2 → 6 ≤ x.mode → 8 ≤ run.val → exec (.sdRetune run mid) s = becomes s
       (let d := bump (dk 0x7800 6) (reach x.retuneAt s.dev)
        onSd (fun x => { x with mode := x.mode, phase := mid.val, retuneAt := d.tb.now + 60000000000 }) d)) ∧
     (x.card = some c →
       exec .sdCardRemove s = becomes s (bump (dk 0x7800 7) { s.dev with per := { s.dev.per with sd := {} } }) ∧
       (let sent := sdTransfer c true 1 s.dev
        let sends := fun (i : Instr) (sub n : Nat) (f : SdHost → SdHost) => exec i s =
          if sent.1 = true then wrote sub n (onSd f sent.2) else becomes s (emit (.wrote 0x7800 sub 257) sent.2)
        (sent.1 = false → sent.2.per.sd.state = 4) ∧
        (pwd ≠ [] → pwd.length ≤ 16 → x.state = 3 → c.password = pwd → sends (.sdUnlock pwd) 9 0 (fun y => { y with state := 2 })) ∧
        (∀ new, 1 ≤ new.length → new.length ≤ 16 → c.password.length ≤ 16 → x.state = 2 →
          sends (.sdSetPwd (le 1 c.password.length ++ c.password ++ le 1 new.length ++ new)) 0xA 0
            (fun y => { y with card := some { c with password := new } })) ∧
        (x.state = 2 ∨ x.state = 3 → sends (.sdForceErase true) 0xB 1 (fun y => { y with
          state := 5, eraseTill := s.dev.tb.now + 240000000000, card := some { c with password := [], data := [] } }))) ∧
       (sdSetPwd v s.dev = .ok e → exec (.sdSetPwd v) s =
         if e.per.sd.timedOut = true then becomes s (emit (.wrote 0x7800 0xA 257) e) else wrote 0xA 0 e) ∧
       (x.state = 5 → exec .sdEraseDone s = becomes s (identify c s.dev)))) ∧
  (∀ (c : SdCard) (err : SdError) (r : SdRun) (b run mid : Nat),
     let meets := sdWalk c [{ err := err, block := b, run := run, mid := mid }] { r with block := b }
     (r.tries < 3 → meets.1 = true ∧ meets.2.retries = r.retries + 1 ∧ meets.2.tries = r.tries + 1 ∧ meets.2.block = b ∧
       (err = .command ∨ r.mode < 6 → meets.2.mode = r.mode ∧ meets.2.retunes = r.retunes) ∧
       (err ≠ .command → 6 ≤ r.mode → meets.2.retunes = r.retunes + 1 ∧ (8 ≤ run → meets.2.mode = r.mode ∧ meets.2.phase = mid))) ∧
     (3 ≤ r.tries → r.mode ≤ 2 → meets.1 = false) ∧
     (3 ≤ r.tries → 2 < r.mode →
       let lower := tuneFrom c (r.mode - 1)
       meets = (true, { r with mode := lower.1, phase := lower.2, block := 0, tries := 0 }))) ∧
  (∀ (s : State) (slot : Fin 2) (atr : Bytes) (len : BitVec 8) (wtx : BitVec 16) (more : Bool),
     let x := iccOf s.dev slot.val
     let on := fun (c : Instr) (y : IccSlot) => exec c s = becomes s (onIcc slot.val (fun _ => y) s.dev)
     let errors := dk (0x7801 + slot.val) 5
     (firmwareUp s.dev = true → x.present = false →
       on (.iccCardInsert slot) { present := true, state := 1, cls := 3, since := s.dev.tb.now }) ∧
     (x.state = 1 → x.ppsSent = false →
       (let a := readAtr atr
        a.ok = true → a.t1 = true → a.classes = none → a.ta2 = none → x.noPps = false →
        on (.iccAtr slot atr) { x with atr := atr, ifsc := a.ta3.getD 32, crc := a.tc3.any (fun c => bitOf c 0), ifsdSent := true, ppsSent := true, fidi := fidiWord a.ta1 }) ∧
       ((readAtr atr).ok = false → exec (.iccAtr slot atr) s = becomes s (bump errors
         (onIcc slot.val (fun y => { present := x.present, state := 4, atr := atr }) s.dev))) ∧
       (let d := reach (x.since + 20000000) s.dev
        (x.cls = 3 → exec (.iccAtrTimeout slot) s = becomes s (onIcc slot.val (fun _ => { present := x.present, state := 1, cls := 2, since := d.tb.now + 10000000, triedB := true, noPps := x.noPps }) d)) ∧
        (x.cls ≠ 3 → exec (.iccAtrTimeout slot) s = becomes s (iccRefuse slot.val d)))) ∧
     (x.state = 1 → x.ppsSent = true →
       on (.iccPpsResponse slot true) { x with state := 2, ppsSent := false } ∧
       on (.iccPpsResponse slot false)
         { present := x.present, state := 1, cls := x.cls, since := s.dev.tb.now, triedB := x.triedB, noPps := true }) ∧
     (x.state = 2 →
       (x.rBlocks < 3 → exec (.iccBlockError slot) s =
         becomes s (bump errors (onIcc slot.val (fun _ => { x with rBlocks := x.rBlocks + 1 }) s.dev))) ∧
       (3 ≤ x.rBlocks → x.resynch = false → exec (.iccBlockError slot) s =
         becomes s (bump errors (onIcc slot.val (fun _ => { x with resynch := true }) s.dev))) ∧
       (3 ≤ x.rBlocks → x.resynch = true → exec (.iccBlockError slot) s = becomes s (iccRefuse slot.val s.dev)) ∧
       (x.wtx + wtx.toNat ≤ 10000 → on (.iccBlockReceive slot (some wtx) len more)
         { x with wtx := x.wtx + wtx.toNat, rBlocks := 0, resynch := false }) ∧
       (len.toNat ≤ 254 → x.chained + len.toNat ≤ 261 → on (.iccBlockReceive slot none len more)
         { x with chained := if more then x.chained + len.toNat else 0, wtx := if more then x.wtx else 0, rBlocks := 0, resynch := false })) ∧
     (x.present = true → exec (.iccCardRemove slot) s = becomes s (logoutSlot slot.val
       (bump (dk (0x7801 + slot.val) 6) (onIcc slot.val (fun _ => {}) s.dev)))))

/-- The CAN controller and the management link: an error on a frame being sent adds 8 to TEC, which at 256 is bus-off; the oldest
frame is abandoned after 50 ms; bus-off ends 100 ms later; new timing makes it integrate again (R429, R443-R445).
Pins: PINCFG takes a permitted value; a change of FUNC alone or of owner opens a switch window of two cycles of the slower
clock and a change of owner clears the output bit; the window closes; GP13 in FUNC 8 stamps the time; PIN_ABORTS clears when it is
read at full width (R9, R446-R449). -/
def Obligations.CanAndPins : Prop :=
  (∀ (s : State) (tx data on up : Bool) (v : BitVec 32) (f : CanFrame) (e : Dev),
     let c := s.dev.per.can
     let wrote := fun (sub n : Nat) (d : Dev) => becomes s (emit (.wrote 0x7808 sub 0)
       (raise srcCustodian 0x0240 0 actorFw [(2, 0x7808), (1, sub), (16, n)] d))
     (c.state ≠ 2 → c.queue ≠ [] → c.tec < 248 →
       ∃ d, exec (.canErrorFrame true) s = becomes s d ∧ d.per.can.tec = c.tec + 8 ∧ d.per.can.queue = c.queue ∧
         (120 ≤ c.tec → d.per.can.state = 1)) ∧
     (c.state ≠ 2 → c.tec < 256 → ∃ d, exec (.canErrorFrame false) s = becomes s d ∧
       d.per.can.rec_ = min 255 (c.rec_ + 1) ∧ d.per.can.tec = c.tec) ∧
     (c.state ≠ 2 → c.queue ≠ [] → 248 ≤ c.tec → ∃ d, exec (.canErrorFrame true) s = becomes s d ∧ d.per.can.state = 2) ∧
     (minBy? (fun (f : CanFrame) => f.queuedAt) c.queue = some f → exec .canFrameAbandon s = becomes s (bump (dk 0x7808 7)
       (onCan (fun c => { c with queue := c.queue.erase f }) (reach (f.queuedAt + 50000000) s.dev)))) ∧
     (c.state ≠ 2 → ∃ d, exec .canBusoff s = becomes s d ∧ d.per.can.state = 2 ∧ d.per.can.busoffAt = s.dev.tb.now ∧
       d.per.can.queue = c.queue) ∧
     (c.state = 2 → c.recovering = false → numOf 1 s.dev (dk 0x7808 8) = 1 → exec .busoffRecovery s = becomes s
       (onCan (fun c => { c with state := 0, tec := 0, rec_ := 0, recovering := false })
         (reach (c.busoffAt + 100000000) s.dev))) ∧
     (exec (.busoffAuto on) s = wrote 8 (b2n on) (let d := setNum 1 (dk 0x7808 8) (b2n on) s.dev
       if on = true ∧ c.state = 2 then onCan (fun c => { c with recovering := true }) d else d)) ∧
     (canTiming data v.toNat s.dev = .ok e →
       exec (.canTimingWrite data v) s = wrote (if data then 2 else 1) v.toNat e ∧ (c.state ≠ 2 → e.per.can.state = 3)) ∧
     exec (.mgtLinkChange up) s = becomes s
       (let mode := if up then numOf 0 s.dev (dk 0x1020 7) else s.dev.mal.mgtMode
        { s.dev with mal := { s.dev.mal with mgtUp := up, mgtMode := mode } })) ∧
  (∀ (s : State) (n : Fin 16) (v : BitVec 32) (busy full : Bool) (e : Dev) (t : Nat),
     let p := pinOf s.dev n.val
     let g := s.dev.per.gp
     (pinCfgWrite n.val v.toNat busy s.dev = .ok e → exec (.pincfgWrite n v busy) s =
       becomes s (emit (.wrote (0x7810 + n.val) 1 0)
         (raise srcCustodian 0x0240 0 actorFw [(2, 0x7810 + n.val), (1, 1), (16, v.toNat)] e))) ∧
     (pinCfgOk n.val v.toNat = true →
       let w := pinValue v.toNat
       let f := fieldOf p.cfg 0 4
       let f' := fieldOf w 0 4
       let d := setNum 0x40000040 (dk (0x7810 + n.val) 1) w s.dev
       (fieldOf p.cfg 18 13 = fieldOf w 18 13 → f = f' →
         pinCfgWrite n.val v.toNat busy s.dev = .ok (onPin n.val (fun p => { p with cfg := w }) d)) ∧
       (fieldOf p.cfg 18 13 = fieldOf w 18 13 → f ≠ f' → busy = false →
         let open_ := some (s.dev.tb.now + 2 * max 1 (max (pinClock f) (pinClock f')))
         let held := pinLevelNow n.val f s.dev
         pinCfgWrite n.val v.toNat busy s.dev = .ok (onPin n.val (fun p => { p with cfg := w, window := open_, heldLevel := held, heldEnable := pinDrives n.val f }) d)) ∧
       (fieldOf p.cfg 18 13 ≠ fieldOf w 18 13 → ∃ d', pinCfgWrite n.val v.toNat busy s.dev = .ok d' ∧
         d'.per.gp.out = setBit g.out n.val false ∧ d'.per.gp.aborts =
           if busy then w32 (g.aborts + 1) else g.aborts)) ∧
     (p.window = some t → exec (.pinSwitchWindowClose n) s = becomes s
       (onPin n.val (fun p => { p with window := none, heldLevel := false, heldEnable := false }) (reach t s.dev))) ∧
     (exec .timeCapture s = becomes s (if fieldOf (pinOf s.dev 13).cfg 0 4 = 8 then
       onGp (fun g => { g with captures := g.captures ++ [s.dev.tb.now] }) s.dev else s.dev)) ∧
     exec (.pinAbortsRead full) s = becomes s
       (emit (.readValue g.aborts) (onGp (fun g => { g with aborts := if full then 0 else g.aborts }) s.dev)))

/-! Gaits, reef levels, Standby, power. -/

/-- Gaits and reef levels: a requested gait is taken where its conditions hold; a string idle in Walk is gated and wakes; readings
raise the reef level to the highest that holds, never lower it, and end Gallop; a second clear lowers it by one; the Gallop budget
ends Gallop (R531, R533, R534, R536, R538). -/
def Obligations.GaitsAndReefLevels : Prop :=
  (∀ (s : State) (v : BitVec 8), v.toNat ≤ 3 → s.dev.life.hobbled = false → s.dev.life.zeroised = false →
    s.dev.life.powerOff = false → s.dev.pow.standbyAt = none → s.dev.life.custUp = true → gaitAllowed s.dev v.toNat = true →
    s.dev.life.gait ≠ 3 →
    let d := setNum 1 (dk 0x1200 2) v.toNat s.dev
    exec (.gaitRequest v) s = becomes s (emit (.wrote 0x1200 2 0) (raise srcCustodian 0x0240 0 actorFw
      [(2, 0x1200), (1, 2), (16, v.toNat)] (if v.toNat = 3 then startStandby d else setGait v.toNat d)))) ∧
  (∀ (d : Dev) (g : Nat), (setGait g d).life.gait = g ∧
    (setGait g d).audit.vc3.length = d.audit.vc3.length + (if d.life.gait = g then 0 else 1)) ∧
  (∀ (s : State) (string : Fin 32), let st := stringOf s.dev string.val
    (s.dev.life.gait = 0 → st.gated = false → stringLoad s.dev string.val = 0 →
      (∀ k < 16, (procOf s.dev (16 * string.val + k)).slice = none) →
      ∃ d, exec (.walkIdleGate string) s = becomes s d ∧ (stringOf d string.val).gated = true ∧
        d.tb = reachTime s.dev.tb (st.idleSince + 1000 * numOf 1000 s.dev (dk 0x1200 3))) ∧
    (st.gated = true → st.waking = true → exec (.stringWakeDone string) s = becomes s (onString string.val
      (fun x => { x with gated := false, waking := false, idleSince := s.dev.tb.now }) s.dev))) ∧
  (∀ (s : State) (tj : BitVec 32) (amps peak : BitVec 16) (excursion : Bool), s.dev.guard.mainPower = true →
    s.dev.life.powerOff = false →
    (∃ d, exec (.reefStepUp tj amps peak excursion) s = becomes s d ∧ tempLevel tj.toInt ≤ d.life.reef ∧
      s.dev.life.reef ≤ d.life.reef ∧ (380 ≤ amps.toNat → 1 ≤ d.life.reef) ∧ (excursion = true → 2 ≤ d.life.reef) ∧
      (s.dev.life.reef < d.life.reef → d.life.gait ≠ 2)) ∧
    (∃ d, exec .pmbusFault s = becomes s d ∧ d.pow.regFault = true ∧ 2 ≤ d.life.reef ∧ s.dev.life.reef ≤ d.life.reef)) ∧
  (∀ (s : State) (tj : BitVec 32) (amps : BitVec 16), s.dev.life.reef ≠ 0 →
    let d := { s.dev with guard := { s.dev.guard with tj := tj.toInt }, pow := { s.dev.pow with ampsAvg := amps.toNat } }
    (reefClear d = true → ∃ e, exec (.reefStepDown tj amps) s = becomes s e ∧ e.life.reef = s.dev.life.reef - 1) ∧
    (reefClear d = false → exec (.reefStepDown tj amps) s = becomes s d)) ∧
  (∀ (s : State),
    (s.dev.life.gait = 2 → ∃ d, exec .gallopWearTick s = becomes s d ∧ d.pow.gallop = s.dev.pow.gallop + 1 ∧
      (4320000 ≤ s.dev.pow.gallop + 1 → d.life.gait = 1)) ∧
    (firmwareUp s.dev = true → exec .gallopCountSave s =
      becomes s { s.dev with pow := { s.dev.pow with gallopSaved := s.dev.pow.gallop } }))

/-- Standby and power: entry ends with the custodian and the engines off, WAKE_N ends Standby in Trot, 115 °C takes the main
rails away and 100 °C gives them back, and the resets (R496, R507, R536, R537, R539, R540, R543). -/
def Obligations.StandbyPowerResets : Prop :=
  ∀ (s : State) (sensor : BitVec 8) (temp : BitVec 32),
    (∀ t, s.dev.pow.standbyAt = some t → ∃ u, exec .standbyEntryDone s = .next u ∧ u.dev.life.gait = 3 ∧
      u.dev.life.custUp = false ∧ u.dev.life.ready = false ∧ u.dev.lopeOn = false ∧ u.dev.pow.standbyAt = none) ∧
    (s.dev.life.gait = 3 → ∃ d, exec .wakeN s = becomes s d ∧ d.life.gait = 1 ∧ d.life.custUp = true ∧ d.lopeOn = true ∧
      d.pow.wakeSource = 1 ∧ d.audit.standbyBuf = []) ∧
    (s.dev.guard.mainPower = true → s.dev.life.powerOff = false → 115000 ≤ temp.toInt → 0 < s.dev.guard.vbatMv →
      ∃ u, exec (.overtempPowerOff sensor temp) s = .next u ∧ u.mem = [] ∧ u.memTags = [] ∧ u.pending = s.pending ∧
        u.dev.guard.mainPower = false ∧ u.dev.life.powerOff = true ∧ u.dev.pow.killN = true ∧
        u.dev.pow.overtemp = some (sensor.toNat, temp.toInt)) ∧
    (let d := { s.dev with guard := { s.dev.guard with tj := temp.toInt } }
     exec (.pwrKillRelease temp) s = becomes s (if temp.toInt < 100000 then
       { d with pow := { d.pow with killN := false } } else d)) ∧
    (s.dev.pow.killN = false →
      let u := { s with dev := { s.dev with guard := { s.dev.guard with mainPower := true }, life := { s.dev.life with powerOff := false } } }
      exec (.powerOnReset true) s = .next (fullReset (if s.dev.pow.overtemp.isSome then 3 else 0) u)) ∧
    (∃ u, exec (.powerOnReset false) s = .next u ∧ u.mem = [] ∧ u.dev.guard.mainPower = false ∧ u.dev.life.powerOff = true) ∧
    (s.dev.life.powerOff = false → s.dev.guard.mainPower = true → exec .warmReset s = .next (fullReset 1 s)) ∧
    exec .jtagReset s = becomes s { s.dev with guard := { s.dev.guard with tap := 0 } }

/-! The audit recorder and the life cycle. -/

/-- The recorder: an event is held for its merge window, then takes the next sequence number and is chained to the record before
it; a storm record closes with its count; a page is programmed and its records are durable; in Standby the on-die buffer takes the
events; cursors, fault table and notification registers (R34, R42, R477, R484, R486, R487, R489-R492). -/
def Obligations.AuditRecorder : Prop :=
  (∀ (s : State) (e : AuditEv) (rest : List AuditEv), s.dev.audit.vc3 = e :: rest →
    let taken := fun (a : AuditState) => { s.dev with audit := { a with vc3 := rest } }
    (s.dev.life.gait ≠ 3 → auditStopped s.dev = false → stormKey s.dev e = none → s.dev.tb.now ≤ e.time + 2000 →
      exec .auditEvent s = becomes s (taken { s.dev.audit with window := s.dev.audit.window ++ [e] })) ∧
    (s.dev.life.gait ≠ 3 → auditStopped s.dev = false → ∀ k, stormKey s.dev e = some k →
      exec .auditEvent s = becomes s (intoStorm k e (taken s.dev.audit))) ∧
    (s.dev.life.gait = 3 → s.dev.audit.standbyBuf.length < 960 → exec .auditEvent s =
      becomes s (taken { s.dev.audit with standbyBuf := s.dev.audit.standbyBuf ++ [e] }))) ∧
  (∀ (s : State) (e : AuditEv), windowHead s.dev = some e → auditStopped s.dev = false → (eventParam e).length ≤ 48 →
    ∃ u r, exec .auditMergeWindowClose s = .next u ∧ look u.dev.audit.staging (s.dev.audit.nextSeq % 65536) = some r ∧
      r.seq = s.dev.audit.nextSeq ∧ r.event = e.event ∧ r.time = e.time ∧ r.source = e.source ∧
      r.prevHash = s.dev.audit.lastHash ∧ (∃ more, u.dev.audit.window = s.dev.audit.window.erase e ++ more) ∧
      (s.dev.audit.throttled.isSome = true ∨ staged s.dev < 61439 → u.dev.audit.window = s.dev.audit.window.erase e)) ∧
  (∀ (s : State) (x : Storm), auditStopped s.dev = false → (stormParam x).length ≤ 48 →
    s.dev.audit.storms.all (fun y => !(y.key == .overflow)) = true →
    let closes := fun (c : Instr) => ∃ u r, exec c s = .next u ∧
      look u.dev.audit.staging (s.dev.audit.nextSeq % 65536) = some r ∧ r.count = x.count ∧ r.last = x.last ∧
      bitOf r.rflags 0 = true ∧ ∀ y ∈ u.dev.audit.storms, y.key ≠ x.key
    (minBy? (fun (x : Storm) => x.first.time) (s.dev.audit.storms.filter (fun x => !isStormEvent x.key)) = some x →
      closes .stormRecordClose) ∧
    (minBy? (fun (x : Storm) => x.first.time)
        (s.dev.audit.storms.filter (fun x => match x.key with | .classEvent .. => true | _ => false)) = some x →
      closes .stormTimeout)) ∧
  (∀ (s : State) (p : AuditPage) (rest : List AuditPage) (n : Nat) (r : AuditRec), s.dev.audit.pages = p :: rest →
    (p.programming = false → p.seqs.length < 128 → p ∉ rest → exec .auditPageClose s = becomes s
      (let d := reach (p.since + 10000000) s.dev
       { d with audit := { d.audit with pages := { p with programming := true } :: rest } })) ∧
    (p.programming = true → p.seqs = [n] → look s.dev.audit.staging (n % 65536) = some r → r.seq = n →
      ∃ u, exec .auditPageDurable s = .next u ∧ u.dev.audit.durableSeq = n ∧
        look u.dev.audit.running (n % 1048576) = some r)) ∧
  (∀ (s : State) (v : BitVec 32) (full : Bool) (assoc : Fin 52) (c seq : BitVec 64) (fc : BitVec 16),
    let a := s.dev.audit
    let au := fun (a : AuditState) => { s.dev with audit := a }
    exec (.fnTailWrite v) s = becomes s (au { a with fnTail := v.toNat }) ∧
    exec (.fnOverRead full) s = becomes s (emit (.readValue a.fnOver) (au { a with fnOver := if full then 0 else a.fnOver })) ∧
    exec (.faultAck seq) s = becomes s (emit (.wrote 0x8F00 2 0) (raise srcCustodian 0x0240 0 actorFw
      [(2, 0x8F00), (1, 2), (16, seq.toNat)] (au { a with
        faultTable := if seq.toNat = 2 ^ 64 - 1 then [] else without a.faultTable seq.toNat, lastAck := seq.toNat }))) ∧
    ((assocOf s.dev assoc.val).isSome = true →
      exec (.cursor assoc c) s = becomes s (au { a with cursors := put 0 a.cursors assoc.val c.toNat }) ∧
      exec (.fcursor assoc fc) s = becomes s (au { a with fcursors := put 0 a.fcursors assoc.val fc.toNat }) ∧
      (let b := batchBytes s.dev assoc.val
       exec (.batch assoc) s = becomes s (emit (.readBytes b) (au { a with
         cursors := put 0 a.cursors assoc.val (lookD 0 a.cursors assoc.val + b.length / 128) }))) ∧
      (let b := fbatchBytes s.dev assoc.val
       exec (.fbatch assoc) s = becomes s (emit (.readBytes b) (au { a with
         fcursors := put 0 a.fcursors assoc.val (lookD 0 a.fcursors assoc.val + b.length / 128) })))))

/-- The life cycle and debug: a permitted request burns its flag and resets; a matching token opens the lowest unused one, a
mismatch blocks TOKEN for 10 s; a challenge holds a nonce for 60 s and its response spends it; a consent, the end of a grant, and
a calibration set whose SEQ follows (R517, R520, R522-R525, R527). -/
def Obligations.LifeCycleAndDebug : Prop :=
  (∀ (s : State) (flag from_ to_ actor : Nat), s.dev.life.burnDue = some (flag, from_, to_, actor) →
    let calm := { s.dev with life := { s.dev.life with burnDue := none } }
    afterWrite s = fullReset 2 (burnState flag from_ to_ actor { s with dev := calm })) ∧
  (∀ (s : State) (target code : BitVec 8) (hd isTarget mldsaOk ecdsaOk : Bool) (domain : BitVec 16) (duration : BitVec 32)
    (value : BitVec 256) (set : Bytes) (e : Dev),
    let d := s.dev
    let wrote := fun (index sub n : Nat) (d : Dev) => emit (.wrote index sub 0)
      (raise srcCustodian 0x0240 0 actorFw [(2, index), (1, sub), (16, n)] d)
    (lcRequest target.toNat hd actorFw d = .ok e →
      exec (.lcRequest target hd) s = .next (afterWrite { s with dev := wrote 0x7000 2 target.toNat e })) ∧
    (lcState d = 4 ∨ lcState d = 5 → d.ks.migState = 0 → foundationShut d = false → hd = false → target.toNat = 6 →
      lcRequest target.toNat hd actorFw d = .ok (dueBurn 4 6 actorFw { d with guard := { d.guard with lcPending := 2 } })) ∧
    (jtagUp d = true → foundationFull d = false →
      (lcState d = 1 → d.guard.tokenBlocked ≤ d.tb.now → ∀ t, nextToken d = some t →
        let tap := { d with guard := { d.guard with tap := 1 } }
        (nth [] d.guard.otp.tokenHashes t = padTo 32 (Config.hash 1 (le 32 value.toNat)) →
          exec (.token value) s = .next (burnState (otpOpen t) 1 2 actorHw { s with dev := tap })) ∧
        (nth [] d.guard.otp.tokenHashes t ≠ padTo 32 (Config.hash 1 (le 32 value.toNat)) → exec (.token value) s =
          becomes s { tap with guard := { tap.guard with tokenBlocked := d.tb.now + 10000000000 } })) ∧
      (lcState d = 2 → ∀ t, openToken d = some t →
        let tap := { d with guard := { d.guard with tap := 2 } }
        exec .tokenClose s = .next (burnState (otpClose t) 2 1 actorHw { s with dev := tap })) ∧
      (lcState d ≠ 7 → ∃ d' c, exec (.dbgChal isTarget code domain) s = becomes s d' ∧ d'.guard.chal = some c ∧
        c.till = d.tb.now + 60000000000 ∧ c.domain = domain.toNat ∧
        (isTarget = false → c.level = code.toNat ∧ c.target = none) ∧ (isTarget = true → c.target = some code.toNat)) ∧
      (let tap := { d with guard := { d.guard with tap := 4, chal := none } }
       (grantFault { d with guard := { d.guard with tap := 4 } } d.guard.chal (mldsaOk && ecdsaOk) ≠ 0 →
         ∃ d', exec (.dbgResp mldsaOk ecdsaOk) s = becomes s d' ∧ d'.guard.chal = none ∧ d'.guard.consent = none ∧
           d'.guard.debugLevel = d.guard.debugLevel) ∧
       (grantFault { d with guard := { d.guard with tap := 4 } } d.guard.chal (mldsaOk && ecdsaOk) = 0 →
         ∀ c, d.guard.chal = some c → c.target = none →
         exec (.dbgResp mldsaOk ecdsaOk) s = becomes s (grantDebug c tap)))) ∧
    (keyState d = true → 1 ≤ code.toNat → code.toNat ≤ 2 → domain.toNat < 4096 → 1 ≤ duration.toNat →
      duration.toNat ≤ 3600 →
      let consent : Consent := { level := code.toNat, domain := domain.toNat, duration := duration.toNat, till := d.tb.now + 600000000000 }
      exec (.debugConsent code domain duration) s = becomes s (wrote 0x7001 2
        (leVal (le 1 code.toNat ++ le 2 domain.toNat ++ le 4 duration.toNat))
        { d with guard := { d.guard with consent := some consent } })) ∧
    (d.guard.debugLevel ≠ 0 → d.guard.debugTill ≠ 0 →
      ∃ d', exec .debugGrantExpire s = becomes s d' ∧ d'.guard.debugLevel = 0 ∧ d'.tb = reachTime d.tb d.guard.debugTill) ∧
    (calSet set d = .ok e → exec (.calSet set) s = becomes s (wrote 0x12C0 2 (leVal (set.take 16)) e)) ∧
    (lcState d = 4 ∨ lcState d = 5 → foundationShut d = false → calValid set = true →
      leAt set 8 4 = w32 ((if (calPick d.guard.calA d.guard.calB).isEmpty then 0
        else leAt (calPick d.guard.calA d.guard.calB) 8 4) + 1) →
      ∃ d', calSet set d = .ok d' ∧ d'.guard.calA = d'.guard.calB ∧ d'.guard.calA.take 6 = set.take 6))

/-! Rules of the specification stated whole. -/

/-- R71: the remaining count that KEY_INFO reports is C, whatever is held in leases. -/
def Obligations.RemainingCountIsC : Prop :=
  ∀ (s : State) (h : SvcHdr) (handle : BitVec 32) (d : Dev) (role : Role) (i : Nat) (k : KeyRec) (leases : FMap Nat),
    Served h (.keyInfo handle.toNat) s d role → tenantOrDm role = true ∨ role = .auditor →
    resolveFor d h.via role handle.toNat = .ok (i, k) → keyFor d handle.toNat = some (i, k) → k.uses < 2 ^ 64 →
    ∃ b, exec (.keyInfo h handle) s = becomes s (answer h.via .ok b d) ∧ b.length = 80 ∧ leAt b 0x10 8 = k.uses ∧
      resolveFor { d with ks := { d.ks with leases := leases } } h.via role handle.toNat = .ok (i, k)

/-- R500: a hobble-class event while the device is hobbled raises the latch's count and is recorded, the latch keeping its
first cause; a zeroise-class event then zeroises: of any source, and of the detectors of every monitor, a device in zeroised hold apart. -/
def Obligations.EventsWhileHobbled : Prop :=
  (∀ (d : Dev) (src : Nat) (l : TamperLatch), d.life.hobbled = true → d.guard.hobble.set = true → keyState d = true →
    d.guard.hobble.events < 255 → ∃ e, (hobbleEvent src l d).audit.vc3 = d.audit.vc3 ++ [e] ∧ e.event = 0x0500 ∧
      e.source = src ∧ e.time = d.tb.now ∧
      (hobbleEvent src l d).guard.hobble = { d.guard.hobble with events := d.guard.hobble.events + 1 }) ∧
  (∀ (s : State) (l : TamperLatch), s.dev.life.hobbled = true → keyState s.dev = true → s.dev.guard.mainPower = true →
    (zeroise l s).dev.life.zeroised = true ∧ (zeroise l s).mem = [] ∧ (zeroise l s).dev.ks.keys = []) ∧
  ∀ (s : State) (monitor item : BitVec 8) (det : Fin 2) (value limit : BitVec 32),
    let m := monitor.toNat
    let g := s.dev.guard
    let c := Instr.detectorAssert monitor det item value limit
    s.dev.life.hobbled = true → s.dev.life.zeroised = false → g.hobble.set = true → keyState s.dev = true →
    monitorRuns s.dev m = true →
    (extreme s.dev m item.toNat value.toInt = false → zeroiseClass m = false → g.hobble.events < 255 →
      ∃ d e, exec c s = becomes s d ∧ d.guard.hobble = { g.hobble with events := g.hobble.events + 1 } ∧
        d.audit.vc3.getLast? = some e ∧ e.event = 0x0500 ∧ e.time = s.dev.tb.now ∧
        s.dev.audit.vc3.length < d.audit.vc3.length) ∧
    (g.mainPower = true → zeroiseClass m = true ∨ extreme s.dev m item.toNat value.toInt = true →
      (look g.alone (m * 2 + (1 - det.val))).isSome = true →
      s.dev.tb.now ≤ lookD 0 g.asserted (m * 2 + (1 - det.val)) + 20000 →
      ∃ u, exec c s = .next u ∧ u.dev.life.zeroised = true ∧ u.mem = [] ∧ u.dev.ks.keys = [])

/-- R180: a job waits until an engine is idle; the dispatcher takes an idle engine whose key area holds the key, else the idle
engine with the lowest number. -/
def Obligations.BnDispatcherChoice : Prop :=
  (∀ (s : State), (∀ n < 48, engineIdle s.dev n = false) → exec .bnDispatch s = becomes s s.dev) ∧
  (∀ (d : Dev) (o : Op), ((∃ n < 48, engineIdle d n = true) ↔ (chooseEngine d o).isSome = true) ∧
    ∀ n, chooseEngine d o = some n → n < 48 ∧ engineIdle d n = true ∧
      ((∃ p, o.pins.head? = some p ∧ holdsKey (engineOf d n).slots p = true) ∨
       ((∀ p, o.pins.head? = some p → ∀ m < 48, engineIdle d m = true → holdsKey (engineOf d m).slots p = false) ∧
        ∀ m < n, engineIdle d m = false))) ∧
  (∀ (s : State) (cls turn n : Nat) (j : QJob) (qs : FMap ClassQueue) (o : Op),
    pickJob 50 s.dev.bn.turn (engineFor s.dev) s.dev.bn.queues = some (cls, j, turn, qs) →
    opOf s.dev j.tag = some o → chooseEngine s.dev o = some n →
    ∃ d, exec .bnDispatch s = becomes s d ∧ (engineOf d n).job = some j.tag)

/-- R36: at every reset the master counter starts at the larger of the RTC and the last time recorded in the audit log plus 1 µs; the last
time recorded is the largest TIME or LAST of a record made durable, so every record that the log holds has an earlier time than any stamp
after the reset. -/
def Obligations.TimeBaseAtReset : Prop :=
  let bounded := fun (d : Dev) => ∀ e ∈ d.audit.running, e.2.time ≤ d.audit.lastTime ∧ e.2.last ≤ d.audit.lastTime
  (∀ (s : State) (cause : Nat),
    let a := s.dev.audit
    let now := (clearAll cause s).dev.tb.now
    fullReset cause s = boot (clearAll cause s) ∧ (clearAll cause s).dev.audit.lastTime = a.lastTime ∧
    (a.anyDurable = false → now = s.dev.tb.rtc % 2 ^ 64) ∧
    (a.anyDurable = true → s.dev.tb.rtc < 2 ^ 64 → a.lastTime + 1000 < 2 ^ 64 →
      now = max s.dev.tb.rtc (a.lastTime + 1000) ∧ (bounded s.dev → ∀ e ∈ a.running, e.2.time < now ∧ e.2.last < now)) ∧
    (s.dev.life.powerOff = false → s.dev.guard.mainPower = true → exec .warmReset s = .next (boot (clearAll 1 s)))) ∧
  bounded State.reset.dev ∧
  (∀ (d : Dev) (seq : Nat), bounded d → bounded (makeDurable seq d)) ∧
  (∀ (d : Dev) (seq : Nat) (r : AuditRec), look d.audit.staging (seq % 65536) = some r →
    (makeDurable seq d).audit.anyDurable = true ∧
    (makeDurable seq d).audit.lastTime = max d.audit.lastTime (max r.time r.last))

/-! The machine. -/

/-- A step runs the command at the front of the queue with the queue's rest (the queue is the model's own; log entry 1). -/
def Obligations.StepRunsTheFrontCommand : Prop :=
  ∀ (s : State) (c : Instr) (rest : List Instr), s.pending = c :: rest → step s = exec c { s with pending := rest }

/-- On an empty queue the block ends its boot, or lets one tick of the time base pass: with the power off only the RTC's, else one in which
what is due happens and every engine that runs a slice runs one instruction (the model's choice; log entry 2). -/
def Obligations.EmptyQueueIdles : Prop :=
  ∀ (s : State), s.pending = [] →
    (s.dev.life.booting = true → s.dev.life.powerOff = false → step s = .next (boot s)) ∧
    (s.dev.life.powerOff = true → step s = becomes s { s.dev with tb := { s.dev.tb with rtc := s.dev.tb.rtc + 1 } }) ∧
    (s.dev.life.booting = false → s.dev.life.powerOff = false →
      let ticked := { s with dev := settle (environment { s.dev with tb := tick s.dev.tb }) }
      step s = .next (runSlices ticked) ∧
      ((∀ e ∈ ticked.dev.procs, e.2.slice = none ∨ isPriv e.2 = true) → step s = .next ticked))

/-- Every command completes: none ends in a fault or a refusal, in any state. -/
def Obligations.EveryCommandCompletes : Prop := ∀ (c : Instr) (s : State), ∃ t, exec c s = .next t

/-- No command touches the queue of waiting commands. -/
def Obligations.CommandsLeaveTheQueue : Prop := ∀ (c : Instr) (s t : State), exec c s = .next t → t.pending = s.pending

/-- Memory reads back what was written, and every other byte is as before; a written memory is in its one form. -/
def Obligations.MemoryReadsBack : Prop :=
  ∀ (m : FMap Byte) (a x : Nat) (b : Bytes), memWf m = true →
    readByte (writeBytes m a b) x = (if a ≤ x ∧ x < a + b.length then b.getD (x - a) 0 else readByte m x) ∧
    memWf (writeBytes m a b) = true

/-- The memories and their secret tags keep their one canonical form in every step, whatever the command. -/
def Obligations.StepsKeepMemoryCanonical : Prop := ∀ (s t : State), MemInv s → step s = .next t → MemInv t

/-- After reset: every memory zero and in its form, no command waiting, Trot and reef level 0, nothing hobbled or released, the
boot chain still to run (R46, R386, R533, R536, R543; the persistent contents of a device in FACTORY are the model's choice, log
entry 3). -/
def Obligations.StateAfterReset : Prop :=
  let d := State.reset.dev
  MemInv State.reset ∧ (∀ a, readByte State.reset.mem a = 0) ∧ State.reset.pending = [] ∧ d.life.booting = true ∧
  d.life.custUp = false ∧ d.life.ready = false ∧ d.life.hobbled = false ∧ d.life.zeroised = false ∧ d.life.gait = 1 ∧
  d.life.reef = 0 ∧ d.lopeOn = false ∧ lcState d = 3 ∧ d.op.ops = [] ∧ d.ks.keys = [] ∧ d.audit.nextSeq = 0 ∧
  (∀ p : Fin 516, isPriv (procOf d p.val) = true ∧ intOn (procOf d p.val) = false ∧
    (inWorld (procOf d p.val) = true ↔ 512 ≤ p.val)) ∧
  (∀ p : Fin 64, (portOf d p.val).state = 1) ∧ (∀ k : Fin 4, (lookD {} d.host.links k.val).state ≠ 2) ∧
  d.cust.sessions = [] ∧ d.cust.logins = []
end

