-- ==== Sys2Proof/Laws/Answer.lean ====
section
/-! SUPPORT. What answering a request of the custodian service interface leaves unchanged: every unit but the doors that answers
leave by, and the session an action was executed for. -/

set_option linter.unusedVariables false

namespace Sys2Proof.Machine

open Sys2Proof

/-- A fold keeps what each of its steps keeps. -/
theorem foldl_keep {α β γ : Type} (g : β → γ) (f : β → α → β) (h : ∀ b a, g (f b a) = g b) (l : List α) (b : β) :
    g (l.foldl f b) = g b := by
  induction l generalizing b with
  | nil => rfl
  | cons a l ih => simp [ih, h]

/-- The units that no answer reaches. -/
def behindDoors (d : Dev) :=
  (d.life, d.tb, d.audit, d.op, d.ks, d.pool, d.bn, d.procs, d.prot, d.vq, d.rig, d.rng, d.net, d.guard, d.pow)

@[simp] theorem behindDoors_emit (e) (d : Dev) : behindDoors (emit e d) = behindDoors d := rfl

@[simp] theorem behindDoors_sendMsix (a b : Nat) (d : Dev) : behindDoors (sendMsix a b d) = behindDoors d := by
  unfold sendMsix; repeat (first | rfl | split)

@[simp] theorem behindDoors_canQueue (f) (d : Dev) : behindDoors (canQueue f d) = behindDoors d := by
  unfold canQueue; repeat (first | rfl | split)

@[simp] theorem behindDoors_inbandAnswer (pf x) (d : Dev) : behindDoors (inbandAnswer pf x d) = behindDoors d := by
  unfold inbandAnswer; rw [behindDoors_sendMsix]; rfl

@[simp] theorem behindDoors_onSession (i f) (d : Dev) : behindDoors (onSession i f d) = behindDoors d := by
  unfold onSession; split <;> rfl

@[simp] theorem behindDoors_answerMailbox (fn st r) (d : Dev) : behindDoors (answerMailbox fn st r d) = behindDoors d := by
  unfold answerMailbox; split
  · rfl
  · rw [behindDoors_sendMsix]; rfl

@[simp] theorem behindDoors_onAssoc (a f) (d : Dev) : behindDoors (onAssoc a f d) = behindDoors d := by
  unfold onAssoc; repeat (first | rfl | split)

@[simp] theorem behindDoors_sendPdu (p a x) (d : Dev) : behindDoors (sendPdu p a x d) = behindDoors d := by
  unfold sendPdu; split <;> simp

@[simp] theorem behindDoors_sendTo (a p) (d : Dev) : behindDoors (sendTo a p d) = behindDoors d := by
  unfold sendTo; split <;> simp

@[simp] theorem behindDoors_answerPdu (a t ty p) (d : Dev) : behindDoors (answerPdu a t ty p d) = behindDoors d := by
  unfold answerPdu; split <;> simp

@[simp] theorem behindDoors_answerService (a t st p) (d : Dev) : behindDoors (answerService a t st p d) = behindDoors d := by
  unfold answerService; repeat (first | rfl | split | simp)

@[simp] theorem behindDoors_answerDoor (v st r) (d : Dev) : behindDoors (answerDoor v st r d) = behindDoors d := by
  unfold answerDoor; split <;> simp

/-- No answer changes a unit behind the doors. -/
@[simp] theorem behindDoors_answer (v st r) (d : Dev) : behindDoors (answer v st r d) = behindDoors d := by
  unfold answer; repeat (first | rfl | split | simp)

theorem answer_ks (v st r) (d : Dev) : (answer v st r d).ks = d.ks :=
  congrArg (fun x => x.2.2.2.2.1) (behindDoors_answer v st r d)

theorem answer_tb (v st r) (d : Dev) : (answer v st r d).tb = d.tb := congrArg (fun x => x.2.1) (behindDoors_answer v st r d)

theorem answer_op (v st r) (d : Dev) : (answer v st r d).op = d.op :=
  congrArg (fun x => x.2.2.2.1) (behindDoors_answer v st r d)

end Sys2Proof.Machine
end

