-- ==== Sys2Proof/Laws/Dispatch.lean ====
section
/-! SUPPORT. What exec runs for each command: its meaning. -/

set_option linter.unusedVariables false

namespace Sys2Proof.Machine

open Sys2Proof

@[simp] theorem exec_submissionRead (fn : BitVec 12) (slot : BitVec 12) (desc : ReadResult) (inList : ReadResult) (outList : ReadResult) (input : ReadResult) (s : State) : exec (.submissionRead fn slot desc inList outList input) s = execSubmissionRead fn slot desc inList outList input s := rfl
@[simp] theorem exec_jobComplete (tag : BitVec 16) (s : State) : exec (.jobComplete tag) s = execJobComplete tag s := rfl
@[simp] theorem exec_timeSlew (ppb : BitVec 32) (s : State) : exec (.timeSlew ppb) s = execTimeSlew ppb s := rfl
@[simp] theorem exec_timeStep (ns : BitVec 64) (s : State) : exec (.timeStep ns) s = execTimeStep ns s := rfl
@[simp] theorem exec_hbmChannelFail (c : Fin 32) (addr : BitVec 40) (s : State) : exec (.hbmChannelFail c addr) s = execHbmChannelFail c addr s := rfl
@[simp] theorem exec_lease (n : Nat) (s : State) : exec (.lease n) s = execLease n s := rfl
@[simp] theorem exec_fill (n : Nat) (s : State) : exec (.fill n) s = execFill n s := rfl
@[simp] theorem exec_stale (n : Nat) (s : State) : exec (.stale n) s = execStale n s := rfl
@[simp] theorem exec_hoist (tag : BitVec 16) (second : Bool) (s : State) : exec (.hoist tag second) s = execHoist tag second s := rfl
@[simp] theorem exec_keydata (tag : BitVec 16) (second : Bool) (s : State) : exec (.keydata tag second) s = execKeydata tag second s := rfl
@[simp] theorem exec_lineageInval (holder : Fin 257) (idx : BitVec 24) (s : State) : exec (.lineageInval holder idx) s = execLineageInval holder idx s := rfl
@[simp] theorem exec_inval (holder : Fin 257) (idx : BitVec 24) (s : State) : exec (.inval holder idx) s = execInval holder idx s := rfl
@[simp] theorem exec_cacheSweepDone (point : Fin 33) (idx : BitVec 24) (s : State) : exec (.cacheSweepDone point idx) s = execCacheSweepDone point idx s := rfl
@[simp] theorem exec_ack (holder : Fin 257) (idx : BitVec 24) (s : State) : exec (.ack holder idx) s = execAck holder idx s := rfl
@[simp] theorem exec_keyDestroy (h : SvcHdr) (handle : BitVec 32) (s : State) : exec (.keyDestroy h handle) s = execKeyDestroy h handle s := rfl
@[simp] theorem exec_keyAttr (h : SvcHdr) (handle : BitVec 32) (attr : BitVec 64) (s : State) : exec (.keyAttr h handle attr) s = execKeyAttr h handle attr s := rfl
@[simp] theorem exec_keyImport (h : SvcHdr) (unwrap : BitVec 32) (form : BitVec 8) (typ : BitVec 8) (cls : BitVec 8) (attr : BitVec 64) (obj : ObjRef) (wrapped : Bytes) (s : State) : exec (.keyImport h unwrap form typ cls attr obj wrapped) s = execKeyImport h unwrap form typ cls attr obj wrapped s := rfl
@[simp] theorem exec_keyInfo (h : SvcHdr) (handle : BitVec 32) (s : State) : exec (.keyInfo h handle) s = execKeyInfo h handle s := rfl
@[simp] theorem exec_keyGenerate (h : SvcHdr) (parent : BitVec 32) (typ : BitVec 8) (cls : BitVec 8) (attr : BitVec 64) (s : State) : exec (.keyGenerate h parent typ cls attr) s = execKeyGenerate h parent typ cls attr s := rfl
@[simp] theorem exec_keyDerive (h : SvcHdr) (base : BitVec 32) (typ : BitVec 8) (cls : BitVec 8) (attr : BitVec 64) (label : Bytes) (context : Bytes) (s : State) : exec (.keyDerive h base typ cls attr label context) s = execKeyDerive h base typ cls attr label context s := rfl
@[simp] theorem exec_clearWrite (cu : Fin 4) (tenant : Bool) (parent : BitVec 32) (typ : BitVec 8) (cls : BitVec 8) (attr : BitVec 64) (material : Bytes) (s : State) : exec (.clearWrite cu tenant parent typ cls attr material) s = execClearWrite cu tenant parent typ cls attr material s := rfl
@[simp] theorem exec_journalPageClose  (s : State) : exec (.journalPageClose) s = execJournalPageClose s := rfl
@[simp] theorem exec_journalPageProgrammed (pageSeq : BitVec 64) (s : State) : exec (.journalPageProgrammed pageSeq) s = execJournalPageProgrammed pageSeq s := rfl
@[simp] theorem exec_compactionBegin  (s : State) : exec (.compactionBegin) s = execCompactionBegin s := rfl
@[simp] theorem exec_compactionCopyDone  (s : State) : exec (.compactionCopyDone) s = execCompactionCopyDone s := rfl
@[simp] theorem exec_compactionEraseDone  (s : State) : exec (.compactionEraseDone) s = execCompactionEraseDone s := rfl
@[simp] theorem exec_migrateBegin (h : SvcHdr) (s : State) : exec (.migrateBegin h) s = execMigrateBegin h s := rfl
@[simp] theorem exec_migrateReady (h : SvcHdr) (s : State) : exec (.migrateReady h) s = execMigrateReady h s := rfl
@[simp] theorem exec_migrateFinal (h : SvcHdr) (s : State) : exec (.migrateFinal h) s = execMigrateFinal h s := rfl
@[simp] theorem exec_migrateAbandon (h : SvcHdr) (s : State) : exec (.migrateAbandon h) s = execMigrateAbandon h s := rfl
@[simp] theorem exec_ostlerDispatch  (s : State) : exec (.ostlerDispatch) s = execOstlerDispatch s := rfl
@[simp] theorem exec_cipherJobDone (tag : BitVec 16) (input : ReadResult) (s : State) : exec (.cipherJobDone tag input) s = execCipherJobDone tag input s := rfl
@[simp] theorem exec_coreSelftestStart  (s : State) : exec (.coreSelftestStart) s = execCoreSelftestStart s := rfl
@[simp] theorem exec_coreDrained (n : Fin 64) (s : State) : exec (.coreDrained n) s = execCoreDrained n s := rfl
@[simp] theorem exec_coreSelftestDone (n : Fin 64) (test : Fin 5) (pass : Bool) (s : State) : exec (.coreSelftestDone n test pass) s = execCoreSelftestDone n test pass s := rfl
@[simp] theorem exec_parityMismatch (n : Fin 64) (unit : Fin 3) (tag : Option (BitVec 16)) (s : State) : exec (.parityMismatch n unit tag) s = execParityMismatch n unit tag s := rfl
@[simp] theorem exec_pinFailInterval  (s : State) : exec (.pinFailInterval) s = execPinFailInterval s := rfl
@[simp] theorem exec_pinSuspendEnd (idx : BitVec 24) (s : State) : exec (.pinSuspendEnd idx) s = execPinSuspendEnd idx s := rfl
@[simp] theorem exec_bnDispatch  (s : State) : exec (.bnDispatch) s = execBnDispatch s := rfl
@[simp] theorem exec_bnJobDone (tag : BitVec 16) (input : ReadResult) (outcome : Fin 4) (s : State) : exec (.bnJobDone tag input outcome) s = execBnJobDone tag input outcome s := rfl
@[simp] theorem exec_bnJobTimeout (tag : BitVec 16) (s : State) : exec (.bnJobTimeout tag) s = execBnJobTimeout tag s := rfl
@[simp] theorem exec_bnSelftestStart  (s : State) : exec (.bnSelftestStart) s = execBnSelftestStart s := rfl
@[simp] theorem exec_bnSelftestDone (n : Fin 48) (test : Fin 8) (pass : Bool) (s : State) : exec (.bnSelftestDone n test pass) s = execBnSelftestDone n test pass s := rfl
@[simp] theorem exec_bnSlotcfg (n : Fin 48) (s : State) : exec (.bnSlotcfg n) s = execBnSlotcfg n s := rfl
@[simp] theorem exec_bnLoad (n : Fin 48) (s : State) : exec (.bnLoad n) s = execBnLoad n s := rfl
@[simp] theorem exec_bnStore (n : Fin 48) (s : State) : exec (.bnStore n) s = execBnStore n s := rfl
@[simp] theorem exec_bnMontin (n : Fin 48) (s : State) : exec (.bnMontin n) s = execBnMontin n s := rfl
@[simp] theorem exec_bnMontout (n : Fin 48) (s : State) : exec (.bnMontout n) s = execBnMontout n s := rfl
@[simp] theorem exec_bnModadd (n : Fin 48) (s : State) : exec (.bnModadd n) s = execBnModadd n s := rfl
@[simp] theorem exec_bnModsub (n : Fin 48) (s : State) : exec (.bnModsub n) s = execBnModsub n s := rfl
@[simp] theorem exec_bnModmul (n : Fin 48) (s : State) : exec (.bnModmul n) s = execBnModmul n s := rfl
@[simp] theorem exec_bnModsqr (n : Fin 48) (s : State) : exec (.bnModsqr n) s = execBnModsqr n s := rfl
@[simp] theorem exec_bnModinv (n : Fin 48) (s : State) : exec (.bnModinv n) s = execBnModinv n s := rfl
@[simp] theorem exec_bnModexp (n : Fin 48) (s : State) : exec (.bnModexp n) s = execBnModexp n s := rfl
@[simp] theorem exec_bnMul (n : Fin 48) (s : State) : exec (.bnMul n) s = execBnMul n s := rfl
@[simp] theorem exec_bnCmp (n : Fin 48) (s : State) : exec (.bnCmp n) s = execBnCmp n s := rfl
@[simp] theorem exec_bnCopy (n : Fin 48) (s : State) : exec (.bnCopy n) s = execBnCopy n s := rfl
@[simp] theorem exec_bnZero (n : Fin 48) (s : State) : exec (.bnZero n) s = execBnZero n s := rfl
@[simp] theorem exec_bnEcadd (n : Fin 48) (s : State) : exec (.bnEcadd n) s = execBnEcadd n s := rfl
@[simp] theorem exec_bnEcdbl (n : Fin 48) (s : State) : exec (.bnEcdbl n) s = execBnEcdbl n s := rfl
@[simp] theorem exec_bnEcmul (n : Fin 48) (s : State) : exec (.bnEcmul n) s = execBnEcmul n s := rfl
@[simp] theorem exec_bnEccheck (n : Fin 48) (s : State) : exec (.bnEccheck n) s = execBnEccheck n s := rfl
@[simp] theorem exec_bnNtt (n : Fin 48) (s : State) : exec (.bnNtt n) s = execBnNtt n s := rfl
@[simp] theorem exec_bnIntt (n : Fin 48) (s : State) : exec (.bnIntt n) s = execBnIntt n s := rfl
@[simp] theorem exec_bnPmul (n : Fin 48) (s : State) : exec (.bnPmul n) s = execBnPmul n s := rfl
@[simp] theorem exec_bnPadd (n : Fin 48) (s : State) : exec (.bnPadd n) s = execBnPadd n s := rfl
@[simp] theorem exec_bnEnd (n : Fin 48) (s : State) : exec (.bnEnd n) s = execBnEnd n s := rfl
@[simp] theorem exec_mov (p : ProcId) (f : RFmt) (s : State) : exec (.mov p f) s = execMov p f s := rfl
@[simp] theorem exec_add (p : ProcId) (f : RFmt) (s : State) : exec (.add p f) s = execAdd p f s := rfl
@[simp] theorem exec_sub (p : ProcId) (f : RFmt) (s : State) : exec (.sub p f) s = execSub p f s := rfl
@[simp] theorem exec_and (p : ProcId) (f : RFmt) (s : State) : exec (.and p f) s = execAnd p f s := rfl
@[simp] theorem exec_or (p : ProcId) (f : RFmt) (s : State) : exec (.or p f) s = execOr p f s := rfl
@[simp] theorem exec_xor (p : ProcId) (f : RFmt) (s : State) : exec (.xor p f) s = execXor p f s := rfl
@[simp] theorem exec_not (p : ProcId) (f : RFmt) (s : State) : exec (.not p f) s = execNot p f s := rfl
@[simp] theorem exec_neg (p : ProcId) (f : RFmt) (s : State) : exec (.neg p f) s = execNeg p f s := rfl
@[simp] theorem exec_shl (p : ProcId) (f : RFmt) (s : State) : exec (.shl p f) s = execShl p f s := rfl
@[simp] theorem exec_shr (p : ProcId) (f : RFmt) (s : State) : exec (.shr p f) s = execShr p f s := rfl
@[simp] theorem exec_sar (p : ProcId) (f : RFmt) (s : State) : exec (.sar p f) s = execSar p f s := rfl
@[simp] theorem exec_shli (p : ProcId) (f : RFmt) (s : State) : exec (.shli p f) s = execShli p f s := rfl
@[simp] theorem exec_shri (p : ProcId) (f : RFmt) (s : State) : exec (.shri p f) s = execShri p f s := rfl
@[simp] theorem exec_sari (p : ProcId) (f : RFmt) (s : State) : exec (.sari p f) s = execSari p f s := rfl
@[simp] theorem exec_mul (p : ProcId) (f : RFmt) (s : State) : exec (.mul p f) s = execMul p f s := rfl
@[simp] theorem exec_mulhu (p : ProcId) (f : RFmt) (s : State) : exec (.mulhu p f) s = execMulhu p f s := rfl
@[simp] theorem exec_divu (p : ProcId) (f : RFmt) (s : State) : exec (.divu p f) s = execDivu p f s := rfl
@[simp] theorem exec_cmp (p : ProcId) (f : RFmt) (s : State) : exec (.cmp p f) s = execCmp p f s := rfl
@[simp] theorem exec_cmpeqm (p : ProcId) (f : RFmt) (s : State) : exec (.cmpeqm p f) s = execCmpeqm p f s := rfl
@[simp] theorem exec_cmpltm (p : ProcId) (f : RFmt) (s : State) : exec (.cmpltm p f) s = execCmpltm p f s := rfl
@[simp] theorem exec_sel (p : ProcId) (f : RFmt) (s : State) : exec (.sel p f) s = execSel p f s := rfl
@[simp] theorem exec_bswap (p : ProcId) (f : RFmt) (s : State) : exec (.bswap p f) s = execBswap p f s := rfl
@[simp] theorem exec_popc (p : ProcId) (f : RFmt) (s : State) : exec (.popc p f) s = execPopc p f s := rfl
@[simp] theorem exec_sett (p : ProcId) (f : RFmt) (s : State) : exec (.sett p f) s = execSett p f s := rfl
@[simp] theorem exec_clt (p : ProcId) (f : RFmt) (s : State) : exec (.clt p f) s = execClt p f s := rfl
@[simp] theorem exec_addi (p : ProcId) (f : IFmt) (s : State) : exec (.addi p f) s = execAddi p f s := rfl
@[simp] theorem exec_andi (p : ProcId) (f : IFmt) (s : State) : exec (.andi p f) s = execAndi p f s := rfl
@[simp] theorem exec_ori (p : ProcId) (f : IFmt) (s : State) : exec (.ori p f) s = execOri p f s := rfl
@[simp] theorem exec_xori (p : ProcId) (f : IFmt) (s : State) : exec (.xori p f) s = execXori p f s := rfl
@[simp] theorem exec_movi (p : ProcId) (f : IFmt) (s : State) : exec (.movi p f) s = execMovi p f s := rfl
@[simp] theorem exec_cmpi (p : ProcId) (f : IFmt) (s : State) : exec (.cmpi p f) s = execCmpi p f s := rfl
@[simp] theorem exec_mova (p : ProcId) (f : RFmt) (s : State) : exec (.mova p f) s = execMova p f s := rfl
@[simp] theorem exec_movad (p : ProcId) (f : RFmt) (s : State) : exec (.movad p f) s = execMovad p f s := rfl
@[simp] theorem exec_movda (p : ProcId) (f : RFmt) (s : State) : exec (.movda p f) s = execMovda p f s := rfl
@[simp] theorem exec_adda (p : ProcId) (f : RFmt) (s : State) : exec (.adda p f) s = execAdda p f s := rfl
@[simp] theorem exec_suba (p : ProcId) (f : RFmt) (s : State) : exec (.suba p f) s = execSuba p f s := rfl
@[simp] theorem exec_cmpa (p : ProcId) (f : RFmt) (s : State) : exec (.cmpa p f) s = execCmpa p f s := rfl
@[simp] theorem exec_addai (p : ProcId) (f : IFmt) (s : State) : exec (.addai p f) s = execAddai p f s := rfl
@[simp] theorem exec_movai (p : ProcId) (f : IFmt) (s : State) : exec (.movai p f) s = execMovai p f s := rfl
@[simp] theorem exec_ldB (p : ProcId) (f : MFmt) (s : State) : exec (.ldB p f) s = execLdB p f s := rfl
@[simp] theorem exec_ldH (p : ProcId) (f : MFmt) (s : State) : exec (.ldH p f) s = execLdH p f s := rfl
@[simp] theorem exec_ldW (p : ProcId) (f : MFmt) (s : State) : exec (.ldW p f) s = execLdW p f s := rfl
@[simp] theorem exec_ldD (p : ProcId) (f : MFmt) (s : State) : exec (.ldD p f) s = execLdD p f s := rfl
@[simp] theorem exec_stB (p : ProcId) (f : MFmt) (s : State) : exec (.stB p f) s = execStB p f s := rfl
@[simp] theorem exec_stH (p : ProcId) (f : MFmt) (s : State) : exec (.stH p f) s = execStH p f s := rfl
@[simp] theorem exec_stW (p : ProcId) (f : MFmt) (s : State) : exec (.stW p f) s = execStW p f s := rfl
@[simp] theorem exec_stD (p : ProcId) (f : MFmt) (s : State) : exec (.stD p f) s = execStD p f s := rfl
@[simp] theorem exec_lda (p : ProcId) (f : MFmt) (s : State) : exec (.lda p f) s = execLda p f s := rfl
@[simp] theorem exec_sta (p : ProcId) (f : MFmt) (s : State) : exec (.sta p f) s = execSta p f s := rfl
@[simp] theorem exec_ldx (p : ProcId) (f : MFmt) (s : State) : exec (.ldx p f) s = execLdx p f s := rfl
@[simp] theorem exec_stx (p : ProcId) (f : MFmt) (s : State) : exec (.stx p f) s = execStx p f s := rfl
@[simp] theorem exec_mfld (p : ProcId) (f : MFFmt) (s : State) : exec (.mfld p f) s = execMfld p f s := rfl
@[simp] theorem exec_mfst (p : ProcId) (f : MFFmt) (s : State) : exec (.mfst p f) s = execMfst p f s := rfl
@[simp] theorem exec_xmov (p : ProcId) (f : RFmt) (s : State) : exec (.xmov p f) s = execXmov p f s := rfl
@[simp] theorem exec_xand (p : ProcId) (f : RFmt) (s : State) : exec (.xand p f) s = execXand p f s := rfl
@[simp] theorem exec_xOr (p : ProcId) (f : RFmt) (s : State) : exec (.xOr p f) s = execXOr p f s := rfl
@[simp] theorem exec_xxor (p : ProcId) (f : RFmt) (s : State) : exec (.xxor p f) s = execXxor p f s := rfl
@[simp] theorem exec_xaddb (p : ProcId) (f : RFmt) (s : State) : exec (.xaddb p f) s = execXaddb p f s := rfl
@[simp] theorem exec_xsubb (p : ProcId) (f : RFmt) (s : State) : exec (.xsubb p f) s = execXsubb p f s := rfl
@[simp] theorem exec_xcmpeqb (p : ProcId) (f : RFmt) (s : State) : exec (.xcmpeqb p f) s = execXcmpeqb p f s := rfl
@[simp] theorem exec_xcmpltb (p : ProcId) (f : RFmt) (s : State) : exec (.xcmpltb p f) s = execXcmpltb p f s := rfl
@[simp] theorem exec_xsel (p : ProcId) (f : RFmt) (s : State) : exec (.xsel p f) s = execXsel p f s := rfl
@[simp] theorem exec_xins (p : ProcId) (f : RFmt) (s : State) : exec (.xins p f) s = execXins p f s := rfl
@[simp] theorem exec_xext (p : ProcId) (f : RFmt) (s : State) : exec (.xext p f) s = execXext p f s := rfl
@[simp] theorem exec_xshlb (p : ProcId) (f : RFmt) (s : State) : exec (.xshlb p f) s = execXshlb p f s := rfl
@[simp] theorem exec_xshrb (p : ProcId) (f : RFmt) (s : State) : exec (.xshrb p f) s = execXshrb p f s := rfl
@[simp] theorem exec_xzero (p : ProcId) (f : RFmt) (s : State) : exec (.xzero p f) s = execXzero p f s := rfl
@[simp] theorem exec_xbcast (p : ProcId) (f : RFmt) (s : State) : exec (.xbcast p f) s = execXbcast p f s := rfl
@[simp] theorem exec_xrev (p : ProcId) (f : RFmt) (s : State) : exec (.xrev p f) s = execXrev p f s := rfl
@[simp] theorem exec_xmaskl (p : ProcId) (f : RFmt) (s : State) : exec (.xmaskl p f) s = execXmaskl p f s := rfl
@[simp] theorem exec_b (p : ProcId) (f : BFmt) (s : State) : exec (.b p f) s = execB p f s := rfl
@[simp] theorem exec_bl (p : ProcId) (f : BFmt) (s : State) : exec (.bl p f) s = execBl p f s := rfl
@[simp] theorem exec_jr (p : ProcId) (f : RFmt) (sub : BitVec 5) (s : State) : exec (.jr p f sub) s = execJr p f sub s := rfl
@[simp] theorem exec_bz (p : ProcId) (f : BZFmt) (s : State) : exec (.bz p f) s = execBz p f s := rfl
@[simp] theorem exec_bnz (p : ProcId) (f : BZFmt) (s : State) : exec (.bnz p f) s = execBnz p f s := rfl
@[simp] theorem exec_wfe (p : ProcId) (f : EvFmt) (s : State) : exec (.wfe p f) s = execWfe p f s := rfl
@[simp] theorem exec_wfeWake (p : ProcId) (s : State) : exec (.wfeWake p) s = execWfeWake p s := rfl
@[simp] theorem exec_wfeLimitExpire (p : ProcId) (s : State) : exec (.wfeLimitExpire p) s = execWfeLimitExpire p s := rfl
@[simp] theorem exec_sev (p : ProcId) (f : SevFmt) (s : State) : exec (.sev p f) s = execSev p f s := rfl
@[simp] theorem exec_sevAll (p : ProcId) (f : SevFmt) (s : State) : exec (.sevAll p f) s = execSevAll p f s := rfl
@[simp] theorem exec_wtu (p : ProcId) (f : EvFmt) (s : State) : exec (.wtu p f) s = execWtu p f s := rfl
@[simp] theorem exec_wtuTargetReached (p : ProcId) (s : State) : exec (.wtuTargetReached p) s = execWtuTargetReached p s := rfl
@[simp] theorem exec_wtuLimitExpire (p : ProcId) (s : State) : exec (.wtuLimitExpire p) s = execWtuLimitExpire p s := rfl
@[simp] theorem exec_rep (p : ProcId) (f : RepFmt) (s : State) : exec (.rep p f) s = execRep p f s := rfl
@[simp] theorem exec_repu (p : ProcId) (f : RepuFmt) (s : State) : exec (.repu p f) s = execRepu p f s := rfl
@[simp] theorem exec_time (p : ProcId) (f : CFmt) (s : State) : exec (.time p f) s = execTime p f s := rfl
@[simp] theorem exec_job (p : ProcId) (f : JFmt) (s : State) : exec (.job p f) s = execJob p f s := rfl
@[simp] theorem exec_jobx (p : ProcId) (f : JXFmt) (s : State) : exec (.jobx p f) s = execJobx p f s := rfl
@[simp] theorem exec_jwait (p : ProcId) (f : JwFmt) (s : State) : exec (.jwait p f) s = execJwait p f s := rfl
@[simp] theorem exec_jobSlotComplete (p : ProcId) (k : Fin 8) (s : State) : exec (.jobSlotComplete p k) s = execJobSlotComplete p k s := rfl
@[simp] theorem exec_mfc (p : ProcId) (f : CFmt) (s : State) : exec (.mfc p f) s = execMfc p f s := rfl
@[simp] theorem exec_mtc (p : ProcId) (f : CFmt) (s : State) : exec (.mtc p f) s = execMtc p f s := rfl
@[simp] theorem exec_nop (p : ProcId) (f : RFmt) (s : State) : exec (.nop p f) s = execNop p f s := rfl
@[simp] theorem exec_rfe (p : ProcId) (f : RFmt) (s : State) : exec (.rfe p f) s = execRfe p f s := rfl
@[simp] theorem exec_halt (p : ProcId) (f : RFmt) (s : State) : exec (.halt p f) s = execHalt p f s := rfl
@[simp] theorem exec_fence (p : ProcId) (f : RFmt) (s : State) : exec (.fence p f) s = execFence p f s := rfl
@[simp] theorem exec_pswap (p : ProcId) (f : RFmt) (s : State) : exec (.pswap p f) s = execPswap p f s := rfl
@[simp] theorem exec_gfence (p : ProcId) (f : RFmt) (s : State) : exec (.gfence p f) s = execGfence p f s := rfl
@[simp] theorem exec_call (p : ProcId) (f : RFmt) (s : State) : exec (.call p f) s = execCall p f s := rfl
@[simp] theorem exec_interruptEntry (p : ProcId) (s : State) : exec (.interruptEntry p) s = execInterruptEntry p s := rfl
@[simp] theorem exec_budgetExpire (p : ProcId) (s : State) : exec (.budgetExpire p) s = execBudgetExpire p s := rfl
@[simp] theorem exec_haltReq (p : ProcId) (s : State) : exec (.haltReq p) s = execHaltReq p s := rfl
@[simp] theorem exec_engineRestart (p : Fin 512) (s : State) : exec (.engineRestart p) s = execEngineRestart p s := rfl
@[simp] theorem exec_custodianSignal (p : ProcId) (s : State) : exec (.custodianSignal p) s = execCustodianSignal p s := rfl
@[simp] theorem exec_revoke (p : Fin 512) (v : BitVec 32) (s : State) : exec (.revoke p v) s = execRevoke p v s := rfl
@[simp] theorem exec_revokeFenceDone (p : Fin 512) (s : State) : exec (.revokeFenceDone p) s = execRevokeFenceDone p s := rfl
@[simp] theorem exec_load (p : Fin 512) (k : Fin 64) (s : State) : exec (.load p k) s = execLoad p k s := rfl
@[simp] theorem exec_loadDone (p : Fin 512) (s : State) : exec (.loadDone p) s = execLoadDone p s := rfl
@[simp] theorem exec_vqHeadRead  (s : State) : exec (.vqHeadRead) s = execVqHeadRead s := rfl
@[simp] theorem exec_vqTailWrite (v : BitVec 32) (s : State) : exec (.vqTailWrite v) s = execVqTailWrite v s := rfl
@[simp] theorem exec_vqLostRead (full : Bool) (s : State) : exec (.vqLostRead full) s = execVqLostRead full s := rfl
@[simp] theorem exec_messageDeliver (tag : BitVec 16) (s : State) : exec (.messageDeliver tag) s = execMessageDeliver tag s := rfl
@[simp] theorem exec_parseEnd (tag : BitVec 16) (s : State) : exec (.parseEnd tag) s = execParseEnd tag s := rfl
@[simp] theorem exec_sliceStart (tag : BitVec 16) (ix : Fin 32) (s : State) : exec (.sliceStart tag ix) s = execSliceStart tag ix s := rfl
@[simp] theorem exec_sliceDeadline (tag : BitVec 16) (ix : Fin 32) (s : State) : exec (.sliceDeadline tag ix) s = execSliceDeadline tag ix s := rfl
@[simp] theorem exec_emitEnd (tag : BitVec 16) (s : State) : exec (.emitEnd tag) s = execEmitEnd tag s := rfl
@[simp] theorem exec_messageRelease (tag : BitVec 16) (s : State) : exec (.messageRelease tag) s = execMessageRelease tag s := rfl
@[simp] theorem exec_rigAdmit (h : SvcHdr) (obj : ObjRef) (image : RigImage) (s : State) : exec (.rigAdmit h obj image) s = execRigAdmit h obj image s := rfl
@[simp] theorem exec_quiesceDrained (dom : BitVec 12) (s : State) : exec (.quiesceDrained dom) s = execQuiesceDrained dom s := rfl
@[simp] theorem exec_quiesceTimeout (dom : BitVec 12) (s : State) : exec (.quiesceTimeout dom) s = execQuiesceTimeout dom s := rfl
@[simp] theorem exec_rigRetire (h : SvcHdr) (domain : BitVec 16) (s : State) : exec (.rigRetire h domain) s = execRigRetire h domain s := rfl
@[simp] theorem exec_portEnable (p : Fin 64) (on : Bool) (s : State) : exec (.portEnable p on) s = execPortEnable p on s := rfl
@[simp] theorem exec_portConfigChange (p : Fin 64) (field : Fin 5) (v : BitVec 16) (s : State) : exec (.portConfigChange p field v) s = execPortConfigChange p field v s := rfl
@[simp] theorem exec_anComplete (p : Fin 64) (partner : BitVec 9) (partnerFec : Bool) (s : State) : exec (.anComplete p partner partnerFec) s = execAnComplete p partner partnerFec s := rfl
@[simp] theorem exec_trainingDone (p : Fin 64) (s : State) : exec (.trainingDone p) s = execTrainingDone p s := rfl
@[simp] theorem exec_trainingTimeout (p : Fin 64) (s : State) : exec (.trainingTimeout p) s = execTrainingTimeout p s := rfl
@[simp] theorem exec_anRestart (p : Fin 64) (s : State) : exec (.anRestart p) s = execAnRestart p s := rfl
@[simp] theorem exec_blockLock (p : Fin 64) (gained : Bool) (mid : Bool) (s : State) : exec (.blockLock p gained mid) s = execBlockLock p gained mid s := rfl
@[simp] theorem exec_amCandidate (p : Fin 64) (lane : Fin 8) (pos : BitVec 64) (s : State) : exec (.amCandidate p lane pos) s = execAmCandidate p lane pos s := rfl
@[simp] theorem exec_amConfirm (p : Fin 64) (lane : Fin 8) (ok : Bool) (skewOk : Bool) (s : State) : exec (.amConfirm p lane ok skewOk) s = execAmConfirm p lane ok skewOk s := rfl
@[simp] theorem exec_amMiss (p : Fin 64) (lane : Fin 8) (k : BitVec 64) (mid : Bool) (s : State) : exec (.amMiss p lane k mid) s = execAmMiss p lane k mid s := rfl
@[simp] theorem exec_linkDownTimeout (p : Fin 64) (s : State) : exec (.linkDownTimeout p) s = execLinkDownTimeout p s := rfl
@[simp] theorem exec_fecWindow (p : Fin 64) (codewords : BitVec 32) (corrected : BitVec 32) (uncorrected : BitVec 32) (symbols : BitVec 32) (mid : Bool) (s : State) : exec (.fecWindow p codewords corrected uncorrected symbols mid) s = execFecWindow p codewords corrected uncorrected symbols mid s := rfl
@[simp] theorem exec_frameReceive (p : Fin 64) (f : RxFrame) (s : State) : exec (.frameReceive p f) s = execFrameReceive p f s := rfl
@[simp] theorem exec_frameTransmit (p : Fin 64) (frame : Bytes) (s : State) : exec (.frameTransmit p frame) s = execFrameTransmit p frame s := rfl
@[simp] theorem exec_rxscSet (h : SvcHdr) (port : BitVec 8) (rxsc : BitVec 8) (window : BitVec 32) (sci : BitVec 64) (s : State) : exec (.rxscSet h port rxsc window sci) s = execRxscSet h port rxsc window sci s := rfl
@[simp] theorem exec_saCreate (h : SvcHdr) (port : BitVec 8) (dir : BitVec 8) (rxsc : BitVec 8) (an : BitVec 8) (key : BitVec 32) (ssci : BitVec 32) (pn : BitVec 64) (salt : Bytes) (s : State) : exec (.saCreate h port dir rxsc an key ssci pn salt) s = execSaCreate h port dir rxsc an key ssci pn salt s := rfl
@[simp] theorem exec_saEnable (h : SvcHdr) (port : BitVec 8) (dir : BitVec 8) (rxsc : BitVec 8) (an : BitVec 8) (s : State) : exec (.saEnable h port dir rxsc an) s = execSaEnable h port dir rxsc an s := rfl
@[simp] theorem exec_txArm (h : SvcHdr) (port : BitVec 8) (an : BitVec 8) (s : State) : exec (.txArm h port an) s = execTxArm h port an s := rfl
@[simp] theorem exec_saDelete (h : SvcHdr) (port : BitVec 8) (dir : BitVec 8) (rxsc : BitVec 8) (an : BitVec 8) (s : State) : exec (.saDelete h port dir rxsc an) s = execSaDelete h port dir rxsc an s := rfl
@[simp] theorem exec_macsecEnableWrite (p : Fin 64) (v : BitVec 8) (s : State) : exec (.macsecEnableWrite p v) s = execMacsecEnableWrite p v s := rfl
@[simp] theorem exec_saKeyResolveTimeout (p : Fin 64) (tx : Bool) (ix : Fin 64) (s : State) : exec (.saKeyResolveTimeout p tx ix) s = execSaKeyResolveTimeout p tx ix s := rfl
@[simp] theorem exec_neighbourRetry (p : Fin 64) (addr : Bytes) (s : State) : exec (.neighbourRetry p addr) s = execNeighbourRetry p addr s := rfl
@[simp] theorem exec_neighbourTimeout (p : Fin 64) (addr : Bytes) (s : State) : exec (.neighbourTimeout p addr) s = execNeighbourTimeout p addr s := rfl
@[simp] theorem exec_neighbourLapse (p : Fin 64) (addr : Bytes) (s : State) : exec (.neighbourLapse p addr) s = execNeighbourLapse p addr s := rfl
@[simp] theorem exec_heldMessageAdmit  (s : State) : exec (.heldMessageAdmit) s = execHeldMessageAdmit s := rfl
@[simp] theorem exec_tcpRetransmitTimeout (c : Fin 32768) (s : State) : exec (.tcpRetransmitTimeout c) s = execTcpRetransmitTimeout c s := rfl
@[simp] theorem exec_tcpKeepalive (c : Fin 32768) (s : State) : exec (.tcpKeepalive c) s = execTcpKeepalive c s := rfl
@[simp] theorem exec_timeWaitExpire (c : Fin 32768) (s : State) : exec (.timeWaitExpire c) s = execTimeWaitExpire c s := rfl
@[simp] theorem exec_halfOpenLapse (c : Fin 32768) (s : State) : exec (.halfOpenLapse c) s = execHalfOpenLapse c s := rfl
@[simp] theorem exec_routeReconnect (r : Fin 4096) (s : State) : exec (.routeReconnect r) s = execRouteReconnect r s := rfl
@[simp] theorem exec_routeWrite (r : Fin 4096) (b : Bytes) (s : State) : exec (.routeWrite r b) s = execRouteWrite r b s := rfl
@[simp] theorem exec_listenerEnable (n : Fin 224) (on : Bool) (s : State) : exec (.listenerEnable n on) s = execListenerEnable n on s := rfl
@[simp] theorem exec_listenerCloseTimeout (n : Fin 224) (s : State) : exec (.listenerCloseTimeout n) s = execListenerCloseTimeout n s := rfl
@[simp] theorem exec_sendBufferTimeout (c : Fin 32768) (s : State) : exec (.sendBufferTimeout c) s = execSendBufferTimeout c s := rfl
@[simp] theorem exec_sqTailWrite (fn : BitVec 12) (slot : BitVec 12) (v : BitVec 32) (s : State) : exec (.sqTailWrite fn slot v) s = execSqTailWrite fn slot v s := rfl
@[simp] theorem exec_bqTailWrite (fn : BitVec 12) (slot : BitVec 12) (v : BitVec 32) (s : State) : exec (.bqTailWrite fn slot v) s = execBqTailWrite fn slot v s := rfl
@[simp] theorem exec_dqHeadWrite (fn : BitVec 12) (slot : BitVec 12) (v : BitVec 32) (s : State) : exec (.dqHeadWrite fn slot v) s = execDqHeadWrite fn slot v s := rfl
@[simp] theorem exec_delivery (c : Nat) (bufs : ReadResult) (s : State) : exec (.delivery c bufs) s = execDelivery c bufs s := rfl
@[simp] theorem exec_deliveryTimeout (c : Nat) (s : State) : exec (.deliveryTimeout c) s = execDeliveryTimeout c s := rfl
@[simp] theorem exec_negotiate (fn : BitVec 12) (seq : BitVec 32) (versions : BitVec 32) (s : State) : exec (.negotiate fn seq versions) s = execNegotiate fn seq versions s := rfl
@[simp] theorem exec_channelOpen (fn : BitVec 12) (seq : BitVec 32) (slot : BitVec 16) (share : BitVec 16) (dom : BitVec 16) (resv : BitVec 16) (kib : BitVec 32) (s : State) : exec (.channelOpen fn seq slot share dom resv kib) s = execChannelOpen fn seq slot share dom resv kib s := rfl
@[simp] theorem exec_channelClose (fn : BitVec 12) (seq : BitVec 32) (handle : BitVec 32) (s : State) : exec (.channelClose fn seq handle) s = execChannelClose fn seq handle s := rfl
@[simp] theorem exec_channelCloseSquash (c : BitVec 16) (s : State) : exec (.channelCloseSquash c) s = execChannelCloseSquash c s := rfl
@[simp] theorem exec_redeliver (fn : BitVec 12) (seq : BitVec 32) (handle : BitVec 32) (first : BitVec 32) (count : BitVec 16) (flags : BitVec 16) (dest : BitVec 64) (s : State) : exec (.redeliver fn seq handle first count flags dest) s = execRedeliver fn seq handle first count flags dest s := rfl
@[simp] theorem exec_mailboxJob (fn : BitVec 12) (seq : BitVec 32) (desc : Bytes) (input : ReadResult) (s : State) : exec (.mailboxJob fn seq desc input) s = execMailboxJob fn seq desc input s := rfl
@[simp] theorem exec_flr (fn : BitVec 12) (s : State) : exec (.flr fn) s = execFlr fn s := rfl
@[simp] theorem exec_flrSquash (kind : Fin 4) (origin : BitVec 12) (s : State) : exec (.flrSquash kind origin) s = execFlrSquash kind origin s := rfl
@[simp] theorem exec_flrClose (kind : Fin 4) (origin : BitVec 12) (s : State) : exec (.flrClose kind origin) s = execFlrClose kind origin s := rfl
@[simp] theorem exec_flrDone (kind : Fin 4) (origin : BitVec 12) (s : State) : exec (.flrDone kind origin) s = execFlrDone kind origin s := rfl
@[simp] theorem exec_vfEnableChange (pf : Fin 4) (n : BitVec 11) (s : State) : exec (.vfEnableChange pf n) s = execVfEnableChange pf n s := rfl
@[simp] theorem exec_hostLinkDown (half : Fin 4) (s : State) : exec (.hostLinkDown half) s = execHostLinkDown half s := rfl
@[simp] theorem exec_msixCoalTimer (fn : BitVec 12) (slot : BitVec 12) (delivery : Bool) (s : State) : exec (.msixCoalTimer fn slot delivery) s = execMsixCoalTimer fn slot delivery s := rfl
@[simp] theorem exec_msixUnmask (fn : BitVec 12) (vec : BitVec 11) (s : State) : exec (.msixUnmask fn vec) s = execMsixUnmask fn vec s := rfl
@[simp] theorem exec_badAccessRead (at_ : BarRead) (s : State) :
    exec (.badAccessRead at_) s = execBadAccessRead at_ s := rfl
@[simp] theorem exec_registerWrite (fn : BitVec 12) (off : BitVec 23) (data : Bytes) (poisoned : Bool) (s : State) : exec (.registerWrite fn off data poisoned) s = execRegisterWrite fn off data poisoned s := rfl
@[simp] theorem exec_serviceInfo (h : SvcHdr) (s : State) : exec (.serviceInfo h) s = execServiceInfo h s := rfl
@[simp] theorem exec_domainCreate (h : SvcHdr) (domain : BitVec 16) (s : State) : exec (.domainCreate h domain) s = execDomainCreate h domain s := rfl
@[simp] theorem exec_domainDelete (h : SvcHdr) (domain : BitVec 16) (s : State) : exec (.domainDelete h domain) s = execDomainDelete h domain s := rfl
@[simp] theorem exec_officerEnrol (h : SvcHdr) (slot : BitVec 8) (pinLen : BitVec 8) (pin : Bytes) (obj : ObjRef) (record : OfficerRec) (card : CardReply) (s : State) : exec (.officerEnrol h slot pinLen pin obj record card) s = execOfficerEnrol h slot pinLen pin obj record card s := rfl
@[simp] theorem exec_officerRevoke (h : SvcHdr) (officer : BitVec 16) (s : State) : exec (.officerRevoke h officer) s = execOfficerRevoke h officer s := rfl
@[simp] theorem exec_officerLogin (h : SvcHdr) (slot : BitVec 8) (pinLen : BitVec 8) (officer : BitVec 16) (pin : Bytes) (card : CardReply) (s : State) : exec (.officerLogin h slot pinLen officer pin card) s = execOfficerLogin h slot pinLen officer pin card s := rfl
@[simp] theorem exec_officerLogout (h : SvcHdr) (officer : BitVec 16) (s : State) : exec (.officerLogout h officer) s = execOfficerLogout h officer s := rfl
@[simp] theorem exec_loginIdleExpire (slot : Fin 2) (s : State) : exec (.loginIdleExpire slot) s = execLoginIdleExpire slot s := rfl
@[simp] theorem exec_sessionOpen (h : SvcHdr) (req : SvcReq) (s : State) : exec (.sessionOpen h req) s = execSessionOpen h req s := rfl
@[simp] theorem exec_sessionAuthorise (h : SvcHdr) (slot : BitVec 8) (resv : BitVec 24) (card : CardReply) (s : State) : exec (.sessionAuthorise h slot resv card) s = execSessionAuthorise h slot resv card s := rfl
@[simp] theorem exec_sessionCancel (h : SvcHdr) (s : State) : exec (.sessionCancel h) s = execSessionCancel h s := rfl
@[simp] theorem exec_sessionStatus (h : SvcHdr) (s : State) : exec (.sessionStatus h) s = execSessionStatus h s := rfl
@[simp] theorem exec_sessionExpire (session : BitVec 32) (s : State) : exec (.sessionExpire session) s = execSessionExpire session s := rfl
@[simp] theorem exec_fwStage (h : SvcHdr) (obj : ObjRef) (image : FwImage) (s : State) : exec (.fwStage h obj image) s = execFwStage h obj image s := rfl
@[simp] theorem exec_deviceReset (h : SvcHdr) (s : State) : exec (.deviceReset h) s = execDeviceReset h s := rfl
@[simp] theorem exec_hobbleUnlock (h : SvcHdr) (s : State) : exec (.hobbleUnlock h) s = execHobbleUnlock h s := rfl
@[simp] theorem exec_dictWrite (h : SvcHdr) (index : BitVec 16) (sub : BitVec 8) (tcode : BitVec 8) (obj : ObjRef) (given : Bytes) (s : State) : exec (.dictWrite h index sub tcode obj given) s = execDictWrite h index sub tcode obj given s := rfl
@[simp] theorem exec_wdKick (v : BitVec 32) (s : State) : exec (.wdKick v) s = execWdKick v s := rfl
@[simp] theorem exec_watchdogExpire  (s : State) : exec (.watchdogExpire) s = execWatchdogExpire s := rfl
@[simp] theorem exec_clusterRebootDone  (s : State) : exec (.clusterRebootDone) s = execClusterRebootDone s := rfl
@[simp] theorem exec_hello (h : MalHdr) (offer : BitVec 8) (hflags : BitVec 8) (maxp : BitVec 16) (s : State) : exec (.hello h offer hflags maxp) s = execHello h offer hflags maxp s := rfl
@[simp] theorem exec_read (h : MalHdr) (index : BitVec 16) (sub : BitVec 8) (resv : BitVec 8) (s : State) : exec (.read h index sub resv) s = execRead h index sub resv s := rfl
@[simp] theorem exec_write (h : MalHdr) (index : BitVec 16) (sub : BitVec 8) (tcode : BitVec 8) (vlenOk : Bool) (value : Bytes) (s : State) : exec (.write h index sub tcode vlenOk value) s = execWrite h index sub tcode vlenOk value s := rfl
@[simp] theorem exec_segInit (h : MalHdr) (xdir : BitVec 8) (resv : BitVec 8) (index : BitVec 16) (sub : BitVec 8) (tcode : BitVec 8) (total : BitVec 32) (s : State) : exec (.segInit h xdir resv index sub tcode total) s = execSegInit h xdir resv index sub tcode total s := rfl
@[simp] theorem exec_segData (h : MalHdr) (xfer : BitVec 8) (resv : BitVec 8) (offset : BitVec 32) (data : Bytes) (s : State) : exec (.segData h xfer resv offset data) s = execSegData h xfer resv offset data s := rfl
@[simp] theorem exec_segAck (h : MalHdr) (xfer : BitVec 8) (resv : BitVec 8) (next : BitVec 32) (s : State) : exec (.segAck h xfer resv next) s = execSegAck h xfer resv next s := rfl
@[simp] theorem exec_segAbort (h : MalHdr) (xfer : BitVec 8) (status : BitVec 8) (s : State) : exec (.segAbort h xfer status) s = execSegAbort h xfer status s := rfl
@[simp] theorem exec_segAckTimeout (assoc : Fin 52) (xfer : BitVec 8) (s : State) : exec (.segAckTimeout assoc xfer) s = execSegAckTimeout assoc xfer s := rfl
@[simp] theorem exec_segProgressTimeout (assoc : Fin 52) (xfer : BitVec 8) (s : State) : exec (.segProgressTimeout assoc xfer) s = execSegProgressTimeout assoc xfer s := rfl
@[simp] theorem exec_stagingExpire (assoc : Fin 52) (xfer : BitVec 8) (s : State) : exec (.stagingExpire assoc xfer) s = execStagingExpire assoc xfer s := rfl
@[simp] theorem exec_heartbeat (can : Bool) (s : State) : exec (.heartbeat can) s = execHeartbeat can s := rfl
@[simp] theorem exec_assocIdleExpire (assoc : Fin 52) (s : State) : exec (.assocIdleExpire assoc) s = execAssocIdleExpire assoc s := rfl
@[simp] theorem exec_canErrorFrame (tx : Bool) (s : State) : exec (.canErrorFrame tx) s = execCanErrorFrame tx s := rfl
@[simp] theorem exec_canFrameAbandon  (s : State) : exec (.canFrameAbandon) s = execCanFrameAbandon s := rfl
@[simp] theorem exec_canBusoff  (s : State) : exec (.canBusoff) s = execCanBusoff s := rfl
@[simp] theorem exec_busoffRecovery  (s : State) : exec (.busoffRecovery) s = execBusoffRecovery s := rfl
@[simp] theorem exec_busoffAuto (on : Bool) (s : State) : exec (.busoffAuto on) s = execBusoffAuto on s := rfl
@[simp] theorem exec_canTimingWrite (data : Bool) (v : BitVec 32) (s : State) : exec (.canTimingWrite data v) s = execCanTimingWrite data v s := rfl
@[simp] theorem exec_sdCardDetect (card : SdCard) (s : State) : exec (.sdCardDetect card) s = execSdCardDetect card s := rfl
@[simp] theorem exec_sdRetune (run : Fin 64) (mid : Fin 64) (s : State) : exec (.sdRetune run mid) s = execSdRetune run mid s := rfl
@[simp] theorem exec_sdCardRemove  (s : State) : exec (.sdCardRemove) s = execSdCardRemove s := rfl
@[simp] theorem exec_sdUnlock (pwd : Bytes) (s : State) : exec (.sdUnlock pwd) s = execSdUnlock pwd s := rfl
@[simp] theorem exec_sdSetPwd (value : Bytes) (s : State) : exec (.sdSetPwd value) s = execSdSetPwd value s := rfl
@[simp] theorem exec_sdForceErase (on : Bool) (s : State) : exec (.sdForceErase on) s = execSdForceErase on s := rfl
@[simp] theorem exec_sdEraseDone  (s : State) : exec (.sdEraseDone) s = execSdEraseDone s := rfl
@[simp] theorem exec_iccCardInsert (slot : Fin 2) (s : State) : exec (.iccCardInsert slot) s = execIccCardInsert slot s := rfl
@[simp] theorem exec_iccAtr (slot : Fin 2) (atr : Bytes) (s : State) : exec (.iccAtr slot atr) s = execIccAtr slot atr s := rfl
@[simp] theorem exec_iccAtrTimeout (slot : Fin 2) (s : State) : exec (.iccAtrTimeout slot) s = execIccAtrTimeout slot s := rfl
@[simp] theorem exec_iccPpsResponse (slot : Fin 2) (echo : Bool) (s : State) : exec (.iccPpsResponse slot echo) s = execIccPpsResponse slot echo s := rfl
@[simp] theorem exec_iccBlockError (slot : Fin 2) (s : State) : exec (.iccBlockError slot) s = execIccBlockError slot s := rfl
@[simp] theorem exec_iccCardRemove (slot : Fin 2) (s : State) : exec (.iccCardRemove slot) s = execIccCardRemove slot s := rfl
@[simp] theorem exec_pincfgWrite (n : Fin 16) (v : BitVec 32) (busy : Bool) (s : State) : exec (.pincfgWrite n v busy) s = execPincfgWrite n v busy s := rfl
@[simp] theorem exec_pinSwitchWindowClose (n : Fin 16) (s : State) : exec (.pinSwitchWindowClose n) s = execPinSwitchWindowClose n s := rfl
@[simp] theorem exec_timeCapture  (s : State) : exec (.timeCapture) s = execTimeCapture s := rfl
@[simp] theorem exec_pinAbortsRead (full : Bool) (s : State) : exec (.pinAbortsRead full) s = execPinAbortsRead full s := rfl
@[simp] theorem exec_entropyTestFail (k : Fin 8) (adaptive : Bool) (s : State) : exec (.entropyTestFail k adaptive) s = execEntropyTestFail k adaptive s := rfl
@[simp] theorem exec_sourceRestart (k : Fin 8) (s : State) : exec (.sourceRestart k) s = execSourceRestart k s := rfl
@[simp] theorem exec_sourceRejoin (k : Fin 8) (s : State) : exec (.sourceRejoin k) s = execSourceRejoin k s := rfl
@[simp] theorem exec_blockComplete  (s : State) : exec (.blockComplete) s = execBlockComplete s := rfl
@[simp] theorem exec_blockRelease  (s : State) : exec (.blockRelease) s = execBlockRelease s := rfl
@[simp] theorem exec_reseed  (s : State) : exec (.reseed) s = execReseed s := rfl
@[simp] theorem exec_reseedInterval (ix : Fin 4096) (s : State) : exec (.reseedInterval ix) s = execReseedInterval ix s := rfl
@[simp] theorem exec_reseedWaitTimeout (ix : Fin 4096) (s : State) : exec (.reseedWaitTimeout ix) s = execReseedWaitTimeout ix s := rfl
@[simp] theorem exec_generateCall (ix : Fin 4096) (s : State) : exec (.generateCall ix) s = execGenerateCall ix s := rfl
@[simp] theorem exec_drbgKat (k : Fin 4) (s : State) : exec (.drbgKat k) s = execDrbgKat k s := rfl
@[simp] theorem exec_drbgKatDone (k : Fin 4) (pass : Bool) (s : State) : exec (.drbgKatDone k pass) s = execDrbgKatDone k pass s := rfl
@[simp] theorem exec_rngDataRead (cu : Fin 4) (off : Fin 8) (n : Fin 9) (s : State) : exec (.rngDataRead cu off n) s = execRngDataRead cu off n s := rfl
@[simp] theorem exec_rngCtlReseed (cu : Fin 4) (v : BitVec 32) (s : State) : exec (.rngCtlReseed cu v) s = execRngCtlReseed cu v s := rfl
@[simp] theorem exec_cvStart (k : Fin 16) (v : BitVec 32) (s : State) : exec (.cvStart k v) s = execCvStart k v s := rfl
@[simp] theorem exec_cvData (k : Fin 16) (b : Bytes) (s : State) : exec (.cvData k b) s = execCvData k b s := rfl
@[simp] theorem exec_cvCtlWrite (k : Fin 16) (v : BitVec 32) (s : State) : exec (.cvCtlWrite k v) s = execCvCtlWrite k v s := rfl
@[simp] theorem exec_transferCheck (engine : BitVec 16) (addr : BitVec 40) (len : BitVec 32) (s : State) : exec (.transferCheck engine addr len) s = execTransferCheck engine addr len s := rfl
@[simp] theorem exec_auditEvent  (s : State) : exec (.auditEvent) s = execAuditEvent s := rfl
@[simp] theorem exec_auditMergeWindowClose  (s : State) : exec (.auditMergeWindowClose) s = execAuditMergeWindowClose s := rfl
@[simp] theorem exec_stormRecordClose  (s : State) : exec (.stormRecordClose) s = execStormRecordClose s := rfl
@[simp] theorem exec_stormTimeout  (s : State) : exec (.stormTimeout) s = execStormTimeout s := rfl
@[simp] theorem exec_auditPageClose  (s : State) : exec (.auditPageClose) s = execAuditPageClose s := rfl
@[simp] theorem exec_auditPageDurable  (s : State) : exec (.auditPageDurable) s = execAuditPageDurable s := rfl
@[simp] theorem exec_cursor (assoc : Fin 52) (v : BitVec 64) (s : State) : exec (.cursor assoc v) s = execCursor assoc v s := rfl
@[simp] theorem exec_batch (assoc : Fin 52) (s : State) : exec (.batch assoc) s = execBatch assoc s := rfl
@[simp] theorem exec_fcursor (assoc : Fin 52) (v : BitVec 16) (s : State) : exec (.fcursor assoc v) s = execFcursor assoc v s := rfl
@[simp] theorem exec_fbatch (assoc : Fin 52) (s : State) : exec (.fbatch assoc) s = execFbatch assoc s := rfl
@[simp] theorem exec_faultAck (seq : BitVec 64) (s : State) : exec (.faultAck seq) s = execFaultAck seq s := rfl
@[simp] theorem exec_fnTailWrite (v : BitVec 32) (s : State) : exec (.fnTailWrite v) s = execFnTailWrite v s := rfl
@[simp] theorem exec_fnOverRead (full : Bool) (s : State) : exec (.fnOverRead full) s = execFnOverRead full s := rfl
@[simp] theorem exec_detectorAssert (monitor : BitVec 8) (det : Fin 2) (item : BitVec 8) (value : BitVec 32) (limit : BitVec 32) (s : State) : exec (.detectorAssert monitor det item value limit) s = execDetectorAssert monitor det item value limit s := rfl
@[simp] theorem exec_detectorDisagreeTimeout  (s : State) : exec (.detectorDisagreeTimeout) s = execDetectorDisagreeTimeout s := rfl
@[simp] theorem exec_detectorSelfCheck (monitor : BitVec 8) (det : Fin 2) (pass : Bool) (inside : Bool) (s : State) : exec (.detectorSelfCheck monitor det pass inside) s = execDetectorSelfCheck monitor det pass inside s := rfl
@[simp] theorem exec_shadowMismatch (cls : Fin 7) (unit : BitVec 16) (offset : BitVec 32) (latch : Fin 3) (s : State) : exec (.shadowMismatch cls unit offset latch) s = execShadowMismatch cls unit offset latch s := rfl
@[simp] theorem exec_vbatThreshold (mv : BitVec 16) (s : State) : exec (.vbatThreshold mv) s = execVbatThreshold mv s := rfl
@[simp] theorem exec_extLoopEnable (on : Bool) (s : State) : exec (.extLoopEnable on) s = execExtLoopEnable on s := rfl
@[simp] theorem exec_extLoopEffect  (s : State) : exec (.extLoopEffect) s = execExtLoopEffect s := rfl
@[simp] theorem exec_lcRequest (target : BitVec 8) (hd : Bool) (s : State) : exec (.lcRequest target hd) s = execLcRequest target hd s := rfl
@[simp] theorem exec_token (value : BitVec 256) (s : State) : exec (.token value) s = execToken value s := rfl
@[simp] theorem exec_tokenClose  (s : State) : exec (.tokenClose) s = execTokenClose s := rfl
@[simp] theorem exec_dbgChal (isTarget : Bool) (code : BitVec 8) (domain : BitVec 16) (s : State) : exec (.dbgChal isTarget code domain) s = execDbgChal isTarget code domain s := rfl
@[simp] theorem exec_dbgResp (mldsaOk : Bool) (ecdsaOk : Bool) (s : State) : exec (.dbgResp mldsaOk ecdsaOk) s = execDbgResp mldsaOk ecdsaOk s := rfl
@[simp] theorem exec_debugConsent (level : BitVec 8) (domain : BitVec 16) (duration : BitVec 32) (s : State) : exec (.debugConsent level domain duration) s = execDebugConsent level domain duration s := rfl
@[simp] theorem exec_debugGrantExpire  (s : State) : exec (.debugGrantExpire) s = execDebugGrantExpire s := rfl
@[simp] theorem exec_calSet (set : Bytes) (s : State) : exec (.calSet set) s = execCalSet set s := rfl
@[simp] theorem exec_gaitRequest (v : BitVec 8) (s : State) : exec (.gaitRequest v) s = execGaitRequest v s := rfl
@[simp] theorem exec_walkIdleGate (string : Fin 32) (s : State) : exec (.walkIdleGate string) s = execWalkIdleGate string s := rfl
@[simp] theorem exec_stringWakeDone (string : Fin 32) (s : State) : exec (.stringWakeDone string) s = execStringWakeDone string s := rfl
@[simp] theorem exec_reefStepUp (tj : BitVec 32) (amps : BitVec 16) (peak : BitVec 16) (excursion : Bool) (s : State) : exec (.reefStepUp tj amps peak excursion) s = execReefStepUp tj amps peak excursion s := rfl
@[simp] theorem exec_reefStepDown (tj : BitVec 32) (amps : BitVec 16) (s : State) : exec (.reefStepDown tj amps) s = execReefStepDown tj amps s := rfl
@[simp] theorem exec_overtempPowerOff (sensor : BitVec 8) (temp : BitVec 32) (s : State) : exec (.overtempPowerOff sensor temp) s = execOvertempPowerOff sensor temp s := rfl
@[simp] theorem exec_pwrKillRelease (temp : BitVec 32) (s : State) : exec (.pwrKillRelease temp) s = execPwrKillRelease temp s := rfl
@[simp] theorem exec_pmbusFault  (s : State) : exec (.pmbusFault) s = execPmbusFault s := rfl
@[simp] theorem exec_gallopWearTick  (s : State) : exec (.gallopWearTick) s = execGallopWearTick s := rfl
@[simp] theorem exec_gallopCountSave  (s : State) : exec (.gallopCountSave) s = execGallopCountSave s := rfl
@[simp] theorem exec_standbyEntryDone  (s : State) : exec (.standbyEntryDone) s = execStandbyEntryDone s := rfl
@[simp] theorem exec_wakeN  (s : State) : exec (.wakeN) s = execWakeN s := rfl
@[simp] theorem exec_powerOnReset (rails : Bool) (s : State) : exec (.powerOnReset rails) s = execPowerOnReset rails s := rfl
@[simp] theorem exec_warmReset  (s : State) : exec (.warmReset) s = execWarmReset s := rfl
@[simp] theorem exec_jtagReset  (s : State) : exec (.jtagReset) s = execJtagReset s := rfl
@[simp] theorem exec_hostLinkUp (half : Fin 4) (rate : Fin 6) (w : Fin 5) (flit : Bool) (s : State) : exec (.hostLinkUp half rate w flit) s = execHostLinkUp half rate w flit s := rfl
@[simp] theorem exec_mgtLinkChange (up : Bool) (s : State) : exec (.mgtLinkChange up) s = execMgtLinkChange up s := rfl
@[simp] theorem exec_corrEntryExpire  (s : State) : exec (.corrEntryExpire) s = execCorrEntryExpire s := rfl
@[simp] theorem exec_cresetsExpire  (s : State) : exec (.cresetsExpire) s = execCresetsExpire s := rfl
@[simp] theorem exec_pctlWrite (p : Fin 512) (v : BitVec 32) (s : State) : exec (.pctlWrite p v) s = execPctlWrite p v s := rfl
@[simp] theorem exec_standbySetWrite (p : Fin 512) (word : Fin 68) (v : BitVec 32) (s : State) : exec (.standbySetWrite p word v) s = execStandbySetWrite p word v s := rfl
@[simp] theorem exec_iccBlockReceive (slot : Fin 2) (wtx : Option (BitVec 16)) (len : BitVec 8) (more : Bool) (s : State) : exec (.iccBlockReceive slot wtx len more) s = execIccBlockReceive slot wtx len more s := rfl
@[simp] theorem exec_rngStatWrite (cu : Fin 4) (v : BitVec 32) (s : State) : exec (.rngStatWrite cu v) s = execRngStatWrite cu v s := rfl

end Sys2Proof.Machine
end

