-- ==== Sys2Proof/Laws/Journal.lean ====
section
/-! SUPPORT. The sizes of journal records and pages, and the commit marker (R87, R88): what recovery and the free space count
rely on. -/

namespace Sys2Proof.Laws

open Sys2Proof Sys2Proof.Machine

theorem length_le : ∀ n v, (le n v).length = n
  | 0, _ => rfl
  | n + 1, v => by simp [le, length_le n]

theorem length_padTo (n : Nat) (b : Bytes) : (padTo n b).length = n := by
  simp [padTo, zeros]; omega

theorem jrecSize_ge (b : JBody) : 16 ≤ jrecSize b := by unfold jrecSize; omega

/-- A record takes exactly the bytes that its LENGTH field gives (R88). -/
theorem length_jrecBytes (r : JRec) : (jrecBytes r).length = jrecSize r.body := by
  have := jrecSize_ge r.body
  simp only [jrecBytes, List.length_append, length_le, length_padTo]; omega

theorem length_pageBody (p : JPage) : (pageBody p).length = 0x3FF8 := by
  simp [pageBody, length_le, length_padTo, zeros]

/-- A page takes 16 KiB (R87). -/
theorem length_pageBytes (p : JPage) : (pageBytes p).length = 16384 := by
  simp [pageBytes, length_pageBody, length_le]

theorem leVal_le (n : Nat) : ∀ v, v < 2 ^ (8 * n) → leVal (le n v) = v := by
  induction n with
  | zero => intro v h; simp at h; subst h; rfl
  | succ n ih =>
    intro v h
    have h2 : v / 256 < 2 ^ (8 * n) := by
      rw [Nat.div_lt_iff_lt_mul (by decide)]
      calc v < 2 ^ (8 * (n + 1)) := h
        _ = 2 ^ (8 * n) * 256 := by rw [show 8 * (n + 1) = 8 * n + 8 by omega, Nat.pow_add]
    simp only [le, leVal, ih _ h2, BitVec.toNat_ofNat]
    omega

/-- Reading what stands behind the first `o` bytes. -/
theorem slice_at {a b : Bytes} {o : Nat} (h : a.length = o) (n : Nat) : slice (a ++ b) o n = b.take n := by
  subst h; simp [slice]

/-- Of bytes that begin with `n` more, the first `n`. -/
theorem take_left {a : Bytes} {n : Nat} (h : a.length = n) (b : Bytes) : (a ++ b).take n = a := by
  subst h; simp

/-- PAGESEQ and its copy in the commit marker (R87). -/
theorem pageBytes_seq (p : JPage) : slice (pageBytes p) 0x3FF0 8 = le 8 p.pageSeq ∧ slice (pageBytes p) 8 8 = le 8 p.pageSeq := by
  constructor
  · simp only [pageBytes, pageBody]
    rw [List.append_assoc, List.append_assoc, slice_at (by simp [length_le, length_padTo, zeros]),
      take_left (length_le 8 _)]
  · simp only [pageBytes, pageBody]
    rw [List.append_assoc, List.append_assoc, List.append_assoc, List.append_assoc, List.append_assoc, List.append_assoc,
      List.append_assoc, slice_at (by simp [length_le]), take_left (length_le 8 _)]

/-- A page as it is programmed carries a commit marker that verifies (R87, R90). -/
theorem markVerifies_pageBytes (p : JPage) (h : crc32c (pageBody p) < 2 ^ 32) : markVerifies (pageBytes p) = true := by
  have crc : slice (pageBytes p) 0x3FF8 4 = le 4 (crc32c (pageBody p)) := by
    rw [pageBytes, List.append_assoc, slice_at (length_pageBody p), take_left (length_le 4 _)]
  have mark : slice (pageBytes p) 0x3FFC 4 = le 4 0xC0A1E5CE := by
    rw [pageBytes, slice_at (by simp [length_pageBody, length_le]), List.take_of_length_le (by simp [length_le])]
  have body : (pageBytes p).take 0x3FF8 = pageBody p := by
    rw [pageBytes, List.append_assoc, take_left (length_pageBody p)]
  simp [markVerifies, leAt, crc, mark, body, pageBytes_seq p, leVal_le 4 _ h, leVal_le 4 0xC0A1E5CE (by decide)]

end Sys2Proof.Laws
end

