-- ==== Sys2Proof/Laws/Keys.lean ====
section
/-! SUPPORT. What queueing a journal record, and waiting for one, do to the key store: once, for every change of a key (R87-R90). -/

set_option linter.unusedVariables false

namespace Sys2Proof.Machine

open Sys2Proof

/-- A record takes the next sequence and stands in the last page of the journal; of the key store only the journal and its two
counters change, and nothing else of the device. -/
theorem queueRec_spec (idx : Nat) (b : JBody) (d : Dev) :
    (queueRec idx b d).1 = d.ks.nextSeq ∧
    ∃ journal np, (queueRec idx b d).2 = { d with ks := { d.ks with
      journal := journal, nextSeq := d.ks.nextSeq + 1, nextPage := np } } ∧
      ∃ p ∈ journal, { idx := idx, seq := d.ks.nextSeq, body := b } ∈ p.recs := by
  refine ⟨rfl, ?_⟩
  cases hl : d.ks.journal.getLast? with
  | none =>
    refine ⟨_, _, by simp only [queueRec, hl]; rfl, _, List.mem_singleton.mpr rfl, by simp⟩
  | some p =>
    by_cases hf : (!p.closed && decide (jpageSize p + jrecSize b ≤ 16336)) = true
    · refine ⟨_, _, by simp only [queueRec, hl, hf, if_true]; rfl, ?_⟩
      exact ⟨_, List.mem_append_right _ (List.mem_singleton.mpr rfl), by simp⟩
    · refine ⟨_, _, by simp only [queueRec, hl, hf]; rfl, ?_⟩
      exact ⟨_, List.mem_append_right _ (List.mem_singleton.mpr rfl), by simp⟩

@[simp] theorem queueRec_seq (idx : Nat) (b : JBody) (d : Dev) : (queueRec idx b d).1 = d.ks.nextSeq := rfl

@[simp] theorem queueRec_keys (idx : Nat) (b : JBody) (d : Dev) : (queueRec idx b d).2.ks.keys = d.ks.keys := by
  obtain ⟨_, j, n, h, _⟩ := queueRec_spec idx b d; rw [h]

@[simp] theorem queueRec_gens (idx : Nat) (b : JBody) (d : Dev) : (queueRec idx b d).2.ks.gens = d.ks.gens := by
  obtain ⟨_, j, n, h, _⟩ := queueRec_spec idx b d; rw [h]

@[simp] theorem queueRec_invals (idx : Nat) (b : JBody) (d : Dev) : (queueRec idx b d).2.ks.invals = d.ks.invals := by
  obtain ⟨_, j, n, h, _⟩ := queueRec_spec idx b d; rw [h]

@[simp] theorem queueRec_waits (idx : Nat) (b : JBody) (d : Dev) : (queueRec idx b d).2.ks.waits = d.ks.waits := by
  obtain ⟨_, j, n, h, _⟩ := queueRec_spec idx b d; rw [h]

/-- The record queued stands in the journal. -/
theorem queueRec_mem (idx : Nat) (b : JBody) (d : Dev) :
    ∃ p ∈ (queueRec idx b d).2.ks.journal, { idx := idx, seq := d.ks.nextSeq, body := b } ∈ p.recs := by
  obtain ⟨_, j, n, h, hm⟩ := queueRec_spec idx b d; rw [h]; exact hm

/-- Waiting for a record changes the list of waits only. -/
@[simp] theorem waitFor_waits (seq : Nat) (k : WaitKind) (d : Dev) :
    (waitFor seq k d).ks.waits = d.ks.waits ++ [{ seq := seq, kind := k }] := rfl
@[simp] theorem waitFor_keys (seq : Nat) (k : WaitKind) (d : Dev) : (waitFor seq k d).ks.keys = d.ks.keys := rfl
@[simp] theorem waitFor_gens (seq : Nat) (k : WaitKind) (d : Dev) : (waitFor seq k d).ks.gens = d.ks.gens := rfl
@[simp] theorem waitFor_invals (seq : Nat) (k : WaitKind) (d : Dev) : (waitFor seq k d).ks.invals = d.ks.invals := rfl
@[simp] theorem waitFor_journal (seq : Nat) (k : WaitKind) (d : Dev) : (waitFor seq k d).ks.journal = d.ks.journal := rfl

end Sys2Proof.Machine
end

