-- ==== Sys2Proof/Laws/Lope.lean ====
section
/-! SUPPORT. What issuing a Lope instruction can do, one lemma per shared operation. -/

set_option linter.unusedVariables false

namespace Sys2Proof.Machine

open Sys2Proof

/-- At a boundary where nothing stops it, the instruction runs. -/
theorem atBoundary_run {s : State} {p : ProcId} {len : Nat} {run : Proc → Out} (h : Issues s p len) :
    atBoundary p len run s = run (procOf s.dev p.val) := by
  simp [atBoundary, h.1, h.2]

/-- What stops an instruction at its boundary is taken as a fault. -/
theorem atBoundary_fault {s : State} {p : ProcId} {len c a : Nat} {run : Proc → Out}
    (h : canIssue s.dev p.val (procOf s.dev p.val) = true)
    (hb : boundaryFault s.dev p.val (procOf s.dev p.val) len = some (c, a)) :
    atBoundary p len run s = .next { s with dev := takeFault p.val c a s.dev } := by
  simp [atBoundary, h, hb]

/-- Everything a boundary can do: nothing, a fault, or the instruction's own run. -/
theorem atBoundary_cases (p : ProcId) (len : Nat) (run : Proc → Out) (s : State) :
    atBoundary p len run s = .next s ∨
    (∃ c a, atBoundary p len run s = .next { s with dev := takeFault p.val c a s.dev }) ∨
    atBoundary p len run s = run (procOf s.dev p.val) := by
  unfold atBoundary
  simp only
  split
  · exact .inl rfl
  · split
    · exact .inr (.inl ⟨_, _, rfl⟩)
    · exact .inr (.inr rfl)

/-- An instruction whose own effect completes retires. -/
theorem issue_ok {s s' : State} {p : ProcId} {len cycles : Nat} {body : State → Proc → LRes (State × Proc)} {q : Proc}
    (h : Issues s p len) (hb : body s (procOf s.dev p.val) = .ok (s', q)) :
    issue p len cycles body s = .next (retired p len cycles q s') := by
  unfold issue
  rw [atBoundary_run h]
  simp [hb, retired]

/-- The same for an instruction that changes registers only. -/
theorem issueReg_ok {s : State} {p : ProcId} {len cycles : Nat} {body : Proc → LRes Proc} {q : Proc}
    (h : Issues s p len) (hb : body (procOf s.dev p.val) = .ok q) :
    issueReg p len cycles body s = .next (retired p len cycles q s) := by
  unfold issueReg
  exact issue_ok h (by simp [hb])

/-- A branch that completes continues at its target, or behind itself. -/
theorem issueJump_ok {s : State} {p : ProcId} {body : Proc → LRes (Proc × Nat × Option (BitVec 32))} {q : Proc}
    {cycles : Nat} {target : Option (BitVec 32)}
    (h : Issues s p) (hb : body (procOf s.dev p.val) = .ok (q, cycles, target)) :
    issueJump p body s = .next (branched p cycles q (target.getD (q.pc + 4#32)) s) := by
  have hc : (countInstr cycles q).pc = q.pc := by unfold countInstr; split <;> rfl
  unfold issueJump
  rw [atBoundary_run h]
  cases target <;> simp [hb, branched, hc]

/-- An instruction whose own effect faults takes the fault. -/
theorem issue_flt {s : State} {p : ProcId} {len cycles c a : Nat} {body : State → Proc → LRes (State × Proc)}
    (h : Issues s p len) (hb : body s (procOf s.dev p.val) = .flt c a) :
    issue p len cycles body s = .next { s with dev := takeFault p.val c a s.dev } := by
  unfold issue
  rw [atBoundary_run h]
  simp [hb]

/-- An instruction whose data is not poisoned issues as any other. -/
theorem issueRead_eq {p : ProcId} {len cycles : Nat} {body : State → Proc → LRes (State × Proc)} {s : State}
    (h : ∀ a, body s (procOf s.dev p.val) ≠ .flt fPoison a) : issueRead p len cycles body s = issue p len cycles body s := by
  unfold issueRead notePoison
  simp only
  split
  · rfl
  · split
    · rename_i c a hb
      have : c ≠ fPoison := fun e => h a (e ▸ hb)
      simp [this]
    · rfl

/-- A processor that does not issue is left as it stands. -/
theorem issue_idle {s : State} {p : ProcId} {len cycles : Nat} {body : State → Proc → LRes (State × Proc)}
    (h : canIssue s.dev p.val (procOf s.dev p.val) = false) : issue p len cycles body s = .next s := by
  simp [issue, atBoundary, h]

/-- Everything issuing can do: nothing, a fault, or the body's own effect and retirement. -/
theorem issue_cases (p : ProcId) (len cycles : Nat) (body : State → Proc → LRes (State × Proc)) (s : State) :
    issue p len cycles body s = .next s ∨
    (∃ c a, issue p len cycles body s = .next { s with dev := takeFault p.val c a s.dev }) ∨
    (∃ s' q, body s (procOf s.dev p.val) = .ok (s', q) ∧
      issue p len cycles body s = .next (retired p len cycles q s')) := by
  unfold issue
  rcases atBoundary_cases p len _ s with h | h | h
  · exact .inl h
  · exact .inr (.inl h)
  · cases hb : body s (procOf s.dev p.val) with
    | hold => exact .inl (h.trans (by simp [hb]))
    | flt c a => exact .inr (.inl ⟨c, a, h.trans (by simp [hb])⟩)
    | ok r => exact .inr (.inr ⟨r.1, r.2, rfl, h.trans (by simp [hb, retired])⟩)

end Sys2Proof.Machine
end

