-- ==== Sys2Proof/Laws/Tables.lean ====
section
/-! SUPPORT. Reading a sparse table after a change of it, and that changes keep its numbers rising. -/

set_option linter.unusedVariables false

namespace Sys2Proof

variable {α : Type}

/-- An entry just put in its place is found. -/
@[simp] theorem look_ins_self (m : FMap α) (k : Nat) (v : α) : look (ins m k v) k = some v := by
  induction m with
  | nil => simp [ins, look]
  | cons e m ih =>
    unfold ins
    split
    · simp [look]
    · split
      · simp [look]
      · next h => simp only [look, ih, if_neg (Ne.symm h)]

/-- Every other entry stays. -/
theorem look_ins_ne (m : FMap α) {k j : Nat} (v : α) (h : j ≠ k) : look (ins m k v) j = look m j := by
  induction m with
  | nil => simp [ins, look, Ne.symm h]
  | cons e m ih =>
    unfold ins
    split
    · simp [look, Ne.symm h]
    · split
      · next h2 => simp [look, ← h2, Ne.symm h]
      · simp [look, ih]

/-- Taking one entry away leaves the others. -/
theorem look_del_ne (m : FMap α) {k j : Nat} (h : j ≠ k) : look (del m k) j = look m j := by
  induction m with
  | nil => rfl
  | cons e m ih =>
    unfold del
    split
    · next h2 => simp [look, h2, Ne.symm h]
    · simp [look, ih]

/-- In a table whose numbers rise from beyond `k`, `k` is not listed. -/
theorem look_eq_none_of_lt {m : FMap α} {a k : Nat} {v : α} (h : rising ((a, v) :: m) = true) (hk : k < a) :
    look ((a, v) :: m) k = none := by
  induction m generalizing a v with
  | nil => simp [look]; omega
  | cons e m ih =>
    obtain ⟨b, w⟩ := e
    simp only [rising, Bool.and_eq_true, decide_eq_true_eq] at h
    have := ih h.2 (by omega)
    simp only [look] at this ⊢
    rw [if_neg (by omega), this]

/-- The tail of a rising table rises. -/
theorem rising_tail {e : Nat × α} {m : FMap α} (h : rising (e :: m) = true) : rising m = true := by
  cases m with
  | nil => rfl
  | cons f m => simp only [rising, Bool.and_eq_true] at h; exact h.2

/-- A number taken away from a rising table is not listed any more. -/
theorem look_del_self {m : FMap α} (k : Nat) (h : rising m = true) : look (del m k) k = none := by
  induction m with
  | nil => rfl
  | cons e m ih =>
    unfold del
    split
    · next hk =>
      cases m with
      | nil => rfl
      | cons f m =>
        simp only [rising, Bool.and_eq_true, decide_eq_true_eq] at h
        exact look_eq_none_of_lt h.2 (by omega)
    · next hk => simp [look, hk, ih (rising_tail h)]

/-- An entry written as something else than the default reads back. -/
theorem lookD_put_self_of_ne [DecidableEq α] (d c : α) (m : FMap α) (k : Nat) {v : α} (h : v ≠ d) :
    lookD c (put d m k v) k = v := by
  simp [lookD, put, h]

/-- In a rising table, every entry written reads back. -/
theorem lookD_put_self [DecidableEq α] (d : α) {m : FMap α} (k : Nat) (v : α) (h : rising m = true) :
    lookD d (put d m k v) k = v := by
  unfold put
  split
  · next hv => simp [lookD, look_del_self k h, hv]
  · simp [lookD]

/-- Writing one entry leaves the others. -/
theorem lookD_put_ne [DecidableEq α] (d c : α) (m : FMap α) {k j : Nat} (v : α) (h : j ≠ k) :
    lookD c (put d m k v) j = lookD c m j := by
  unfold lookD put
  split
  · rw [look_del_ne m h]
  · rw [look_ins_ne m v h]

/-- The same for the entry itself. -/
theorem look_put_ne [DecidableEq α] (d : α) (m : FMap α) {k j : Nat} (v : α) (h : j ≠ k) :
    look (put d m k v) j = look m j := by
  unfold put
  split
  · exact look_del_ne m h
  · exact look_ins_ne m v h

/-- A rising table rises from its head's number on. -/
theorem rising_cons {a : Nat} {v : α} {m : FMap α} :
    rising ((a, v) :: m) = true ↔ rising m = true ∧ ∀ e ∈ m, a < e.1 := by
  induction m generalizing a v with
  | nil => simp [rising]
  | cons f m ih =>
    obtain ⟨b, w⟩ := f
    simp only [rising, Bool.and_eq_true, decide_eq_true_eq]
    constructor
    · rintro ⟨hab, hm⟩
      refine ⟨hm, ?_⟩
      intro e he
      rcases List.mem_cons.mp he with rfl | he
      · exact hab
      · have := (ih.mp hm).2 e he; omega
    · rintro ⟨hm, hall⟩
      exact ⟨hall (b, w) (by simp), hm⟩

/-- What putting an entry in its place can list. -/
theorem mem_ins {e : Nat × α} (m : FMap α) (k : Nat) (v : α) (h : e ∈ ins m k v) : e = (k, v) ∨ e ∈ m := by
  induction m with
  | nil => simpa [ins] using h
  | cons f m ih =>
    unfold ins at h
    split at h
    · simpa using h
    · split at h
      · rcases List.mem_cons.mp h with h | h
        · exact .inl h
        · exact .inr (List.mem_cons_of_mem _ h)
      · rcases List.mem_cons.mp h with h | h
        · exact .inr (by simp [h])
        · rcases ih h with h | h
          · exact .inl h
          · exact .inr (List.mem_cons_of_mem _ h)

/-- What taking an entry away can list. -/
theorem mem_del {e : Nat × α} (m : FMap α) (k : Nat) (h : e ∈ del m k) : e ∈ m := by
  induction m with
  | nil => exact absurd h (by simp [del])
  | cons f m ih =>
    unfold del at h
    split at h
    · exact List.mem_cons_of_mem _ h
    · rcases List.mem_cons.mp h with h | h
      · simp [h]
      · exact List.mem_cons_of_mem _ (ih h)

/-- Putting an entry in its place keeps the numbers rising. -/
theorem rising_ins {m : FMap α} (k : Nat) (v : α) (h : rising m = true) : rising (ins m k v) = true := by
  induction m with
  | nil => rfl
  | cons f m ih =>
    obtain ⟨a, w⟩ := f
    obtain ⟨hm, hall⟩ := rising_cons.mp h
    unfold ins
    split
    · next hk => simp [rising, hk, h]
    · split
      · next hk => subst hk; exact rising_cons.mpr ⟨hm, hall⟩
      · refine rising_cons.mpr ⟨ih hm, ?_⟩
        intro e he
        rcases mem_ins m k v he with rfl | he
        · show a < k; omega
        · exact hall e he

/-- Taking an entry away keeps the numbers rising. -/
theorem rising_del {m : FMap α} (k : Nat) (h : rising m = true) : rising (del m k) = true := by
  induction m with
  | nil => rfl
  | cons f m ih =>
    obtain ⟨a, w⟩ := f
    obtain ⟨hm, hall⟩ := rising_cons.mp h
    unfold del
    split
    · exact hm
    · exact rising_cons.mpr ⟨ih hm, fun e he => hall e (mem_del m k he)⟩

/-- Writing keeps the numbers rising. -/
theorem rising_put [DecidableEq α] (d : α) {m : FMap α} (k : Nat) (v : α) (h : rising m = true) :
    rising (put d m k v) = true := by
  unfold put
  split
  · exact rising_del k h
  · exact rising_ins k v h

/-- A filtered table keeps its numbers rising. -/
theorem rising_keep (p : Nat → α → Bool) {m : FMap α} (h : rising m = true) : rising (keep p m) = true := by
  induction m with
  | nil => rfl
  | cons f m ih =>
    obtain ⟨a, w⟩ := f
    obtain ⟨hm, hall⟩ := rising_cons.mp h
    unfold keep
    rw [List.filter_cons]
    split
    · exact rising_cons.mpr ⟨ih hm, fun e he => hall e (List.mem_filter.mp he).1⟩
    · exact ih hm

end Sys2Proof
end

