-- ==== Sys2Proof/Laws/Memory.lean ====
section
/-! SUPPORT. Reading memory after a write, and that every operation on memory and tags keeps its one canonical form. -/

set_option linter.unusedVariables false

namespace Sys2Proof.Machine

open Sys2Proof

/-- A table that lists no default value keeps listing none. -/
theorem put_all_ne {α : Type} [DecidableEq α] (d : α) (m : FMap α) (k : Nat) (v : α) (h : ∀ e ∈ m, e.2 ≠ d) :
    ∀ e ∈ put d m k v, e.2 ≠ d := by
  intro e he
  unfold put at he
  split at he
  · exact h e (mem_del m k he)
  · next hv =>
    rcases mem_ins m k v he with rfl | he
    · exact hv
    · exact h e he

/-- The form of memory, as two facts about its list. -/
theorem memWf_iff {m : FMap Byte} : memWf m = true ↔ rising m = true ∧ ∀ e ∈ m, e.2 ≠ 0#8 := by
  simp [memWf, List.all_eq_true]

/-- The form of the tag table, as two facts about its list. -/
theorem tagsWf_iff {t : FMap Bool} : tagsWf t = true ↔ rising t = true ∧ ∀ e ∈ t, e.2 ≠ false := by
  simp [tagsWf, List.all_eq_true]

/-- Reset memory has the form. -/
theorem reset_memInv : MemInv State.reset := ⟨rfl, rfl⟩

/-- A byte written reads back. -/
theorem readByte_writeByte_self {m : FMap Byte} (a : Nat) (b : Byte) (h : memWf m = true) :
    readByte (writeByte m a b) a = b := lookD_put_self _ _ _ (memWf_iff.mp h).1

/-- Every other byte stays. -/
theorem readByte_writeByte_ne (m : FMap Byte) {a x : Nat} (b : Byte) (h : x ≠ a) :
    readByte (writeByte m a b) x = readByte m x := lookD_put_ne _ _ m b h

/-- Writing a byte keeps the form. -/
theorem memWf_writeByte {m : FMap Byte} (a : Nat) (b : Byte) (h : memWf m = true) : memWf (writeByte m a b) = true := by
  rw [memWf_iff] at *
  exact ⟨rising_put _ _ _ h.1, put_all_ne _ _ _ _ h.2⟩

/-- Writing bytes keeps the form. -/
theorem memWf_writeBytes {m : FMap Byte} (a : Nat) (b : Bytes) (h : memWf m = true) :
    memWf (writeBytes m a b) = true := by
  induction b generalizing m a with
  | nil => exact h
  | cons b bs ih => exact ih (a + 1) (memWf_writeByte a b h)

/-- A byte outside those written stays. -/
theorem readByte_writeBytes_outside (m : FMap Byte) {a x : Nat} (b : Bytes) (h : x < a ∨ a + b.length ≤ x) :
    readByte (writeBytes m a b) x = readByte m x := by
  induction b generalizing m a with
  | nil => rfl
  | cons b bs ih =>
    simp only [List.length_cons] at h
    show readByte (writeBytes (writeByte m a b) (a + 1) bs) x = readByte m x
    rw [ih (writeByte m a b) (by omega), readByte_writeByte_ne m b (by omega)]

/-- Erasing a range keeps the form. -/
theorem memWf_zeroRange {m : FMap Byte} (a n : Nat) (h : memWf m = true) : memWf (zeroRange m a n) = true := by
  rw [memWf_iff] at *
  exact ⟨rising_keep _ h.1, fun e he => h.2 e (List.mem_filter.mp he).1⟩

/-- Erasing tags keeps the form. -/
theorem tagsWf_zeroTags {t : FMap Bool} (a n : Nat) (h : tagsWf t = true) : tagsWf (zeroTags t a n) = true := by
  rw [tagsWf_iff] at *
  exact ⟨rising_keep _ h.1, fun e he => h.2 e (List.mem_filter.mp he).1⟩

/-- Writing a tag keeps the form. -/
theorem tagsWf_put {t : FMap Bool} (k : Nat) (v : Bool) (h : tagsWf t = true) : tagsWf (put false t k v) = true := by
  rw [tagsWf_iff] at *
  exact ⟨rising_put _ _ _ h.1, put_all_ne _ _ _ _ h.2⟩

/-- Writing tags one after another keeps the form. -/
theorem tagsWf_foldl_put (k : Nat → Nat) (v : Nat → Bool) (l : List Nat) {t : FMap Bool} (h : tagsWf t = true) :
    tagsWf (l.foldl (fun u i => put false u (k i) (v i)) t) = true := by
  induction l generalizing t with
  | nil => exact h
  | cons i l ih => exact ih (tagsWf_put _ _ h)

/-- A store's tags keep the form (R226). -/
theorem tagsWf_storeTags {t : FMap Bool} (a n : Nat) (v : Bool) (h : tagsWf t = true) :
    tagsWf (storeTags t a n v) = true := by
  unfold storeTags
  split
  · exact h
  · exact tagsWf_foldl_put _ _ _ h

/-- Tags set over a range keep the form. -/
theorem tagsWf_fillTags {t : FMap Bool} (a n : Nat) (v : Bool) (h : tagsWf t = true) :
    tagsWf (fillTags t a n v) = true := by
  unfold fillTags
  split
  · exact h
  · exact tagsWf_foldl_put _ _ _ h

/-- Loading an image's class keeps both forms (R284). -/
theorem memInv_loadClass (domain : Nat) (p : Placed) {m : FMap Byte × FMap Bool}
    (h : memWf m.1 = true ∧ tagsWf m.2 = true) :
    memWf (loadClass domain p m).1 = true ∧ tagsWf (loadClass domain p m).2 = true := by
  simp only [loadClass]
  refine ⟨memWf_zeroRange _ _ ?_, tagsWf_zeroTags _ _ h.2⟩
  refine memWf_writeBytes _ _ ?_
  refine memWf_writeBytes _ _ ?_
  refine memWf_writeBytes _ _ ?_
  refine memWf_writeBytes _ _ ?_
  exact memWf_zeroRange _ _ h.1

end Sys2Proof.Machine
end

