-- ==== Sys2Proof/Laws/Operands.lean ====
section
/-! SUPPORT. Bytes and lanes of register values. -/

set_option linter.unusedVariables false

namespace Sys2Proof.Machine

open Sys2Proof

/-- A bit of an OR folded over a list. -/
theorem getLsbD_foldl_or {w : Nat} (h : Nat → BitVec w) (l : List Nat) (a : BitVec w) (j : Nat) :
    (l.foldl (fun acc i => acc ||| h i) a).getLsbD j = (a.getLsbD j || l.any (fun i => (h i).getLsbD j)) := by
  induction l generalizing a with
  | nil => simp
  | cons x l ih => simp [ih, Bool.or_assoc]

/-- Byte i of the accumulator that a byte function fills. -/
theorem byteAt_ofBytes32 (f : Nat → BitVec 8) (i : Nat) (hi : i < 32) : byteAt (ofBytes32 f) i = f i := by
  apply BitVec.eq_of_getLsbD_eq
  intro j hj
  simp only [byteAt, ofBytes32, BitVec.getLsbD_extractLsb', getLsbD_foldl_or]
  have hlt : decide (j < 8) = true := by simp [hj]
  simp only [hlt, Bool.true_and, BitVec.getLsbD_zero, Bool.false_or]
  cases hb : (f i).getLsbD j with
  | true =>
    simp only [List.any_eq_true, List.mem_range]
    refine ⟨i, hi, ?_⟩
    have h1 : 8 * i + j < 256 := by omega
    have h2 : ¬ (8 * i + j < 8 * i) := by omega
    have h3 : 8 * i + j - 8 * i = j := by omega
    simp only [BitVec.getLsbD_shiftLeft, BitVec.truncate_eq_setWidth, BitVec.getLsbD_setWidth, h3, hb]
    simp [h1]
    omega
  | false =>
    simp only [List.any_eq_false, List.mem_range]
    intro k hk
    simp only [BitVec.getLsbD_shiftLeft, BitVec.truncate_eq_setWidth, BitVec.getLsbD_setWidth, Bool.and_eq_true,
      not_and, Bool.not_eq_true]
    intro hlt _
    by_cases hki : k = i
    · subst hki
      have h3 : 8 * k + j - 8 * k = j := by omega
      rw [h3]; exact hb
    · have hge : ¬ (8 * i + j < 8 * k) := by simpa using hlt.2
      have : 8 ≤ 8 * i + j - 8 * k := by omega
      exact BitVec.getLsbD_of_ge _ _ this

/-- Byte i of a bytewise operation. -/
theorem byteAt_bytewise (op : BitVec 8 → BitVec 8 → BitVec 8) (a b : BitVec 256) (i : Nat) (hi : i < 32) :
    byteAt (bytewise op a b) i = op (byteAt a i) (byteAt b i) := byteAt_ofBytes32 _ i hi

end Sys2Proof.Machine
end

