-- ==== Sys2Proof/Laws/Service.lean ====
section
/-! SUPPORT. What a request of the custodian service interface does, once for every service. -/

set_option linter.unusedVariables false

namespace Sys2Proof.Machine

open Sys2Proof

/-- A request whose checks all pass runs; a staged object it names is then given up. -/
theorem serveWith_ok {body : Dev → Status → Bytes} {h : SvcHdr} {a : SvcAction} {pre late : Dev → Status}
    {keys : Dev → Role → Status} {rights : Dev → Rights} {records : Bool} {run : Dev → Role → Dev} {s : State} {d : Dev}
    {role : Role} (hs : Served h a s d role)
    (hp : pre (takeRequest h.via (servedHobbled a) s.dev).2 = .ok) (hk : keys d role = .ok)
    (hr : rightMet d h.via role (rights d) = true) (hl : late d = .ok) :
    serveWith body h a pre keys rights late records run s.dev = dropStaged h.via a (run d role) := by
  obtain ⟨h1, h2, h7, h3, h4, h5, h6⟩ := hs
  subst h3
  simp [serveWith, h1, h2, h4, h5, h6, h7, hp, hk, hr, hl]

/-- The same for a service whose refusals carry no response. -/
theorem serve_ok {h : SvcHdr} {a : SvcAction} {pre late : Dev → Status}
    {keys : Dev → Role → Status} {rights : Dev → Rights} {records : Bool} {run : Dev → Role → Dev} {s : State} {d : Dev}
    {role : Role} (hs : Served h a s d role)
    (hp : pre (takeRequest h.via (servedHobbled a) s.dev).2 = .ok) (hk : keys d role = .ok)
    (hr : rightMet d h.via role (rights d) = true) (hl : late d = .ok) :
    serve h a pre keys rights late records run s.dev = dropStaged h.via a (run d role) :=
  serveWith_ok hs hp hk hr hl

/-- Nothing is copied from the card for an action that names no object, or an object of another source. -/
theorem fetchObject_none {v : Via} {a : SvcAction} (h : actionObject a = none) (d : Dev) : fetchObject v a d = (.ok, d) := by
  simp [fetchObject, h]

theorem fetchObject_other {v : Via} {a : SvcAction} {o : ObjRef} (h : actionObject a = some o) (ho : o.source ≠ 1) (d : Dev) :
    fetchObject v a d = (.ok, d) := by
  unfold fetchObject
  rw [h]
  by_cases hc : (!isExecution v && objStatus v o d == .ok) = true <;> simp [Option.filter, hc, cardFile, ho]

/-- An object's content is what its bytes spell where they stand in the device, and what the request brought where they do not. -/
theorem objContent_held {α : Type} {spell : Bytes → α} {v : Via} {o : ObjRef} {d : Dev} {b : Bytes} (h : heldBytes v o d = some b)
    (given : α) : objContent spell v o given d = spell b := by
  simp [objContent, h]

theorem objContent_brought {α : Type} {spell : Bytes → α} {v : Via} {o : ObjRef} {d : Dev} (h : heldBytes v o d = none)
    (given : α) : objContent spell v o given d = given := by
  simp [objContent, h]

/-- The bytes of a host-memory or inline object are those that the request brought. -/
theorem heldBytes_other {v : Via} {o : ObjRef} (h1 : o.source ≠ 1) (h2 : o.source ≠ 2) (d : Dev) : heldBytes v o d = none := by
  simp [heldBytes, stagedObject, stagedKey, cardFile, h1, h2]

/-- An action that names no object leaves the staged ones. -/
theorem dropStaged_none {v : Via} {a : SvcAction} (h : actionObject a = none) (d : Dev) : dropStaged v a d = d := by
  simp [dropStaged, h]

end Sys2Proof.Machine
end

