-- ==== Sys2Proof/Laws/State.lean ====
section
/-! SUPPORT. What the shared updates of the device leave unchanged: one lemma for each field and each update, so that no proof
unfolds one to pass by it. -/

set_option linter.unusedVariables false

namespace Sys2Proof.Machine

open Sys2Proof

/-! `setNum` changes `dict` only. -/

@[simp] theorem setNum_life (d0 key v : Nat) (d : Dev) : (setNum d0 key v d).life = d.life := rfl
@[simp] theorem setNum_tb (d0 key v : Nat) (d : Dev) : (setNum d0 key v d).tb = d.tb := rfl
@[simp] theorem setNum_audit (d0 key v : Nat) (d : Dev) : (setNum d0 key v d).audit = d.audit := rfl
@[simp] theorem setNum_op (d0 key v : Nat) (d : Dev) : (setNum d0 key v d).op = d.op := rfl
@[simp] theorem setNum_ks (d0 key v : Nat) (d : Dev) : (setNum d0 key v d).ks = d.ks := rfl
@[simp] theorem setNum_pool (d0 key v : Nat) (d : Dev) : (setNum d0 key v d).pool = d.pool := rfl
@[simp] theorem setNum_bn (d0 key v : Nat) (d : Dev) : (setNum d0 key v d).bn = d.bn := rfl
@[simp] theorem setNum_host (d0 key v : Nat) (d : Dev) : (setNum d0 key v d).host = d.host := rfl
@[simp] theorem setNum_mal (d0 key v : Nat) (d : Dev) : (setNum d0 key v d).mal = d.mal := rfl
@[simp] theorem setNum_lopeOn (d0 key v : Nat) (d : Dev) : (setNum d0 key v d).lopeOn = d.lopeOn := rfl
@[simp] theorem setNum_procs (d0 key v : Nat) (d : Dev) : (setNum d0 key v d).procs = d.procs := rfl
@[simp] theorem setNum_prot (d0 key v : Nat) (d : Dev) : (setNum d0 key v d).prot = d.prot := rfl
@[simp] theorem setNum_vq (d0 key v : Nat) (d : Dev) : (setNum d0 key v d).vq = d.vq := rfl
@[simp] theorem setNum_rig (d0 key v : Nat) (d : Dev) : (setNum d0 key v d).rig = d.rig := rfl
@[simp] theorem setNum_cust (d0 key v : Nat) (d : Dev) : (setNum d0 key v d).cust = d.cust := rfl
@[simp] theorem setNum_rng (d0 key v : Nat) (d : Dev) : (setNum d0 key v d).rng = d.rng := rfl
@[simp] theorem setNum_net (d0 key v : Nat) (d : Dev) : (setNum d0 key v d).net = d.net := rfl
@[simp] theorem setNum_per (d0 key v : Nat) (d : Dev) : (setNum d0 key v d).per = d.per := rfl
@[simp] theorem setNum_guard (d0 key v : Nat) (d : Dev) : (setNum d0 key v d).guard = d.guard := rfl
@[simp] theorem setNum_pow (d0 key v : Nat) (d : Dev) : (setNum d0 key v d).pow = d.pow := rfl
@[simp] theorem setNum_cv (d0 key v : Nat) (d : Dev) : (setNum d0 key v d).cv = d.cv := rfl
@[simp] theorem setNum_xferSeq (d0 key v : Nat) (d : Dev) : (setNum d0 key v d).xferSeq = d.xferSeq := rfl
@[simp] theorem setNum_out (d0 key v : Nat) (d : Dev) : (setNum d0 key v d).out = d.out := rfl
@[simp] theorem setNum_free (d0 key v : Nat) (d : Dev) : (setNum d0 key v d).free = d.free := rfl

/-! `bumpBy` changes `dict` only. -/

@[simp] theorem bumpBy_life (n key : Nat) (d : Dev) : (bumpBy n key d).life = d.life := rfl
@[simp] theorem bumpBy_tb (n key : Nat) (d : Dev) : (bumpBy n key d).tb = d.tb := rfl
@[simp] theorem bumpBy_audit (n key : Nat) (d : Dev) : (bumpBy n key d).audit = d.audit := rfl
@[simp] theorem bumpBy_op (n key : Nat) (d : Dev) : (bumpBy n key d).op = d.op := rfl
@[simp] theorem bumpBy_ks (n key : Nat) (d : Dev) : (bumpBy n key d).ks = d.ks := rfl
@[simp] theorem bumpBy_pool (n key : Nat) (d : Dev) : (bumpBy n key d).pool = d.pool := rfl
@[simp] theorem bumpBy_bn (n key : Nat) (d : Dev) : (bumpBy n key d).bn = d.bn := rfl
@[simp] theorem bumpBy_host (n key : Nat) (d : Dev) : (bumpBy n key d).host = d.host := rfl
@[simp] theorem bumpBy_mal (n key : Nat) (d : Dev) : (bumpBy n key d).mal = d.mal := rfl
@[simp] theorem bumpBy_lopeOn (n key : Nat) (d : Dev) : (bumpBy n key d).lopeOn = d.lopeOn := rfl
@[simp] theorem bumpBy_procs (n key : Nat) (d : Dev) : (bumpBy n key d).procs = d.procs := rfl
@[simp] theorem bumpBy_prot (n key : Nat) (d : Dev) : (bumpBy n key d).prot = d.prot := rfl
@[simp] theorem bumpBy_vq (n key : Nat) (d : Dev) : (bumpBy n key d).vq = d.vq := rfl
@[simp] theorem bumpBy_rig (n key : Nat) (d : Dev) : (bumpBy n key d).rig = d.rig := rfl
@[simp] theorem bumpBy_cust (n key : Nat) (d : Dev) : (bumpBy n key d).cust = d.cust := rfl
@[simp] theorem bumpBy_rng (n key : Nat) (d : Dev) : (bumpBy n key d).rng = d.rng := rfl
@[simp] theorem bumpBy_net (n key : Nat) (d : Dev) : (bumpBy n key d).net = d.net := rfl
@[simp] theorem bumpBy_per (n key : Nat) (d : Dev) : (bumpBy n key d).per = d.per := rfl
@[simp] theorem bumpBy_guard (n key : Nat) (d : Dev) : (bumpBy n key d).guard = d.guard := rfl
@[simp] theorem bumpBy_pow (n key : Nat) (d : Dev) : (bumpBy n key d).pow = d.pow := rfl
@[simp] theorem bumpBy_cv (n key : Nat) (d : Dev) : (bumpBy n key d).cv = d.cv := rfl
@[simp] theorem bumpBy_xferSeq (n key : Nat) (d : Dev) : (bumpBy n key d).xferSeq = d.xferSeq := rfl
@[simp] theorem bumpBy_out (n key : Nat) (d : Dev) : (bumpBy n key d).out = d.out := rfl
@[simp] theorem bumpBy_free (n key : Nat) (d : Dev) : (bumpBy n key d).free = d.free := rfl

/-! `bump` changes `dict` only. -/

@[simp] theorem bump_life (key : Nat) (d : Dev) : (bump key d).life = d.life := rfl
@[simp] theorem bump_tb (key : Nat) (d : Dev) : (bump key d).tb = d.tb := rfl
@[simp] theorem bump_audit (key : Nat) (d : Dev) : (bump key d).audit = d.audit := rfl
@[simp] theorem bump_op (key : Nat) (d : Dev) : (bump key d).op = d.op := rfl
@[simp] theorem bump_ks (key : Nat) (d : Dev) : (bump key d).ks = d.ks := rfl
@[simp] theorem bump_pool (key : Nat) (d : Dev) : (bump key d).pool = d.pool := rfl
@[simp] theorem bump_bn (key : Nat) (d : Dev) : (bump key d).bn = d.bn := rfl
@[simp] theorem bump_host (key : Nat) (d : Dev) : (bump key d).host = d.host := rfl
@[simp] theorem bump_mal (key : Nat) (d : Dev) : (bump key d).mal = d.mal := rfl
@[simp] theorem bump_lopeOn (key : Nat) (d : Dev) : (bump key d).lopeOn = d.lopeOn := rfl
@[simp] theorem bump_procs (key : Nat) (d : Dev) : (bump key d).procs = d.procs := rfl
@[simp] theorem bump_prot (key : Nat) (d : Dev) : (bump key d).prot = d.prot := rfl
@[simp] theorem bump_vq (key : Nat) (d : Dev) : (bump key d).vq = d.vq := rfl
@[simp] theorem bump_rig (key : Nat) (d : Dev) : (bump key d).rig = d.rig := rfl
@[simp] theorem bump_cust (key : Nat) (d : Dev) : (bump key d).cust = d.cust := rfl
@[simp] theorem bump_rng (key : Nat) (d : Dev) : (bump key d).rng = d.rng := rfl
@[simp] theorem bump_net (key : Nat) (d : Dev) : (bump key d).net = d.net := rfl
@[simp] theorem bump_per (key : Nat) (d : Dev) : (bump key d).per = d.per := rfl
@[simp] theorem bump_guard (key : Nat) (d : Dev) : (bump key d).guard = d.guard := rfl
@[simp] theorem bump_pow (key : Nat) (d : Dev) : (bump key d).pow = d.pow := rfl
@[simp] theorem bump_cv (key : Nat) (d : Dev) : (bump key d).cv = d.cv := rfl
@[simp] theorem bump_xferSeq (key : Nat) (d : Dev) : (bump key d).xferSeq = d.xferSeq := rfl
@[simp] theorem bump_out (key : Nat) (d : Dev) : (bump key d).out = d.out := rfl
@[simp] theorem bump_free (key : Nat) (d : Dev) : (bump key d).free = d.free := rfl

/-! `setBlob` changes `dict` only. -/

@[simp] theorem setBlob_life (key : Nat) (v : Bytes) (d : Dev) : (setBlob key v d).life = d.life := rfl
@[simp] theorem setBlob_tb (key : Nat) (v : Bytes) (d : Dev) : (setBlob key v d).tb = d.tb := rfl
@[simp] theorem setBlob_audit (key : Nat) (v : Bytes) (d : Dev) : (setBlob key v d).audit = d.audit := rfl
@[simp] theorem setBlob_op (key : Nat) (v : Bytes) (d : Dev) : (setBlob key v d).op = d.op := rfl
@[simp] theorem setBlob_ks (key : Nat) (v : Bytes) (d : Dev) : (setBlob key v d).ks = d.ks := rfl
@[simp] theorem setBlob_pool (key : Nat) (v : Bytes) (d : Dev) : (setBlob key v d).pool = d.pool := rfl
@[simp] theorem setBlob_bn (key : Nat) (v : Bytes) (d : Dev) : (setBlob key v d).bn = d.bn := rfl
@[simp] theorem setBlob_host (key : Nat) (v : Bytes) (d : Dev) : (setBlob key v d).host = d.host := rfl
@[simp] theorem setBlob_mal (key : Nat) (v : Bytes) (d : Dev) : (setBlob key v d).mal = d.mal := rfl
@[simp] theorem setBlob_lopeOn (key : Nat) (v : Bytes) (d : Dev) : (setBlob key v d).lopeOn = d.lopeOn := rfl
@[simp] theorem setBlob_procs (key : Nat) (v : Bytes) (d : Dev) : (setBlob key v d).procs = d.procs := rfl
@[simp] theorem setBlob_prot (key : Nat) (v : Bytes) (d : Dev) : (setBlob key v d).prot = d.prot := rfl
@[simp] theorem setBlob_vq (key : Nat) (v : Bytes) (d : Dev) : (setBlob key v d).vq = d.vq := rfl
@[simp] theorem setBlob_rig (key : Nat) (v : Bytes) (d : Dev) : (setBlob key v d).rig = d.rig := rfl
@[simp] theorem setBlob_cust (key : Nat) (v : Bytes) (d : Dev) : (setBlob key v d).cust = d.cust := rfl
@[simp] theorem setBlob_rng (key : Nat) (v : Bytes) (d : Dev) : (setBlob key v d).rng = d.rng := rfl
@[simp] theorem setBlob_net (key : Nat) (v : Bytes) (d : Dev) : (setBlob key v d).net = d.net := rfl
@[simp] theorem setBlob_per (key : Nat) (v : Bytes) (d : Dev) : (setBlob key v d).per = d.per := rfl
@[simp] theorem setBlob_guard (key : Nat) (v : Bytes) (d : Dev) : (setBlob key v d).guard = d.guard := rfl
@[simp] theorem setBlob_pow (key : Nat) (v : Bytes) (d : Dev) : (setBlob key v d).pow = d.pow := rfl
@[simp] theorem setBlob_cv (key : Nat) (v : Bytes) (d : Dev) : (setBlob key v d).cv = d.cv := rfl
@[simp] theorem setBlob_xferSeq (key : Nat) (v : Bytes) (d : Dev) : (setBlob key v d).xferSeq = d.xferSeq := rfl
@[simp] theorem setBlob_out (key : Nat) (v : Bytes) (d : Dev) : (setBlob key v d).out = d.out := rfl
@[simp] theorem setBlob_free (key : Nat) (v : Bytes) (d : Dev) : (setBlob key v d).free = d.free := rfl

/-! `emit` changes `out` only. -/

@[simp] theorem emit_life (e : Emission) (d : Dev) : (emit e d).life = d.life := rfl
@[simp] theorem emit_tb (e : Emission) (d : Dev) : (emit e d).tb = d.tb := rfl
@[simp] theorem emit_dict (e : Emission) (d : Dev) : (emit e d).dict = d.dict := rfl
@[simp] theorem emit_audit (e : Emission) (d : Dev) : (emit e d).audit = d.audit := rfl
@[simp] theorem emit_op (e : Emission) (d : Dev) : (emit e d).op = d.op := rfl
@[simp] theorem emit_ks (e : Emission) (d : Dev) : (emit e d).ks = d.ks := rfl
@[simp] theorem emit_pool (e : Emission) (d : Dev) : (emit e d).pool = d.pool := rfl
@[simp] theorem emit_bn (e : Emission) (d : Dev) : (emit e d).bn = d.bn := rfl
@[simp] theorem emit_host (e : Emission) (d : Dev) : (emit e d).host = d.host := rfl
@[simp] theorem emit_mal (e : Emission) (d : Dev) : (emit e d).mal = d.mal := rfl
@[simp] theorem emit_lopeOn (e : Emission) (d : Dev) : (emit e d).lopeOn = d.lopeOn := rfl
@[simp] theorem emit_procs (e : Emission) (d : Dev) : (emit e d).procs = d.procs := rfl
@[simp] theorem emit_prot (e : Emission) (d : Dev) : (emit e d).prot = d.prot := rfl
@[simp] theorem emit_vq (e : Emission) (d : Dev) : (emit e d).vq = d.vq := rfl
@[simp] theorem emit_rig (e : Emission) (d : Dev) : (emit e d).rig = d.rig := rfl
@[simp] theorem emit_cust (e : Emission) (d : Dev) : (emit e d).cust = d.cust := rfl
@[simp] theorem emit_rng (e : Emission) (d : Dev) : (emit e d).rng = d.rng := rfl
@[simp] theorem emit_net (e : Emission) (d : Dev) : (emit e d).net = d.net := rfl
@[simp] theorem emit_per (e : Emission) (d : Dev) : (emit e d).per = d.per := rfl
@[simp] theorem emit_guard (e : Emission) (d : Dev) : (emit e d).guard = d.guard := rfl
@[simp] theorem emit_pow (e : Emission) (d : Dev) : (emit e d).pow = d.pow := rfl
@[simp] theorem emit_cv (e : Emission) (d : Dev) : (emit e d).cv = d.cv := rfl
@[simp] theorem emit_xferSeq (e : Emission) (d : Dev) : (emit e d).xferSeq = d.xferSeq := rfl
@[simp] theorem emit_free (e : Emission) (d : Dev) : (emit e d).free = d.free := rfl

/-! `raise` changes `audit` only. -/

@[simp] theorem raise_life (src ev dom actor : Nat) (p : List (Nat × Nat)) (d : Dev) : (raise src ev dom actor p d).life = d.life := rfl
@[simp] theorem raise_tb (src ev dom actor : Nat) (p : List (Nat × Nat)) (d : Dev) : (raise src ev dom actor p d).tb = d.tb := rfl
@[simp] theorem raise_dict (src ev dom actor : Nat) (p : List (Nat × Nat)) (d : Dev) : (raise src ev dom actor p d).dict = d.dict := rfl
@[simp] theorem raise_op (src ev dom actor : Nat) (p : List (Nat × Nat)) (d : Dev) : (raise src ev dom actor p d).op = d.op := rfl
@[simp] theorem raise_ks (src ev dom actor : Nat) (p : List (Nat × Nat)) (d : Dev) : (raise src ev dom actor p d).ks = d.ks := rfl
@[simp] theorem raise_pool (src ev dom actor : Nat) (p : List (Nat × Nat)) (d : Dev) : (raise src ev dom actor p d).pool = d.pool := rfl
@[simp] theorem raise_bn (src ev dom actor : Nat) (p : List (Nat × Nat)) (d : Dev) : (raise src ev dom actor p d).bn = d.bn := rfl
@[simp] theorem raise_host (src ev dom actor : Nat) (p : List (Nat × Nat)) (d : Dev) : (raise src ev dom actor p d).host = d.host := rfl
@[simp] theorem raise_mal (src ev dom actor : Nat) (p : List (Nat × Nat)) (d : Dev) : (raise src ev dom actor p d).mal = d.mal := rfl
@[simp] theorem raise_lopeOn (src ev dom actor : Nat) (p : List (Nat × Nat)) (d : Dev) : (raise src ev dom actor p d).lopeOn = d.lopeOn := rfl
@[simp] theorem raise_procs (src ev dom actor : Nat) (p : List (Nat × Nat)) (d : Dev) : (raise src ev dom actor p d).procs = d.procs := rfl
@[simp] theorem raise_prot (src ev dom actor : Nat) (p : List (Nat × Nat)) (d : Dev) : (raise src ev dom actor p d).prot = d.prot := rfl
@[simp] theorem raise_vq (src ev dom actor : Nat) (p : List (Nat × Nat)) (d : Dev) : (raise src ev dom actor p d).vq = d.vq := rfl
@[simp] theorem raise_rig (src ev dom actor : Nat) (p : List (Nat × Nat)) (d : Dev) : (raise src ev dom actor p d).rig = d.rig := rfl
@[simp] theorem raise_cust (src ev dom actor : Nat) (p : List (Nat × Nat)) (d : Dev) : (raise src ev dom actor p d).cust = d.cust := rfl
@[simp] theorem raise_rng (src ev dom actor : Nat) (p : List (Nat × Nat)) (d : Dev) : (raise src ev dom actor p d).rng = d.rng := rfl
@[simp] theorem raise_net (src ev dom actor : Nat) (p : List (Nat × Nat)) (d : Dev) : (raise src ev dom actor p d).net = d.net := rfl
@[simp] theorem raise_per (src ev dom actor : Nat) (p : List (Nat × Nat)) (d : Dev) : (raise src ev dom actor p d).per = d.per := rfl
@[simp] theorem raise_guard (src ev dom actor : Nat) (p : List (Nat × Nat)) (d : Dev) : (raise src ev dom actor p d).guard = d.guard := rfl
@[simp] theorem raise_pow (src ev dom actor : Nat) (p : List (Nat × Nat)) (d : Dev) : (raise src ev dom actor p d).pow = d.pow := rfl
@[simp] theorem raise_cv (src ev dom actor : Nat) (p : List (Nat × Nat)) (d : Dev) : (raise src ev dom actor p d).cv = d.cv := rfl
@[simp] theorem raise_xferSeq (src ev dom actor : Nat) (p : List (Nat × Nat)) (d : Dev) : (raise src ev dom actor p d).xferSeq = d.xferSeq := rfl
@[simp] theorem raise_out (src ev dom actor : Nat) (p : List (Nat × Nat)) (d : Dev) : (raise src ev dom actor p d).out = d.out := rfl
@[simp] theorem raise_free (src ev dom actor : Nat) (p : List (Nat × Nat)) (d : Dev) : (raise src ev dom actor p d).free = d.free := rfl

/-! `report` changes `audit` only. -/

@[simp] theorem report_life (src ev cause : Nat) (p : List (Nat × Nat)) (d : Dev) : (report src ev cause p d).life = d.life := rfl
@[simp] theorem report_tb (src ev cause : Nat) (p : List (Nat × Nat)) (d : Dev) : (report src ev cause p d).tb = d.tb := rfl
@[simp] theorem report_dict (src ev cause : Nat) (p : List (Nat × Nat)) (d : Dev) : (report src ev cause p d).dict = d.dict := rfl
@[simp] theorem report_op (src ev cause : Nat) (p : List (Nat × Nat)) (d : Dev) : (report src ev cause p d).op = d.op := rfl
@[simp] theorem report_ks (src ev cause : Nat) (p : List (Nat × Nat)) (d : Dev) : (report src ev cause p d).ks = d.ks := rfl
@[simp] theorem report_pool (src ev cause : Nat) (p : List (Nat × Nat)) (d : Dev) : (report src ev cause p d).pool = d.pool := rfl
@[simp] theorem report_bn (src ev cause : Nat) (p : List (Nat × Nat)) (d : Dev) : (report src ev cause p d).bn = d.bn := rfl
@[simp] theorem report_host (src ev cause : Nat) (p : List (Nat × Nat)) (d : Dev) : (report src ev cause p d).host = d.host := rfl
@[simp] theorem report_mal (src ev cause : Nat) (p : List (Nat × Nat)) (d : Dev) : (report src ev cause p d).mal = d.mal := rfl
@[simp] theorem report_lopeOn (src ev cause : Nat) (p : List (Nat × Nat)) (d : Dev) : (report src ev cause p d).lopeOn = d.lopeOn := rfl
@[simp] theorem report_procs (src ev cause : Nat) (p : List (Nat × Nat)) (d : Dev) : (report src ev cause p d).procs = d.procs := rfl
@[simp] theorem report_prot (src ev cause : Nat) (p : List (Nat × Nat)) (d : Dev) : (report src ev cause p d).prot = d.prot := rfl
@[simp] theorem report_vq (src ev cause : Nat) (p : List (Nat × Nat)) (d : Dev) : (report src ev cause p d).vq = d.vq := rfl
@[simp] theorem report_rig (src ev cause : Nat) (p : List (Nat × Nat)) (d : Dev) : (report src ev cause p d).rig = d.rig := rfl
@[simp] theorem report_cust (src ev cause : Nat) (p : List (Nat × Nat)) (d : Dev) : (report src ev cause p d).cust = d.cust := rfl
@[simp] theorem report_rng (src ev cause : Nat) (p : List (Nat × Nat)) (d : Dev) : (report src ev cause p d).rng = d.rng := rfl
@[simp] theorem report_net (src ev cause : Nat) (p : List (Nat × Nat)) (d : Dev) : (report src ev cause p d).net = d.net := rfl
@[simp] theorem report_per (src ev cause : Nat) (p : List (Nat × Nat)) (d : Dev) : (report src ev cause p d).per = d.per := rfl
@[simp] theorem report_guard (src ev cause : Nat) (p : List (Nat × Nat)) (d : Dev) : (report src ev cause p d).guard = d.guard := rfl
@[simp] theorem report_pow (src ev cause : Nat) (p : List (Nat × Nat)) (d : Dev) : (report src ev cause p d).pow = d.pow := rfl
@[simp] theorem report_cv (src ev cause : Nat) (p : List (Nat × Nat)) (d : Dev) : (report src ev cause p d).cv = d.cv := rfl
@[simp] theorem report_xferSeq (src ev cause : Nat) (p : List (Nat × Nat)) (d : Dev) : (report src ev cause p d).xferSeq = d.xferSeq := rfl
@[simp] theorem report_out (src ev cause : Nat) (p : List (Nat × Nat)) (d : Dev) : (report src ev cause p d).out = d.out := rfl
@[simp] theorem report_free (src ev cause : Nat) (p : List (Nat × Nat)) (d : Dev) : (report src ev cause p d).free = d.free := rfl

/-! `reach` changes `tb` only. -/

@[simp] theorem reach_life (t : Nat) (d : Dev) : (reach t d).life = d.life := rfl
@[simp] theorem reach_dict (t : Nat) (d : Dev) : (reach t d).dict = d.dict := rfl
@[simp] theorem reach_audit (t : Nat) (d : Dev) : (reach t d).audit = d.audit := rfl
@[simp] theorem reach_op (t : Nat) (d : Dev) : (reach t d).op = d.op := rfl
@[simp] theorem reach_ks (t : Nat) (d : Dev) : (reach t d).ks = d.ks := rfl
@[simp] theorem reach_pool (t : Nat) (d : Dev) : (reach t d).pool = d.pool := rfl
@[simp] theorem reach_bn (t : Nat) (d : Dev) : (reach t d).bn = d.bn := rfl
@[simp] theorem reach_host (t : Nat) (d : Dev) : (reach t d).host = d.host := rfl
@[simp] theorem reach_mal (t : Nat) (d : Dev) : (reach t d).mal = d.mal := rfl
@[simp] theorem reach_lopeOn (t : Nat) (d : Dev) : (reach t d).lopeOn = d.lopeOn := rfl
@[simp] theorem reach_procs (t : Nat) (d : Dev) : (reach t d).procs = d.procs := rfl
@[simp] theorem reach_prot (t : Nat) (d : Dev) : (reach t d).prot = d.prot := rfl
@[simp] theorem reach_vq (t : Nat) (d : Dev) : (reach t d).vq = d.vq := rfl
@[simp] theorem reach_rig (t : Nat) (d : Dev) : (reach t d).rig = d.rig := rfl
@[simp] theorem reach_cust (t : Nat) (d : Dev) : (reach t d).cust = d.cust := rfl
@[simp] theorem reach_rng (t : Nat) (d : Dev) : (reach t d).rng = d.rng := rfl
@[simp] theorem reach_net (t : Nat) (d : Dev) : (reach t d).net = d.net := rfl
@[simp] theorem reach_per (t : Nat) (d : Dev) : (reach t d).per = d.per := rfl
@[simp] theorem reach_guard (t : Nat) (d : Dev) : (reach t d).guard = d.guard := rfl
@[simp] theorem reach_pow (t : Nat) (d : Dev) : (reach t d).pow = d.pow := rfl
@[simp] theorem reach_cv (t : Nat) (d : Dev) : (reach t d).cv = d.cv := rfl
@[simp] theorem reach_xferSeq (t : Nat) (d : Dev) : (reach t d).xferSeq = d.xferSeq := rfl
@[simp] theorem reach_out (t : Nat) (d : Dev) : (reach t d).out = d.out := rfl
@[simp] theorem reach_free (t : Nat) (d : Dev) : (reach t d).free = d.free := rfl

/-! `setProc` changes `procs` only. -/

@[simp] theorem setProc_life (p : Nat) (q : Proc) (d : Dev) : (setProc p q d).life = d.life := rfl
@[simp] theorem setProc_tb (p : Nat) (q : Proc) (d : Dev) : (setProc p q d).tb = d.tb := rfl
@[simp] theorem setProc_dict (p : Nat) (q : Proc) (d : Dev) : (setProc p q d).dict = d.dict := rfl
@[simp] theorem setProc_audit (p : Nat) (q : Proc) (d : Dev) : (setProc p q d).audit = d.audit := rfl
@[simp] theorem setProc_op (p : Nat) (q : Proc) (d : Dev) : (setProc p q d).op = d.op := rfl
@[simp] theorem setProc_ks (p : Nat) (q : Proc) (d : Dev) : (setProc p q d).ks = d.ks := rfl
@[simp] theorem setProc_pool (p : Nat) (q : Proc) (d : Dev) : (setProc p q d).pool = d.pool := rfl
@[simp] theorem setProc_bn (p : Nat) (q : Proc) (d : Dev) : (setProc p q d).bn = d.bn := rfl
@[simp] theorem setProc_host (p : Nat) (q : Proc) (d : Dev) : (setProc p q d).host = d.host := rfl
@[simp] theorem setProc_mal (p : Nat) (q : Proc) (d : Dev) : (setProc p q d).mal = d.mal := rfl
@[simp] theorem setProc_lopeOn (p : Nat) (q : Proc) (d : Dev) : (setProc p q d).lopeOn = d.lopeOn := rfl
@[simp] theorem setProc_prot (p : Nat) (q : Proc) (d : Dev) : (setProc p q d).prot = d.prot := rfl
@[simp] theorem setProc_vq (p : Nat) (q : Proc) (d : Dev) : (setProc p q d).vq = d.vq := rfl
@[simp] theorem setProc_rig (p : Nat) (q : Proc) (d : Dev) : (setProc p q d).rig = d.rig := rfl
@[simp] theorem setProc_cust (p : Nat) (q : Proc) (d : Dev) : (setProc p q d).cust = d.cust := rfl
@[simp] theorem setProc_rng (p : Nat) (q : Proc) (d : Dev) : (setProc p q d).rng = d.rng := rfl
@[simp] theorem setProc_net (p : Nat) (q : Proc) (d : Dev) : (setProc p q d).net = d.net := rfl
@[simp] theorem setProc_per (p : Nat) (q : Proc) (d : Dev) : (setProc p q d).per = d.per := rfl
@[simp] theorem setProc_guard (p : Nat) (q : Proc) (d : Dev) : (setProc p q d).guard = d.guard := rfl
@[simp] theorem setProc_pow (p : Nat) (q : Proc) (d : Dev) : (setProc p q d).pow = d.pow := rfl
@[simp] theorem setProc_cv (p : Nat) (q : Proc) (d : Dev) : (setProc p q d).cv = d.cv := rfl
@[simp] theorem setProc_xferSeq (p : Nat) (q : Proc) (d : Dev) : (setProc p q d).xferSeq = d.xferSeq := rfl
@[simp] theorem setProc_out (p : Nat) (q : Proc) (d : Dev) : (setProc p q d).out = d.out := rfl
@[simp] theorem setProc_free (p : Nat) (q : Proc) (d : Dev) : (setProc p q d).free = d.free := rfl

/-! `onProt` changes `prot` only. -/

@[simp] theorem onProt_life (p : Nat) (f : ProtUnit → ProtUnit) (d : Dev) : (onProt p f d).life = d.life := rfl
@[simp] theorem onProt_tb (p : Nat) (f : ProtUnit → ProtUnit) (d : Dev) : (onProt p f d).tb = d.tb := rfl
@[simp] theorem onProt_dict (p : Nat) (f : ProtUnit → ProtUnit) (d : Dev) : (onProt p f d).dict = d.dict := rfl
@[simp] theorem onProt_audit (p : Nat) (f : ProtUnit → ProtUnit) (d : Dev) : (onProt p f d).audit = d.audit := rfl
@[simp] theorem onProt_op (p : Nat) (f : ProtUnit → ProtUnit) (d : Dev) : (onProt p f d).op = d.op := rfl
@[simp] theorem onProt_ks (p : Nat) (f : ProtUnit → ProtUnit) (d : Dev) : (onProt p f d).ks = d.ks := rfl
@[simp] theorem onProt_pool (p : Nat) (f : ProtUnit → ProtUnit) (d : Dev) : (onProt p f d).pool = d.pool := rfl
@[simp] theorem onProt_bn (p : Nat) (f : ProtUnit → ProtUnit) (d : Dev) : (onProt p f d).bn = d.bn := rfl
@[simp] theorem onProt_host (p : Nat) (f : ProtUnit → ProtUnit) (d : Dev) : (onProt p f d).host = d.host := rfl
@[simp] theorem onProt_mal (p : Nat) (f : ProtUnit → ProtUnit) (d : Dev) : (onProt p f d).mal = d.mal := rfl
@[simp] theorem onProt_lopeOn (p : Nat) (f : ProtUnit → ProtUnit) (d : Dev) : (onProt p f d).lopeOn = d.lopeOn := rfl
@[simp] theorem onProt_procs (p : Nat) (f : ProtUnit → ProtUnit) (d : Dev) : (onProt p f d).procs = d.procs := rfl
@[simp] theorem onProt_vq (p : Nat) (f : ProtUnit → ProtUnit) (d : Dev) : (onProt p f d).vq = d.vq := rfl
@[simp] theorem onProt_rig (p : Nat) (f : ProtUnit → ProtUnit) (d : Dev) : (onProt p f d).rig = d.rig := rfl
@[simp] theorem onProt_cust (p : Nat) (f : ProtUnit → ProtUnit) (d : Dev) : (onProt p f d).cust = d.cust := rfl
@[simp] theorem onProt_rng (p : Nat) (f : ProtUnit → ProtUnit) (d : Dev) : (onProt p f d).rng = d.rng := rfl
@[simp] theorem onProt_net (p : Nat) (f : ProtUnit → ProtUnit) (d : Dev) : (onProt p f d).net = d.net := rfl
@[simp] theorem onProt_per (p : Nat) (f : ProtUnit → ProtUnit) (d : Dev) : (onProt p f d).per = d.per := rfl
@[simp] theorem onProt_guard (p : Nat) (f : ProtUnit → ProtUnit) (d : Dev) : (onProt p f d).guard = d.guard := rfl
@[simp] theorem onProt_pow (p : Nat) (f : ProtUnit → ProtUnit) (d : Dev) : (onProt p f d).pow = d.pow := rfl
@[simp] theorem onProt_cv (p : Nat) (f : ProtUnit → ProtUnit) (d : Dev) : (onProt p f d).cv = d.cv := rfl
@[simp] theorem onProt_xferSeq (p : Nat) (f : ProtUnit → ProtUnit) (d : Dev) : (onProt p f d).xferSeq = d.xferSeq := rfl
@[simp] theorem onProt_out (p : Nat) (f : ProtUnit → ProtUnit) (d : Dev) : (onProt p f d).out = d.out := rfl
@[simp] theorem onProt_free (p : Nat) (f : ProtUnit → ProtUnit) (d : Dev) : (onProt p f d).free = d.free := rfl

/-! `putOp` changes `op` only. -/

@[simp] theorem putOp_life (tag : Nat) (o : Op) (d : Dev) : (putOp tag o d).life = d.life := rfl
@[simp] theorem putOp_tb (tag : Nat) (o : Op) (d : Dev) : (putOp tag o d).tb = d.tb := rfl
@[simp] theorem putOp_dict (tag : Nat) (o : Op) (d : Dev) : (putOp tag o d).dict = d.dict := rfl
@[simp] theorem putOp_audit (tag : Nat) (o : Op) (d : Dev) : (putOp tag o d).audit = d.audit := rfl
@[simp] theorem putOp_ks (tag : Nat) (o : Op) (d : Dev) : (putOp tag o d).ks = d.ks := rfl
@[simp] theorem putOp_pool (tag : Nat) (o : Op) (d : Dev) : (putOp tag o d).pool = d.pool := rfl
@[simp] theorem putOp_bn (tag : Nat) (o : Op) (d : Dev) : (putOp tag o d).bn = d.bn := rfl
@[simp] theorem putOp_host (tag : Nat) (o : Op) (d : Dev) : (putOp tag o d).host = d.host := rfl
@[simp] theorem putOp_mal (tag : Nat) (o : Op) (d : Dev) : (putOp tag o d).mal = d.mal := rfl
@[simp] theorem putOp_lopeOn (tag : Nat) (o : Op) (d : Dev) : (putOp tag o d).lopeOn = d.lopeOn := rfl
@[simp] theorem putOp_procs (tag : Nat) (o : Op) (d : Dev) : (putOp tag o d).procs = d.procs := rfl
@[simp] theorem putOp_prot (tag : Nat) (o : Op) (d : Dev) : (putOp tag o d).prot = d.prot := rfl
@[simp] theorem putOp_vq (tag : Nat) (o : Op) (d : Dev) : (putOp tag o d).vq = d.vq := rfl
@[simp] theorem putOp_rig (tag : Nat) (o : Op) (d : Dev) : (putOp tag o d).rig = d.rig := rfl
@[simp] theorem putOp_cust (tag : Nat) (o : Op) (d : Dev) : (putOp tag o d).cust = d.cust := rfl
@[simp] theorem putOp_rng (tag : Nat) (o : Op) (d : Dev) : (putOp tag o d).rng = d.rng := rfl
@[simp] theorem putOp_net (tag : Nat) (o : Op) (d : Dev) : (putOp tag o d).net = d.net := rfl
@[simp] theorem putOp_per (tag : Nat) (o : Op) (d : Dev) : (putOp tag o d).per = d.per := rfl
@[simp] theorem putOp_guard (tag : Nat) (o : Op) (d : Dev) : (putOp tag o d).guard = d.guard := rfl
@[simp] theorem putOp_pow (tag : Nat) (o : Op) (d : Dev) : (putOp tag o d).pow = d.pow := rfl
@[simp] theorem putOp_cv (tag : Nat) (o : Op) (d : Dev) : (putOp tag o d).cv = d.cv := rfl
@[simp] theorem putOp_xferSeq (tag : Nat) (o : Op) (d : Dev) : (putOp tag o d).xferSeq = d.xferSeq := rfl
@[simp] theorem putOp_out (tag : Nat) (o : Op) (d : Dev) : (putOp tag o d).out = d.out := rfl
@[simp] theorem putOp_free (tag : Nat) (o : Op) (d : Dev) : (putOp tag o d).free = d.free := rfl

/-! `giveTags` changes `op` only. -/

@[simp] theorem giveTags_life (ts : List Nat) (d : Dev) : (giveTags ts d).life = d.life := rfl
@[simp] theorem giveTags_tb (ts : List Nat) (d : Dev) : (giveTags ts d).tb = d.tb := rfl
@[simp] theorem giveTags_dict (ts : List Nat) (d : Dev) : (giveTags ts d).dict = d.dict := rfl
@[simp] theorem giveTags_audit (ts : List Nat) (d : Dev) : (giveTags ts d).audit = d.audit := rfl
@[simp] theorem giveTags_ks (ts : List Nat) (d : Dev) : (giveTags ts d).ks = d.ks := rfl
@[simp] theorem giveTags_pool (ts : List Nat) (d : Dev) : (giveTags ts d).pool = d.pool := rfl
@[simp] theorem giveTags_bn (ts : List Nat) (d : Dev) : (giveTags ts d).bn = d.bn := rfl
@[simp] theorem giveTags_host (ts : List Nat) (d : Dev) : (giveTags ts d).host = d.host := rfl
@[simp] theorem giveTags_mal (ts : List Nat) (d : Dev) : (giveTags ts d).mal = d.mal := rfl
@[simp] theorem giveTags_lopeOn (ts : List Nat) (d : Dev) : (giveTags ts d).lopeOn = d.lopeOn := rfl
@[simp] theorem giveTags_procs (ts : List Nat) (d : Dev) : (giveTags ts d).procs = d.procs := rfl
@[simp] theorem giveTags_prot (ts : List Nat) (d : Dev) : (giveTags ts d).prot = d.prot := rfl
@[simp] theorem giveTags_vq (ts : List Nat) (d : Dev) : (giveTags ts d).vq = d.vq := rfl
@[simp] theorem giveTags_rig (ts : List Nat) (d : Dev) : (giveTags ts d).rig = d.rig := rfl
@[simp] theorem giveTags_cust (ts : List Nat) (d : Dev) : (giveTags ts d).cust = d.cust := rfl
@[simp] theorem giveTags_rng (ts : List Nat) (d : Dev) : (giveTags ts d).rng = d.rng := rfl
@[simp] theorem giveTags_net (ts : List Nat) (d : Dev) : (giveTags ts d).net = d.net := rfl
@[simp] theorem giveTags_per (ts : List Nat) (d : Dev) : (giveTags ts d).per = d.per := rfl
@[simp] theorem giveTags_guard (ts : List Nat) (d : Dev) : (giveTags ts d).guard = d.guard := rfl
@[simp] theorem giveTags_pow (ts : List Nat) (d : Dev) : (giveTags ts d).pow = d.pow := rfl
@[simp] theorem giveTags_cv (ts : List Nat) (d : Dev) : (giveTags ts d).cv = d.cv := rfl
@[simp] theorem giveTags_xferSeq (ts : List Nat) (d : Dev) : (giveTags ts d).xferSeq = d.xferSeq := rfl
@[simp] theorem giveTags_out (ts : List Nat) (d : Dev) : (giveTags ts d).out = d.out := rfl
@[simp] theorem giveTags_free (ts : List Nat) (d : Dev) : (giveTags ts d).free = d.free := rfl

/-! `onFn` changes `host` only. -/

@[simp] theorem onFn_life (fn : Nat) (f : HostFn → HostFn) (d : Dev) : (onFn fn f d).life = d.life := rfl
@[simp] theorem onFn_tb (fn : Nat) (f : HostFn → HostFn) (d : Dev) : (onFn fn f d).tb = d.tb := rfl
@[simp] theorem onFn_dict (fn : Nat) (f : HostFn → HostFn) (d : Dev) : (onFn fn f d).dict = d.dict := rfl
@[simp] theorem onFn_audit (fn : Nat) (f : HostFn → HostFn) (d : Dev) : (onFn fn f d).audit = d.audit := rfl
@[simp] theorem onFn_op (fn : Nat) (f : HostFn → HostFn) (d : Dev) : (onFn fn f d).op = d.op := rfl
@[simp] theorem onFn_ks (fn : Nat) (f : HostFn → HostFn) (d : Dev) : (onFn fn f d).ks = d.ks := rfl
@[simp] theorem onFn_pool (fn : Nat) (f : HostFn → HostFn) (d : Dev) : (onFn fn f d).pool = d.pool := rfl
@[simp] theorem onFn_bn (fn : Nat) (f : HostFn → HostFn) (d : Dev) : (onFn fn f d).bn = d.bn := rfl
@[simp] theorem onFn_mal (fn : Nat) (f : HostFn → HostFn) (d : Dev) : (onFn fn f d).mal = d.mal := rfl
@[simp] theorem onFn_lopeOn (fn : Nat) (f : HostFn → HostFn) (d : Dev) : (onFn fn f d).lopeOn = d.lopeOn := rfl
@[simp] theorem onFn_procs (fn : Nat) (f : HostFn → HostFn) (d : Dev) : (onFn fn f d).procs = d.procs := rfl
@[simp] theorem onFn_prot (fn : Nat) (f : HostFn → HostFn) (d : Dev) : (onFn fn f d).prot = d.prot := rfl
@[simp] theorem onFn_vq (fn : Nat) (f : HostFn → HostFn) (d : Dev) : (onFn fn f d).vq = d.vq := rfl
@[simp] theorem onFn_rig (fn : Nat) (f : HostFn → HostFn) (d : Dev) : (onFn fn f d).rig = d.rig := rfl
@[simp] theorem onFn_cust (fn : Nat) (f : HostFn → HostFn) (d : Dev) : (onFn fn f d).cust = d.cust := rfl
@[simp] theorem onFn_rng (fn : Nat) (f : HostFn → HostFn) (d : Dev) : (onFn fn f d).rng = d.rng := rfl
@[simp] theorem onFn_net (fn : Nat) (f : HostFn → HostFn) (d : Dev) : (onFn fn f d).net = d.net := rfl
@[simp] theorem onFn_per (fn : Nat) (f : HostFn → HostFn) (d : Dev) : (onFn fn f d).per = d.per := rfl
@[simp] theorem onFn_guard (fn : Nat) (f : HostFn → HostFn) (d : Dev) : (onFn fn f d).guard = d.guard := rfl
@[simp] theorem onFn_pow (fn : Nat) (f : HostFn → HostFn) (d : Dev) : (onFn fn f d).pow = d.pow := rfl
@[simp] theorem onFn_cv (fn : Nat) (f : HostFn → HostFn) (d : Dev) : (onFn fn f d).cv = d.cv := rfl
@[simp] theorem onFn_xferSeq (fn : Nat) (f : HostFn → HostFn) (d : Dev) : (onFn fn f d).xferSeq = d.xferSeq := rfl
@[simp] theorem onFn_out (fn : Nat) (f : HostFn → HostFn) (d : Dev) : (onFn fn f d).out = d.out := rfl
@[simp] theorem onFn_free (fn : Nat) (f : HostFn → HostFn) (d : Dev) : (onFn fn f d).free = d.free := rfl

/-! `onCore` changes `pool` only. -/

@[simp] theorem onCore_life (n : Nat) (f : CipherCore → CipherCore) (d : Dev) : (onCore n f d).life = d.life := rfl
@[simp] theorem onCore_tb (n : Nat) (f : CipherCore → CipherCore) (d : Dev) : (onCore n f d).tb = d.tb := rfl
@[simp] theorem onCore_dict (n : Nat) (f : CipherCore → CipherCore) (d : Dev) : (onCore n f d).dict = d.dict := rfl
@[simp] theorem onCore_audit (n : Nat) (f : CipherCore → CipherCore) (d : Dev) : (onCore n f d).audit = d.audit := rfl
@[simp] theorem onCore_op (n : Nat) (f : CipherCore → CipherCore) (d : Dev) : (onCore n f d).op = d.op := rfl
@[simp] theorem onCore_ks (n : Nat) (f : CipherCore → CipherCore) (d : Dev) : (onCore n f d).ks = d.ks := rfl
@[simp] theorem onCore_bn (n : Nat) (f : CipherCore → CipherCore) (d : Dev) : (onCore n f d).bn = d.bn := rfl
@[simp] theorem onCore_host (n : Nat) (f : CipherCore → CipherCore) (d : Dev) : (onCore n f d).host = d.host := rfl
@[simp] theorem onCore_mal (n : Nat) (f : CipherCore → CipherCore) (d : Dev) : (onCore n f d).mal = d.mal := rfl
@[simp] theorem onCore_lopeOn (n : Nat) (f : CipherCore → CipherCore) (d : Dev) : (onCore n f d).lopeOn = d.lopeOn := rfl
@[simp] theorem onCore_procs (n : Nat) (f : CipherCore → CipherCore) (d : Dev) : (onCore n f d).procs = d.procs := rfl
@[simp] theorem onCore_prot (n : Nat) (f : CipherCore → CipherCore) (d : Dev) : (onCore n f d).prot = d.prot := rfl
@[simp] theorem onCore_vq (n : Nat) (f : CipherCore → CipherCore) (d : Dev) : (onCore n f d).vq = d.vq := rfl
@[simp] theorem onCore_rig (n : Nat) (f : CipherCore → CipherCore) (d : Dev) : (onCore n f d).rig = d.rig := rfl
@[simp] theorem onCore_cust (n : Nat) (f : CipherCore → CipherCore) (d : Dev) : (onCore n f d).cust = d.cust := rfl
@[simp] theorem onCore_rng (n : Nat) (f : CipherCore → CipherCore) (d : Dev) : (onCore n f d).rng = d.rng := rfl
@[simp] theorem onCore_net (n : Nat) (f : CipherCore → CipherCore) (d : Dev) : (onCore n f d).net = d.net := rfl
@[simp] theorem onCore_per (n : Nat) (f : CipherCore → CipherCore) (d : Dev) : (onCore n f d).per = d.per := rfl
@[simp] theorem onCore_guard (n : Nat) (f : CipherCore → CipherCore) (d : Dev) : (onCore n f d).guard = d.guard := rfl
@[simp] theorem onCore_pow (n : Nat) (f : CipherCore → CipherCore) (d : Dev) : (onCore n f d).pow = d.pow := rfl
@[simp] theorem onCore_cv (n : Nat) (f : CipherCore → CipherCore) (d : Dev) : (onCore n f d).cv = d.cv := rfl
@[simp] theorem onCore_xferSeq (n : Nat) (f : CipherCore → CipherCore) (d : Dev) : (onCore n f d).xferSeq = d.xferSeq := rfl
@[simp] theorem onCore_out (n : Nat) (f : CipherCore → CipherCore) (d : Dev) : (onCore n f d).out = d.out := rfl
@[simp] theorem onCore_free (n : Nat) (f : CipherCore → CipherCore) (d : Dev) : (onCore n f d).free = d.free := rfl

/-! `onEngine` changes `bn` only. -/

@[simp] theorem onEngine_life (n : Nat) (f : BnEngine → BnEngine) (d : Dev) : (onEngine n f d).life = d.life := rfl
@[simp] theorem onEngine_tb (n : Nat) (f : BnEngine → BnEngine) (d : Dev) : (onEngine n f d).tb = d.tb := rfl
@[simp] theorem onEngine_dict (n : Nat) (f : BnEngine → BnEngine) (d : Dev) : (onEngine n f d).dict = d.dict := rfl
@[simp] theorem onEngine_audit (n : Nat) (f : BnEngine → BnEngine) (d : Dev) : (onEngine n f d).audit = d.audit := rfl
@[simp] theorem onEngine_op (n : Nat) (f : BnEngine → BnEngine) (d : Dev) : (onEngine n f d).op = d.op := rfl
@[simp] theorem onEngine_ks (n : Nat) (f : BnEngine → BnEngine) (d : Dev) : (onEngine n f d).ks = d.ks := rfl
@[simp] theorem onEngine_pool (n : Nat) (f : BnEngine → BnEngine) (d : Dev) : (onEngine n f d).pool = d.pool := rfl
@[simp] theorem onEngine_host (n : Nat) (f : BnEngine → BnEngine) (d : Dev) : (onEngine n f d).host = d.host := rfl
@[simp] theorem onEngine_mal (n : Nat) (f : BnEngine → BnEngine) (d : Dev) : (onEngine n f d).mal = d.mal := rfl
@[simp] theorem onEngine_lopeOn (n : Nat) (f : BnEngine → BnEngine) (d : Dev) : (onEngine n f d).lopeOn = d.lopeOn := rfl
@[simp] theorem onEngine_procs (n : Nat) (f : BnEngine → BnEngine) (d : Dev) : (onEngine n f d).procs = d.procs := rfl
@[simp] theorem onEngine_prot (n : Nat) (f : BnEngine → BnEngine) (d : Dev) : (onEngine n f d).prot = d.prot := rfl
@[simp] theorem onEngine_vq (n : Nat) (f : BnEngine → BnEngine) (d : Dev) : (onEngine n f d).vq = d.vq := rfl
@[simp] theorem onEngine_rig (n : Nat) (f : BnEngine → BnEngine) (d : Dev) : (onEngine n f d).rig = d.rig := rfl
@[simp] theorem onEngine_cust (n : Nat) (f : BnEngine → BnEngine) (d : Dev) : (onEngine n f d).cust = d.cust := rfl
@[simp] theorem onEngine_rng (n : Nat) (f : BnEngine → BnEngine) (d : Dev) : (onEngine n f d).rng = d.rng := rfl
@[simp] theorem onEngine_net (n : Nat) (f : BnEngine → BnEngine) (d : Dev) : (onEngine n f d).net = d.net := rfl
@[simp] theorem onEngine_per (n : Nat) (f : BnEngine → BnEngine) (d : Dev) : (onEngine n f d).per = d.per := rfl
@[simp] theorem onEngine_guard (n : Nat) (f : BnEngine → BnEngine) (d : Dev) : (onEngine n f d).guard = d.guard := rfl
@[simp] theorem onEngine_pow (n : Nat) (f : BnEngine → BnEngine) (d : Dev) : (onEngine n f d).pow = d.pow := rfl
@[simp] theorem onEngine_cv (n : Nat) (f : BnEngine → BnEngine) (d : Dev) : (onEngine n f d).cv = d.cv := rfl
@[simp] theorem onEngine_xferSeq (n : Nat) (f : BnEngine → BnEngine) (d : Dev) : (onEngine n f d).xferSeq = d.xferSeq := rfl
@[simp] theorem onEngine_out (n : Nat) (f : BnEngine → BnEngine) (d : Dev) : (onEngine n f d).out = d.out := rfl
@[simp] theorem onEngine_free (n : Nat) (f : BnEngine → BnEngine) (d : Dev) : (onEngine n f d).free = d.free := rfl

end Sys2Proof.Machine
end

