-- ==== Sys2Proof/WellFormed.lean ====
section
/-! DEFINITION. Well-formed commands: the operands whose Lean type is wider than what a command carries (byte strings of a
fixed or bounded length, header fields written as numbers) keep to the spec's lengths and widths. The machine answers on every
command, well-formed or not. -/

namespace Sys2Proof

/-- A Malath peer (R409): IPv4 or IPv6 address and UDP port, a CAN node of 7 bits, or one of the four physical functions. -/
def MalPeer.wellFormed : MalPeer → Bool
  | .mgt addr port => decide (addr < 2 ^ 128) && decide (port < 2 ^ 16)
  | .can node => decide (node < 128)
  | .inband pf => decide (pf < 4)

/-- The header of a PDU (R410) with the ALIVE byte of CAN (R414). -/
def MalHdr.wellFormed (h : MalHdr) : Bool :=
  h.peer.wellFormed && decide (h.txn < 2 ^ 16) && decide (h.actor < 2 ^ 16) && decide (h.alive < 2 ^ 8)

/-- The origin of a service request: a function number of 12 bits, one of the 52 associations, a live session's number. -/
def Via.wellFormed : Via → Bool
  | .mailbox fn => decide (fn < 2 ^ 12)
  | .malath assoc txn => decide (assoc < 52) && decide (txn < 2 ^ 16)
  | .firmware _ => true
  | .authorise session _ _ => decide (session < 2 ^ 32)

/-- The header of a service request (R389). -/
def SvcHdr.wellFormed (h : SvcHdr) : Bool :=
  decide (h.ver < 2 ^ 8) && decide (h.session < 2 ^ 32) && decide (h.officer < 2 ^ 16) && h.via.wellFormed

/-- An object's place (R390). -/
def ObjRef.wellFormed (o : ObjRef) : Bool :=
  decide (o.source < 2 ^ 8) && decide (o.length < 2 ^ 32) && decide (o.locator < 2 ^ 64)

/-- An IPv4 or IPv6 address (R327). -/
def addrLenOk (b : Bytes) : Bool := b.length == 4 || b.length == 16

/-- One access of a host to its BAR: 1 to 64 bytes. -/
def accessLenOk (b : Bytes) : Bool := decide (1 ≤ b.length) && decide (b.length ≤ 64)

/-- A write of a check-value unit's data register (R471): 1, 2, 4 or 8 bytes. -/
def cvLenOk (b : Bytes) : Bool := b.length == 1 || b.length == 2 || b.length == 4 || b.length == 8

/-- A card password (R437): 1 to 16 bytes. -/
def passwordLenOk (b : Bytes) : Bool := decide (1 ≤ b.length) && decide (b.length ≤ 16)

/-- An ATR (R439, ICC_ATR): up to 33 bytes. -/
def atrLenOk (b : Bytes) : Bool := decide (b.length ≤ 33)

/-- A frame without its FCS holds a destination, a source and a type (R305). -/
def frameLenOk (b : Bytes) : Bool := decide (14 ≤ b.length)

/-- The command's operands have the lengths and widths the spec gives them. -/
def Instr.wellFormed : Instr → Bool
  | .submissionRead _ _ _ _ _ _ => true
  | .jobComplete _ => true
  | .timeSlew _ => true
  | .timeStep _ => true
  | .hbmChannelFail _ _ => true
  | .lease _ => true
  | .fill _ => true
  | .stale _ => true
  | .hoist _ _ => true
  | .keydata _ _ => true
  | .lineageInval _ _ => true
  | .inval _ _ => true
  | .cacheSweepDone _ _ => true
  | .ack _ _ => true
  | .keyDestroy h _ => h.wellFormed
  | .keyAttr h _ _ => h.wellFormed
  | .keyImport h _ _ _ _ _ obj _ => h.wellFormed && obj.wellFormed
  | .keyInfo h _ => h.wellFormed
  | .keyGenerate h _ _ _ _ => h.wellFormed
  | .keyDerive h _ _ _ _ _ _ => h.wellFormed
  | .clearWrite _ _ _ _ _ _ _ => true
  | .journalPageClose => true
  | .journalPageProgrammed _ => true
  | .compactionBegin => true
  | .compactionCopyDone => true
  | .compactionEraseDone => true
  | .migrateBegin h => h.wellFormed
  | .migrateReady h => h.wellFormed
  | .migrateFinal h => h.wellFormed
  | .migrateAbandon h => h.wellFormed
  | .ostlerDispatch => true
  | .cipherJobDone _ _ => true
  | .coreSelftestStart => true
  | .coreDrained _ => true
  | .coreSelftestDone _ _ _ => true
  | .parityMismatch _ _ _ => true
  | .pinFailInterval => true
  | .pinSuspendEnd _ => true
  | .bnDispatch => true
  | .bnJobDone _ _ _ => true
  | .bnJobTimeout _ => true
  | .bnSelftestStart => true
  | .bnSelftestDone _ _ _ => true
  | .bnSlotcfg _ => true
  | .bnLoad _ => true
  | .bnStore _ => true
  | .bnMontin _ => true
  | .bnMontout _ => true
  | .bnModadd _ => true
  | .bnModsub _ => true
  | .bnModmul _ => true
  | .bnModsqr _ => true
  | .bnModinv _ => true
  | .bnModexp _ => true
  | .bnMul _ => true
  | .bnCmp _ => true
  | .bnCopy _ => true
  | .bnZero _ => true
  | .bnEcadd _ => true
  | .bnEcdbl _ => true
  | .bnEcmul _ => true
  | .bnEccheck _ => true
  | .bnNtt _ => true
  | .bnIntt _ => true
  | .bnPmul _ => true
  | .bnPadd _ => true
  | .bnEnd _ => true
  | .mov _ _ => true
  | .add _ _ => true
  | .sub _ _ => true
  | .and _ _ => true
  | .or _ _ => true
  | .xor _ _ => true
  | .not _ _ => true
  | .neg _ _ => true
  | .shl _ _ => true
  | .shr _ _ => true
  | .sar _ _ => true
  | .shli _ _ => true
  | .shri _ _ => true
  | .sari _ _ => true
  | .mul _ _ => true
  | .mulhu _ _ => true
  | .divu _ _ => true
  | .cmp _ _ => true
  | .cmpeqm _ _ => true
  | .cmpltm _ _ => true
  | .sel _ _ => true
  | .bswap _ _ => true
  | .popc _ _ => true
  | .sett _ _ => true
  | .clt _ _ => true
  | .addi _ _ => true
  | .andi _ _ => true
  | .ori _ _ => true
  | .xori _ _ => true
  | .movi _ _ => true
  | .cmpi _ _ => true
  | .mova _ _ => true
  | .movad _ _ => true
  | .movda _ _ => true
  | .adda _ _ => true
  | .suba _ _ => true
  | .cmpa _ _ => true
  | .addai _ _ => true
  | .movai _ _ => true
  | .ldB _ _ => true
  | .ldH _ _ => true
  | .ldW _ _ => true
  | .ldD _ _ => true
  | .stB _ _ => true
  | .stH _ _ => true
  | .stW _ _ => true
  | .stD _ _ => true
  | .lda _ _ => true
  | .sta _ _ => true
  | .ldx _ _ => true
  | .stx _ _ => true
  | .mfld _ _ => true
  | .mfst _ _ => true
  | .xmov _ _ => true
  | .xand _ _ => true
  | .xOr _ _ => true
  | .xxor _ _ => true
  | .xaddb _ _ => true
  | .xsubb _ _ => true
  | .xcmpeqb _ _ => true
  | .xcmpltb _ _ => true
  | .xsel _ _ => true
  | .xins _ _ => true
  | .xext _ _ => true
  | .xshlb _ _ => true
  | .xshrb _ _ => true
  | .xzero _ _ => true
  | .xbcast _ _ => true
  | .xrev _ _ => true
  | .xmaskl _ _ => true
  | .b _ _ => true
  | .bl _ _ => true
  | .jr _ _ _ => true
  | .bz _ _ => true
  | .bnz _ _ => true
  | .wfe _ _ => true
  | .wfeWake _ => true
  | .wfeLimitExpire _ => true
  | .sev _ _ => true
  | .sevAll _ _ => true
  | .wtu _ _ => true
  | .wtuTargetReached _ => true
  | .wtuLimitExpire _ => true
  | .rep _ _ => true
  | .repu _ _ => true
  | .time _ _ => true
  | .job _ _ => true
  | .jobx _ _ => true
  | .jwait _ _ => true
  | .jobSlotComplete _ _ => true
  | .mfc _ _ => true
  | .mtc _ _ => true
  | .nop _ _ => true
  | .rfe _ _ => true
  | .halt _ _ => true
  | .fence _ _ => true
  | .pswap _ _ => true
  | .gfence _ _ => true
  | .call _ _ => true
  | .interruptEntry _ => true
  | .budgetExpire _ => true
  | .haltReq _ => true
  | .engineRestart _ => true
  | .custodianSignal _ => true
  | .revoke _ _ => true
  | .revokeFenceDone _ => true
  | .load _ _ => true
  | .loadDone _ => true
  | .vqHeadRead => true
  | .vqTailWrite _ => true
  | .vqLostRead _ => true
  | .messageDeliver _ => true
  | .parseEnd _ => true
  | .sliceStart _ _ => true
  | .sliceDeadline _ _ => true
  | .emitEnd _ => true
  | .messageRelease _ => true
  | .rigAdmit h obj _ => h.wellFormed && obj.wellFormed
  | .quiesceDrained _ => true
  | .quiesceTimeout _ => true
  | .rigRetire h _ => h.wellFormed
  | .portEnable _ _ => true
  | .portConfigChange _ _ _ => true
  | .anComplete _ _ _ => true
  | .trainingDone _ => true
  | .trainingTimeout _ => true
  | .anRestart _ => true
  | .blockLock _ _ _ => true
  | .amCandidate _ _ _ => true
  | .amConfirm _ _ _ _ => true
  | .amMiss _ _ _ _ => true
  | .linkDownTimeout _ => true
  | .fecWindow _ _ _ _ _ _ => true
  | .frameReceive _ f => frameLenOk f.bytes
  | .frameTransmit _ frame => frameLenOk frame
  | .rxscSet h _ _ _ _ => h.wellFormed
  | .saCreate h _ _ _ _ _ _ _ salt => h.wellFormed && salt.length == 12
  | .saEnable h _ _ _ _ => h.wellFormed
  | .txArm h _ _ => h.wellFormed
  | .saDelete h _ _ _ _ => h.wellFormed
  | .macsecEnableWrite _ _ => true
  | .saKeyResolveTimeout _ _ _ => true
  | .neighbourRetry _ addr => addrLenOk addr
  | .neighbourTimeout _ addr => addrLenOk addr
  | .neighbourLapse _ addr => addrLenOk addr
  | .heldMessageAdmit => true
  | .tcpRetransmitTimeout _ => true
  | .tcpKeepalive _ => true
  | .timeWaitExpire _ => true
  | .halfOpenLapse _ => true
  | .routeReconnect _ => true
  | .routeWrite _ body => body.length == 32
  | .listenerEnable _ _ => true
  | .listenerCloseTimeout _ => true
  | .sendBufferTimeout _ => true
  | .sqTailWrite _ _ _ => true
  | .bqTailWrite _ _ _ => true
  | .dqHeadWrite _ _ _ => true
  | .delivery _ _ => true
  | .deliveryTimeout _ => true
  | .negotiate _ _ _ => true
  | .channelOpen _ _ _ _ _ _ _ => true
  | .channelClose _ _ _ => true
  | .channelCloseSquash _ => true
  | .redeliver _ _ _ _ _ _ _ => true
  | .mailboxJob _ _ desc _ => desc.length == 64
  | .flr _ => true
  | .flrSquash _ _ => true
  | .flrClose _ _ => true
  | .flrDone _ _ => true
  | .vfEnableChange _ _ => true
  | .hostLinkDown _ => true
  | .msixCoalTimer _ _ _ => true
  | .msixUnmask _ _ => true
  | .badAccessRead _ => true
  | .registerWrite _ _ data _ => accessLenOk data
  | .serviceInfo h => h.wellFormed
  | .domainCreate h _ => h.wellFormed
  | .domainDelete h _ => h.wellFormed
  | .officerEnrol h _ _ pin obj _ _ => h.wellFormed && obj.wellFormed && pin.length == 12
  | .officerRevoke h _ => h.wellFormed
  | .officerLogin h _ _ _ pin _ => h.wellFormed && pin.length == 12
  | .officerLogout h _ => h.wellFormed
  | .loginIdleExpire _ => true
  | .sessionOpen h req => h.wellFormed && req.hdr.wellFormed
  | .sessionAuthorise h _ _ _ => h.wellFormed
  | .sessionCancel h => h.wellFormed
  | .sessionStatus h => h.wellFormed
  | .sessionExpire _ => true
  | .fwStage h obj _ => h.wellFormed && obj.wellFormed
  | .deviceReset h => h.wellFormed
  | .hobbleUnlock h => h.wellFormed
  | .dictWrite h _ _ _ obj _ => h.wellFormed && obj.wellFormed
  | .wdKick _ => true
  | .watchdogExpire => true
  | .clusterRebootDone => true
  | .hello h _ _ _ => h.wellFormed
  | .read h _ _ _ => h.wellFormed
  | .write h _ _ _ _ _ => h.wellFormed
  | .segInit h _ _ _ _ _ _ => h.wellFormed
  | .segData h _ _ _ _ => h.wellFormed
  | .segAck h _ _ _ => h.wellFormed
  | .segAbort h _ _ => h.wellFormed
  | .segAckTimeout _ _ => true
  | .segProgressTimeout _ _ => true
  | .stagingExpire _ _ => true
  | .heartbeat _ => true
  | .assocIdleExpire _ => true
  | .canErrorFrame _ => true
  | .canFrameAbandon => true
  | .canBusoff => true
  | .busoffRecovery => true
  | .busoffAuto _ => true
  | .canTimingWrite _ _ => true
  | .sdCardDetect _ => true
  | .sdRetune _ _ => true
  | .sdCardRemove => true
  | .sdUnlock pwd => passwordLenOk pwd
  | .sdSetPwd _ => true
  | .sdForceErase _ => true
  | .sdEraseDone => true
  | .iccCardInsert _ => true
  | .iccAtr _ atr => atrLenOk atr
  | .iccAtrTimeout _ => true
  | .iccPpsResponse _ _ => true
  | .iccBlockError _ => true
  | .iccCardRemove _ => true
  | .pincfgWrite _ _ _ => true
  | .pinSwitchWindowClose _ => true
  | .timeCapture => true
  | .pinAbortsRead _ => true
  | .entropyTestFail _ _ => true
  | .sourceRestart _ => true
  | .sourceRejoin _ => true
  | .blockComplete => true
  | .blockRelease => true
  | .reseed => true
  | .reseedInterval _ => true
  | .reseedWaitTimeout _ => true
  | .generateCall _ => true
  | .drbgKat _ => true
  | .drbgKatDone _ _ => true
  | .rngDataRead _ _ _ => true
  | .rngCtlReseed _ _ => true
  | .cvStart _ _ => true
  | .cvData _ body => cvLenOk body
  | .cvCtlWrite _ _ => true
  | .transferCheck _ _ _ => true
  | .auditEvent => true
  | .auditMergeWindowClose => true
  | .stormRecordClose => true
  | .stormTimeout => true
  | .auditPageClose => true
  | .auditPageDurable => true
  | .cursor _ _ => true
  | .batch _ => true
  | .fcursor _ _ => true
  | .fbatch _ => true
  | .faultAck _ => true
  | .fnTailWrite _ => true
  | .fnOverRead _ => true
  | .detectorAssert _ _ _ _ _ => true
  | .detectorDisagreeTimeout => true
  | .detectorSelfCheck _ _ _ _ => true
  | .shadowMismatch _ _ _ _ => true
  | .vbatThreshold _ => true
  | .extLoopEnable _ => true
  | .extLoopEffect => true
  | .lcRequest _ _ => true
  | .token _ => true
  | .tokenClose => true
  | .dbgChal _ _ _ => true
  | .dbgResp _ _ => true
  | .debugConsent _ _ _ => true
  | .debugGrantExpire => true
  | .calSet _ => true
  | .gaitRequest _ => true
  | .walkIdleGate _ => true
  | .stringWakeDone _ => true
  | .reefStepUp _ _ _ _ => true
  | .reefStepDown _ _ => true
  | .overtempPowerOff _ _ => true
  | .pwrKillRelease _ => true
  | .pmbusFault => true
  | .gallopWearTick => true
  | .gallopCountSave => true
  | .standbyEntryDone => true
  | .wakeN => true
  | .powerOnReset _ => true
  | .warmReset => true
  | .jtagReset => true
  | .hostLinkUp _ _ _ _ => true
  | .mgtLinkChange _ => true
  | .corrEntryExpire => true
  | .cresetsExpire => true
  | .pctlWrite _ _ => true
  | .standbySetWrite _ _ _ => true
  | .iccBlockReceive _ _ _ _ => true
  | .rngStatWrite _ _ => true

end Sys2Proof
end

