-- ==== Sys2Proof/Tests/Slice0.lean ====
section
/-! SUPPORT. Tests of the model: ill-formed commands that WellFormed refuses, values the spec's tables and worked examples give,
and for every statement with hypotheses a state and operands that meet them. -/

set_option linter.unusedVariables false

open Sys2Proof Sys2Proof.Machine

namespace Sys2Proof.Tests

/-! Ill-formed commands, one for each check of WellFormed. -/

/-- A request of firmware on CU0, well-formed. -/
def fwHdr : SvcHdr := { via := .firmware 0 }

theorem test_wf_ok : (Instr.serviceInfo fwHdr).wellFormed = true ∧
    (Instr.hello { peer := .can 0x21, txn := 0, actor := 0 } 0x0C 0 0).wellFormed = true ∧
    (Instr.routeWrite 3 (zeros 32)).wellFormed = true := by decide
theorem test_wf_version : (Instr.serviceInfo { fwHdr with ver := 256 }).wellFormed = false := by decide
theorem test_wf_session : (Instr.sessionCancel { fwHdr with session := 2 ^ 32 }).wellFormed = false := by decide
theorem test_wf_officer : (Instr.serviceInfo { fwHdr with officer := 65536 }).wellFormed = false := by decide
theorem test_wf_via : (Instr.serviceInfo { fwHdr with via := .mailbox 4096 }).wellFormed = false ∧
    (Instr.serviceInfo { fwHdr with via := .malath 52 0 }).wellFormed = false ∧
    (Instr.serviceInfo { fwHdr with via := .malath 0 65536 }).wellFormed = false := by decide
theorem test_wf_object : (Instr.fwStage fwHdr { source := 256, length := 0, locator := 0, found := true }
    factoryImage).wellFormed = false ∧
    (Instr.fwStage fwHdr { source := 0, length := 2 ^ 32, locator := 0, found := true } factoryImage).wellFormed = false ∧
    (Instr.fwStage fwHdr { source := 0, length := 0, locator := 2 ^ 64, found := true } factoryImage).wellFormed = false := by
  decide
theorem test_wf_peer : (Instr.hello { peer := .can 128, txn := 0, actor := 0 } 0 0 0).wellFormed = false ∧
    (Instr.hello { peer := .inband 4, txn := 0, actor := 0 } 0 0 0).wellFormed = false ∧
    (Instr.hello { peer := .mgt 0 65536, txn := 0, actor := 0 } 0 0 0).wellFormed = false := by decide
theorem test_wf_pdu : (Instr.hello { peer := .can 1, txn := 65536, actor := 0 } 0 0 0).wellFormed = false ∧
    (Instr.hello { peer := .can 1, txn := 0, actor := 65536 } 0 0 0).wellFormed = false ∧
    (Instr.hello { peer := .can 1, txn := 0, actor := 0, alive := 256 } 0 0 0).wellFormed = false := by decide
theorem test_wf_salt : (Instr.saCreate fwHdr 0 0 0 0 0 0 0 (zeros 11)).wellFormed = false := by decide
theorem test_wf_pin : (Instr.officerLogin fwHdr 0 4 1 (zeros 13)
    { answered := true, selected := true, pinSw := 0x9000, sigOk := true }).wellFormed = false := by decide
theorem test_wf_address : (Instr.neighbourRetry 0 (zeros 5)).wellFormed = false := by decide
theorem test_wf_frame : (Instr.frameTransmit 0 (zeros 13)).wellFormed = false := by decide
theorem test_wf_route : (Instr.routeWrite 0 (zeros 31)).wellFormed = false := by decide
theorem test_wf_access : (Instr.registerWrite 0 0 [] false).wellFormed = false ∧
    (Instr.registerWrite 0 0 (zeros 65) false).wellFormed = false := by decide
theorem test_wf_descriptor : (Instr.mailboxJob 0 0 (zeros 63) .error).wellFormed = false := by decide
theorem test_wf_checkvalue : (Instr.cvData 0 (zeros 3)).wellFormed = false := by decide
theorem test_wf_password : (Instr.sdUnlock []).wellFormed = false ∧ (Instr.sdUnlock (zeros 17)).wellFormed = false := by
  decide
theorem test_wf_atr : (Instr.iccAtr 0 (zeros 34)).wellFormed = false := by decide

/-! Values that the spec's tables and worked examples give. -/

/-- No row of the table has bits, so no word spells a command. -/
theorem test_no_word_decodes : decodeTableWord 32 0 = none ∧ decodeTableWord 0 0 = none := by decide

/-- The nine ASCII bytes "123456789" (R470). -/
def ascii9 : Bytes := [0x31, 0x32, 0x33, 0x34, 0x35, 0x36, 0x37, 0x38, 0x39]

set_option maxRecDepth 20000 in
/-- The check values of R470's table. -/
theorem test_crc_check_values : crcOf 0 ascii9 = 0xE3069283 ∧ crcOf 1 ascii9 = 0xCBF43926 ∧
    crcOf 2 ascii9 = 0x6C40DF5F0B497347 ∧ crcOf 3 ascii9 = 0x29B1 ∧ crc32c ascii9 = 0xE3069283 := by decide

/-- minlen of FF1, from the table of R152. -/
theorem test_ff1_minlen : [2, 4, 8, 10, 16, 26, 36, 62, 256].map minLen = [20, 10, 7, 6, 5, 5, 4, 4, 3] := by decide

/-- CAN identifiers of the cabinet example: HELLO to node 0x10 from 0x21, its answer, the heartbeat (R414). -/
theorem test_can_identifiers : canIdent 0x08 0x10 0x21 = 0x08102100 ∧ canIdent 0x0C 0x21 0x10 = 0x0C211000 ∧
    canIdent 0x04 0xFF 0x10 = 0x04FF1000 := by decide

/-- Region 5 of the protection example: BASE 0x4800_0000 maps offset 0x0480_0000 of the data space, domain 0x02A, readable and
writable in user mode; after the revocation it is not writable (R235, R236). -/
def region5 : Region := { base := 0x48000000, limit := 0x480FFFFF, hbase := 0x00120000, rattr := 0x80A8002B }

theorem test_region5 : malformed region5 = false ∧ rDomain region5 = 0x02A ∧ rHbm region5 = true ∧ rUser region5 = true ∧
    rWrite region5 = true ∧ rRead region5 = true ∧ region5.hbase * 64 = 0x04800000 ∧ hbmRegion 0x04800000 = 0 ∧
    rWrite { region5 with rattr := 0x80A80029 } = false := by decide

/-- ME 7.4 of that example, in user mode in domain 0x02A, with region 5 in its active set. -/
def me74 : Dev :=
  { lopeOn := true, procs := [(116, { sr := 0x0002A000#32 })],
    prot := [(116, { gen := 0x912, active := { rsctl := 0x8000002A, regions := [region5] } })] }

/-- Its store to 0x4800_0040 is granted; under RATTR 0x80A8_0029 it is denied with KIND 0x04 (R238, R250). -/
theorem test_revocation_example :
    checkAccess me74 116 (procOf me74 116) 0x48000040 8 false true = .granted (hbmBase + 0x04800040) true false ∧
    checkAccess { me74 with prot := [(116, { active := { regions := [{ region5 with rattr := 0x80A80029 }] } })] }
      116 (procOf me74 116) 0x48000080 8 false true = .denied 0x04 0 ∧ srcProc 116 = 0x0074 := by decide

/-! Witnesses: for each statement with hypotheses, a state and operands that meet them. The Lope processors. -/

/-- A device whose processors have been released, with one processor's registers given. -/
def lopeDev (p : Nat) (q : Proc) : Dev := { lopeOn := true, procs := [(p, q)] }

/-- A state with that device and empty memory. -/
def lope (p : Nat) (q : Proc) : State := { dev := lopeDev p q }

/-- A message engine in user mode, whose rule set lets it run code at 0x0020_1000. -/
def userDev (q : Proc) : Dev :=
  { lopeOn := true, procs := [(0, { q with sr := 0#32, pc := 0x201000#32 })],
    prot := [(0, { active := { codeBase := 0x201000, codeLimit := 0x201FFF } })] }

def user (q : Proc) : State := { dev := userDev q }

/-- AluOfTwoRegisters, AluOfOneRegister, ImmediateForms, CompareFlags, AddressesAndAccumulators, Branches and the first group of
the other statements on instructions: a processor issues, a message engine and a custodian core, in both modes. -/
theorem wit_issues : Issues (lope 0 {}) 0 ∧ Issues (lope 511 {}) 511 ∧ Issues (lope 512 { sr := 0xC0000000#32 }) 512 ∧
    Issues (user {}) 0 ∧ isPriv (procOf (user {}).dev 0) = false := by decide

/-- ADD wraps, DIVU by zero gives all ones, MULHU takes the high half (R208). -/
def sum2 : Proc := { d := (Vector.replicate 16 0#64).set 1 0xFFFFFFFFFFFFFFFF#64 |>.set 2 1#64 }

def dOf (o : Out) (p : Nat) (r : Fin 16) : Option (BitVec 64) :=
  match o with
  | .next t => some (procOf t.dev p).d[r]
  | _ => none

def rf (rd ra rb : BitVec 4) : RFmt := { rd := rd, ra := ra, rb := rb, aux := 0, e := false }

theorem test_add_wraps : dOf (exec (.add 0 (rf 1 1 2)) (lope 0 sum2)) 0 1 = some 0#64 := by decide
theorem test_divu_by_zero : dOf (exec (.divu 0 (rf 4 1 3)) (lope 0 sum2)) 0 4 = some 0xFFFFFFFFFFFFFFFF#64 := by decide
theorem test_mulhu : dOf (exec (.mulhu 0 (rf 4 1 1)) (lope 0 sum2)) 0 4 = some 0xFFFFFFFFFFFFFFFE#64 := by decide
theorem test_movi_negative : dOf (exec (.movi 0 { rd := 5, ra := 0, resv := false, imm16 := 0xFFFE#16, e := false, ext := 0 })
    (lope 0 {})) 0 5 = some 0xFFFFFFFFFFFFFFFE#64 := by decide

/-- ImmediateForms, CompareFlags, AddressesAndAccumulators, Branches: register fields at both ends of their range, a taken and
an untaken condition. -/
theorem wit_fields : aReg 0#4 = some 0 ∧ aReg 7#4 = some 7 ∧ aReg 8#4 = none ∧ xReg 0#4 = some 0 ∧ xReg 3#4 = some 3 ∧
    xReg 4#4 = none ∧ (procOf (lope 0 {}).dev 0).xPend[3] = false ∧ (procOf (lope 0 {}).dev 0).dTag[15] = false ∧
    condHolds 0#32 0 = some true ∧ condHolds 0#32 1 = some false ∧ condHolds 0xF#32 14 ≠ none ∧ condHolds 0#32 15 = none ∧
    bitAt 0#32 srFt = false := by decide

/-- MODE 2 of format M on A1, post-incremented by 8. -/
def mode2 : MFmt := { rd := 2, ab := 1, mode := 2, imm16 := 8, e := false, ext := 0 }

/-- An engine with A1 at 0x40 of its scratch, 0x77 in D2 and in memory at 0x40. -/
def loads : State :=
  { dev := lopeDev 0 { a := (Vector.replicate 8 0#32).set 1 0x40#32, d := (Vector.replicate 16 0#64).set 2 0x77#64 },
    mem := [(0x40, 0x77#8)] }

/-- Loads: a granted load of each length, and a denied one. -/
theorem wit_Loads : Issues loads 0 ∧
    effAddr (procOf loads.dev 0) mode2 = .ok (0x40#32, some (1, 0x48#32)) ∧
    loadBytes 0 (procOf loads.dev 0) 0x40 1 loads = .ok ([0x77#8], false, loads) ∧
    loadBytes 0 (procOf loads.dev 0) 0x40 8 loads = .ok ([0x77#8, 0, 0, 0, 0, 0, 0, 0], false, loads) ∧
    checkAccess loads.dev 0 (procOf loads.dev 0) 0x7FE0 32 true false = .granted 0x7FE0 false false ∧
    poisonedAt 0x7FE0 32 loads.dev = false ∧ memBad loads.dev 0x7FE0 32 = false ∧
    checkAccess loads.dev 0 (procOf loads.dev 0) 0x1F0000 8 true false = .denied 0x02 0xFF :=
  ⟨by decide, rfl, rfl, rfl, by decide, by decide, by decide, by decide⟩

/-- StoresAndMaskedFields, StoreMemoryFrame: stores granted and denied; a field of 32 bytes at the end of the scratch. -/
def mf : MFFmt := { xd := 0, ab := 1, dl := 2, max1 := 31, s := false, off := 0, e := false }

def fields : State := { dev := lopeDev 0 { a := (Vector.replicate 8 0#32).set 1 0x7FE0#32 } }

theorem wit_Stores : Issues loads 0 ∧
    (∃ t, storeBytes 0 (procOf loads.dev 0) 0x40 (le 8 0x77) false loads = .ok t) ∧
    checkAccess loads.dev 0 (procOf loads.dev 0) 0x40 8 false true = .granted 0x40 false false ∧
    checkAccess loads.dev 0 (procOf loads.dev 0) 0x1F0000 8 false true = .denied 0x02 0xFF ∧
    memWf loads.mem = true ∧ Issues fields 0 ∧ mf.max1.toNat + 1 = 32 ∧ 0x7FE0 + 32 ≤ 0x8000 ∧
    (procOf fields.dev 0).xPend[xReg2 mf.xd] = false ∧ poisonedAt 0x7FE0 32 fields.dev = false ∧ memBad fields.dev 0x7FE0 32 = false ∧
    checkAccess fields.dev 0 (procOf fields.dev 0) 0x7FE0 32 true false = .granted 0x7FE0 false false ∧
    checkAccess fields.dev 0 (procOf fields.dev 0) 0x7FE0 32 true true = .granted 0x7FE0 false false :=
  ⟨by decide, ⟨_, rfl⟩, by decide, by decide, by decide, by decide, by decide, by decide, by decide, by decide, by decide,
   by decide⟩

theorem wit_StoreMemoryFrame : Issues loads 0 ∧ memWf loads.mem = true ∧
    (∃ t, exec (.stD 0 mode2) loads = .next t) ∧ (∃ t, exec (.ldD 0 mode2) loads = .next t) ∧ 0x40 % 32 = 0 :=
  ⟨by decide, by decide, ⟨_, rfl⟩, ⟨_, rfl⟩, rfl⟩

/-- EventsAndWaits: an event bit selected and none, a target passed and one ahead, a finished job slot and a busy one, both
ends of SEV's slots; a WFE and a WTU in progress. -/
def evQ : Proc :=
  { ev := 1#32, d := (Vector.replicate 16 0#64).set 1 1#64 |>.set 2 2#64 |>.set 3 100#64,
    jobs := (Vector.replicate 8 {}).set 0 { issued := true } |>.set 7 { issued := true },
    jstat := (Vector.replicate 8 0#64).set 7 0x10000#64 }

theorem wit_EventsAndWaits : Issues (lope 0 evQ) 0 ∧ evQ.dTag[1] = false ∧
    evQ.ev &&& (evQ.d[1].truncate 32 : BitVec 32) ≠ 0#32 ∧ evQ.ev &&& (evQ.d[2].truncate 32 : BitVec 32) = 0#32 ∧
    evQ.d[0].toNat ≤ (lope 0 evQ).dev.tb.now ∧ (lope 0 evQ).dev.tb.now < evQ.d[3].toNat ∧
    evQ.d[0].toNat % 2 ^ 32 = 0 ∧ evQ.d[3].toNat % 2 ^ 32 ≠ 0 ∧
    evQ.jobs[jsReg 0].issued = true ∧ evQ.jstat[jsReg 0].getLsbD 16 = false ∧
    evQ.jobs[jsReg 7].issued = true ∧ evQ.jstat[jsReg 7].getLsbD 16 = true ∧
    (0 / 16 * 16 + (15#4).toNat ≠ 0) ∧ (0 / 16 * 16 + (0#4).toNat = 0) ∧
    (procOf (lope 0 { evQ with wait := some (.wfe 1 1#32 (some 5) 8) }).dev 0).wait = some (.wfe 1 1#32 (some 5) 8) ∧
    (procOf (lope 0 { evQ with wait := some (.wtu 5 5) }).dev 0).wait = some (.wtu 5 5) := by decide

/-- ControlAndSystemInstructions: what REP and REPU may repeat, registers both modes reach, a PSWAP and a GFENCE that run. -/
theorem wit_Control : repForbidden 0x01 = false ∧ repuAllowed 0x20 = true ∧
    (crRead 0 {} 0x00D).isSome = true ∧ userReads 0x00D = true ∧ (crRead 0 {} 2).isSome = true ∧
    isPriv (procOf (lope 0 {}).dev 0) = true ∧ busySlots (procOf (lope 0 {}).dev 0) = [] ∧
    (protOf (lope 0 {}).dev 0).slock = false ∧ (protOf (lope 0 {}).dev 0).loadBusy = none ∧
    oldJobs (protOf (lope 0 {}).dev 0) (procOf (lope 0 {}).dev 0) = false := by decide

/-- ProcessorAndProtectionEvents: an interrupt at a boundary, a budget used up, an engine out of service; a valid standby set
of the active set's domain, a revocation and a LOAD in progress. -/
def setOk : RuleSet := { rsctl := 0x8000002A }

theorem wit_ProcessorAndProtection :
    (let q := procOf (lope 0 { sr := 0xA0000000#32, ev := 1#32, evm := 1#32 }).dev 0
     q.dead = false ∧ q.halted = false ∧ q.off = false ∧ repuOn q = false ∧ q.haltReq = false ∧ intOn q = true ∧
       q.preempt = false ∧ q.ev &&& q.evm ≠ 0#32 ∧ q.wait = none) ∧
    (let q := procOf (user { budget := 5#64, cycle := 5#64 }).dev 0
     q.dead = false ∧ isPriv q = false ∧ q.budget ≠ 0#64 ∧ q.budget.toNat ≤ q.cycle.toNat) ∧
    (procOf (lope 511 { dead := true }).dev (511 : Fin 512).val).dead = true ∧
    (let u : ProtUnit := { active := setOk, standby := setOk }
     u.revokeBusy = false ∧ u.revokePending = false ∧ rsValid u.standby = true ∧ rsDomain u.standby = rsDomain u.active) ∧
    repuOn (procOf (lope 0 { sr := 0x98000000#32, repAt := 0x200000#32 }).dev 0) = true ∧
    oldJobs { revokeBusy := true } {} = false ∧ ({ loadBusy := some 63 } : ProtUnit).loadBusy = some (63 : Fin 64).val := by
  decide

/-- LopeFaults: a privileged instruction in user mode, tagged flags, a tagged register, a misaligned and an absent address. -/
theorem wit_LopeFaults : Issues (user {}) 0 ∧ isPriv (procOf (user {}).dev 0) = false ∧
    (0x82000000#32 : BitVec 32).getLsbD srFt = true ∧
    Issues (lope 0 { dTag := (Vector.replicate 16 false).set 15 true }) 0 ∧
    (procOf (lope 0 { dTag := (Vector.replicate 16 false).set 15 true }).dev 0).dTag[dReg 15] = true ∧
    effAddr {} { mode2 with mode := 1, imm16 := 1 } = .ok (1#32, none) ∧
    effAddr {} { mode2 with mode := 0, ab := 0, e := true, imm16 := 0, ext := 0x8000#32 } = .ok (0x8000#32, none) ∧
    spaceOf 0x8000 = .reserved ∧ spaceOf 0x7FFF = .scratch ∧ intOn { sr := 0xA0000000#32 } = true ∧
    Issues (lope 0 { sr := 0x98000000#32, repAt := 0x200000#32 }) 0 ∧ repuOn (procOf (lope 0 { sr := 0x98000000#32, repAt := 0x200000#32 }).dev 0) = true ∧
    effAddr {} { mode2 with mode := 0, ab := 0, e := true, imm16 := 0, ext := 0x40000000#32 } = .ok (0x40000000#32, none) ∧
    spaceOf 0x40000000 = .hbm ∧ repuSlow 0 0x1FFFFF { sr := 0x98000000#32, repAt := 0x200000#32 } = false :=
  ⟨by decide, by decide, by decide, by decide, by decide, rfl, rfl, by decide, by decide, by decide, by decide, by decide,
   rfl, by decide, by decide⟩

/-- RegisterFrame: an instruction of the list that answers. -/
theorem wit_RegisterFrame : Issues (lope 0 {}) 0 ∧ (protOf (lope 0 {}).dev 0).revokePending = false ∧
    (∃ t, exec (.add 0 (rf 1 2 3)) (lope 0 {}) = .next t) := ⟨by decide, by decide, ⟨_, rfl⟩⟩


/-! The words of the worked program of chapter 6 spell the instructions it gives beside them; an all-zero word and a word with
an OP or SUB the table does not list spell none. -/

theorem test_word_mfld : decodeLope 0 0x70A11C20#32 0#32 =
    some (.mfld 0 { xd := 1, ab := 2, dl := 1, max1 := 7, s := false, off := 0x20, e := false }) := by decide
theorem test_word_mfld_secret : decodeLope 0 0x71224A08#32 0#32 =
    some (.mfld 0 { xd := 2, ab := 2, dl := 2, max1 := 18, s := true, off := 8, e := false }) := by decide
theorem test_word_mfst : decodeLope 0 0x74B11C80#32 0#32 =
    some (.mfst 0 { xd := 1, ab := 3, dl := 1, max1 := 7, s := false, off := 0x80, e := false }) := by decide
theorem test_word_addi : decodeLope 0 0x08840008#32 0#32 =
    some (.addi 0 { rd := 4, ra := 2, resv := false, imm16 := 8, e := false, ext := 0 }) := by decide
theorem test_word_job : decodeLope 0 0xE01ADA90#32 0#32 =
    some (.job 0 { js := 0, at_ := 3, dk := 5, kp := true, dk2 := 6, k2p := true, dl := 4, lp := true, s := false, resv := 0,
                   e := false }) := by decide
theorem test_word_jwait : decodeLope 0 0xE8E00000#32 0#32 = some (.jwait 0 { rd := 7, resv := 0, js := 0, e := false }) := by
  decide
theorem test_word_cmpeqm : decodeLope 0 0x05781200#32 0#32 =
    some (.cmpeqm 0 { rd := 11, ra := 12, rb := 0, aux := 0, e := false }) := by decide
theorem test_word_sel : decodeLope 0 0x05BDF40B#32 0#32 =
    some (.sel 0 { rd := 13, ra := 14, rb := 15, aux := 11, e := false }) := by decide
theorem test_word_sth : decodeLope 0 0x55A90040#32 0#32 =
    some (.stH 0 { rd := 13, ab := 2, mode := 1, imm16 := 0x40, e := false, ext := 0 }) := by decide
theorem test_word_sev : decodeLope 0 0xC4500000#32 0#32 = some (.sev 0 { slot := 5, resv := 0, e := false }) := by decide
theorem test_word_call : decodeLope 0 0xF8000601#32 0#32 =
    some (.call 0 { rd := 0, ra := 0, rb := 0, aux := 1, e := false }) := by decide
theorem test_word_undefined : decodeLope 0 0#32 0#32 = none ∧ decodeLope 0 0x04001900#32 0#32 = none ∧
    decodeLope 0 0xFC000000#32 0#32 = none := by decide

/-- A processor runs the word at its program counter, little-endian; an all-zero word is fault ILLEGAL (R204). -/
theorem test_run_word : dOf (.next (runWord 0 { lope 0 {} with
    mem := [(0x20000000, 5#8), (0x20000002, 0x20#8), (0x20000003, 0x18#8)] })) 0 1 = some 5#64 := by decide

/-! Jobs and keys. -/

/-- A key record of domain 5, committed and counted, in its domain's general area. -/
def key1 : KeyRec :=
  { cls := 3, level := 2, gen := 2, usage := 0x40, exportPol := 0, domain := 5, typ := 0x01, uses := 100, lineage := [(6, 0)],
    material := zeros 16 }

/-- An uncounted one. -/
def handle1 : Nat := mkHandle 3 0x2000 2

/-- A job source on an engine: the template at 0x40 of the scratch, the input length from D3. -/
def jobQ : Proc :=
  { a := (Vector.replicate 8 0#32).set 1 0x40#32, d := (Vector.replicate 16 0#64).set 3 8#64, slice := some (5, 0) }

def msgOp : Op := { phase := .running, req := { src := .message 0 0, job := Job.ofBytes [] }, resv := [9] }

def jobs : State := { dev := { lopeDev 0 jobQ with op := { ops := [(5, msgOp)] } } }

def jf : JFmt :=
  { js := 7, at_ := 1, dk := 0, kp := true, dk2 := 0, k2p := true, dl := 3, lp := true, s := false, resv := 0, e := false }

def jx : JXFmt := { xd := 3, xs := 0, dk := 15, len := 3, js := 0, s := false, resv := 0, func := 0x11, e := false }

/-- JobsIssued: an engine's job drawn from its message's reserved tags, and a custodian core's. -/
theorem wit_JobsIssued : Issues jobs 0 ∧ (0 < 512 ∧ jobQ.custodianWork = false ∧ look jobs.dev.op.ops 5 = some msgOp ∧
      msgOp.resv = [9]) ∧
    (procOf jobs.dev 0).a[abReg jf.at_].toNat = 0x40 ∧ templateAt 0 0x40 = true ∧
    (let tpl := Job.ofBytes (readBytes jobs.mem (physOf 0 0x40) 64)
     tpl.service ≠ 1 ∧ tpl.inSgl = false ∧ tpl.outSgl = false) ∧
    (procOf jobs.dev 0).dTag[dReg jf.dl] = false ∧ (procOf jobs.dev 0).dTag[dReg jx.dk] = false ∧
    (procOf jobs.dev 0).jobs[jsReg jf.js].issued = false ∧
    checkSpans jobs.dev 0 (procOf jobs.dev 0) false [(0, 8)] = ([(0, 8)], []) ∧
    checkSpans jobs.dev 0 (procOf jobs.dev 0) true [(0, 0)] = ([], []) ∧
    [(0, 8)].any (fun e => poisonedAt e.1 e.2 jobs.dev) = false ∧ jx.func.toNat ∈ [0x01, 0x02, 0x10, 0x11] ∧
    (procOf jobs.dev 0).xPend[xReg2 jx.xd] = false ∧ Issues (lope 512 { sr := 0xC0000000#32 }) 512 := by decide

/-- JobsIssued: the template's access is granted and its memory sound; a message with no tag left, a custodian core's reserve, the traps'
own conditions. -/
def overJobs : State := { dev := { lopeDev 0 jobQ with op := { ops := [(5, { msgOp with resv := [] })] } } }

theorem wit_JobsIssued_more : (∃ phys x y, checkAccess jobs.dev 0 (procOf jobs.dev 0) 0x40 64 true false = .granted phys x y ∧
      memBad jobs.dev phys 64 = false) ∧
    jobTag jobs.dev 0 (procOf jobs.dev 0) = .child 5 9 ∧ jobTag overJobs.dev 0 (procOf overJobs.dev 0) = .over ∧ Issues overJobs 0 ∧
    jobTag (lope 512 {}).dev 512 (procOf (lope 512 {}).dev 512) = .reserve ∧ 0x41 % 64 ≠ 0 ∧ templateAt 0 0x48000000 = false ∧
    (0x03 : BitVec 8).toNat ∉ [0x01, 0x02, 0x10, 0x11] :=
  ⟨⟨_, _, _, rfl, by decide⟩, rfl, rfl, by decide, rfl, by decide, by decide, by decide⟩

/-- A function with an open slot on a channel. -/
def openSlot : Slot := { state := .opened, sqTail := 1, sizes := 0x606, handle := 0x10001 }

/-- JobsComeAndGo: a job's descriptor waiting in a submission ring; a host job and an engine's with their results produced. -/
def doneHost : Op := { phase := .completing, produced := true, req := { src := .host 1 0, job := Job.ofBytes [] } }
def doneSlot : Op := { phase := .completing, produced := true, req := { src := .engine 0 7, job := Job.ofBytes [] } }

def submits : State :=
  { dev := { life := { booting := false, ready := true, custUp := true },
             host := { links := [(0, { state := 2 })], fns := [(0, { abi := 3, slots := [(3, openSlot)] })],
                       chans := [(1, { kind := .slot 0 3, inc := 1, domain := 5 })] },
             procs := [(0, { jobs := (Vector.replicate 8 {}).set 7 { issued := true, tag := some 2 } })],
             op := { ops := [(1, doneHost), (2, doneSlot)] } } }

theorem wit_JobsComeAndGo : (slotOf submits.dev 0 3).state = .opened ∧
    (slotOf submits.dev 0 3).head ≠ (slotOf submits.dev 0 3).sqTail ∧
    (slotOf submits.dev 0 3).busy.all (fun e => e.1 != (slotOf submits.dev 0 3).head) = true ∧ fnLive submits.dev 0 = true ∧
    (chanOf submits.dev (slotOf submits.dev 0 3).handle).isSome = true ∧ opOf submits.dev 1 = some doneHost ∧
    isHostSrc doneHost.req = true ∧ (procOf submits.dev 0).jobs[(7 : Fin 8)].tag = some 2 ∧
    opOf submits.dev 2 = some doneSlot ∧ doneSlot.phase = .completing ∧ doneSlot.produced = true ∧
    doneSlot.waitSeq = none ∧ doneSlot.untrusted = false := by decide

/-- Keys of domain 5 under its root at index 6: a counted symmetric key, an uncounted deriving and wrapping key. -/
def root5 : KeyRec := { cls := 3, level := 1, gen := 0, usage := 0, exportPol := 3, domain := 5, typ := 6, material := zeros 32 }
def counted1 : KeyRec := { key1 with counted := true }
def derive1 : KeyRec := { key1 with usage := 0x40 }
def wrap1 : KeyRec := { key1 with cls := 0, usage := 0x30 }

/-- A device that serves, in PROVISIONED, with two device officers and domain 5's officer logged in or enrolled, and an executed
session of each scope. -/
def card0 : CardReply := { answered := true, selected := true, pinSw := 0x9000, sigOk := true }
def ses (scope : Option Nat) : Session :=
  { req := { hdr := fwHdr, action := .serviceInfo }, opener := .firmware 0, officer := 0, scope := scope, m := 2,
    officers := [0x1001, 0x1002], expires := 0, state := 1 }

def servedDev : Dev :=
  { life := { booting := false, ready := true, custUp := true },
    cust := { officers := [(0x1001, { role := .deviceOfficer }), (0x1002, { role := .deviceOfficer }),
                           (0x1003, { role := .domainOfficer, domain := 5 }), (0x1004, { role := .operator }),
                           (0x1005, { role := .deviceOfficer }), (0x1006, { role := .domainOfficer, domain := 5 })],
              logins := [(0, { officer := 0x1003, lastUse := 0 }), (1, { officer := 0x1004, lastUse := 0 })],
              sessions := [(1, ses none), (2, ses (some 5))], domains := [5], slotA := some factoryImage },
    guard := { otp := { cells := [(0, 7), (1, 7), (2, 7)] } },
    rng := { domains := [(5, 128)], nextDomain := 129,
             insts := [(128, { seeded := true, ready := true, buf := zeros 16 })] },
    ks := { keys := [(6, root5), (0x2000, counted1), (0x2001, derive1), (0x2002, wrap1)] },
    host := { links := [(0, { state := 2 })], fns := [(0, { abi := 3 })] } }

def served : State := { dev := servedDev }

/-- Requests: by domain 5's officer, by an operator, by firmware, by the sessions that two officers have authorised. -/
def dmHdr : SvcHdr := { via := .firmware 0, officer := 0x1003 }
def opHdr : SvcHdr := { via := .firmware 3, officer := 0x1004 }
def dualHdr : SvcHdr := { via := .authorise 1 0 card0 }
def dual5Hdr : SvcHdr := { via := .authorise 2 1 card0 }

def afterHdr (h : SvcHdr) (d : Dev) : Dev := touchLogin h.officer d

theorem wit_Served (a : SvcAction) (ha : ∀ v d, fetchObject v a d = (.ok, d)) : Served fwHdr a served servedDev .firmware ∧
    Served dmHdr a served (afterHdr dmHdr servedDev) (.domainOfficer 5) ∧
    Served opHdr a served (afterHdr opHdr servedDev) .operator ∧ Served dualHdr a served servedDev .nobody ∧
    Served dual5Hdr a served servedDev .nobody ∧ TwoDeviceOfficers dualHdr servedDev .nobody := by
  have all : ∀ h d r, (∀ b, (takeRequest h.via b servedDev).1 = true ∧ headerStatus (takeRequest h.via b servedDev).2 h b false true = .ok ∧
      d = touchLogin h.officer (takeRequest h.via b servedDev).2) → roleOf d h.via h.officer = .ok r → isProbe h.via d = false →
      isThrottled d = false → Served h a served d r := fun h d r x y z w =>
        ⟨(x _).1, (x _).2.1, by rw [ha], by rw [ha]; exact (x _).2.2, y, z, w⟩
  have ok : ∀ {p : Bool → Prop}, p true → p false → ∀ b, p b := fun x y b => by cases b <;> assumption
  exact ⟨all _ _ _ (ok ⟨rfl, rfl, rfl⟩ ⟨rfl, rfl, rfl⟩) rfl rfl rfl, all _ _ _ (ok ⟨rfl, rfl, rfl⟩ ⟨rfl, rfl, rfl⟩) rfl rfl rfl,
    all _ _ _ (ok ⟨rfl, rfl, rfl⟩ ⟨rfl, rfl, rfl⟩) rfl rfl rfl, all _ _ _ (ok ⟨rfl, rfl, rfl⟩ ⟨rfl, rfl, rfl⟩) rfl rfl rfl,
    all _ _ _ (ok ⟨rfl, rfl, rfl⟩ ⟨rfl, rfl, rfl⟩) rfl rfl rfl, rfl⟩

/-- MissesLeasesHoists: a request that misses the central cache, one whose counted key is served from the key store and has no
lease there, a running job whose key waits for its material. -/
def missReq : Req := { src := .mailbox 0, job := { Job.ofBytes (zeros 64) with service := 2, key := mkHandle 3 0x2000 2 }, domain := 5 }
def leaseReq : Req := { missReq with tiers := [(0x2000, 33)] }
def runs : Op :=
  { phase := .running, req := missReq, unit := some 63, pins := [{ point := 33, idx := 0x2000, gen := 2 }] }

def misses : State :=
  { dev := { servedDev with op := { waitFill := [missReq], waitLease := [leaseReq], ops := [(7, runs)] } } }

theorem wit_MissesLeasesHoists : pluck misses.dev.op.waitFill 0 = some (missReq, []) ∧
    firstMiss { misses.dev with op := { misses.dev.op with waitFill := [] } } missReq (reqKeys missReq.job) =
      some (mkHandle 3 0x2000 2, 32) ∧
    look misses.dev.ks.keys 0x2000 = some counted1 ∧ counted1.destroyed = false ∧ counted1.committed = true ∧
    orphaned misses.dev.ks counted1 = false ∧ misses.dev.ks.locked = false ∧
    (cacheSet misses.dev.ks 32 0x2000).length < 16 ∧ missReq.stales < 7 ∧
    pluck misses.dev.op.waitLease 0 = some (leaseReq, []) ∧ leaseReq.leaseAsked = false ∧
    (∃ k, findKeys { misses.dev with op := { misses.dev.op with waitLease := [] } } leaseReq (reqKeys leaseReq.job) =
        .ok [(mkHandle 3 0x2000 2, true, some k)] ∧
      drawUses { misses.dev with op := { misses.dev.op with waitLease := [] } } leaseReq [(mkHandle 3 0x2000 2, true, k)]
        misses.dev.ks.leases = .lease 32 0x2000) ∧
    roomToCreate misses.dev.ks = true ∧ counted1.volatileKey = false ∧
    poisonedAt (warmEntry 0x2000) 128 { misses.dev with op := { misses.dev.op with waitFill := [] } } = false ∧
    counted1.material.length ≤ 48 ∧
    leaseComing { misses.dev with op := { misses.dev.op with waitLease := [] } } 32 0x2000 = false ∧
    opOf misses.dev 7 = some runs ∧ pinAt runs false = some { point := 33, idx := 0x2000, gen := 2 } ∧
    pinnedRec misses.dev { point := 33, idx := 0x2000, gen := 2 } = some counted1 :=
  ⟨by decide, by decide, by decide, by decide, by decide, by decide, by decide, by decide, by decide, by decide, by decide,
   ⟨counted1, rfl, rfl⟩, by decide, by decide, by decide, by decide, by decide, by decide, by decide, by decide⟩

/-- Invalidations: received by the last cipher core's holder and by a point, swept, acknowledged. -/
def invals : State :=
  { dev := { servedDev with ks := { servedDev.ks with invals :=
      [{ idx := 6, gen := 1, destroy := true }, { idx := 7, gen := 0, destroy := false },
       { idx := 8, gen := 1, destroy := true, received := [0, 256], swept := [32] }] } } }

theorem wit_Invalidations : (∀ holder ∈ [0, 32, 33, 256], (invalFor invals.dev true holder 6).isSome = true ∧
      (invalFor invals.dev false holder 7).isSome = true) ∧
    (invals.dev.ks.invals.find? (fun v => v.idx == 8 && has v.received 0 && !has v.swept 0)).isSome = true ∧
    (∀ holder ∈ [32, 256], (invals.dev.ks.invals.find? (fun v => v.idx == 8 && !has v.acked holder &&
      (if holder ≤ 32 then has v.swept holder else has v.received holder))).isSome = true) := by decide

/-- JournalCompactionMigration: an open and a closed page, compaction in each state, a journal with less room than a compaction
leaves, the migration's states. -/
def page1 : JPage := { pageSeq := 3, recs := [{ idx := 0x2000, seq := 9, body := .ivReserve 5 }], since := 10 }

def withKs (f : KeyStore → KeyStore) : Dev := { servedDev with ks := f servedDev.ks }

theorem wit_Journal : ((withKs (fun k => { k with journal := [page1] })).ks.journal = [] ++ [page1] ∧ page1.closed = false) ∧
    (let p := { page1 with closed := true }
     let d := withKs (fun k => { k with journal := [p] })
     d.ks.journal = [p] ∧ p.closed = true ∧ p.pageSeq < 2 ^ 64 ∧ d.ks.waits = [] ∧ d.ks.building = none ∧
       d.cust.pendingMig = none ∧ d.cust.useWaits = []) ∧
    (let k := { servedDev.ks with snapPages := 688128 }
     k.compact = .idle ∧ journalFree k < snapshotSize k + 2147483648) ∧
    ({ servedDev.ks with compact := .copying }).compact = .copying ∧
    (let k := { servedDev.ks with compact := .erasing, snap := some { epoch := 1, seq := 0, keys := [], gens := [], free := {}, boot := 1 } }
     k.compact = .erasing ∧ k.building = none ∧ k.snap.isSome = true) ∧
    foundationShut servedDev = false ∧ migWaits servedDev = false ∧ roomToJournal servedDev.ks = true ∧
    keyState servedDev = true ∧ servedDev.ks.migState = 0 ∧
    (let d := { servedDev with cust := { servedDev.cust with slotB := some factoryImage } }
     slotImage d (spareSlot d) = some factoryImage ∧ fwValid d factoryImage = true) :=
  ⟨by decide, by decide, by decide, by decide, by decide, by decide, by decide, by decide, by decide, by decide, by decide⟩

/-- JournalCompactionMigration: waits of each kind a page may end, a page behind an open one, the room of a journal that needs no
compaction, the states in which a step of a migration is refused or waits. -/
theorem wit_Journal_more :
    (let w1 : Wait := { seq := 9, kind := .keyReady 0x2000 }
     let w2 : Wait := { seq := 9, kind := .answer (.firmware 0) .ok [] }
     (w1.seq ≤ pageLast page1 ∧ ∃ i, w1.kind = .keyReady i) ∧ (w2.seq ≤ pageLast page1 ∧ ∃ v st r, w2.kind = .answer v st r)) ∧
    (let q : JPage := { pageSeq := 4, recs := [], since := 20, closed := true }
     let d := withKs (fun k => { k with journal := [page1, q] })
     d.ks.journal = page1 :: [q] ∧ page1.programmed = false ∧ page1.pageSeq ≠ (4#64).toNat ∧ q.closed = true ∧
       d.cust.pendingMig = none ∧ d.cust.useWaits = []) ∧
    snapshotSize servedDev.ks + 2147483648 ≤ journalFree servedDev.ks ∧ rising servedDev.ks.keys = true ∧
    (∃ k, (0x2000, k) ∈ servedDev.ks.keys ∧ liveKey servedDev.ks k = true) ∧
    slotImage servedDev (spareSlot servedDev) = none ∧ fwValid servedDev { factoryImage with magicOk := false } = false ∧
    (∀ n ∈ [1, 3], (withKs (fun k => { k with migState := n })).ks.migState = n) ∧
    (∃ e, e ∈ liveRoots servedDev) ∧ migWaits (withKs (fun k => { k with waits := [{ seq := 1, kind := .migrate 2 }] })) = true :=
  ⟨⟨⟨by decide, _, rfl⟩, by decide, _, _, _, rfl⟩, by decide, by decide, by decide, ⟨counted1, by decide, by decide⟩, by decide, by decide,
    by decide, ⟨(6, root5), by decide⟩, by decide⟩

/-- KeyServices: the key of a domain's own officer and the rights of its administration. -/
theorem wit_KeyServices_named :
    (∃ k, resolveFor (afterHdr dmHdr servedDev) dmHdr.via (.domainOfficer 5) (mkHandle 3 0x2000 2) = .ok (0x2000, k) ∧
      keyFor (afterHdr dmHdr servedDev) (mkHandle 3 0x2000 2) = some (0x2000, k) ∧
      MayAdminister dmHdr k (afterHdr dmHdr servedDev) (.domainOfficer 5) ∧ attrAllowed k (attrWord k) = true) ∧
    look (afterHdr dmHdr servedDev).ks.keys 0x2000 = some counted1 ∧ mayMakeKey (.domainOfficer 5) = true ∧
    tenantOrDm (.domainOfficer 5) = true ∧ roomToJournal (afterHdr dmHdr servedDev).ks = true ∧
    (resolveFor servedDev dualHdr.via .nobody (mkHandle 3 6 0) = .ok (6, root5) ∧
      keyFor servedDev (mkHandle 3 6 0) = some (6, root5) ∧ servedDev.ks.migState = 0) :=
  ⟨⟨counted1, rfl, rfl, by decide, by decide⟩, by decide, by decide, by decide, by decide, rfl, rfl, rfl⟩

/-- KeyServices: arguments of a creation under a deriving and wrapping key, a wrapped key's length; a custodian core that makes
a key of clear origin. -/
theorem wit_KeyServices_made :
    attrArgOk (AttrArg.ofNat 0x40) = true ∧ isSym 1 = true ∧ createFormat (keyOfAttr (AttrArg.ofNat 0x40) 1 3 (zeros 16)) = true ∧
    createLate 0x2001 (keyOfAttr (AttrArg.ofNat 0x40) 1 3 (zeros 16)) servedDev = .ok ∧
    createLate 6 (keyOfAttr (AttrArg.ofNat 0x40) 1 3 (zeros 16)) servedDev = .ok ∧
    createFormat (importKey 1 3 0x40 [] actorFw) = true ∧ derive1.cls = 3 ∧ bitOf derive1.usage 6 = true ∧ bitOf wrap1.usage 5 = true ∧
    isAes wrap1.typ = true ∧ objStatus (.firmware 0) { source := 0, length := 24, locator := 0, found := true } servedDev = .ok ∧
    wrappedOk 0 24 = true ∧ materialLenOk 1 3 16 = true := by decide

theorem wit_KeyServices_spent : resolve servedDev.ks true 0 (mkHandle 3 0x2001 2) = .ok (0x2001, derive1) ∧
    spendUse 0x2001 derive1 servedDev = .ok (none, servedDev) ∧
    resolve servedDev.ks true 0 (mkHandle 0 0x2002 2) = .ok (0x2002, wrap1) ∧
    spendUse 0x2002 wrap1 servedDev = .ok (none, servedDev) := ⟨rfl, rfl, rfl, rfl⟩

/-- Whether a creation succeeds follows from the length of its material alone. -/
theorem createKey_ok_of_length (pidx : Nat) (parent : KeyRec) (n : NewKey) (m : Bytes) (d : Dev)
    (h : newKeyStatus d parent { n with material := zeros m.length } = .ok) (hf : d.ks.free.next < 16773119) :
    ∃ idx hnd seq t, createKey pidx parent { n with material := m } d = .ok (idx, hnd, seq, t) := by
  have e : newKeyStatus d parent { n with material := m } = newKeyStatus d parent { n with material := zeros m.length } := by
    simp [newKeyStatus, zeros]
  unfold createKey
  rw [e, h]
  simp only [FreeList.take, hf, if_true]
  exact ⟨_, _, _, _, rfl⟩

/-- KeyServices, CreatedKey: keys that are made under the deriving key, from what the domain's instance has buffered, from what the KDF
gives and from clear material. -/
theorem wit_KeyServices_created : liveParent servedDev 0x2001 2 = some derive1 ∧
    (∃ t, drawPr (domainInst 5 servedDev).1 16 (domainInst 5 servedDev).2 = some (zeros 16, t) ∧
      liveParent t 0x2001 2 = some derive1 ∧
      ∃ r, createKey 0x2001 derive1 (keyOfAttr (AttrArg.ofNat 0x40) 1 3 (zeros 16)) t = .ok r) ∧
    (∃ idx hnd seq t, createKey 0x2001 derive1 { keyOfAttr (AttrArg.ofNat 0x40) 1 3 [] with
      material := deriveKey derive1 [] [] 16 } servedDev = .ok (idx, hnd, seq, t)) ∧
    (∃ r, createKey 0x2001 derive1 { keyOfAttr (AttrArg.ofNat 0x40) 1 3 (zeros 16) with clearOrigin := true } servedDev = .ok r) ∧
    servedDev.ks.free.next < 16773119 := by
  refine ⟨rfl, ⟨_, rfl, rfl, _, rfl⟩, ?_, ⟨_, rfl⟩, by decide⟩
  refine createKey_ok_of_length _ _ _ _ _ ?_ (by decide)
  have : (deriveKey derive1 [] [] 16).length = 16 := by
    simp [deriveKey, derive1, key1, isAes, kdfCmac, kdf, padTo, zeros]; omega
  rw [this]; decide

/-- KeyServices: a type that is not symmetric, a root that a migration keeps, an instance that must reseed first; what unwraps either
carries good material or does not; a device of a custodian core that makes a key. -/
theorem wit_KeyServices_more : isSym 0x10 = false ∧ (1 ≤ 6 ∧ 6 ≤ 0x1000) ∧
    (withKs (fun k => { k with migState := 1 })).ks.migState ≠ 0 ∧ attrAllowed counted1 (attrWord counted1 + 2 ^ 44) = false ∧
    (let d := { servedDev with rng := { servedDev.rng with insts := [(128, { seeded := true })] } }
     (drawPr (domainInst 5 d).1 16 (domainInst 5 d).2).isNone = true ∧ (instCore (domainInst 5 d).2 (domainInst 5 d).1).isSome = true) ∧
    (∀ m : Option Bytes, m.all (fun m => !(materialLenOk 1 3 m.length && materialOk 1 3 m)) = true ∨
      ∃ b, m = some b ∧ materialLenOk 1 3 b.length = true ∧ materialOk 1 3 b = true) ∧
    servedDev.life.gait ≠ 3 ∧ servedDev.life.custUp = true ∧ servedDev.life.hobbled = false ∧ servedDev.life.ready = true ∧
    isThrottled servedDev = false ∧ rightMet (afterHdr dmHdr servedDev) dmHdr.via (.domainOfficer 5) { single := mayMakeKey } = true := by
  refine ⟨by decide, by decide, by decide, by decide, by decide, fun m => ?_, by decide, by decide, by decide, by decide, by decide,
    by decide⟩
  cases m with
  | none => exact .inl rfl
  | some b =>
    cases h1 : materialLenOk 1 3 b.length <;> cases h2 : materialOk 1 3 b <;> simp [h1, h2]

/-! The cipher pool, the big-number engines, random numbers and check values. -/

/-- A host job of function SHA-256 and one that enciphers in ECB, queued and running. -/
def jobOf (service func key inLen : Nat) : Job :=
  { Job.ofBytes (zeros 64) with service := service, func := func, key := key, inLen := inLen }

def shaOp (phase : OpPhase) (unit : Option Nat) : Op :=
  { phase := phase, req := { src := .host 1 0, job := jobOf 1 0x11 0 3 }, unit := unit }

def queued : State :=
  { dev := { op := { ops := [(9, shaOp .issued none)] },
             pool := { queues := [(1, { jobs := [{ tag := 9, chan := 1, cost := 64 }] })] },
             bn := { queues := [(0, { jobs := [{ tag := 9, chan := 0, cost := 1 }] })] } } }

theorem wit_CipherPool : (∃ t qs, pickJob 4096 queued.dev.pool.turn (coreFor queued.dev) queued.dev.pool.queues =
      some (1, { tag := 9, chan := 1, cost := 64 }, t, qs)) ∧
    opOf queued.dev 9 = some (shaOp .issued none) ∧ (chooseCore queued.dev (shaOp .issued none)).isSome = true ∧
    (let d : Dev := { op := { ops := [(9, shaOp .running (some 63)),
                      (10, { shaOp .running (some 0) with req := { src := .engine 0 0, job := jobOf 1 0x11 0 3 } })] } }
     opOf d 9 = some (shaOp .running (some 63)) ∧ slotsLoaded d (shaOp .running (some 63)) = true ∧
       (symFn 0x11).any (fun f => !drawsNonce f) = true ∧ ReadResult.get? .error = none) ∧
    (coreOf { pool := { cores := [(63, { state := .draining })] } } 63).state = .draining ∧
    (coreOf { pool := { cores := [(63, { state := .testing })] } } 63).state = .testing ∧
    (coreOf { pool := { cores := [(63, { jobs := [(9, .sha2)] })] } } 63).jobs.any (fun e => e.1 == 9) = true ∧
    look [(0xFFFFFF, 7)] 0xFFFFFF = some 7 := ⟨⟨_, _, rfl⟩, by decide, by decide, by decide, by decide, by decide, by decide, by decide⟩

/-- CipherPool: no job to take; a job that draws a nonce, with a reservation that holds a value, one asked for and none left; a payment
job that holds its core's context and one that does not; work that has left its core. -/
def drawOp : Op :=
  { phase := .running, req := { src := .host 1 0, job := jobOf 1 0x07 1 3 }, unit := some 0, pins := [{ point := 33, idx := 0x2000, gen := 2 }] }

def drawDev (iv : List IvRes) (ctr : Nat) : Dev :=
  { op := { ops := [(9, drawOp)] }, ks := { keys := [(0x2000, { key1 with ivctr := ctr })] },
    pool := { cores := [(0, { ivs := iv, slots := [{ idx := 0x2000, gen := 2, loaded := true }], jobs := [(9, .aes)] })] } }

theorem wit_CipherPool_draws : jobDraws drawOp.req.job = true ∧ drawOp.nonce = [] ∧ (symFn 0x07).any drawsNonce = true ∧
    (∃ v d, drawNonce 0 0x2000 2 (drawDev [{ idx := 0x2000, gen := 2, next := 5, stop := 9 }] 0) = (.value v, d)) ∧
    (∃ d, drawNonce 0 0x2000 2 (drawDev [{ idx := 0x2000, gen := 2, next := 9, stop := 9, asked := true }] 0) = (.wait, d)) ∧
    (∃ d, drawNonce 0 0x2000 2 (drawDev [] (2 ^ 64 - 1)) = (.exhausted, d)) ∧
    slotsLoaded (drawDev [] 0) drawOp = true ∧ holdsContext 9 0 (drawDev [] 0) = true ∧ holdsContext 9 1 (drawDev [] 0) = false ∧
    slotsLoaded { (drawDev [] 0) with pool := {} } drawOp = false :=
  ⟨by decide, by decide, by decide, ⟨_, _, rfl⟩, ⟨_, rfl⟩, ⟨_, rfl⟩, by decide, by decide, by decide, by decide⟩

theorem wit_CipherPool_idle : pickJob 4096 ({} : Dev).pool.turn (coreFor {}) ({} : Dev).pool.queues = none ∧ opOf {} 9 = none ∧
    pickJob 50 ({} : Dev).bn.turn (engineFor {}) ({} : Dev).bn.queues = none ∧
    (coreOf { pool := { cores := [(63, { state := .retired })] } } 63).state = .retired ∧ (coreOf {} 0).state ≠ .retired ∧
    look ({} : Dev).pool.pinSuspended 7 = none ∧ jobDraws (jobOf 1 0x11 0 3) = false := ⟨rfl, rfl, rfl, by decide, by decide, rfl, by decide⟩

/-- A program's job running on an engine, one with an inline key, engines to be tested. -/
def bnProg : BnProg := { cmds := [0x3F], slots := [(0, { base := 512, words := 1 }), (1, { base := 513, words := 1 })] }

def bnOp (service func : Nat) : Op :=
  { phase := .running, req := { src := .host 1 0, job := { jobOf service func 0 96 with iv := [0, 0, 0, 0, 0x18] ++ zeros 11 } },
    unit := some 47 }

def bnDev (o : Op) (e : BnEngine) : Dev := { op := { ops := [(9, o)] }, bn := { engines := [(47, e)] } }

theorem wit_BigNumberJobs :
    (∃ t qs, pickJob 50 queued.dev.bn.turn (engineFor queued.dev) queued.dev.bn.queues =
      some (0, { tag := 9, chan := 0, cost := 1 }, t, qs)) ∧ (chooseEngine queued.dev (shaOp .issued none)) = some 0 ∧
    (let d := bnDev (bnOp 4 0x01) { job := some 9, prog := some { bnProg with failed := true } }
     opOf d 9 = some (bnOp 4 0x01) ∧ slotsLoaded d (bnOp 4 0x01) = true ∧
       ((engineOf d 47).prog.any (fun p => p.failed)) = true) ∧
    ((engineOf (bnDev (bnOp 4 0x01) { prog := some { bnProg with ended := true } }) 47).prog.any (fun p => p.ended && !p.failed)) = true ∧
    (let o := bnOp 3 0x02
     pkInline o.req.job = true ∧ pkNeedsRandom o.req.job.func true = false ∧ pkNeedsRandom o.req.job.func false = false ∧
       isBnService o.req.job.service = true) ∧
    (engineOf queued.dev queued.dev.bn.rotation).state = .serving ∧ (engineOf queued.dev queued.dev.bn.rotation).job = none ∧
    (engineOf (bnDev (bnOp 4 1) { state := .testing }) 47).state = .testing :=
  ⟨⟨_, _, rfl⟩, by decide, by decide, by decide, by decide, by decide, by decide, by decide⟩

/-- BigNumberJobs: an ML-DSA signature that runs out of time, checked and unchecked functions, a function that draws and one that does
not, engines that are busy, doomed and not serving. -/
def signOp : Op :=
  { phase := .running, req := { src := .host 1 0, job := jobOf 3 0x01 0x5002000 32 }, unit := some 47,
    pins := [{ point := 33, idx := 0x2000, gen := 2 }] }

def signDev : Dev :=
  { bnDev signOp { job := some 9, slots := [{ idx := 0x2000, gen := 2, loaded := true }] } with
    ks := { keys := [(0x2000, { key1 with typ := 0x20, cls := 1 })] } }

set_option maxRecDepth 4000 in
theorem wit_BigNumberJobs_more : opOf signDev 9 = some signOp ∧ slotsLoaded signDev signOp = true ∧ isMldsa (faultTyp signDev signOp) = true ∧
    pkChecked 0x01 = true ∧ bnFails signDev 47 signOp 0 = false ∧ bnFails signDev 47 (bnOp 3 0x02) 1 = false ∧
    pkNeedsRandom 0x01 true = true ∧ (jobInput signOp (some []) signDev).isSome = true ∧ jobInput signOp none signDev = none ∧
    (draw (64 + 47) (pkDraw 0x01) { signDev with rng := { insts := [(111, { seeded := true, buf := zeros 64 })] } }).isSome = true ∧
    transportSecret signOp.req.job none none [] [] = none ∧
    (engineOf { bn := { engines := [(0, { state := .retired })] } } 0).state ≠ .serving ∧
    (engineOf { bn := { engines := [(0, { job := some 9 })] } } 0).job ≠ none ∧
    (engineOf { bn := { engines := [(0, { state := .testing, doomed := true })] } } 0).doomed = true := by decide

/-- BigNumberCommands: every opcode runs on an engine whose next command has it; moduli with and without an inverse, points of
each curve. -/
def bnState (op : Nat) : State :=
  { dev := bnDev (bnOp 4 1) { prog := some { bnProg with cmds := [op + 2 ^ 32] }, work := [(513, 7)] } }

theorem wit_BigNumberCommands :
    (∀ op ∈ [0x01, 0x02, 0x03, 0x04, 0x05, 0x06, 0x07, 0x08, 0x09, 0x0A, 0x0B, 0x0C, 0x0D, 0x0E, 0x0F, 0x10, 0x11, 0x12, 0x13,
       0x18, 0x19, 0x1A, 0x1B, 0x3F], BnRuns (bnState op) 47 op { bnProg with cmds := [op + 2 ^ 32] } (op + 2 ^ 32)) ∧
    modInv 0 7 = none ∧ (∃ i, modInv 3 7 = some i) ∧
    curveOf 1 = some p256 ∧ curveOf 2 = some p384 ∧ curveOf 3 = some ed25519 ∧
    (∃ q, ptAdd ed25519 (some (0, 1)) (some (0, 1)) = some q) ∧ (∃ q, ptMul ed25519 0 (0, 0) = some q) ∧
    ptAdd p256 (some (0, 0)) (some (0, 0)) = none :=
  ⟨by decide, rfl, ⟨_, rfl⟩, rfl, rfl, rfl, ⟨_, rfl⟩, ⟨_, rfl⟩, rfl⟩

/-- BigNumberCommands: an engine that runs no program has no next command. -/
theorem wit_BigNumberCommands_none : ∀ p w, ¬ BnRuns { dev := {} } 0 0x01 p w := by
  intro p w h; exact absurd h.1 (by simp [engineOf, lookD, look])

set_option maxRecDepth 100000 in
/-- Twice the generator of P-256: the standard's own test value. -/
theorem test_p256_double : (ptAdd p256 (some (p256.gx, p256.gy)) (some (p256.gx, p256.gy))).map (fun q => q.1) =
    some 0x7CF27B188D034F7E8A52380304B51AC3C08969E277F21B35A60B48FC47669978 := by decide

/-- EntropyAndInstances: healthy and failing sources at both ends of their numbers, a released block, instances that are seeded,
wait, overflow their call count, and a core in each state. -/
def rngDev : Dev :=
  { rng := { sources := [(0, { state := 0 }), (1, { state := 0 }), (2, { state := 0 }), (3, { state := 0 }), (4, { state := 0 }),
                         (5, { state := 1 }), (7, { state := 2, fails := [0] })],
             unreleased := [(1, 5)], queue := [0, 0, 0, 0, 0, 0, 0, 0], cores := [(3, { state := 1 })], wait := [(4095, 7)],
             insts := [(100, { seeded := true, calls := 65536 }), (112, { seeded := true, buf := zeros 8 })] } }

theorem wit_EntropyAndInstances : (srcOf rngDev 0).state = 0 ∧ 5 ≤ healthy rngDev ∧ (srcOf rngDev 7).state = 2 ∧
    (srcOf rngDev 5).state = 1 ∧ 4 ≤ healthy rngDev ∧ healthy ({} : Dev) < 4 ∧ rngDev.rng.unreleased = (1, 5) :: [] ∧
    rngDev.rng.queue.length < 64 ∧ rngDev.rng.wait = (4095, 7) :: [] ∧ (instCore rngDev 4095).isSome = true ∧
    (instOf rngDev 4095).seeded = false ∧ reseedBlocks rngDev + 1 ≤ rngDev.rng.queue.length ∧ rngDev.rng.gens = [] ∧
    rngDev.rng.wait.find? (fun w => w.1 == 4095) = some (4095, 7) ∧ (instOf rngDev 100).seeded = true ∧
    isPr 100 = false ∧ rngDev.rng.wait.any (fun w => w.1 == 100) = false ∧ (instOf rngDev 100).buf.length ≤ 64 ∧
    (instOf rngDev 100).force = false ∧ (instOf rngDev 100).calls < 1048576 ∧ coreServes rngDev 100 = true ∧
    (drbgOf rngDev 0).state = 0 ∧ (drbgOf rngDev 3).state = 1 := by decide

/-- RandomRegistersCheckValues: a full and an empty buffer, RESEED written, data of each length. -/
theorem wit_RandomRegisters : 8 ≤ (instOf rngDev 112).buf.length ∧ (instOf rngDev 112).force = false ∧
    (instCore rngDev 112).isSome = true ∧ (instOf rngDev 115).buf.length < 8 ∧ (1#32 : BitVec 32).getLsbD 0 = true ∧
    (zeros 1).length ∈ [1, 2, 4, 8] ∧ (zeros 8).length ∈ [1, 2, 4, 8] := by decide

/-! Rig images and messages. -/

/-- A class of one slice, whose code is CALL #1 alone (R206, R276, R281): one field of 8 characters, emitted as it came. -/
def step8 : RigStep := { kind := 1, pfx := 0, cond := 0, entry := 0, min := 8, max := 8 }

def class0 : RigClass :=
  { cls := 0, reject := 0xFF, j := 0, strings := 1, msgMax := 64, outMax := 64, faLen := 64, descOff := 56, w := 4000, depth := 2,
    scratch := 64, dataLen := 0, hbmLen := 0, parse := [step8], fields := [{ fnum := 2, flags := 0, dest := 8, max := 8 }],
    routes := [], code := [0xF8000601], data := [],
    slices := [{ slot := 15, flags := 3, jslots := 0, handoff := 0, deps := 0, start := 0, span := 100, codeOff := 0,
                 codeLen := 4, jobs := 0 }],
    emit := some [step8] }

/-- An image of domain 5 that holds it, signed by two of the domain's officers. -/
def image5 : RigImage :=
  { magic := 0x49525843, format := 2, domain := 5, classCount := 1, version := 1, len := 7144, minFw := 0,
    dir := [{ typ := 0x0001, cls := 0xFF, index := 0, offset := 192, length := 4 },
            { typ := 0x0010, cls := 0, index := 0, offset := 200, length := 40 },
            { typ := 0x0011, cls := 0, index := 0, offset := 240, length := 8 },
            { typ := 0x0012, cls := 0, index := 0, offset := 248, length := 8 },
            { typ := 0x0014, cls := 0, index := 0, offset := 256, length := 32 },
            { typ := 0x0015, cls := 0, index := 0, offset := 288, length := 4 },
            { typ := 0x0017, cls := 0, index := 0, offset := 296, length := 8 },
            { typ := 0x00F0, cls := 0xFF, index := 0, offset := 304, length := 8 + 3416 * 2 }],
    default := 0, rules := [], classes := [class0],
    sigs := [{ officer := 0x1003, mldsaOk := true, ecdsaOk := true }, { officer := 0x1006, mldsaOk := true, ecdsaOk := true }] }

/-- The bytes of the same image by the tables of R257-R259, R261, R263, R264, R272 and R284, with an empty SIGNATURES section. -/
def image5Bytes : Bytes :=
  [0x43, 0x58, 0x52, 0x49] ++ le 2 2 ++ le 2 8 ++ le 2 5 ++ [1, 0] ++ le 4 1 ++ le 4 312 ++ le 4 0 ++ zeros 40 ++
  (le 2 0x0001 ++ [0xFF, 0] ++ le 4 192 ++ le 4 4 ++ zeros 4) ++ (le 2 0x0010 ++ [0, 0] ++ le 4 200 ++ le 4 40 ++ zeros 4) ++
  (le 2 0x0011 ++ [0, 0] ++ le 4 240 ++ le 4 8 ++ zeros 4) ++ (le 2 0x0012 ++ [0, 0] ++ le 4 248 ++ le 4 8 ++ zeros 4) ++
  (le 2 0x0014 ++ [0, 0] ++ le 4 256 ++ le 4 32 ++ zeros 4) ++ (le 2 0x0015 ++ [0, 0] ++ le 4 288 ++ le 4 4 ++ zeros 4) ++
  (le 2 0x0017 ++ [0, 0] ++ le 4 296 ++ le 4 8 ++ zeros 4) ++ (le 2 0x00F0 ++ [0xFF, 0] ++ le 4 304 ++ le 4 8 ++ zeros 4) ++
  zeros 8 ++
  ([0, 0xFF, 0, 0] ++ le 4 1 ++ le 2 64 ++ le 2 64 ++ le 2 64 ++ le 2 56 ++ le 4 4000 ++ le 2 2 ++ le 2 64 ++ zeros 16) ++
  ([1, 0, 0, 0] ++ le 2 8 ++ le 2 8) ++ ([2, 0] ++ le 2 8 ++ le 2 8 ++ zeros 2) ++
  ([15, 3, 0, 0] ++ le 4 0 ++ le 4 0 ++ le 4 100 ++ le 4 0 ++ le 4 4 ++ zeros 8) ++ [0x01, 0x06, 0x00, 0xF8] ++ zeros 4 ++
  ([1, 0, 0, 0] ++ le 2 8 ++ le 2 8) ++ zeros 8

set_option maxRecDepth 100000 in
theorem test_image_bytes : rigImageOf servedDev image5Bytes = { image5 with
    len := 312, sigs := [], dir := image5.dir.dropLast ++ [{ typ := 0x00F0, cls := 0xFF, index := 0, offset := 304, length := 8 }] } := by
  decide

def origin0 : MsgOrigin :=
  { conn := none, listener := 0, chan := 1, port := 0, v6 := false, peerAddr := [10, 0, 0, 1], peerPort := 7, localPort := 8 }

def place0 : ClassPlace :=
  { string := 0, cls := 0, codeBase := 0x201000, image := 0, msgBase := 0x100000, outBase := 0x100080, faBase := 0x100100,
    ctxBase := 0x100180, dataBase := 0x100280, routeBase := 0x100280, scrBase := 0, hbmBase := 0x580000000 }

def entry0 : RigEntry := { img := image5, places := [place0] }

def msg0 : Msg :=
  { domain := 5, version := 1, cls := 0, string := 0, buf := 0, homeCls := 0, homeBuf := 0, origin := origin0, bytes := zeros 8 }

/-- The domain's image in force, one message with the progress given. -/
def rigState (m : Msg) : State :=
  { dev := { servedDev with lopeOn := true, rig := { domains := [(5, { current := some entry0 })], msgs := [(3, m)] } } }

/-- The image passes every check of R285 and is placed. -/
theorem test_image_admitted : admitCheck servedDev 0 false image5 = (.ok, 0) ∧
    (placeImage servedDev image5 false).map (fun l => l.length) = some 1 := by decide

/-- An image that only one officer signed is refused with AUTH_FAIL; a slice that may run past W with POLICY (R281, R285). -/
theorem test_image_refused : (admitCheck servedDev 0 false { image5 with sigs := image5.sigs.map (fun x => { x with officer := 0x1003 }) }).1 =
    .authFail ∧ (admitCheck servedDev 0 false { image5 with classes := [{ class0 with w := 99 }] }).1 = .policy := by decide

theorem wit_MessagesDeliveredAndParsed : look (rigState msg0).dev.rig.msgs 3 = some msg0 ∧
    (stringOf (rigState msg0).dev 0).gated = false ∧
    (let m := { msg0 with delivered := true }
     msgEntry (rigState m).dev m = some entry0 ∧ classAt entry0 0 0 = some (class0, place0) ∧ m.parsed = false) ∧
    (parseWith class0 (zeros 8)).isSome = true ∧ (parseWith class0 (zeros 7)).isNone = true ∧
    classAt entry0 class0.reject 0 = none :=
  ⟨rfl, by decide, ⟨rfl, rfl, rfl⟩, by decide, by decide, rfl⟩

/-- SlicesAndRelease: a slice that is ready, one that has ended, an output emitted. -/
def run0 (ended : Option Nat) : SliceRun := { idx := 0, start := 10, deadline := 200, called := ended, ended := ended }
def msgRun (ended : Option Nat) : Msg := { msg0 with delivered := true, parsed := true, slices := [run0 ended] }

theorem wit_SlicesAndRelease :
    (let m := { msg0 with delivered := true, parsed := true }
     msgClass (rigState m).dev m = some (class0, place0) ∧ (∃ sl, class0.slices[0]? = some sl ∧
       sliceReady (rigState m).dev m class0 place0 0 sl = true ∧
       sliceAhead (rigState m).dev 3 m (sliceEngine m sl) (sliceDue m sl) = false)) ∧
    (msgRun none).slices.find? (fun r => r.idx == 0) = some (run0 none) ∧
    class0.emit = some [step8] ∧ emitAt class0 (msgRun (some 50)) = some 50 ∧ (msgRun (some 50)).emitEnd = none ∧
    (let b := (emitAll class0 (readBytes [] 0 64) [step8] [step8] [] []).1
     b.length ≤ class0.outMax) ∧
    releaseAt class0 { msgRun (some 50) with emitEnd := some 60, deadline := 4000 } = some 4000 :=
  ⟨⟨rfl, ⟨_, rfl, by decide, by decide⟩⟩, rfl, rfl, rfl, rfl, by decide, rfl⟩

/-- RigImages: accepted at once, held while a message runs, the hold ended, an image retired by two officers of each scope. -/
theorem wit_RigImages :
    objStatus (.firmware 3) { source := 0, length := 7144, locator := 0, found := true } (takeRequest (.firmware 3) false servedDev).2 = .ok ∧
    servedDev.ks.migState = 0 ∧ (rigOf servedDev 5).quiesce = none ∧ admitCheck servedDev 0x1004 false image5 = (.ok, 0) ∧
    rigBusy servedDev 5 = false ∧ (placeImage servedDev image5 false).isSome = true ∧
    rigBusy (rigState msg0).dev 5 = true ∧ admitCheck (rigState msg0).dev 0x1004 true { image5 with version := 2 } = (.ok, 0) ∧
    (let q : Quiesce := { img := image5, via := .firmware 3, officer := 0x1004, till := 9 }
     let d := { servedDev with rig := { domains := [(5, { quiesce := some q })] } }
     (rigOf d 5).quiesce = some q ∧ rigBusy d 5 = false ∧ (placeImage d image5 true).isSome = true) ∧
    (rigOf (rigState msg0).dev 5).current = some entry0 ∧
    rightMet servedDev (.authorise 1 0 card0) .nobody { dual := [(2, .device), (2, .domain 5)] } = true ∧
    rightMet servedDev (.authorise 2 0 card0) .nobody { dual := [(2, .device), (2, .domain 5)] } = true := by decide

/-! Ports, MACsec, frames and transport. -/

def netDev (ports : FMap Port) (nums : FMap Nat) : Dev :=
  { servedDev with net := { ports := ports }, dict := { nums := nums } }

/-- PortLinks: the first and the last port, auto-negotiation on and off, values at the ends of their ranges, a port in each state
of R325, lanes at each stage of lock. -/
theorem wit_PortLinks_start : rising ({} : Dev).net.ports = true ∧ (portOf {} 63).egress = [] ∧ pairOk {} 63 = true ∧
    anEnabled {} 63 = true ∧ anEnabled (netDev [] [(pk 0 4, 0)]) 0 = false ∧ portFused {} 63 = false ∧
    bitOf (modeAllowed {} 0) 8 = true ∧ bitOf (modeAllowed (netDev [] [(pk 0 3, 0x0FF)]) 0) 8 = false ∧ portRole {} 0 = 0 ∧
    (let partner : BitVec 9 := 0x100#9
     partner.getLsbD 8 = true ∧ ∀ j < 8, (bitOf (modeAllowed {} 0) j && partner.getLsbD j) = false) ∧
    (portOf (netDev [(0, { state := 2 })] []) 0).restartAt = none ∧
    (portOf (netDev [(0, { state := 2, restartAt := some 7 })] []) 0).restartAt = some 7 ∧
    (portOf (netDev [(63, { state := 3, mode := 1 })] []) 63).state = 3 := by decide

def lockPort (l : LaneLock) : Port := { state := 4, mode := 6, lanes := [(1, l)] }

theorem wit_PortLinks_lock : (7 ≤ ({ state := 6, mode := 9 } : Port).mode) ∧ locking (lockPort (.search 5)) = true ∧
    1 < fecLanes (lockPort (.search 5)).mode ∧ fecLane (lockPort (.search 5)) 1 = .search 5 ∧
    fecLane (lockPort (.confirm 9)) 1 = .confirm 9 ∧ allLocked (setLane 1 (.locked 9 0 0) (lockPort (.confirm 9))) = false ∧
    allLocked (setLane 1 (.locked 9 0 0) { lockPort (.confirm 9) with lanes := [(0, .locked 1 0 0), (1, .confirm 9)] }) = true ∧
    fecLane (lockPort (.locked 9 2 40)) 1 = .locked 9 2 40 ∧ fecLane (lockPort (.locked 9 1 40)) 1 = .locked 9 1 40 ∧
    fecLane (lockPort (.locked 9 0 0)) 1 = .locked 9 0 0 ∧ ({ state := 6, downSince := some 3 } : Port).downSince = some 3 ∧
    ({ state := 5, fec := 2 } : Port).fec ≠ 0 := by decide

/-- MacsecAssociations: port 0 of domain 5 with MACsec in mode 2, requests by custodian firmware; a key of 256 bits. -/
def macKey : KeyRec := { key1 with cls := 0, typ := 3, usage := 3, material := zeros 32 }
def sa0 : MacSa := { handle := mkHandle 0 0x2003 2, idx := 0x2003, gen := 2, enabled := true, pn := 5, stop := 2 ^ 24 }

def macPort : Port :=
  { state := 5, mode := 1, fec := 2, txSas := [(0, sa0), (3, { sa0 with enabled := false })],
    rxSas := [(5, sa0), (63, { sa0 with resolving := some 9 })], rxscs := [(1, { sci := 77, window := 0 })], txAn := some 0 }

def macDev : Dev :=
  { netDev [(0, macPort)] [(pk 0 0x0F, 5), (pk 0 0x10, 2)] with
    ks := { servedDev.ks with keys := servedDev.ks.keys ++ [(0x2003, macKey)] } }

theorem wit_MacsecAssociations : rightMet macDev (.firmware 0) .firmware (saRights 0 fwHdr macDev) = true ∧
    rightMet macDev (.mailbox 4) (.tenant 5) (saRights 0 { via := .mailbox 4 } macDev) = true ∧
    portFused macDev 0 = false ∧ saArgs 0 1 15 3 = true ∧ saArgs 0 0 0 0 = true ∧
    saOf (portOf macDev 0) 1 1 1 = some sa0 ∧ (saOf (portOf macDev 0) 0 0 3).isSome = true ∧ sa0.keyIn = true ∧
    sa0.ready = true ∧ sa0.lost = false ∧ (zeros 12).length = 12 ∧ macsecMode macDev 0 = 2 ∧
    saKeys 0 0 (mkHandle 0 0x2003 2) macDev .firmware = .ok ∧ saLate 0 0 0 1 (mkHandle 0 0x2003 2) 0 macDev = .ok ∧
    saLate 0 1 1 0 (mkHandle 0 0x2003 2) 0 macDev = .ok ∧
    portRole macDev 0 ≠ 2 ∧ (look (portOf macDev 0).rxSas 63).any (fun a => a.resolving == some 9 && !a.lost) = true ∧
    saKeyOk macDev 0 false sa0 = true ∧ saKeyOk servedDev 0 false sa0 = false := by decide

theorem wit_MacsecAssociations_key : resolve macDev.ks false (portOwner macDev 0) (mkHandle 0 0x2003 2) = .ok (0x2003, macKey) ∧
    spendUse 0x2003 macKey macDev = .ok (none, macDev) := ⟨rfl, rfl⟩

/-- FramesInAndOut: frames at the ends of their lengths, plain and protected ports, an association that serves. -/
def frameOf (etype len : Nat) : Bytes := zeros 12 ++ be 2 etype ++ zeros (len - 14)

set_option maxRecDepth 40000 in
theorem wit_FramesInAndOut : portRole macDev 0 = 0 ∧ portUp macDev 0 = true ∧ portUp servedDev 0 = false ∧
    (frameOf 0x0800 60).length + 4 = 64 ∧ (frameOf 0x0800 60).length + 4 ≤ portMtu macDev 0 ∧
    etherType (frameOf 0x8808 60) = 0x8808 ∧ etherType (frameOf 0x0800 60) ≠ 0x8808 ∧ macsecMode macDev 0 ≠ 0 ∧
    macsecMode servedDev 0 = 0 ∧ vlanOk servedDev 0 (frameOf 0x0800 60) = true ∧
    vlanOk servedDev 0 (zeros 12 ++ be 2 0x8100 ++ be 2 5 ++ zeros 44) = false ∧
    saServes sa0 = true ∧ sa0.resolving = none ∧ sa0.follow = none ∧ sa0.pn ≤ lastPn 2 ∧ sa0.pn < sa0.stop ∧
    (frameOf 0x0800 60).length + 36 ≤ portMtu macDev 0 := by decide

theorem wit_FramesInAndOut_in : macsecIn 0 (frameOf 0x888E 60) macDev = (.plain (frameOf 0x888E 60), macDev) := rfl

/-- TransportTimersAndTables: neighbours resolved and not, listeners in each state, a route that may connect, connections in each
state with their timers. -/
def listenDev : Dev :=
  netDev [(0, { state := 5 })] [(dk 0x3400 2, 5), (dk 0x3400 5, 8583), (dk 0x3400 6, 1)]

def conn0 : TcpConn :=
  { inc := 1, state := .established, port := 0, v6 := false, localAddr := zeros 4, localPort := 7, peerAddr := zeros 4,
    peerPort := 8, listener := 0, framing := 1, timer := some 9, sndNxt := 5, waiting := [{ bytes := [1], since := 3, tag := none }] }

theorem wit_Transport_listeners : (lisOf listenDev 0).state = 0 ∧ endpoint listenDev (lisPort listenDev 0) = true ∧
    lisClash listenDev 0 = false ∧ listenDev.life.reef ≠ 3 ∧ lisLocal listenDev 0 ≠ 0 ∧
    (lisFraming listenDev 0 = 0 ↔ 2 ≤ lisProto listenDev 0) ∧ (openChan (.listener 0) (lisDomain listenDev 0) 256 0 listenDev).isSome = true ∧
    (lisOf { net := { listeners := [(223, { state := 2, closeAt := 9 })] } } 223).state = 2 ∧
    (setListener 0 true listenDev).1 = .ok ∧ routeOk listenDev (Route.ofBytes (zeros 32)) = true ∧
    (Route.ofBytes (zeros 32)).valid = false ∧ (lookD {} listenDev.net.routes 4095).conn = none := by decide

theorem wit_Transport_timers : (let n : Neighbour := { port := 63, addr := zeros 4, mac := none, confirmed := 0 }
     neighbourOf { net := { neighbours := [n] } } 63 (zeros 4) = some n ∧ n.mac = none) ∧
    (let n : Neighbour := { port := 0, addr := zeros 4, mac := some (zeros 6), confirmed := 0 }
     neighbourOf { net := { neighbours := [n] } } 0 (zeros 4) = some n ∧ n.mac.isSome = true) ∧
    connOf { net := { conns := [(32767, conn0)] } } 32767 = some conn0 ∧ conn0.timer = some 9 ∧ conn0.retries < 8 ∧
    inFlight conn0 ≠ 0 ∧ 8 ≤ ({ conn0 with retries := 8 } : TcpConn).retries ∧ lisKeepalive {} conn0.listener ≠ 0 ∧
    conn0.probes < 3 ∧ ({ conn0 with state := .timeWait } : TcpConn).state = .timeWait ∧
    ({ conn0 with state := .synRcvd } : TcpConn).state = .synRcvd ∧ conn0.waiting ≠ [] ∧
    (let e : CorrEntry := { domain := 5, route := 1, key := [1], origin := origin0, till := 8 }
     minBy? (fun (e : CorrEntry) => e.till) [e] = some e) := by decide

/-- A route whose listener listens, over a port that is up. -/
def routeDev : Dev :=
  { listenDev with
    dict := { listenDev.dict with blobs := [(dk 0x34E0 0, [1] ++ zeros 31)] },
    net := { listenDev.net with listeners := [(0, { state := 1 })] } }

theorem wit_Transport_route : routeOpens routeDev 0 = true ∧ (lookD {} routeDev.net.routes 0).conn = none := by decide

/-! The host interface. -/

/-- Functions of link 0 with slot 3 open or free, the last VF of H0A enabled and bound to domain 5. -/
def ringSlot : Slot :=
  { state := .opened, sizes := 0x0404, ctl := 1, handle := 0x10001, sqTail := 15, bqTail := 15, coal := 0x00010002, dqDue := 1,
    cqDue := 1 }

def heldOne : HeldRec := { seq := 7, bytes := zeros 32, outAddr := 0, outSgl := [], retained := none }
def delivery0 : Delivery := { typ := 0, data := [1, 2], time := 0, tag := some 4, since := 5 }

def chan0 : Chan := { kind := .slot 0 3, inc := 1, domain := 5, held := [heldOne], deliveries := [delivery0] }

def hostDev (f : HostFn) : Dev :=
  { servedDev with
    host := { links := [(0, { state := 2 })], fns := [(0, f), (1027, { abi := 1, implicitChan := some 2 })],
              chans := [(1, chan0), (2, { kind := .implicit 1027, inc := 1, domain := 5 })], numVfs := [(0, 1024)] },
    dict := { nums := [(dk (0x4000 + 1023) 2, 5), (dk (0x4000 + 1023) 3, 1)], blobs := [(dk 0x3800 7, [0x20])] } }

theorem wit_HostRings : fnLive (hostDev { slots := [(3, ringSlot)] }) 0 = true ∧ fnLive (hostDev {}) 1027 = true ∧ 4095 < slotCount 0 ∧
    (slotOf (hostDev { slots := [(3, ringSlot)] }) 0 3).state = .opened ∧ 15 < sqSize ringSlot ∧ 15 < dqSize ringSlot ∧
    sqSize ringSlot ≤ 16 ∧ (slotOf (hostDev {}) 0 3).state ≠ .opened ∧ slotCount 1027 ≤ 256 ∧
    look (hostDev {}).host.chans 1 = some chan0 ∧ chan0.kind = .slot 0 3 ∧ chan0.deliveries = [delivery0] ∧
    takesDeliveries ringSlot = true ∧ chan0.closing = none ∧ ReadResult.get? .poisoned = none ∧ 1 ≤ freeBufs ringSlot ∧
    1 ≤ freeEntries ringSlot ∧ (le 8 0x1000 ++ le 4 256 ++ zeros 4).length = 16 ∧
    leAt (le 8 0x1000 ++ le 4 256 ++ zeros 4) 8 4 = 256 ∧ delivery0.tag = some 4 := by decide

theorem wit_HostRegisters : 2047 < vecCount 0 ∧ coalTime ringSlot ≠ 0 ∧ ringSlot.cqDue ≠ 0 ∧ ringSlot.dqDue ≠ 0 ∧
    ((0x100000 + 16 * 4095 + 4 * 2 : Nat) < 2 ^ 23) ∧ ((0x200000 + 64 * 4095 + 8 * 3 : Nat) < 2 ^ 23) ∧
    (slotOf (hostDev {}) 0 4095).state = .free ∧ (zeros 8).length = 8 ∧ badAccessAt 0 < (0x15#23 : BitVec 23).toNat ∧
    (0x10#23 : BitVec 23).toNat + (7#7 : BitVec 7).toNat < badAccessAt 0 + 4 ∧ 0x6010 < 2 ^ 23 := by decide

/-- ChannelRequests: a mailbox request that reaches its function, versions 3 and 1, a slot that may open, a channel to close with a
record held, a job of version 1; a channel that closes with nothing left to squash. -/
def openable : HostFn := { abi := 3, slots := [(4, { sizes := 0x0404 })] }

theorem wit_ChannelRequests : MailReady { dev := hostDev openable } 0#12 9#32 ∧
    MailReady { dev := hostDev { mbBusy := some 9 } } 0#12 9#32 ∧ bitOf 8 3 = true ∧ bitOf 2 3 = false ∧ bitOf 2 1 = true ∧
    chansOf servedDev 0 = [] ∧ implicitDomain (hostDev {}) 0 = some 5 ∧ (openChan (.implicit 0) 5 16 0 servedDev).isSome = true ∧
    (hostDev {}).life.hobbled = false ∧ openStatus 0 4 4096 5 0 4096 (hostDev openable) = .ok ∧ openStatus 0 4 1 5 0 0 (hostDev openable) = .ok ∧
    (openChan (.slot 0 4) 5 4096 (4096 * 1024) (hostDev openable)).isSome = true ∧ (fnOf (hostDev openable) 0).abi = 3 ∧
    unboundVf (hostDev openable) 0 = false ∧ ownChan (hostDev openable) 0 0x10001 = some (1, chan0, 3) ∧ chan0.held = heldOne :: [] ∧
    (hostDev openable).life.custUp = true ∧ (fnOf (hostDev {}) 1027).abi = 1 ∧ unboundVf (hostDev {}) 1027 = false ∧
    (fnOf (hostDev {}) 1027).implicitChan = some 2 ∧ (look (hostDev {}).host.chans 2).isSome = true ∧ (zeros 64).length = 64 ∧
    (look [(1, { chan0 with closing := some 3 })] 1).any (fun c => c.closing == some 3) = true ∧
    waitingOf (fun q => srcChan (hostDev openable) q.src == some 1) (hostDev openable) = [] := by decide

/-- FunctionDrains: a live VF, a drain at each of its steps, a changed number of VFs, links that go down and come up. -/
def drainDev (step : Nat) : Dev := hostDev { flr := some { kind := 0, origin := 0, start := 3, step := step } }

set_option maxRecDepth 40000 in
theorem wit_FunctionDrains : fnLive (hostDev {}) 1027 = true ∧
    (∀ step ∈ [2, 3, 4], draining 0 0 (drainDev step) = [(0, { kind := 0, origin := 0, start := 3, step := step })]) ∧
    (let d : Dev := { host := { links := [(3, { state := 2 })] } }
     fnLive d 3 = true ∧ lookD 0 d.host.bifurcated 1 ≠ 1 ∧ lookD 0 d.host.numVfs 3 = 0 ∧ look d.host.vfPending 3 = none ∧
       (fnsOfHalf d 3).filter (fun f => decide (4 ≤ f)) = [] ∧ draining 1 3 d = [] ∧ (lookD {} d.host.links 3).state ≠ 0 ∧
       (lookD {} d.host.links 2).state ≠ 2 ∧ d.life.powerOff = false ∧ d.life.gait ≠ 3) := by decide

/-! The custodian: services, officers, sessions, the watchdog; the Shroud. -/

/-- CustodianServices: the rights, objects and checks of each service. -/
def newFw : FwImage := { factoryImage with version := 2, svn := 255, length := 2 ^ 28 }

theorem wit_CustodianServices : AnyRole fwHdr servedDev .firmware ∧ (7 : Nat) < 4096 ∧ 7 ∉ servedDev.cust.domains ∧ servedDev.ks.migState = 0 ∧ keyState servedDev = true ∧
    servedDev.ks.locked = false ∧ foundationShut servedDev = false ∧ roomToCreate servedDev.ks = true ∧
    has servedDev.cust.domains 5 = true ∧ roomToJournal servedDev.ks = true ∧
    rightMet servedDev dual5Hdr.via .nobody { dual := [(2, .device), (2, .domain 5)] } = true ∧
    objStatus opHdr.via { source := 0, length := 2 ^ 24, locator := 0, found := true } servedDev = .ok ∧
    newFw.magicOk = true ∧ 1 ≤ newFw.svn ∧ newFw.svn ≤ 255 ∧ newFw.length ≤ 2 ^ 28 ∧ fwVersion servedDev < newFw.version ∧
    svnFloor servedDev ≤ newFw.svn ∧
    rightMet servedDev dualHdr.via .nobody (dictRights dualHdr.via 0x1800 1 servedDev) = true := by decide

def rowM : DictRow := ((dictRow 0x1800 1).getD { iLo := 0, iHi := 0, sLo := 0, sHi := 0, typ := 0, rd := [], wr := [], dflt := 0, name := "" })

set_option maxRecDepth 40000 in
theorem wit_CustodianServices_write : dictRow 0x1800 1 = some rowM ∧ writeTarget 0x1800 1 2 1 = .ok rowM ∧
    ∃ e, applyEntry (writerOf dualHdr (writeRole dualHdr .nobody servedDev) servedDev) 0x1800 1 rowM [3] servedDev = .ok e := ⟨rfl, rfl, ⟨_, rfl⟩⟩

/-- OfficersAndLogins: a PIN of each length, a record of each role, the rights to enrol and revoke, a card that answers. -/
def record3 : OfficerRec :=
  { officer := 0x1FFF, role := 3, domain := 0, cardKey := zeros 96, rigEcdsa := zeros 96, rigMldsa := [], resv := 0, lenOk := true }

set_option maxRecDepth 20000 in
/-- An auditor's record by the offsets of R564; one byte more is no record. -/
theorem test_officer_record : recordOk (recordOfBytes (le 2 7 ++ [2, 0] ++ zeros 196)) = true ∧
    recordOk (recordOfBytes (le 2 7 ++ [2, 0] ++ zeros 197)) = false := by decide

def cardDev : Dev :=
  { servedDev with
    per := { icc0 := { present := true, state := 2, cls := 3 } },
    rng := { insts := [(112, { seeded := true, buf := zeros 32 })] } }

theorem wit_OfficersAndLogins : AnyRole opHdr servedDev .operator ∧ pinStatus 0 4 (padTo 12 [0x31, 0x32, 0x33, 0x34]) = .ok ∧
    pinStatus 1 12 (List.replicate 12 0x39) = .ok ∧ recordOk record3 = true ∧
    rightMet servedDev dualHdr.via .nobody (officerRights .operator 0 true servedDev) = true ∧
    look servedDev.cust.officers 0x1FFF = none ∧ officerRoom servedDev .operator 0 = true ∧
    (cardExchange 0 card0 cardDev).1 = .ok ∧ (look servedDev.cust.officers 0x1001).any (fun o => !o.revoked) = true ∧
    rightMet servedDev dualHdr.via .nobody (officerRights .deviceOfficer 0 false servedDev) = true ∧
    scopeM servedDev .device < (officersOf servedDev .deviceOfficer 0).length ∧
    rightMet servedDev dual5Hdr.via .nobody (officerRights .domainOfficer 5 false servedDev) = true ∧
    (look servedDev.cust.logins 1).isSome = true := by decide

/-- DualControlSessions: an open session of the scope of the device, with the login of one of its officers in slot 0. -/
def openSes (n : List Nat) : Session :=
  { ses none with state := 0, officers := n, expires := 5, req := { hdr := fwHdr, action := .deviceReset } }

def sesDev (n : List Nat) : Dev :=
  { cardDev with cust := { cardDev.cust with sessions := [(9, openSes n)], logins := [(0, { officer := 0x1002, lastUse := 0 })] } }

def sesHdr : SvcHdr := { via := .firmware 0, session := 9 }

theorem wit_DualControl_authorise : (∀ n ∈ [[], [0x1001]], (openSes n).state = 0 ∧ (sesDev n).tb.now < (openSes n).expires ∧
      slotOfficer 0 (openSes n) (sesDev n) = some 0x1002 ∧ isThrottled (sesDev n) = false ∧
      (cardSigns 0 card0 (sesDev n)).1 = .ok) ∧
    (countOfficer 9 0x1002 (openSes []) (sesDev [])).1.officers.length < (openSes []).m ∧
    (openSes []).m ≤ (countOfficer 9 0x1002 (openSes [0x1001]) (sesDev [0x1001])).1.officers.length ∧
    (look (sesDev []).cust.sessions 9).isSome = true := by decide

theorem wit_DualControl_request : sessionRequest sesHdr true (sesDev []) = (some (some (openSes [])), sesDev []) ∧
    sameSender sesHdr.via (openSes []).opener = true ∧ sesHdr.officer = (openSes []).officer := ⟨rfl, rfl, rfl⟩

/-- A session for DEVICE_RESET that firmware may open, whatever the number drawn for it. -/
def bareDev : Dev := { servedDev with cust := { servedDev.cust with sessions := [] } }
def resetReq : SvcReq := { hdr := fwHdr, action := .deviceReset }

theorem wit_DualControl_open : takeRequest fwHdr.via false bareDev = (true, bareDev) ∧ resetReq.action ≠ .hobbleUnlock ∧
    headerStatus bareDev fwHdr false false (resetReq.hdr.session == 0) = .ok ∧ roleOf bareDev fwHdr.via fwHdr.officer = .ok .firmware ∧
    objectStatus fwHdr.via resetReq.action bareDev = .ok ∧ fetchObject fwHdr.via resetReq.action bareDev = (.ok, bareDev) ∧ foreign .firmware (actionDomain resetReq.action bareDev) = false ∧
    isThrottled bareDev = false ∧ (bareDev.cust.sessions.filter (fun e => e.2.state == 0)).length < 64 :=
  ⟨rfl, by decide, by decide, rfl, by decide, rfl, by decide, by decide, by decide⟩

theorem wit_DualControl_probe (i : Nat) (x : Session) (hx : x.req = resetReq) (hs : x.scope = none) (d : Dev)
    (hd : d = { bareDev with free := d.free }) : probeAction i x { dev := d } = .ok := by
  rw [hd]
  simp [probeAction, probeAction.statusOfCode, hx, hs, resetReq, runAction, execDeviceReset, nextState, serve, serveWith, takeRequest,
    headerStatus, servedHobbled, fwHdr, bareDev, servedDev, dropStaged, fetchObject, actionObject, roleOf, touchLogin, rightMet, look, ins,
    sessionScope, isThrottled, isProbe, answer, onSession, resetIfDue, Status.code]

/-- WatchdogTimeMemory: the watchdog armed and enabled, cluster resets counted up to the limit, the cluster rebooting from an
image of the latched measurement; steps and slews at their limits. -/
theorem wit_WatchdogTimeMemory : ({ armed := some 5 } : Watchdog).armed = some 5 ∧ (1000005 : Nat) ≤ 5 + 1000000 ∧
    ({ en := true, resets := [1, 2] } : Watchdog).resets = 1 :: [2] ∧ 2 ≤ ({ en := true, resets := [1, 2] } : Watchdog).resets.length ∧
    servedDev.life.gait ≠ 3 ∧ (0x30000000 ≤ sramBase ∧ sramBase < sramBase + 0x400000) ∧
    slotImage servedDev servedDev.cust.booted = some factoryImage ∧ factoryImage.measurement ≠ servedDev.cust.latch ∧
    (BitVec.ofInt 32 (-500000)).toInt = -500000 ∧ (500000#32 : BitVec 32).toInt = 500000 ∧ transportBusy servedDev = false ∧
    transportBusy routeDev = true ∧ 31 ∉ servedDev.life.hbmFailed ∧ ({ rebooting := true } : Watchdog).rebooting = true ∧
    servedDev.tb.now + (1000#64 : BitVec 64).toNat < 2 ^ 64 ∧ 31 ∈ [31] ∧ (hbmBase + 31 * 256 - hbmBase) / 256 % 32 = 31 := by decide

/-- Detectors: monitors of each class with ordinary and extreme readings, one whose partner has asserted, one alone. -/
def aloneDev : Dev := { servedDev with guard := { servedDev.guard with asserted := [(3, 7)], alone := [(3, (0, 1, 2))] } }

theorem wit_Detectors : monitorRuns servedDev 4 = true ∧ extreme servedDev 4 0 135001 = true ∧ extreme servedDev 4 0 135000 = false ∧
    zeroiseClass 1 = true ∧ extreme servedDev 1 0 0 = false ∧ zeroiseClass 4 = false ∧
    ((look aloneDev.guard.alone 3).isSome = true ∧ aloneDev.tb.now ≤ lookD 0 aloneDev.guard.asserted 3 + 20000) ∧
    look servedDev.guard.alone 2 = none ∧ monitorRuns servedDev 0 = false ∧ monitorRuns servedDev 11 = false ∧
    loneDetector aloneDev = some (3, 0, 1, 2) ∧ monitorRuns servedDev 10 = true ∧ (4200 : Nat) ≤ 4200 ∧
    servedDev.guard.mainPower = true := by decide

/-- HobbleZeroiseUnlock, EventsWhileHobbled: the device before and after its first hobble; unlock a second after it. -/
def hobbledDev : Dev :=
  { servedDev with life := { servedDev.life with hobbled := true, ready := false },
                   guard := { servedDev.guard with hobble := { set := true, events := 1 } } }

theorem wit_HobbleZeroiseUnlock : monitorsOff servedDev = false ∧ keyState servedDev = true ∧ servedDev.guard.hobble.set = false ∧
    hobbledDev.guard.hobble.set = true ∧ servedDev.guard.mainPower = true ∧ unlockOk hobbledDev = true ∧
    TwoDeviceOfficers dualHdr hobbledDev .nobody ∧
    ({ servedDev.guard with loopChange := some (5, false) }).loopChange = some (5, false) ∧
    hobbledDev.life.hobbled = true ∧ keyState hobbledDev = true ∧ monitorRuns hobbledDev 6 = true ∧
    extreme hobbledDev 6 0 0 = false ∧ zeroiseClass 6 = false ∧ hobbledDev.guard.hobble.events < 255 ∧
    hobbledDev.life.zeroised = false ∧ extreme hobbledDev 4 0 135001 = true ∧
    (let g := { hobbledDev.guard with asserted := [(9, 7)], alone := [(9, (0, 1, 2))] }
     (look g.alone (4 * 2 + (1 - 0))).isSome = true ∧ hobbledDev.tb.now ≤ lookD 0 g.asserted (4 * 2 + (1 - 0)) + 20000) := by
  decide

theorem wit_HobbleUnlock_served : Served dualHdr .hobbleUnlock { dev := hobbledDev } hobbledDev .nobody :=
  ⟨rfl, rfl, rfl, rfl, rfl, rfl, rfl⟩

/-- RemainingCountIsC: the key of the named services, with and without a lease. -/
theorem wit_RemainingCountIsC : counted1.uses < 2 ^ 64 ∧ tenantOrDm (.domainOfficer 5) = true ∧
    Served dmHdr (.keyInfo (mkHandle 3 0x2000 2)) served (afterHdr dmHdr servedDev) (.domainOfficer 5) :=
  ⟨by decide, rfl, (wit_Served _ (fun _ _ => rfl)).2.1⟩

/-! The Malath responder. -/

/-- An association of version 3 on MGT, an operator bound to it. -/
def peer0 : MalPeer := .mgt 0x0A000001 4000
def mh : MalHdr := { peer := peer0, txn := 7, actor := 0x1004 }

def upload1 : Xfer := { assoc := 0, dir := 1, index := 0x1020, sub := 5, total := 10, txn := 3, actor := 0x1004, data := zeros 10, sent := 10 }
def download1 : Xfer := { upload1 with dir := 0, data := [1, 2], nextOff := 2, sent := 0 }
def staged1 : Xfer := { download1 with dir := 2, staged := true }

def malDev : Dev :=
  { servedDev with
    cust := { servedDev.cust with logins := [(1, { officer := 0x1004, lastUse := 0, bound := some 0 })] },
    mal := { mgtUp := true, assocs := [(0, { link := .mgt, peer := peer0, version := 3 })],
             xfers := [(xferKey 0 1, upload1), (xferKey 0 2, download1), (xferKey 0 3, staged1)] } }

def mal : State := { dev := malDev }

set_option maxRecDepth 40000 in
theorem wit_Malath_requests : (∃ d, arriveRequest mh 4 malDev = (some 0, d) ∧ openGate 0 1 (zeroisedEntry 0x1000) true d = none ∧
      ∃ r v, readTarget 0 0x1000 4 0x1004 none (some (maxPdu (peerLink peer0) - 15)) d = .ok (r, v)) ∧
    commonVersion 0x0E = some 3 ∧ commonVersion 0x02 = some 1 ∧
    (∃ d, arriveRequest mh (6 + 1) malDev = (some 0, d) ∧ openGate 0 1 false false d = none ∧
      ∃ r role e, writeRights 0 0x1100 6 2 1 0x1004 d = .ok (r, role) ∧ installValue 0 0x1100 6 0x1004 role r [1] (touchLogin 0x1004 d) = .ok e) ∧
    (∃ d, arriveRequest mh 10 malDev = (some 0, d) ∧ openGate 0 2 false false d = none ∧
      (∃ role, initTarget mh 0 0 0x1100 6 2 1 d = .ok ([], role)) ∧
      firstBelow 256 (fun x => (look d.mal.xfers (xferKey 0 x)).isNone) = some 0 ∧ xferCount (fun t => t.assoc == 0) d < 8 ∧
      xferCount (fun _ => true) d < 64) :=
  ⟨⟨_, rfl, rfl, _, _, rfl⟩, rfl, rfl, ⟨_, rfl, rfl, _, _, _, rfl, rfl⟩, ⟨_, rfl, rfl, ⟨_, rfl⟩, rfl, by decide, by decide⟩⟩

theorem wit_Malath_segments : (∃ d, arriveSeg mh (6 + 3) 2 0 malDev = (some (0, download1), d) ∧ d.life.custUp = true ∧ d.life.gait ≠ 3 ∧
      d.life.burnDue = none ∧ d.life.resetDue = false ∧ look d.mal.xfers (xferKey 0 2) = some download1) ∧
    download1.dir ≠ 1 ∧ download1.segs = [] ∧ download1.data.length = download1.nextOff ∧ download1.nextOff + 3 < download1.total ∧
    3 ≤ segWindow .mgt * segSize .mgt ∧ (∃ d, arriveSeg mh 6 1 0 malDev = (some (0, upload1), d)) ∧ upload1.dir = 1 ∧
    upload1.nextOff < 10 ∧ (∃ d, arriveSeg mh 2 1 0 malDev = (some (0, upload1), d)) ∧ responderUp malDev = true ∧
    liveXfer 0 1 malDev = some upload1 ∧ look malDev.mal.xfers (xferKey 0 3) = some staged1 ∧ staged1.staged = true ∧
    (assocOf malDev 0).any (fun y => !(y.link == .inband)) = true ∧ heartbeats malDev = true ∧ malDev.mal.mgtUp = true :=
  ⟨⟨_, rfl, rfl, by decide, rfl, rfl, rfl⟩, by decide, rfl, rfl, by decide, by decide, ⟨_, rfl⟩, rfl, by decide, ⟨_, rfl⟩, rfl, rfl, rfl, rfl,
   by decide, by decide, rfl⟩

/-! Peripherals, power, audit, life cycle. -/

def sdCard0 : SdCard :=
  { cmd8 := true, ready := true, v18 := true, maxMode := 7, blocks := 100, run7 := 8, mid7 := 5, run6 := 9, mid6 := 3,
    password := [1, 2] }

def sdDev (st : Nat) : Dev := { servedDev with per := { sd := { state := st, mode := 6, card := some sdCard0 } } }

/-- An ATR with T=1 (TS 3B, T0 with TD1 and no historical bytes, TD1 = 1, its check byte) (R440). -/
def atr1 : Bytes := [0x3B, 0x80, 0x01, 0x81]

def iccDev (x : IccSlot) : Dev := { servedDev with per := { icc1 := x } }

theorem wit_CardHosts : servedDev.per.sd.state = 0 ∧ firmwareUp servedDev = true ∧ servedDev.life.hobbled = false ∧
    (sdDev 2).per.sd.state = 2 ∧ 6 ≤ (sdDev 2).per.sd.mode ∧ (sdDev 3).per.sd.state = 3 ∧ (sdDev 3).per.sd.card = some sdCard0 ∧
    sdCard0.password = [1, 2] ∧ (sdDev 5).per.sd.state = 5 ∧ sdCard0.password.length ≤ 16 ∧
    (iccOf servedDev 1).present = false ∧ (readAtr atr1).ok = true ∧ (readAtr atr1).t1 = true ∧ (readAtr atr1).classes = none ∧
    (readAtr atr1).ta2 = none ∧ (readAtr []).ok = false ∧ (iccOf (iccDev { present := true, state := 1, cls := 3 }) 1).cls = 3 ∧
    (iccOf (iccDev { present := true, state := 1, cls := 2, ppsSent := true }) 1).ppsSent = true ∧
    (iccOf (iccDev { present := true, state := 2, rBlocks := 3, resynch := true }) 1).rBlocks = 3 ∧
    ({ wtx := 10 } : IccSlot).wtx + 9990 ≤ 10000 ∧ ({ chained := 7 } : IccSlot).chained + 254 ≤ 261 := by decide

theorem wit_CardHosts_pwd : ∃ e, sdSetPwd (le 1 2 ++ [1, 2] ++ le 1 1 ++ [9]) (sdDev 2) = .ok e := by
  have h : sdSetPwd (le 1 2 ++ [1, 2] ++ le 1 1 ++ [9]) (sdDev 2) = sdLockCommand sdCard0 (fun d =>
      .ok (onSd (fun x => { x with card := some { sdCard0 with password := [9] } }) d)) (sdDev 2) := rfl
  rw [h]
  cases hs : (sdTransfer sdCard0 true 1 (sdDev 2)).1
  · exact ⟨(sdTransfer sdCard0 true 1 (sdDev 2)).2, by simp [sdLockCommand, hs]⟩
  · exact ⟨_, by simp [sdLockCommand, hs]; rfl⟩

/-- CardHosts: a card that spells file 1 of three bytes; errors of a transfer below and at the limit of its tries. -/
def sdCard1 : SdCard := { sdCard0 with blocks := 4000, data := [(2048, zeros 16 ++ le 4 3000 ++ le 4 3), (3000, [7, 8, 9])] }

theorem test_card_file : sdHolds sdCard1 1 = true ∧ sdHolds sdCard1 0 = false ∧ sdFile sdCard1 1 = [7, 8, 9] := by decide

theorem test_card_retries :
    (sdWalk sdCard0 (List.replicate 4 { err := .command, block := 2, run := 0, mid := 0 }) { mode := 3, block := 1 }).2.mode = 2 ∧
    (sdWalk sdCard0 (List.replicate 4 { err := .write, block := 0, run := 0, mid := 0 }) { mode := 2 }) = (false, { mode := 2, tries := 3, retries := 3 }) ∧
    (sdWalk sdCard0 [{ err := .read, block := 5, run := 9, mid := 4 }] { mode := 7 }).2.retunes = 1 := by decide

/-- CanAndPins: the controller below and above its limits, a queued frame, bus-off; the reset timing written again; a pin whose
FUNC and owner change, with the value of the worked example, one in its window. -/
def frame0 : CanFrame := { ident := 1, bytes := [], queuedAt := 5 }
def canDev (c : CanCtl) : Dev := { servedDev with per := { can := c } }

theorem wit_CanAndPins : ({ queue := [frame0], tec := 247 } : CanCtl).tec < 248 ∧ 120 ≤ ({ tec := 247 } : CanCtl).tec ∧
    248 ≤ ({ tec := 248 } : CanCtl).tec ∧ minBy? (fun (f : CanFrame) => f.queuedAt) [frame0] = some frame0 ∧
    (canDev { state := 2 }).per.can.state = 2 ∧ (canDev { state := 2 }).per.can.recovering = false ∧
    numOf 1 (canDev { state := 2 }) (dk 0x7808 8) = 1 ∧ pinCfgOk 11 0x00A80046 = true ∧
    (fieldOf (pinOf servedDev 11).cfg 18 13 = fieldOf (pinValue 0x40000041) 18 13) ∧
    fieldOf (pinOf servedDev 11).cfg 0 4 ≠ fieldOf (pinValue 0x40000041) 0 4 ∧ pinCfgOk 0 0x40000041 = true ∧
    (fieldOf (pinOf servedDev 11).cfg 18 13 ≠ fieldOf (pinValue 0x00A80046) 18 13) ∧
    fieldOf (pinOf servedDev 11).cfg 0 4 = fieldOf (pinValue 0x40000040) 0 4 ∧
    ({ window := some 7 } : Pin_).window = some 7 := by decide

theorem wit_CanAndPins_writes : (∃ e, canTiming false 0x0F103E02 servedDev = .ok e) ∧
    (∃ e, pinCfgWrite 11 0x00A80046 false servedDev = .ok e) := ⟨⟨_, rfl⟩, ⟨_, rfl⟩⟩

/-- GaitsAndReefLevels: each gait taken, a string idle in Walk and one that wakes, readings that clear a level and do not. -/
def walkDev : Dev := { servedDev with life := { servedDev.life with gait := 0 } }
def reefDev (n : Nat) : Dev := { servedDev with life := { servedDev.life with reef := n } }

theorem wit_GaitsAndReefLevels : (∀ g ∈ [0, 1, 2, 3], gaitAllowed servedDev g = true) ∧ servedDev.life.zeroised = false ∧
    servedDev.life.powerOff = false ∧ servedDev.pow.standbyAt = none ∧ walkDev.life.gait = 0 ∧ (stringOf walkDev 31).gated = false ∧
    stringLoad walkDev 31 = 0 ∧ (∀ k < 16, (procOf walkDev (16 * 31 + k)).slice = none) ∧
    ({ gated := true, waking := true } : StringState).waking = true ∧ (reefDev 1).life.reef ≠ 0 ∧ reefClear (reefDev 1) = true ∧
    reefClear { reefDev 1 with guard := { servedDev.guard with tj := 105001 } } = false ∧ firmwareUp servedDev = true ∧
    4320000 ≤ 4319999 + 1 := by decide

/-- StandbyPowerResets: entry in progress, Standby, readings at their limits, PWR_KILL released. -/
theorem wit_StandbyPowerResets : ({ standbyAt := some 5 } : PowerState).standbyAt = some 5 ∧
    ({ servedDev.life with gait := 3 }).gait = 3 ∧ servedDev.guard.mainPower = true ∧ (115000#32 : BitVec 32).toInt = 115000 ∧ 0 < servedDev.guard.vbatMv ∧
    (99999#32 : BitVec 32).toInt < 100000 ∧ servedDev.pow.killN = false ∧ ({ overtemp := some (1, 2) } : PowerState).overtemp.isSome = true := by
  decide

/-- AuditRecorder: an event on its way, a storm key, Standby's buffer, a window to close, storms of both kinds, a page in each state,
an association's cursors. -/
def event0 : AuditEv := { time := 5, source := 0x0B04, event := 0x0240, severity := 1, param := [(2, 0x1800), (1, 1), (16, 3)] }
def fault0 : AuditEv := { event0 with source := 0x0B50, event := 0x0404, severity := 2, cause := 0x0B50, param := [(1, 0), (8, 0)] }

def storm0 : Storm := { key := .cause 0x0B50, first := fault0, source := 0x0B50, last := 9, count := 2, reporters := [0x0B50], classes := 1 }
def storm1 : Storm := { storm0 with key := .classEvent 3 0x0201 }

def auditRec0 : AuditRec :=
  { seq := 3, time := 5, source := 0, event := 1, domain := 0, actor := 0, severity := 1, rflags := 0, count := 1, last := 0, param := [],
    prevHash := [], boot := 0, valid := 0 }

def auditDev (a : AuditState) : Dev := { malDev with audit := a }

theorem wit_AuditRecorder : servedDev.life.gait ≠ 3 ∧ auditStopped servedDev = false ∧ stormKey servedDev event0 = none ∧
    servedDev.tb.now ≤ event0.time + 2000 ∧ stormKey servedDev fault0 = some (.cause 0x0B50) ∧
    (servedDev.audit.standbyBuf.length < 960) ∧ windowHead (auditDev { window := [fault0, event0] }) = some event0 ∧
    (eventParam event0).length ≤ 48 ∧ (stormParam storm0).length ≤ 48 ∧ (stormParam storm1).length ≤ 48 ∧
    [storm0, storm1].all (fun y => !(y.key == .overflow)) = true ∧
    minBy? (fun (x : Storm) => x.first.time) ([storm0, storm1].filter (fun x => !isStormEvent x.key)) = some storm0 ∧
    minBy? (fun (x : Storm) => x.first.time) ([storm0, storm1].filter (fun x => match x.key with | .classEvent .. => true | _ => false)) =
      some storm1 ∧
    (let p : AuditPage := { seqs := [3], since := 5 }
     p.programming = false ∧ p.seqs.length < 128 ∧ p ∉ ([] : List AuditPage)) ∧
    (let p : AuditPage := { seqs := [3], since := 5, programming := true }
     let d := auditDev { pages := [p], staging := [(3, auditRec0)] }
     p.programming = true ∧ p.seqs = [3] ∧ look d.audit.staging (3 % 65536) = some auditRec0 ∧ auditRec0.seq = 3) ∧
    (assocOf malDev 0).isSome = true := by decide

/-- LifeCycleAndDebug: each state that takes a request, a token unused and one open, a challenge outstanding, consents at the limits. -/
def lcDev (cells : FMap Nat) : Dev := { servedDev with guard := { servedDev.guard with otp := { cells := cells } } }

def consented0 : Dev :=
  { servedDev with
    guard := { servedDev.guard with
      chal := some { level := 1, target := none, domain := 5, nonce := [], till := 9 },
      consent := some { level := 2, domain := 5, duration := 3600, till := 9 } } }

theorem wit_LifeCycleAndDebug : lcState servedDev = 4 ∧ servedDev.ks.migState = 0 ∧ foundationShut servedDev = false ∧ jtagUp servedDev = true ∧ foundationFull servedDev = false ∧
    lcState (lcDev [(0, 7)]) = 1 ∧ (lcDev [(0, 7)]).guard.tokenBlocked ≤ (lcDev [(0, 7)]).tb.now ∧ nextToken (lcDev [(0, 7)]) = some 0 ∧
    lcState (lcDev [(0, 7), (8, 7)]) = 2 ∧ openToken (lcDev [(0, 7), (8, 7)]) = some 0 ∧
    grantFault servedDev none true ≠ 0 ∧ grantFault consented0 consented0.guard.chal true = 0 ∧ keyState servedDev = true ∧
    ({ servedDev.guard with debugLevel := 1, debugTill := 9 }).debugLevel ≠ 0 := by decide

theorem wit_LifeCycle_requests : (∃ e, lcRequest 6 false actorFw servedDev = .ok e) ∧
    (∃ e, lcRequest 4 true actorFw (lcDev [(0, 7), (1, 7)]) = .ok e) ∧
    ({ servedDev.life with burnDue := some (4, 4, 6, actorFw) }).burnDue = some (4, 4, 6, actorFw) := ⟨⟨_, rfl⟩, ⟨_, rfl⟩, rfl⟩

/-- A calibration set with SEQ 1 and its check value (R526). -/
def calBody : Bytes := [0x43, 0x58, 0x43, 0x41] ++ le 2 1 ++ zeros 2 ++ le 4 1 ++ zeros 2452
def cal1 : Bytes := calBody ++ le 4 (crc32c calBody)

theorem calBody_length : calBody.length = 2464 := by
  simp only [calBody, zeros, List.length_append, List.length_replicate, List.length_cons, List.length_nil, le]

theorem leVal_le4 (n : Nat) (h : n < 2 ^ 32) : leVal (le 4 n) = n := by simp [le, leVal]; omega

theorem crc32c_lt (b : Bytes) : crc32c b < 2 ^ 32 := by
  have bit : ∀ c, c < 2 ^ 32 → crcBitR 0x82F63B78 c < 2 ^ 32 := by
    intro c h
    unfold crcBitR
    split
    · exact Nat.xor_lt_two_pow (by omega) (by decide)
    · omega
  have byte : ∀ c (x : Byte), c < 2 ^ 32 → crcByteR 0x82F63B78 c x < 2 ^ 32 := fun c x h =>
    bit _ (bit _ (bit _ (bit _ (bit _ (bit _ (bit _ (bit _ (Nat.xor_lt_two_pow h (by have := x.isLt; omega)))))))))
  have run : ∀ (b : Bytes) c, c < 2 ^ 32 → b.foldl (crcByteR 0x82F63B78) c < 2 ^ 32 := by
    intro b
    induction b with
    | nil => exact fun c h => h
    | cons x b ih => exact fun c h => ih _ (byte c x h)
  exact Nat.xor_lt_two_pow (run b _ (by decide)) (by decide)

theorem wit_LifeCycle_calibration : calValid cal1 = true ∧ leAt cal1 8 4 = w32 (0 + 1) ∧
    (calPick servedDev.guard.calA servedDev.guard.calB).isEmpty = true := by
  have t : cal1.take 0x9A0 = calBody := by simp [cal1, calBody_length]
  have u : leAt cal1 0x9A0 4 = crc32c calBody := by
    rw [leAt, slice, cal1, List.drop_left' calBody_length]
    exact leVal_le4 _ (crc32c_lt _)
  have l : cal1.length = 2468 := by simp [cal1, calBody_length, le]
  refine ⟨?_, rfl, by decide⟩
  rw [calValid, t, u, l, Bool.and_eq_true, Bool.and_eq_true, Bool.and_eq_true]
  exact ⟨⟨⟨rfl, rfl⟩, rfl⟩, beq_self_eq_true _⟩

/-! Rules stated whole, and the machine. -/

/-- BnDispatcherChoice: no engine idle, an engine that holds the key, none that does. -/
def busyBn : Dev := { bn := { engines := (List.range 48).map (fun n => (n, { job := some n })) } }
def holdBn : Dev := { bn := { engines := [(40, { slots := [{ idx := 0x2000, gen := 2 }] })] } }

theorem wit_BnDispatcherChoice : (∀ n < 48, engineIdle busyBn n = false) ∧
    chooseEngine holdBn { runs with pins := [{ point := 32, idx := 0x2000, gen := 2 }] } = some 40 ∧
    chooseEngine holdBn { runs with pins := [{ point := 32, idx := 0x2001, gen := 2 }] } = some 0 ∧
    (∃ t qs, pickJob 50 queued.dev.bn.turn (engineFor queued.dev) queued.dev.bn.queues =
      some (0, { tag := 9, chan := 0, cost := 1 }, t, qs)) :=
  ⟨by decide, by decide, by decide, ⟨_, _, rfl⟩⟩

/-- TimeBaseAtReset: a recorder with and without durable records, the RTC before and after the last of them. -/
theorem wit_TimeBaseAtReset : ({} : AuditState).anyDurable = false ∧
    (let a : AuditState := { anyDurable := true, durableSeq := 3, running := [(3, auditRec0)] }
     a.anyDurable = true ∧ a.lastTime + 1000 < 2 ^ 64) ∧
    (let d : Dev := { audit := { anyDurable := true, lastTime := auditRec0.time + auditRec0.last, running := [(3, auditRec0)],
                                 staging := [(65535, auditRec0)] } }
     (∀ e ∈ d.audit.running, e.2.time ≤ d.audit.lastTime ∧ e.2.last ≤ d.audit.lastTime) ∧ look d.audit.staging (65535 % 65536) = some auditRec0) ∧
    servedDev.tb.rtc < 2 ^ 64 ∧ servedDev.life.powerOff = false ∧ servedDev.guard.mainPower = true := by decide

/-- StepRunsTheFrontCommand, EmptyQueueIdles, CommandsLeaveTheQueue, MemoryReadsBack, StepsKeepMemoryCanonical. -/
theorem wit_Step : ({ served with pending := [.wakeN, .warmReset] } : State).pending = .wakeN :: [.warmReset] ∧
    State.reset.pending = [] ∧ State.reset.dev.life.booting = true ∧ State.reset.dev.life.powerOff = false ∧
    served.dev.life.booting = false ∧ ({ served with dev := { servedDev with life := { servedDev.life with powerOff := true } } } : State).dev.life.powerOff = true ∧
    memWf loads.mem = true ∧ MemInv loads ∧ MemInv State.reset := by decide

/-- EmptyQueueIdles: no engine runs a slice, whatever the tick brings. -/
theorem wit_EmptyQueueIdles :
    let d : Dev := { life := { booting := false, zeroised := true } }
    ∀ e ∈ (settle (environment { d with tb := tick d.tb })).procs, e.2.slice = none ∨ isPriv e.2 = true := by
  intro d
  have h : settle (environment { d with tb := tick d.tb }) = environment { d with tb := tick d.tb } := rfl
  rw [h]
  cases hd : Config.dispatched ({ d with tb := tick d.tb } : Dev).tb.now with
  | none => simp [environment, hd, d]
  | some p =>
    simp [environment, hd, requestWorld, d]

theorem wit_Step_next : (∃ t, step loads = .next t) ∧ (∃ t, exec .wakeN loads = .next t) := ⟨⟨_, rfl⟩, ⟨_, rfl⟩⟩

/-- The balls of R556's and R557's rows, with the worked example of P05 and P41. -/
theorem test_balls : portBall 10 .txp = (18, 2) ∧ rowName 18 = ['W'] ∧ rowName (portBall 11 .rxn).1 = ['Y'] ∧
    portBall 82 .txp = (26, 77) ∧ portBall 83 .rxn = (27, 73) ∧ rowName 26 = ['A', 'G'] ∧ rowName 78 = ['D', 'B'] ∧
    pcieBall 1 15 .rxn = (77, 40) ∧ rowName 77 = ['D', 'A'] := by decide
end Sys2Proof.Tests
end

section
/-! PROOF. Every command completes: the shared forms that commands are written over answer a next state, and so does every
branch of the commands that answer by themselves. -/

namespace Sys2Proof.Machine

open Sys2Proof

/-- A command completes: its outcome is a next state, neither a fault nor a refusal. -/
def Completes (o : Out) : Prop := ∃ t, o = .next t

theorem completes_next (s : State) : Completes (.next s) := ⟨s, rfl⟩

/-! Lope instructions. What stops one at its boundary or inside is an effect on the device (R229), so only the body of the
boundary is left to look at. -/

theorem completes_atBoundary (p : ProcId) (len : Nat) {run : Proc → Out} (s : State) (h : ∀ q, Completes (run q)) :
    Completes (atBoundary p len run s) := by
  simp only [atBoundary]
  split
  · exact completes_next _
  · split
    · exact completes_next _
    · exact h _

theorem completes_issue (p : ProcId) (len cycles : Nat) (body : State → Proc → LRes (State × Proc)) (s : State) :
    Completes (issue p len cycles body s) :=
  completes_atBoundary p len s fun q => by cases body s q <;> exact completes_next _

theorem completes_issueReg (p : ProcId) (len cycles : Nat) (body : Proc → LRes Proc) (s : State) :
    Completes (issueReg p len cycles body s) :=
  completes_issue p len cycles _ s

theorem completes_issueRead (p : ProcId) (len cycles : Nat) (body : State → Proc → LRes (State × Proc)) (s : State) :
    Completes (issueRead p len cycles body s) :=
  completes_issue p len cycles body _

theorem completes_issueLoad (p : ProcId) (f : MFmt) (n : Nat) (ready : Proc → LRes Unit)
    (put_ : Proc → Bytes → Bool → Proc) (s : State) : Completes (issueLoad p f n ready put_ s) :=
  completes_issueRead p _ _ _ s

theorem completes_issueStore (p : ProcId) (f : MFmt) (n : Nat) (data : Proc → LRes (Bytes × Bool)) (s : State) :
    Completes (issueStore p f n data s) := by
  unfold issueStore
  exact completes_issue ..

theorem completes_loadD (p : ProcId) (f : MFmt) (n : Nat) (s : State) : Completes (loadD p f n s) :=
  completes_issueLoad p f n _ _ s

theorem completes_storeD (p : ProcId) (f : MFmt) (n : Nat) (s : State) : Completes (storeD p f n s) :=
  completes_issueStore p f n _ s

theorem completes_issueJump (p : ProcId) (body : Proc → LRes (Proc × Nat × Option (BitVec 32))) (s : State) :
    Completes (issueJump p body s) :=
  completes_atBoundary p 4 s fun q => by cases body q <;> exact completes_next _

theorem completes_issueWait (p : ProcId) (len : Nat) (body : Proc → LRes (LopeWait ⊕ (Proc → Proc))) (s : State) :
    Completes (issueWait p len body s) :=
  completes_atBoundary p len s fun q => by rcases body q with (_ | _) | _ | _ <;> exact completes_next _

theorem completes_issueJob (p : ProcId) (cycles : Nat) (body : State → Proc → LRes (State × Proc × Req)) (s : State) :
    Completes (issueJob p cycles body s) :=
  completes_atBoundary p 4 s fun q => by cases body s q <;> exact completes_next _

theorem completes_execPswap (p : ProcId) (f : RFmt) (s : State) : Completes (execPswap p f s) := by
  dsimp only [execPswap]
  refine completes_atBoundary p 4 s fun q => ?_
  repeat' split
  all_goals exact completes_next _

theorem completes_execGfence (p : ProcId) (f : RFmt) (s : State) : Completes (execGfence p f s) := by
  dsimp only [execGfence]
  exact completes_issue p 4 1 _ s

theorem completes_execCall (p : ProcId) (f : RFmt) (s : State) : Completes (execCall p f s) := by
  dsimp only [execCall]
  refine completes_atBoundary p 4 s fun q => ?_
  split <;> exact completes_next _

/-! Every command. -/

/-- Every command completes, whatever the state. A command is written over one of the forms above, or branches on the state by
itself and answers a next state in each branch, or is one update of the state. That a command whose condition does not hold
answers the state unchanged is the model's choice (log entry 5). -/
theorem completes_exec (c : Instr) (s : State) : Completes (exec c s) := by
  cases c with
  | mov | add | sub | and | or | xor | not | neg | shl | shr | sar | shli | shri | sari | mul | mulhu | divu | cmp | cmpeqm
  | cmpltm | sel | bswap | popc | sett | clt | addi | andi | ori | xori | movi | cmpi | mova | movad | movda | adda | suba
  | cmpa | addai | movai | xmov | xand | xOr | xxor | xaddb | xsubb | xcmpeqb | xcmpltb | xsel | xins | xext | xshlb | xshrb
  | xzero | xbcast | xrev | xmaskl | rep | repu | time | mfc | mtc | nop => dsimp only [exec]; exact completes_issueReg ..
  | b | bl | jr | bz | bnz | rfe => dsimp only [exec]; exact completes_issueJump ..
  | wfe | wtu | jwait | halt | fence => dsimp only [exec]; exact completes_issueWait ..
  | job | jobx => dsimp only [exec]; exact completes_issueJob ..
  | sev | sevAll => dsimp only [exec]; exact completes_issue ..
  | mfld | mfst => dsimp only [exec]; exact completes_issueRead ..
  | ldB | ldH | ldW | ldD => dsimp only [exec]; exact completes_loadD ..
  | lda | ldx => dsimp only [exec]; exact completes_issueLoad ..
  | stB | stH | stW | stD => dsimp only [exec]; exact completes_storeD ..
  | sta | stx => dsimp only [exec]; exact completes_issueStore ..
  | pswap => dsimp only [exec]; exact completes_execPswap ..
  | gfence => dsimp only [exec]; exact completes_execGfence ..
  | call => dsimp only [exec]; exact completes_execCall ..
  | loadDone | jobSlotComplete | bnStore | engineRestart | messageDeliver | parseEnd | emitEnd | messageRelease | auditEvent
  | auditMergeWindowClose | stormRecordClose | stormTimeout | auditPageDurable | detectorSelfCheck | vbatThreshold | token
  | tokenClose | dbgResp | watchdogExpire | clusterRebootDone | standbyEntryDone | overtempPowerOff | powerOnReset
  | warmReset =>
    dsimp only [exec, execLoadDone, execJobSlotComplete, execBnStore, execEngineRestart, execMessageDeliver,
      execParseEnd, execEmitEnd, execMessageRelease, execAuditEvent, execAuditMergeWindowClose, execStormRecordClose,
      execStormTimeout, execAuditPageDurable, execDetectorSelfCheck, execVbatThreshold, execToken, execTokenClose,
      execDbgResp, execWatchdogExpire, execClusterRebootDone, execStandbyEntryDone, execOvertempPowerOff,
      execPowerOnReset, execWarmReset]
    repeat' split
    all_goals exact completes_next _
  | _ => exact completes_next _

/-- Settles O56: each command by the form its meaning is written in. -/
theorem everyCommandCompletes : Obligations.EveryCommandCompletes := completes_exec

end Sys2Proof.Machine
end

section
/-! PROOF. The services of the custodian: a request that was served and whose checks pass leaves what its service's run leaves. -/

namespace Sys2Proof.Machine

open Sys2Proof

theorem has_eq_false {l : List Nat} {n : Nat} (h : n ∉ l) : has l n = false := by
  simpa [has] using fun x hx => (ne_of_mem_of_not_mem hx h : x ≠ n)

theorem answerAt_some (n : Nat) (v : Via) (st : Status) (resp : Bytes) (d : Dev) :
    answerAt (some n) v st resp d = waitFor n (.answer v st resp) d := rfl

theorem roleOf_of_served {h : SvcHdr} {a : SvcAction} {s : State} {d : Dev} {role : Role} (hs : Served h a s d role) :
    roleOf d h.via h.officer = .ok role := by
  obtain ⟨-, -, -, -, hrole, -, -⟩ := hs
  exact hrole

/-- A session's action runs as nobody (R398), so a request served for any other role is one of its own, and has the rights of that
role. -/
theorem rightMet_of_single {h : SvcHdr} {a : SvcAction} {s : State} {d : Dev} {role : Role} {r : Rights}
    (hs : Served h a s d role) (hrole : role ≠ .nobody) (hr : r.single role = true) : rightMet d h.via role r = true := by
  have hof := roleOf_of_served hs
  unfold rightMet
  split
  · next hv =>
    rw [hv] at hof
    exact absurd (Except.ok.inj hof).symm hrole
  · exact hr

/-- Settles O37: the hypotheses of each service are its checks, so `serve_ok` gives what its run leaves. -/
theorem custodianServices : Obligations.CustodianServices := by
  unfold Obligations.CustodianServices
  intro s h domain index sub tcode obj brought given d role
  refine ⟨?serviceInfo, ?domainCreate, ?domainDelete, ?fwStage, ?deviceReset, ?dictWrite⟩
  case serviceInfo =>
    intro hs hr
    rw [exec_serviceInfo, execServiceInfo, onDev, serve_ok hs rfl rfl hr rfl, dropStaged_none rfl]
  case domainCreate =>
    intro hs hr hdom hnew hmig hkey hlock hshut hroom
    rw [exec_domainCreate, execDomainCreate, onDev, serve_ok hs (by simp [hdom]) rfl hr
      (by simp [has_eq_false hnew, hmig, hkey, hlock, hshut, hroom]), dropStaged_none rfl]
  case domainDelete =>
    intro hs hr hdom hhas hmig hshut hroom
    rw [exec_domainDelete, execDomainDelete, onDev,
      serve_ok hs (by simp [hdom]) (by simp [hhas]) hr (by simp [hmig, hshut, hroom]), dropStaged_none rfl]
    extract_lets cut x e cust gone actor retired cut'
    -- The run takes the destruction's journal record and device apart; the statement projects them.
    split
    next seq destroyed hx =>
      replace hx : x = (seq, destroyed) := hx
      rw [hx, answerAt_some]
      simp only [e, gone, cust, hx, actor, onCust]
  case fwStage =>
    intro hs hrole hobj hmagic hsvn hsvn' hlen hnew hfloor
    have hr : rightMet d h.via role { single := fun r => r == .operator || r == .deviceOfficer } = true := by
      rcases hrole with rfl | rfl <;> exact rightMet_of_single hs (by decide) rfl
    rw [exec_fwStage, execFwStage, onDev, serve_ok hs
      (by simpa [servedHobbled, hobj, hmagic, hsvn, hsvn'] using hlen) rfl hr (by simp [hnew, hfloor])]
    cases fwSigned (firmwareNamed h.via obj brought s.dev) <;> rfl
  case deviceReset =>
    intro hs hr
    rw [exec_deviceReset, execDeviceReset, serve_ok hs rfl rfl hr rfl, dropStaged_none rfl]
    rfl
  case dictWrite =>
    intro value w a hs hobj hr r e hrow htarget hentry
    have hrole := roleOf_of_served hs
    rw [exec_dictWrite, execDictWrite]
    dsimp only
    rw [serveWith_ok hs (by simp [a, value, servedHobbled, hobj, htarget]) rfl hr
      (by simp [hrow, hrole, hentry, w, value]), hrow]

end Sys2Proof.Machine
end

section
/-! PROOF. The master counter at a reset, and what the recorder's last time bounds (R36, R487). -/

namespace Sys2Proof.Machine

open Sys2Proof

/-- No record of the running area has a time later than the last time recorded. -/
def TimesBounded (d : Dev) : Prop :=
  ∀ e ∈ d.audit.running, e.2.time ≤ d.audit.lastTime ∧ e.2.last ≤ d.audit.lastTime

/-- A copy for the foundation area leaves the running area and the last time recorded. -/
theorem addFoundation_keeps (r : AuditRec) (d : Dev) :
    (addFoundation r d).audit.running = d.audit.running ∧ (addFoundation r d).audit.lastTime = d.audit.lastTime ∧
    (addFoundation r d).audit.anyDurable = d.audit.anyDurable := by
  unfold addFoundation
  split
  · exact ⟨rfl, rfl, rfl⟩
  · dsimp only
    split <;> exact ⟨rfl, rfl, rfl⟩

theorem makeDurable_none {d : Dev} {seq : Nat} (h : look d.audit.staging (seq % 65536) = none) : makeDurable seq d = d := by
  simp [makeDurable, h]

/-- A staged record made durable joins the running area, and the last time recorded is at least its own. -/
theorem makeDurable_some {d : Dev} {seq : Nat} {r : AuditRec} (h : look d.audit.staging (seq % 65536) = some r) :
    (makeDurable seq d).audit.running = ins d.audit.running (seq % 1048576) r ∧
    (makeDurable seq d).audit.lastTime = max d.audit.lastTime (max r.time r.last) ∧
    (makeDurable seq d).audit.anyDurable = true := by
  simp only [makeDurable, h]
  exact addFoundation_keeps r _

theorem timesBounded_reset : TimesBounded State.reset.dev := by
  intro e he
  cases he

theorem timesBounded_makeDurable {d : Dev} (seq : Nat) (hd : TimesBounded d) : TimesBounded (makeDurable seq d) := by
  cases h : look d.audit.staging (seq % 65536) with
  | none => rwa [makeDurable_none h]
  | some r =>
    obtain ⟨hrun, hlast, -⟩ := makeDurable_some h
    intro e he
    rw [hrun] at he
    rw [hlast]
    rcases mem_ins _ _ _ he with rfl | he
    · exact ⟨Nat.le_trans (Nat.le_max_left ..) (Nat.le_max_right ..), Nat.le_trans (Nat.le_max_right ..) (Nat.le_max_right ..)⟩
    · obtain ⟨htime, hlater⟩ := hd e he
      exact ⟨Nat.le_trans htime (Nat.le_max_left ..), Nat.le_trans hlater (Nat.le_max_left ..)⟩

theorem clearAll_now (cause : Nat) (s : State) :
    (clearAll cause s).dev.tb.now =
      max s.dev.tb.rtc (if s.dev.audit.anyDurable then s.dev.audit.lastTime + 1000 else 0) % 2 ^ 64 := rfl

/-- Settles O53: `clearAll_now` with and without a durable record; the bound holds at reset and `makeDurable` keeps it. -/
theorem timeBaseAtReset : Obligations.TimeBaseAtReset := by
  unfold Obligations.TimeBaseAtReset
  refine ⟨?reset, timesBounded_reset, fun d seq => timesBounded_makeDurable seq, ?durable⟩
  case reset =>
    intro s cause a now
    refine ⟨rfl, rfl, ?empty, ?recorded, ?warm⟩
    case empty =>
      intro hany
      simp [now, a, clearAll_now, hany]
    case recorded =>
      intro hany hrtc hlast
      have hnow : now = max s.dev.tb.rtc (a.lastTime + 1000) := by
        simp only [now, clearAll_now, a, hany, if_true]
        exact Nat.mod_eq_of_lt (Nat.max_lt.mpr ⟨hrtc, hlast⟩)
      refine ⟨hnow, fun hb e he => ?_⟩
      obtain ⟨htime, hlater⟩ : e.2.time ≤ a.lastTime ∧ e.2.last ≤ a.lastTime := hb e he
      have : a.lastTime + 1000 ≤ now := hnow ▸ Nat.le_max_right ..
      exact ⟨by omega, by omega⟩
    case warm =>
      intro hoff hmain
      simp [execWarmReset, hoff, hmain, fullReset]
  case durable =>
    intro d seq r h
    obtain ⟨-, hlast, hany⟩ := makeDurable_some h
    exact ⟨hany, hlast⟩

end Sys2Proof.Machine
end

section
/-! PROOF. A step on an empty queue (log entry 2). -/

namespace Sys2Proof.Machine

open Sys2Proof

theorem step_empty {s : State} (h : s.pending = []) : step s = .next (idle s) := by
  simp [step, h]

theorem sliceEngines_nil {s : State} (h : ∀ e ∈ s.dev.procs, e.2.slice = none ∨ isPriv e.2 = true) :
    sliceEngines s = [] := by
  have : s.dev.procs.filter (fun e => e.2.slice.isSome && !isPriv e.2) = [] := by
    rw [List.filter_eq_nil_iff]
    intro e he
    rcases h e he with hs | hp
    · simp [hs]
    · simp [hp]
  simp [sliceEngines, this]

/-- Without an engine that runs a slice, no instruction runs. -/
theorem runSlices_of_no_slice {s : State} (h : ∀ e ∈ s.dev.procs, e.2.slice = none ∨ isPriv e.2 = true) :
    runSlices s = s := by
  simp [runSlices, sliceEngines_nil h]

/-- Settles O55: the three branches of an idle step. -/
theorem emptyQueueIdles : Obligations.EmptyQueueIdles := by
  unfold Obligations.EmptyQueueIdles
  intro s hempty
  rw [step_empty hempty]
  refine ⟨?booting, ?off, ?running⟩
  case booting =>
    intro hboot hoff
    simp [idle, hboot, hoff]
  case off =>
    intro hoff
    simp [idle, tickDev, hoff]
  case running =>
    intro hboot hoff ticked
    have hidle : idle s = runSlices ticked := by simp [idle, tickDev, hboot, hoff, ticked]
    rw [hidle]
    exact ⟨rfl, fun h => by rw [runSlices_of_no_slice h]⟩

end Sys2Proof.Machine
end

section
/-! PROOF. The state after reset. -/

namespace Sys2Proof.Machine

open Sys2Proof

theorem procOf_reset (p : Nat) : procOf State.reset.dev p = procReset p := rfl

/-- A processor resets privileged with interrupts off; in the custodian world where it is a custodian core (R194, R198). -/
theorem procReset_modes (p : Nat) :
    isPriv (procReset p) = true ∧ intOn (procReset p) = false ∧ (inWorld (procReset p) = true ↔ 512 ≤ p) := by
  unfold procReset
  split
  · next h => exact ⟨by decide, by decide, by simp [show inWorld {} = false by decide]; omega⟩
  · next h => exact ⟨by decide, by decide, by simp [show inWorld { sr := 0xC0000000#32 } = true by decide]; omega⟩

/-- Settles O60: each unit as `State.reset` writes it out. -/
theorem stateAfterReset : Obligations.StateAfterReset := by
  unfold Obligations.StateAfterReset
  intro d
  have hproc : ∀ p : Fin 516, isPriv (procOf d p.val) = true ∧ intOn (procOf d p.val) = false ∧
      (inWorld (procOf d p.val) = true ↔ 512 ≤ p.val) := fun p => procReset_modes p.val
  have hports : ∀ p : Fin 64, (portOf d p.val).state = 1 := fun _ => rfl
  have hlinks : ∀ k : Fin 4, (lookD {} d.host.links k.val).state ≠ 2 := by decide
  have hlc : lcState d = 3 := by decide
  exact ⟨reset_memInv, fun _ => rfl, rfl, rfl, rfl, rfl, rfl, rfl, rfl, rfl, rfl, hlc, rfl, rfl, rfl, hproc, hports, hlinks,
    rfl, rfl⟩

end Sys2Proof.Machine
end

section
/-! PROOF. Jobs of the big-number engines: one lemma for each thing that a command of theirs can do. -/

namespace Sys2Proof.Machine

open Sys2Proof

/-! Dispatch. -/

theorem engineIdle_iff {d : Dev} {n : Nat} :
    engineIdle d n = true ↔ (engineOf d n).state = .serving ∧ (engineOf d n).job = none := by
  simp [engineIdle]

/-- The dispatcher's choice is an engine in service without a job. -/
theorem engineIdle_of_chooseEngine {d : Dev} {o : Op} {n : Nat} (h : chooseEngine d o = some n) : engineIdle d n = true := by
  have idle {l : List Nat} (hl : l = (List.range 48).filter (engineIdle d)) (hn : n ∈ l) : engineIdle d n = true := by
    subst hl
    exact (List.mem_filter.mp hn).2
  dsimp only [chooseEngine] at h
  split at h
  · split at h
    · next m hm =>
      obtain rfl := Option.some.inj h
      exact idle rfl (List.mem_of_find?_eq_some hm)
    · exact idle rfl (List.mem_of_head? h)
  · exact idle rfl (List.mem_of_head? h)

theorem bnDispatch_none {s : State} (h : pickJob 50 s.dev.bn.turn (engineFor s.dev) s.dev.bn.queues = none) :
    exec .bnDispatch s = .next s := by
  simp [execBnDispatch, onDev, h]

/-! A job that ends, or reaches its limit. -/

/-- The services of the engines (R100): 3 the public-key functions, 4 programs. -/
theorem isBnService_publicKey : isBnService 3 = true := rfl

theorem isBnService_program : isBnService 4 = true := rfl

/-- The n-th key that a public-key job runs with: its record, with the material of the engine's key slot. -/
def jobKey (d : Dev) (o : Op) (n : Nat) : Option KeyRec :=
  if pkInline o.req.job then none
  else ((opKeys d o).drop n).head?.map (fun k => { k with material := (slotMaterial d o n).getD [] })

theorem bnJobDone_no_op {s : State} {tag : BitVec 16} (h : opOf s.dev tag.toNat = none) (read : ReadResult) (out : Fin 4) :
    exec (.bnJobDone tag read out) s = .next s := by
  simp [execBnJobDone, onDev, h]

theorem bnJobTimeout_no_op {s : State} {tag : BitVec 16} (h : opOf s.dev tag.toNat = none) :
    exec (.bnJobTimeout tag) s = .next s := by
  simp [execBnJobTimeout, onDev, h]

section
variable {s : State} {tag : BitVec 16} {o : Op} (hop : opOf s.dev tag.toNat = some o)
include hop

/-- What does not run on an engine does not end on one. -/
theorem bnJobDone_not_running (h : o.phase ≠ .running ∨ o.unit = none ∨ isBnService o.req.job.service = false)
    (read : ReadResult) (out : Fin 4) : exec (.bnJobDone tag read out) s = becomes s s.dev := by
  simp only [exec_bnJobDone, execBnJobDone, onDev, hop]
  split
  · next n hphase hunit => simp [show isBnService o.req.job.service = false by simpa [hphase, hunit] using h]
  · rfl

/-- Nor does it time out there. -/
theorem bnJobTimeout_not_running (h : o.phase ≠ .running ∨ o.unit = none ∨ isBnService o.req.job.service = false) :
    exec (.bnJobTimeout tag) s = becomes s s.dev := by
  simp only [exec_bnJobTimeout, execBnJobTimeout, onDev, hop]
  split
  · next n hphase hunit => simp [show isBnService o.req.job.service = false by simpa [hphase, hunit] using h]
  · rfl

variable {n : Nat} (hphase : o.phase = .running) (hunit : o.unit = some n)
include hphase hunit

theorem bnJobTimeout_running (hbn : isBnService o.req.job.service = true) :
    exec (.bnJobTimeout tag) s = becomes s (bnTimeout tag.toNat n (reach (o.started + bnLimit o.req.job) s.dev)) := by
  simp [execBnJobTimeout, onDev, hop, hphase, hunit, hbn]

variable (read : ReadResult) (out : Fin 4)

theorem bnJobDone_unloaded (hload : slotsLoaded s.dev o = false) :
    exec (.bnJobDone tag read out) s = becomes s s.dev := by
  simp [execBnJobDone, onDev, hop, hphase, hunit, hload]

variable (hload : slotsLoaded s.dev o = true)
include hload

theorem bnJobDone_fails (hbn : isBnService o.req.job.service = true) (hfail : bnFails s.dev n o out = true) :
    exec (.bnJobDone tag read out) s = becomes s (bnFault tag.toNat n (faultTyp s.dev o) (faultIdx o) o s.dev) := by
  simp [execBnJobDone, onDev, hop, hphase, hunit, hbn, hload, hfail]

variable (hfail : bnFails s.dev n o out = false)
include hfail

/-- A job of service 4 ends as its program has ended. -/
theorem bnJobDone_program (hsvc : o.req.job.service = 4) {p : BnProg} (hprog : (engineOf s.dev n).prog = some p) :
    exec (.bnJobDone tag read out) s = becomes s (
      if p.failed then endBn tag.toNat n { tag := none, status := .authFail } s.dev
      else if p.ended then endBn tag.toNat n { tag := none, status := .ok, outlen := p.top } s.dev else s.dev) := by
  simp [execBnJobDone, onDev, hop, hphase, hunit, hload, hfail, hsvc, hprog, isBnService_program]

variable (hsvc : o.req.job.service = 3)
include hsvc

theorem bnJobDone_not_found (h : out.val = 2 ∧ o.req.job.func = 0x01 ∧ isMldsa (faultTyp s.dev o) = true) :
    exec (.bnJobDone tag read out) s = becomes s (bnTimeout tag.toNat n s.dev) := by
  simp only [exec_bnJobDone, execBnJobDone, onDev, hop, hphase, hunit, hload, hfail, hsvc, isBnService_publicKey,
    if_pos h]
  rfl

variable (hfound : ¬(out.val = 2 ∧ o.req.job.func = 0x01 ∧ isMldsa (faultTyp s.dev o) = true))
include hfound

theorem bnJobDone_no_input (hin : jobInput o read.get? s.dev = none) :
    exec (.bnJobDone tag read out) s = becomes s (endBn tag.toNat n { tag := none, status := .faultDetected }
      (poisonInput (srcBn n) o s.dev)) := by
  simp only [exec_bnJobDone, execBnJobDone, onDev, hop, hphase, hunit, hload, hfail, hsvc, isBnService_publicKey,
    if_neg hfound, hin]
  rfl

/-- A public-key job with its input goes on to its draws, or to its end where its function draws nothing. -/
theorem bnJobDone_input {b : Bytes} (hin : jobInput o read.get? s.dev = some b) :
    exec (.bnJobDone tag read out) s = becomes s (
      if pkNeedsRandom o.req.job.func (!expandsPrivate s.dev n o) then
        bnDraws tag.toNat n o (jobKey s.dev o 0) (jobKey s.dev o 1) (padTo o.req.job.inLen b) s.dev
      else bnEnd tag.toNat n o (jobKey s.dev o 0) (jobKey s.dev o 1) (padTo o.req.job.inLen b) [] [] s.dev) := by
  simp only [exec_bnJobDone, execBnJobDone, onDev, hop, hphase, hunit, hload, hfail, hsvc, isBnService_publicKey,
    if_neg hfound, hin]
  rfl

end

/-- Which jobs of the engines meet a failed comparison or an uncorrectable error (R163, R177, R184). -/
theorem bnFails_iff {d : Dev} {n : Nat} {o : Op} {out : Fin 4} :
    bnFails d n o out = true ↔ out = 3 ∨
      out = 1 ∧ o.req.job.service = 3 ∧ (pkChecked o.req.job.func = true ∨ expandsPrivate d n o = true) := by
  have three : out.val = 3 ↔ out = 3 := (Fin.ext_iff (b := 3)).symm
  have one : out.val = 1 ↔ out = 1 := (Fin.ext_iff (b := 1)).symm
  simp only [bnFails, Bool.or_eq_true, Bool.and_eq_true, beq_iff_eq, three, one, and_assoc]

/-- A draw that comes at once, of a function that makes no key pair and hoists no secret, ends the job with it. -/
theorem bnDraws_drawn {t n : Nat} {o : Op} {k1 k2 : Option KeyRec} {b r : Bytes} {d d1 : Dev}
    (hdraw : draw (64 + n) (pkDraw o.req.job.func) d = some (r, d1)) (hfn : o.req.job.func ≠ 0x30)
    (hsecret : transportSecret o.req.job k1 k2 b r = none) :
    bnDraws t n o k1 k2 b d = bnEnd t n o k1 k2 b r [] d1 := by
  simp [bnDraws, hdraw, hfn, hsecret]

/-! The self-test. -/

/-- The engines stand while time and the rotation move on. (Stated for any moment: of a concrete one the kernel would compute the
time base.) -/
theorem engineOf_reach (t n : Nat) (d : Dev) : engineOf (reach t d) n = engineOf d n := rfl

theorem engineOf_rotation (r t n : Nat) (d : Dev) :
    engineOf { d with bn := { d.bn with rotation := r, testAt := t } } n = engineOf d n := rfl

theorem drainEngine_not_serving {n : Nat} {d : Dev} (h : (engineOf d n).state ≠ .serving) : drainEngine n d = d := by
  simp [drainEngine, h]

theorem drainEngine_idle {n : Nat} {d : Dev} (h : (engineOf d n).state = .serving) (hjob : (engineOf d n).job = none) :
    drainEngine n d = testEngine n d := by
  simp [drainEngine, h, hjob]

theorem drainEngine_busy {n : Nat} {d : Dev} (h : (engineOf d n).state = .serving) (hjob : (engineOf d n).job ≠ none) :
    drainEngine n d = onEngine n (fun e => { e with state := .draining }) d := by
  simp [drainEngine, h, hjob]

theorem bnSelftestDone_not_testing {s : State} {n : Fin 48} (h : (engineOf s.dev n.val).state ≠ .testing) (test : Fin 8)
    (pass : Bool) : exec (.bnSelftestDone n test pass) s = .next s := by
  simp [execBnSelftestDone, onDev, h]

/-- A test that passed brings an engine back into service, unless it is doomed; any other end of a test retires it. -/
theorem bnSelftestDone_testing {s : State} {n : Fin 48} (h : (engineOf s.dev n.val).state = .testing) (test : Fin 8)
    (pass : Bool) :
    exec (.bnSelftestDone n test pass) s = becomes s (bnExitTested n.val (
      if pass && !(engineOf s.dev n.val).doomed then
        onEngine n.val (fun e => { e with state := .serving }) (bump (dk 0x8120 (if pass then 4 else 5)) s.dev)
      else retireEngine n.val test.val (bump (dk 0x8120 (if pass then 4 else 5)) s.dev))) := by
  simp [execBnSelftestDone, onDev, h]

/-- Settles O23: every clause is one of the lemmas above. -/
theorem bigNumberJobs : Obligations.BigNumberJobs := by
  unfold Obligations.BigNumberJobs
  refine ⟨?dispatch, fun s => bnDispatch_none, ?noOp, ?job, ?selftest⟩
  case dispatch =>
    intro s cls turn n j qs o hpick hop hn
    obtain ⟨hserving, hjob⟩ := engineIdle_iff.mp (engineIdle_of_chooseEngine hn)
    refine ⟨hserving, hjob, ?_⟩
    simp only [exec_bnDispatch, execBnDispatch, onDev, hpick, hop, hn]
    rfl
  case noOp =>
    exact fun s tag read hop out => ⟨bnJobDone_no_op hop read out, bnJobTimeout_no_op hop⟩
  case job =>
    intro s tag o read out hop t ends
    refine ⟨fun h => ⟨bnJobDone_not_running hop h read out, bnJobTimeout_not_running hop h⟩, ?_⟩
    intro hphase n hunit hbn
    refine ⟨bnJobTimeout_running hop hphase hunit hbn, bnJobDone_unloaded hop hphase hunit read out, ?_⟩
    intro hload
    refine ⟨?fails, ?program, ?notFound, ?publicKey⟩
    case fails =>
      exact fun h => bnJobDone_fails hop hphase hunit read out hload hbn (bnFails_iff.mpr h)
    case program =>
      intro hsvc hout p hprog
      have hfail : bnFails s.dev n o out = false := by
        rw [Bool.eq_false_iff, ne_eq, bnFails_iff]
        rintro (h | ⟨-, h, -⟩)
        · exact hout h
        · omega
      have hend := bnJobDone_program hop hphase hunit read out hload hfail hsvc hprog
      refine ⟨fun hf => ?_, fun hf he => ?_, fun hf he => ?_⟩
      · rwa [if_pos hf] at hend
      · rwa [if_neg (Bool.eq_false_iff.mp hf), if_pos he] at hend
      · rwa [if_neg (Bool.eq_false_iff.mp hf), if_neg (Bool.eq_false_iff.mp he)] at hend
    case notFound =>
      rintro hsvc rfl hfn htyp
      exact bnJobDone_not_found hop hphase hunit read 2 hload (by simp [bnFails]) hsvc ⟨rfl, hfn, htyp⟩
    case publicKey =>
      intro hsvc hfail hfound
      have hfound : ¬(out.val = 2 ∧ o.req.job.func = 0x01 ∧ isMldsa (faultTyp s.dev o) = true) := fun h =>
        hfound ⟨Fin.ext h.1, h.2⟩
      refine ⟨bnJobDone_no_input hop hphase hunit read out hload hfail hsvc hfound, ?_⟩
      intro b hin j b' keys k1 k2
      have hend := bnJobDone_input hop hphase hunit read out hload hfail hsvc hfound hin
      refine ⟨fun hno => ?_, fun hdraws => ⟨?_, fun r d => bnDraws_drawn⟩⟩
      · rwa [if_neg (Bool.eq_false_iff.mp hno)] at hend
      · rwa [if_pos hdraws] at hend
  case selftest =>
    intro s n test r moved
    have hstart : exec .bnSelftestStart s = becomes s (drainEngine r moved) := rfl
    have hengine : engineOf moved r = engineOf s.dev r := (engineOf_rotation ..).trans (engineOf_reach ..)
    rw [hstart, ← hengine]
    refine ⟨?retired, ?serving, ?stale, ?ended⟩
    case retired =>
      intro h
      rw [drainEngine_not_serving h]
    case serving =>
      intro h
      exact ⟨fun hjob => by rw [drainEngine_idle h hjob], fun hjob => by rw [drainEngine_busy h hjob]⟩
    case stale =>
      exact fun h => bnSelftestDone_not_testing h test
    case ended =>
      intro h passed
      have hdone := bnSelftestDone_testing h test
      refine ⟨?_, ?_, ?_⟩
      · intro hdoomed
        simpa [hdoomed] using hdone true
      · intro hdoomed
        simpa [hdoomed] using hdone true
      · exact hdone false

end Sys2Proof.Machine
end

section
/-! PROOF. The cipher pool's checks on a table of cores that lists a core twice. -/

namespace Sys2Proof.Machine

open Sys2Proof

theorem becomes_inj {s : State} {d e : Dev} (h : becomes s d = becomes s e) : d = e :=
  congrArg (fun o => (nextState s o).dev) h

/-- A change of a core that leaves the core as it stands leaves every core so, where the table's numbers rise. -/
theorem coreOf_onCore_of_fixed {d : Dev} {n : Nat} {f : CipherCore → CipherCore} (hr : rising d.pool.cores = true)
    (hf : f (coreOf d n) = coreOf d n) (k : Nat) : coreOf (onCore n f d) k = coreOf d k := by
  by_cases hk : k = n
  · subst hk
    exact (lookD_put_self _ _ _ hr).trans hf
  · exact lookD_put_ne _ _ _ _ hk

/-- What O22 says of CORE_DRAINED on a core that is not ready for its test holds where the table of cores is canonical (R121). -/
theorem coreDrained_keeps_cores {s : State} {n : Fin 64} (hr : rising s.dev.pool.cores = true)
    (h : (coreOf s.dev n.val).state ≠ .draining ∨ (coreOf s.dev n.val).jobs ≠ [] ∨ (coreOf s.dev n.val).unitWait ≠ []) :
    ∃ d, exec (.coreDrained n) s = becomes s d ∧ ∀ k, coreOf d k = coreOf s.dev k := by
  refine ⟨_, rfl, coreOf_onCore_of_fixed hr (if_neg ?_)⟩
  simp only [coreEmpty, Bool.and_eq_true, beq_iff_eq, List.isEmpty_iff]
  rintro ⟨hstate, hjobs, hwait⟩
  rcases h with h | h | h
  · exact h hstate
  · exact h hjobs
  · exact h hwait

/-- Core 0 listed as at reset and, behind that entry, in test: a table that is not canonical, since `State` is plain data. -/
def coreListedTwice : State := { dev := { pool := { cores := [(0, {}), (0, { state := .testing })] } } }

/-- CORE_DRAINED writes core 0 back as it reads it, as at reset; that takes the first entry away, and the second shows. -/
theorem coreDrained_coreListedTwice : exec (.coreDrained 0) coreListedTwice =
    becomes coreListedTwice { pool := { cores := [(0, { state := .testing })] } } := rfl

/-- Refutes O22: its clause that CORE_DRAINED leaves every core as it was, where the core named is not ready for its test, has no
hypothesis that the table of cores is canonical. On `coreListedTwice` core 0 reads as serving before and as testing after.
`coreDrained_keeps_cores` is the clause with that hypothesis. -/
theorem not_cipherPool : ¬ Obligations.CipherPool := by
  unfold Obligations.CipherPool
  rintro ⟨-, hchecks⟩
  obtain ⟨-, -, hkeeps, -⟩ := hchecks coreListedTwice 0 0 0 0
  obtain ⟨d, hd, hcores⟩ := hkeeps (.inl (by decide))
  obtain rfl := becomes_inj (hd.symm.trans coreDrained_coreListedTwice)
  exact absurd (hcores 0) (by decide)

end Sys2Proof.Machine
end

section
/-! PROOF. Issuing JOB and JOBX: where the tag comes from, what stops the instruction, and what goes to admission. -/

namespace Sys2Proof.Machine

open Sys2Proof

/-! Issue. -/

/-- The request names the tag that its instruction found: a child its parent and the tag drawn, a custodian job neither. -/
def NamesTag (jt : JobTag) (r : Req) : Prop :=
  match jt with
  | .child t c => r.parent = some t ∧ r.childTag = some c
  | _ => r.parent = none ∧ r.childTag = none

/-- The tag found leaves its message's reservation (R25). -/
def drawFor (jt : JobTag) (d : Dev) : Dev :=
  match jt with
  | .child t c => drawTag t c d
  | _ => d

section
variable {s s' : State} {p : ProcId} {cycles c a : Nat} {body : State → Proc → LRes (State × Proc × Req)} {q : Proc} {r : Req}
  {jt : JobTag}

/-- A job instruction whose own effect faults takes the fault. -/
theorem issueJob_flt (h : Issues s p) (hb : body s (procOf s.dev p.val) = .flt c a) :
    issueJob p cycles body s = becomes s (takeFault p.val c a s.dev) := by
  unfold issueJob
  rw [atBoundary_run h]
  simp [hb]

/-- One whose own effect completes retires, draws its tag and hands its request to admission. -/
theorem issueJob_ok (h : Issues s p) (hb : body s (procOf s.dev p.val) = .ok (s', q, r)) (hr : NamesTag jt r) :
    issueJob p cycles body s =
      .next { s' with dev := tryAdmit r (drawFor jt (setProc p.val (stepPc 4 (countInstr cycles q)) s'.dev)) } := by
  unfold issueJob
  rw [atBoundary_run h]
  cases jt <;> obtain ⟨hp, hc⟩ := hr <;> simp [hb, hp, hc, drawFor]

end

/-! Where the tag comes from. -/

theorem jobTag_custodian {d : Dev} {p : Nat} {q : Proc} (h : 512 ≤ p ∨ q.custodianWork = true) : jobTag d p q = .reserve :=
  if_pos h

theorem jobTag_message {d : Dev} {p t i : Nat} {q : Proc} {o : Op} (hp : p < 512) (hq : q.custodianWork = false)
    (hslice : q.slice = some (t, i)) (ho : look d.op.ops t = some o) :
    (∀ c l, o.resv = c :: l → jobTag d p q = .child t c) ∧ (o.resv = [] → jobTag d p q = .over) := by
  have hown : ¬(512 ≤ p ∨ q.custodianWork = true) := not_or.mpr ⟨Nat.not_le.mpr hp, by simp [hq]⟩
  constructor
  · intro c l hresv
    simp [jobTag, hown, hslice, ho, hresv]
  · intro hresv
    simp [jobTag, hown, hslice, ho, hresv]

/-! JOB. -/

section
variable {s : State} {p : ProcId} {f : JFmt} {a phys : Nat}

/-- JOB's word is well formed and names a template at `a`, which is read, granted and sound, at `phys` (R220, R238). -/
structure ReadsTemplate (s : State) (p : ProcId) (f : JFmt) (a phys : Nat) : Prop where
  noExt : f.e = false
  resv : f.resv = 0#3
  addr : (procOf s.dev p.val).a[abReg f.at_].toNat = a
  aligned : a % 64 = 0
  placed : templateAt p.val a = true
  granted : ∃ hbm secret, checkAccess s.dev p.val (procOf s.dev p.val) a 64 true false = .granted phys hbm secret
  sound : memBad s.dev phys 64 = false

/-- The template read is the job's 64 bytes; no denial is recorded for it. -/
theorem ReadsTemplate.template (hr : ReadsTemplate s p f a phys) :
    ∃ t, readTemplate s p.val (procOf s.dev p.val) a = .ok t ∧ t.job = Job.ofBytes (readBytes s.mem phys 64) ∧
      t.denied = none := by
  obtain ⟨hbm, secret, hg⟩ := hr.granted
  simp only [readTemplate, hg, hr.sound, Bool.false_eq_true, if_false]
  split <;> exact ⟨_, rfl, rfl, rfl⟩

/-- An operand that JOB takes from a register is tagged secret (R227). -/
def jobSecret (f : JFmt) (q : Proc) : Bool :=
  (f.kp && q.dTag[dReg f.dk]) || (f.k2p && q.dTag[dReg f.dk2]) || (f.lp && q.dTag[dReg f.dl])

/-- The template with what KP, K2P and LP take from the registers, on its parent's channel (R104, R220). -/
def patched (d : Dev) (f : JFmt) (q : Proc) (jt : JobTag) (t : Job) : Job :=
  let low := fun (r : BitVec 4) => q.d[dReg r].toNat % 2 ^ 32
  { t with key := if f.kp then low f.dk else t.key, inLen := if f.lp then low f.dl else t.inLen,
           iv := if f.k2p then le 4 (low f.dk2) ++ t.iv.drop 4 else t.iv, channel := parentChannel d jt }

/-- The list of a job's buffer, where it has one, as JOB reads it (R102). -/
def jobList (s : State) (p : ProcId) (sgl : Bool) (addr : Nat) : ListRead :=
  if sgl then readList s p.val (procOf s.dev p.val) 256 addr else {}

/-- A job's buffer in spans: the entries of its list, or its address and length. -/
def jobSpans (s : State) (p : ProcId) (sgl : Bool) (addr len : Nat) : List (Nat × Nat) :=
  if sgl then (jobList s p sgl addr).entries.map (fun e => (e.addr, e.len)) else [(addr, len)]

/-- The lists of a job are read without denial or poison, its spans are checked to `inP` and `outP` with the denials `bad1` and
`bad2`, and what admission reads of its input is sound (R242). -/
structure SpansChecked (s : State) (p : ProcId) (j : Job) (inP outP bad1 bad2 : List (Nat × Nat)) : Prop where
  inRead : (jobList s p j.inSgl j.inAddr).bad = none
  outRead : (jobList s p j.outSgl j.outAddr).bad = none
  inListSound : (jobList s p j.inSgl j.inAddr).poisoned = none
  outListSound : (jobList s p j.outSgl j.outAddr).poisoned = none
  inSpans : checkSpans s.dev p.val (procOf s.dev p.val) false (jobSpans s p j.inSgl j.inAddr j.inLen) = (inP, bad1)
  outSpans : checkSpans s.dev p.val (procOf s.dev p.val) true (jobSpans s p j.outSgl j.outAddr j.outLen) = (outP, bad2)
  inSound : readsAtAdmission j = true → inP.any (fun e => poisonedAt e.1 e.2 s.dev) = false

/-- What JOB hands to admission: the job, with the bytes and spans of its buffers where every span was granted. -/
structure JobRequest (s : State) (p : ProcId) (f : JFmt) (jt : JobTag) (j : Job) (inP outP : List (Nat × Nat)) (granted : Bool)
    (r : Req) : Prop where
  tag : NamesTag jt r
  src : r.src = .engine p.val (jsReg f.js).val
  job : r.job = j
  domain : r.domain = srDomain (procOf s.dev p.val)
  spanFault : r.spanFault = !granted
  inPhys : r.inPhys = inP
  outPhys : r.outPhys = if granted then outP else []
  input : r.input = padTo j.inLen (if granted then gather s.mem inP else [])

/-- The denials of a job's spans are recorded, those of its input first (R242). -/
def denySpans (p : ProcId) (bad1 bad2 : List (Nat × Nat)) (s : State) : State :=
  bad2.foldl (fun s e => denyAccess p.val 0x07 e.2 e.1 true s) (bad1.foldl (fun s e => denyAccess p.val 0x07 e.2 e.1 false s) s)

theorem execJob_illegal (h : Issues s p) (hf : f.e = true ∨ f.resv ≠ 0#3) :
    execJob p f s = becomes s (takeFault p.val fIllegal 0 s.dev) :=
  issueJob_flt h (by rcases hf with hf | hf <;> simp [hf])

section
variable (h : Issues s p) (he : f.e = false) (hv : f.resv = 0#3) (hq : (procOf s.dev p.val).a[abReg f.at_].toNat = a)
include h he hv hq

theorem execJob_misaligned (ha : a % 64 ≠ 0) : execJob p f s = becomes s (takeFault p.val fAlign a s.dev) :=
  issueJob_flt h (by simp only [he, hv, hq, beq_eq_false_iff_ne.mpr ha]; rfl)

theorem execJob_misplaced (ha : a % 64 = 0) (hp : templateAt p.val a = false) :
    execJob p f s = becomes s (takeFault p.val fUnmapped a s.dev) :=
  issueJob_flt h (by simp only [he, hv, hq, ha, hp]; rfl)

end

section
variable (h : Issues s p) (hr : ReadsTemplate s p f a phys)
include h hr

theorem execJob_two_keys (hk : f.k2p = true) (hservice : (Job.ofBytes (readBytes s.mem phys 64)).service = 1) :
    execJob p f s = becomes s (takeFault p.val fIllegal 0 s.dev) := by
  obtain ⟨t, ht, hjob, -⟩ := hr.template
  exact issueJob_flt h (by
    simp only [hr.noExt, hr.resv, hr.addr, hr.aligned, hr.placed, ht, hjob, hk, hservice]; rfl)

variable (hk : (f.k2p && (Job.ofBytes (readBytes s.mem phys 64)).service == 1) = false)
include hk

theorem execJob_tagged (hsecret : jobSecret f (procOf s.dev p.val) = true) :
    execJob p f s = becomes s (takeFault p.val fTagJob 0 s.dev) := by
  obtain ⟨t, ht, hjob, -⟩ := hr.template
  unfold jobSecret at hsecret
  exact issueJob_flt h (by
    simp only [hr.noExt, hr.resv, hr.addr, hr.aligned, hr.placed, ht, hjob, hk, hsecret]; rfl)

variable (hplain : jobSecret f (procOf s.dev p.val) = false)
include hplain

theorem execJob_busy (hbusy : (procOf s.dev p.val).jobs[jsReg f.js].issued = true) :
    execJob p f s = becomes s (takeFault p.val fJobSlot 0 s.dev) := by
  obtain ⟨t, ht, hjob, -⟩ := hr.template
  unfold jobSecret at hplain
  exact issueJob_flt h (by
    simp only [hr.noExt, hr.resv, hr.addr, hr.aligned, hr.placed, ht, hjob, hk, hplain, hbusy]; rfl)

variable (hfree : (procOf s.dev p.val).jobs[jsReg f.js].issued = false)
include hfree

theorem execJob_over (hover : jobTag s.dev p.val (procOf s.dev p.val) = .over) :
    execJob p f s = becomes s (takeFault p.val fJobOver 0 s.dev) := by
  obtain ⟨t, ht, hjob, -⟩ := hr.template
  unfold jobSecret at hplain
  exact issueJob_flt h (by
    simp only [hr.noExt, hr.resv, hr.addr, hr.aligned, hr.placed, ht, hjob, hk, hplain, hfree, hover]; rfl)

/-- Where nothing stops it JOB records the denials, takes its slot and its tag, and hands the patched job to admission. -/
theorem execJob_admits {jt : JobTag} {j : Job} {inP outP bad1 bad2 : List (Nat × Nat)}
    (htag : jobTag s.dev p.val (procOf s.dev p.val) = jt) (hover : jt ≠ .over)
    (hj : patched s.dev f (procOf s.dev p.val) jt (Job.ofBytes (readBytes s.mem phys 64)) = j)
    (hspans : SpansChecked s p j inP outP bad1 bad2) :
    ∃ r, JobRequest s p f jt j inP outP (bad1.isEmpty && bad2.isEmpty) r ∧
      execJob p f s = .next { denySpans p bad1 bad2 s with
        dev := tryAdmit r (drawFor jt (setProc p.val (stepPc 4 (countInstr 4 (takeJobSlot (jsReg f.js) none
          (f.s || alwaysSecret j) (protOf s.dev p.val).gen (procOf s.dev p.val)))) (denySpans p bad1 bad2 s).dev)) } := by
  obtain ⟨t, ht, hjob, hdenied⟩ := hr.template
  obtain ⟨hread1, hread2, hsound1, hsound2, hin, hout, hsound⟩ := hspans
  have hspoilt : (if readsAtAdmission j then inP.filter (fun e => poisonedAt e.1 e.2 s.dev) else []) = [] := by
    simpa using hsound
  unfold jobSecret at hplain
  subst hj
  simp only [patched, jobSpans, jobList] at hread1 hread2 hsound1 hsound2 hin hout hspoilt
  rcases jt with _ | ⟨parent, tag⟩ | _
  rotate_right
  · exact absurd rfl hover
  all_goals
    refine ⟨_, ⟨⟨rfl, rfl⟩, rfl, rfl, rfl, rfl, rfl, ?_, ?_⟩, issueJob_ok h (by
      simp only [hr.noExt, hr.resv, hr.addr, hr.aligned, hr.placed, ht, hjob, hk, hplain, hfree, htag, hin, hout, hspoilt,
        hread1, hread2, hsound1, hsound2, hdenied]
      rfl) ⟨rfl, rfl⟩⟩
    all_goals cases bad1 <;> cases bad2 <;> rfl

end

end

/-! JOBX. -/

section
variable {s : State} {p : ProcId} {f : JXFmt}

theorem execJobx_illegal (h : Issues s p) (hf : f.e = true ∨ f.resv ≠ 0#3 ∨ f.func.toNat ∉ [0x01, 0x02, 0x10, 0x11]) :
    execJobx p f s = becomes s (takeFault p.val fIllegal 0 s.dev) :=
  issueJob_flt h (by
    rcases hf with hf | hf | hf
    · simp [hf]
    · simp [hf]
    · simp [has_eq_false hf])

/-- JOBX's word is well formed: a block function, no extension, no reserved field (R221). -/
structure NamesBlock (f : JXFmt) : Prop where
  noExt : f.e = false
  resv : f.resv = 0#3
  func : f.func.toNat ∈ [0x01, 0x02, 0x10, 0x11]

theorem NamesBlock.has_func (hf : NamesBlock f) : has [0x01, 0x02, 0x10, 0x11] f.func.toNat = true :=
  List.any_beq'.trans (by simpa using hf.func)

/-- Of the functions of JOBX those that decrypt have a secret output whatever S says (R225). -/
theorem NamesBlock.secret (hf : NamesBlock f) (j : Job) (hs : j.service = 1) (hj : j.func = f.func.toNat) :
    alwaysSecret j = decide (f.func.toNat = 0x02 ∨ f.func.toNat = 0x11) := by
  have hfunc := hf.func
  simp only [List.mem_cons, List.not_mem_nil, or_false] at hfunc
  rcases hfunc with hn | hn | hn | hn <;> simp [alwaysSecret, has, hs, hj, hn]

/-- What JOBX hands to admission: one function of the symmetric service on the bytes of XS (R221). -/
structure JobxRequest (s : State) (p : ProcId) (f : JXFmt) (jt : JobTag) (r : Req) : Prop where
  tag : NamesTag jt r
  src : r.src = .engine p.val (jsReg f.js).val
  service : r.job.service = 1
  func : r.job.func = f.func.toNat
  key : r.job.key = (procOf s.dev p.val).d[dReg f.dk].toNat % 2 ^ 32
  inLen : r.job.inLen = 8 * (f.len.toNat + 1)
  outLen : r.job.outLen = 8 * (f.len.toNat + 1)
  channel : r.job.channel = parentChannel s.dev jt
  domain : r.domain = srDomain (procOf s.dev p.val)
  input : r.input = (bytesOfX (procOf s.dev p.val).x[xReg2 f.xs]).take (8 * (f.len.toNat + 1))

section
variable (h : Issues s p) (hf : NamesBlock f)
include h hf

theorem execJobx_tagged (hsecret : (procOf s.dev p.val).dTag[dReg f.dk] = true) :
    execJobx p f s = becomes s (takeFault p.val fTagJob 0 s.dev) :=
  issueJob_flt h (by simp only [hf.noExt, hf.resv, hf.has_func, hsecret]; rfl)

variable (hplain : (procOf s.dev p.val).dTag[dReg f.dk] = false) (hxs : (procOf s.dev p.val).xPend[xReg2 f.xs] = false)
  (hxd : (procOf s.dev p.val).xPend[xReg2 f.xd] = false)
include hplain hxs hxd

theorem execJobx_busy (hbusy : (procOf s.dev p.val).jobs[jsReg f.js].issued = true) :
    execJobx p f s = becomes s (takeFault p.val fJobSlot 0 s.dev) :=
  issueJob_flt h (by simp only [hf.noExt, hf.resv, hf.has_func, hplain, readyX, hxs, hxd, hbusy]; rfl)

variable (hfree : (procOf s.dev p.val).jobs[jsReg f.js].issued = false)
include hfree

theorem execJobx_over (hover : jobTag s.dev p.val (procOf s.dev p.val) = .over) :
    execJobx p f s = becomes s (takeFault p.val fJobOver 0 s.dev) :=
  issueJob_flt h (by simp only [hf.noExt, hf.resv, hf.has_func, hplain, readyX, hxs, hxd, hfree, hover]; rfl)

/-- Where nothing stops it JOBX takes its slot, its tag and XD, and hands its blocks to admission. -/
theorem execJobx_admits {jt : JobTag} (htag : jobTag s.dev p.val (procOf s.dev p.val) = jt) (hover : jt ≠ .over) :
    ∃ r, JobxRequest s p f jt r ∧
      execJobx p f s = becomes s (tryAdmit r (drawFor jt (setProc p.val (stepPc 4 (countInstr 2 (takeJobSlot (jsReg f.js)
        (some (xReg2 f.xd)) (f.s || decide (f.func.toNat = 0x02 ∨ f.func.toNat = 0x11)) (protOf s.dev p.val).gen
        (procOf s.dev p.val)))) s.dev))) := by
  rcases jt with _ | ⟨parent, tag⟩ | _
  rotate_right
  · exact absurd rfl hover
  all_goals
    exact ⟨_, ⟨⟨rfl, rfl⟩, rfl, rfl, rfl, rfl, rfl, rfl, rfl, rfl, rfl⟩, issueJob_ok h (by
      simp only [hf.noExt, hf.resv, hf.has_func, hplain, readyX, hxs, hxd, hfree, htag, hf.secret]
      rfl) ⟨rfl, rfl⟩⟩

end

end

/-- Settles O15: an instruction that issues either stops at the first of the faults, or takes its slot and its tag and hands its job
to admission. -/
theorem jobsIssued : Obligations.JobsIssued := by
  unfold Obligations.JobsIssued
  intro s p h q jt low moved mine traps
  refine ⟨jobTag_custodian, fun hp hq t i o hslice ho => jobTag_message hp hq hslice ho, ?job, ?jobx⟩
  case job =>
    intro f a
    refine ⟨execJob_illegal h, fun he hv => ⟨execJob_misaligned h he hv rfl, execJob_misplaced h he hv rfl, ?_⟩⟩
    intro phys x y haligned hplaced hgranted hsound tpl j l1 l2 spans secret
    have hr : ReadsTemplate s p f a phys := ⟨he, hv, rfl, haligned, hplaced, ⟨x, y, hgranted⟩, hsound⟩
    refine ⟨execJob_two_keys h hr, fun hk => ?_⟩
    have hk : (f.k2p && tpl.service == 1) = false := by rcases hk with hk | hk <;> simp [hk]
    refine ⟨execJob_tagged h hr hk, execJob_busy h hr hk, execJob_over h hr hk, ?_⟩
    intro inP outP bad1 bad2 hplain hfree hover hread1 hread2 hsound1 hsound2 hin hout hunpoisoned u granted
    obtain ⟨r, ⟨htag, hsrc, hjob, hdomain, hfault, hinP, houtP, hinput⟩, hexec⟩ :=
      execJob_admits h hr hk hplain hfree (jt := jt) rfl hover (j := j) rfl
        ⟨hread1, hread2, hsound1, hsound2, hin, hout, hunpoisoned⟩
    exact ⟨r, htag, hsrc, hjob, hdomain, hfault, hinP, houtP, hinput, hexec⟩
  case jobx =>
    intro f
    refine ⟨execJobx_illegal h, fun he hv hfunc => ?_⟩
    have hf : NamesBlock f := ⟨he, hv, hfunc⟩
    refine ⟨execJobx_tagged h hf, fun hplain hxs hxd => ?_⟩
    refine ⟨execJobx_busy h hf hplain hxs hxd, execJobx_over h hf hplain hxs hxd, ?_⟩
    intro hfree hover secret
    obtain ⟨r, ⟨htag, hsrc, hservice, hfunc, hkey, hin, hout, hchannel, hdomain, hinput⟩, hexec⟩ :=
      execJobx_admits h hf hplain hxs hxd hfree (jt := jt) rfl hover
    exact ⟨r, htag, hsrc, hservice, hfunc, hkey, hin, hout, hchannel, hdomain, hinput, hexec⟩

end Sys2Proof.Machine
end

section
/-! PROOF. The dispatcher's choice of an engine (R180). -/

namespace Sys2Proof.Machine

open Sys2Proof

/-- No job of a class is picked where none can start. -/
theorem classPick_none {can : Nat → Bool} (h : ∀ t, can t = false) (quantum : Nat) (q : ClassQueue) :
    classPick quantum can q = none := by
  have hopen : (headJobs q.jobs []).filter (fun j => can j.tag) = [] :=
    List.filter_eq_nil_iff.mpr fun j _ => Bool.eq_false_iff.mp (h j.tag)
  simp only [classPick, hopen, minBy?]

theorem pickJob_none {can : Nat → Bool} (h : ∀ t, can t = false) (quantum turn : Nat) (qs : FMap ClassQueue) :
    pickJob quantum turn can qs = none := by
  have hopen (order : List Nat) : order.filterMap (fun _ => (none : Option (Nat × QJob × ClassQueue))) = [] :=
    List.filterMap_eq_nil_iff.mpr fun _ _ => rfl
  simp only [pickJob, classPick_none h, Option.map_none, hopen, minBy?]

theorem mem_idleEngines {d : Dev} {n : Nat} :
    n ∈ (List.range 48).filter (engineIdle d) ↔ n < 48 ∧ engineIdle d n = true := by
  rw [List.mem_filter, List.mem_range]

theorem chooseEngine_isSome_iff {d : Dev} {o : Op} :
    (chooseEngine d o).isSome = true ↔ ∃ n < 48, engineIdle d n = true := by
  have hhead : ((List.range 48).filter (engineIdle d)).head?.isSome = true ↔ ∃ n < 48, engineIdle d n = true := by
    simp only [List.head?_filter, List.find?_isSome, List.mem_range]
  dsimp only [chooseEngine]
  split
  · split
    · next m hm => simpa using ⟨m, mem_idleEngines.mp (List.mem_of_find?_eq_some hm)⟩
    · exact hhead
  · exact hhead

/-- The first engine of the idle ones has the lowest number. -/
theorem idleEngines_head {d : Dev} {n : Nat} (h : ((List.range 48).filter (engineIdle d)).head? = some n) :
    n < 48 ∧ engineIdle d n = true ∧ ∀ m < n, engineIdle d m = false := by
  obtain ⟨hn, hidle⟩ := mem_idleEngines.mp (List.mem_of_head? h)
  rw [List.head?_filter, List.find?_range_eq_some] at h
  obtain ⟨-, -, hfirst⟩ := h
  exact ⟨hn, hidle, fun m hm => by simpa using hfirst m hm⟩

/-- The engine chosen holds the job's first key, or it is the first of the idle ones and none of those holds that key. -/
theorem chooseEngine_some {d : Dev} {o : Op} {n : Nat} (h : chooseEngine d o = some n) :
    (n < 48 ∧ engineIdle d n = true ∧ ∃ p, o.pins.head? = some p ∧ holdsKey (engineOf d n).slots p = true) ∨
    (((List.range 48).filter (engineIdle d)).head? = some n ∧
      ∀ p, o.pins.head? = some p → ∀ m < 48, engineIdle d m = true → holdsKey (engineOf d m).slots p = false) := by
  dsimp only [chooseEngine] at h
  split at h
  · next p rest hpins =>
    split at h
    · next m hm =>
      obtain rfl := Option.some.inj h
      obtain ⟨hlt, hidle⟩ := mem_idleEngines.mp (List.mem_of_find?_eq_some hm)
      exact .inl ⟨hlt, hidle, p, by simp [hpins], List.find?_some (p := fun n => holdsKey (engineOf d n).slots p) hm⟩
    · next hnone =>
      refine .inr ⟨h, fun p' hp m hlt hidle => ?_⟩
      obtain rfl : p = p' := by simpa [hpins] using hp
      simpa using List.find?_eq_none.mp hnone m (mem_idleEngines.mpr ⟨hlt, hidle⟩)
  · next hpins => exact .inr ⟨h, fun p hp => by simp [hpins] at hp⟩

/-- An engine that is changed to one with a job has that job. -/
theorem engineOf_onEngine_of_job {n t : Nat} {f : BnEngine → BnEngine} {d : Dev} (h : (f (engineOf d n)).job = some t) :
    engineOf (onEngine n f d) n = f (engineOf d n) := by
  refine lookD_put_self_of_ne _ _ _ _ fun hreset => ?_
  rw [show f (engineOf d n) = {} from hreset] at h
  cases h

theorem engineOf_onOp (t n : Nat) (f : Op → Op) (d : Dev) : engineOf (onOp t f d) n = engineOf d n := by
  unfold onOp
  split <;> rfl

/-- Settles O52: `chooseEngine_isSome_iff` and `chooseEngine_some` are the choice; without an idle engine no job can be picked. -/
theorem bnDispatcherChoice : Obligations.BnDispatcherChoice := by
  unfold Obligations.BnDispatcherChoice
  refine ⟨?waits, fun d o => ⟨chooseEngine_isSome_iff.symm, fun n hn => ?choice⟩, ?takes⟩
  case waits =>
    intro s hbusy
    have hnone (o : Op) : chooseEngine s.dev o = none := by
      rw [← Option.not_isSome_iff_eq_none, chooseEngine_isSome_iff]
      rintro ⟨n, hn, hidle⟩
      rw [hbusy n hn] at hidle
      cases hidle
    have hcan (t : Nat) : engineFor s.dev t = false := by
      cases h : opOf s.dev t <;> simp [engineFor, h, hnone]
    exact bnDispatch_none (pickJob_none hcan ..)
  case choice =>
    rcases chooseEngine_some hn with ⟨hlt, hidle, hholds⟩ | ⟨hhead, hno⟩
    · exact ⟨hlt, hidle, .inl hholds⟩
    · obtain ⟨hlt, hidle, hfirst⟩ := idleEngines_head hhead
      exact ⟨hlt, hidle, .inr ⟨hno, hfirst⟩⟩
  case takes =>
    intro s cls turn n j qs o hpick hop hn
    obtain ⟨hdispatch, -⟩ := bigNumberJobs
    obtain ⟨-, -, hexec⟩ := hdispatch s cls turn n j qs o hpick hop hn
    refine ⟨_, hexec, ?_⟩
    rw [engineOf_onOp, engineOf_onEngine_of_job (t := j.tag) rfl]

end Sys2Proof.Machine
end

section
/-! PROOF. The commands of big-number programs (R189-R191): the numbers they compute, and what a command does that is the next one
of its engine's program, and one that is not. -/

namespace Sys2Proof.Machine

open Sys2Proof

/-! The numbers. -/

theorem powModGo_eq (fuel b e m : Nat) (h : e < 2 ^ fuel) : powModGo fuel b e m = b ^ e % m := by
  induction fuel generalizing b e with
  | zero =>
    obtain rfl : e = 0 := by omega
    rfl
  | succ fuel ih =>
    unfold powModGo
    split
    · next he => simp [he]
    · have hhalf : powModGo fuel (b * b % m) (e / 2) m = (b * b) ^ (e / 2) % m := by
        rw [ih _ _ (by omega), ← Nat.pow_mod]
      have hsq : (b * b) ^ (e / 2) = b ^ (2 * (e / 2)) := by rw [← Nat.pow_two, ← Nat.pow_mul]
      dsimp only
      rw [hhalf, hsq]
      split
      · next hodd =>
        rw [Nat.mul_mod_mod, ← Nat.pow_succ', show (2 * (e / 2)).succ = e by omega]
      · next heven => rw [show 2 * (e / 2) = e by omega]

theorem powMod_eq (b e m : Nat) : powMod b e m = b ^ e % m := by
  rw [powMod, powModGo_eq _ _ _ _ Nat.lt_log2_self, ← Nat.pow_mod]

/-- What the extended Euclidean algorithm keeps: each remainder is its coefficient times `a`, modulo `m`. -/
theorem dvd_egcd {a m : Int} (fuel : Nat) {r r' x x' : Int} (h : m ∣ x * a - r) (h' : m ∣ x' * a - r') :
    m ∣ (egcd fuel r r' x x').2 * a - (egcd fuel r r' x x').1 := by
  induction fuel generalizing r r' x x' with
  | zero => exact h
  | succ fuel ih =>
    unfold egcd
    split
    · exact h
    · refine ih h' ?_
      have hstep : (x - r / r' * x') * a - r % r' = (x * a - r) - r / r' * (x' * a - r') := by
        rw [Int.emod_def, Int.sub_mul, Int.mul_sub, Int.mul_assoc, Int.mul_comm r' (r / r')]
        omega
      rw [hstep]
      exact Int.dvd_sub h (Int.dvd_mul_of_dvd_right h')

/-- From `a % m` and `m`, with the coefficients 1 and 0. -/
theorem dvd_egcd_start (fuel a m : Nat) :
    (m : Int) ∣ (egcd fuel (a % m : Nat) m 1 0).2 * a - (egcd fuel (a % m : Nat) m 1 0).1 := by
  refine dvd_egcd fuel ?_ ?_
  · rw [Int.one_mul]
    exact Int.dvd_self_sub_emod
  · rw [Int.zero_mul, Int.zero_sub]
    exact Int.dvd_neg.mpr (Int.dvd_refl _)

/-- A coefficient of 1, brought into range, is an inverse. -/
theorem toNat_mul_mod_of_dvd {a m : Nat} {x : Int} (hm : m ≠ 0) (h : (m : Int) ∣ x * a - 1) :
    (x % m).toNat * a % m = 1 % m := by
  have hmod : x * a % m = 1 % m := Int.emod_eq_emod_iff_emod_sub_eq_zero.mpr (Int.emod_eq_zero_of_dvd h)
  have hnat : ((x % m).toNat : Int) = x % m := Int.toNat_of_nonneg (Int.emod_nonneg _ (by omega))
  apply Int.ofNat_inj.mp
  calc (((x % m).toNat * a % m : Nat) : Int)
      = x % m * a % m := by rw [Int.natCast_emod, Int.natCast_mul, hnat]
    _ = x * a % m := by rw [Int.mul_emod, Int.emod_emod, ← Int.mul_emod]
    _ = (1 % m : Nat) := hmod

theorem modInv_zero (a : Nat) : modInv a 0 = none := rfl

/-- What `modInv` answers is an inverse. -/
theorem mul_mod_of_modInv {a m v : Nat} (h : modInv a m = some v) : v * a % m = 1 % m := by
  have hdvd := dvd_egcd_start (2 * Nat.log2 (m + 1) + 4) a m
  simp only [modInv] at h
  split at h
  · cases h
  next hm =>
  split at h
  · next hg =>
    obtain rfl := Option.some.inj h
    rw [hg] at hdvd
    exact toNat_mul_mod_of_dvd hm hdvd
  · cases h

theorem modInv_eq_none {a m : Nat} (h : m = 0 ∨ ∀ v, v * a % m ≠ 1 % m) : modInv a m = none := by
  rcases h with rfl | h
  · exact modInv_zero a
  · exact Option.eq_none_iff_forall_ne_some.mpr fun v hv => h v (mul_mod_of_modInv hv)

/-! The next command. -/

theorem bnCommand_eq_some_iff {s : State} {n : Fin 48} {op : Nat} {e : BnEngine} {p : BnProg} {w : Nat} :
    bnCommand n.val op s.dev = some (e, p, w) ↔ engineOf s.dev n.val = e ∧ BnRuns s n op p w := by
  unfold bnCommand BnRuns
  constructor
  · intro h
    dsimp only at h
    split at h
    · cases h
    next q hprog =>
    split at h
    · cases h
    next hruns =>
    split at h
    · cases h
    next v hcmd =>
    split at h
    · next hop =>
      cases h
      simp only [Bool.or_eq_true, not_or, Bool.not_eq_true] at hruns
      obtain ⟨hended, hfailed⟩ := hruns
      exact ⟨rfl, hprog, hended, hfailed, hcmd, hop⟩
    · cases h
  · rintro ⟨rfl, hprog, hended, hfailed, hcmd, hop⟩
    simp [hprog, hended, hfailed, hcmd, hop]

/-- The device once engine `n`, with `e` as its registers, steps on from its command in program `p`. -/
def commandDone (n : Fin 48) (e : BnEngine) (p : BnProg) (d : Dev) : Dev :=
  onEngine n.val (fun _ => { e with prog := some { p with pc := p.pc + 1 } }) d

/-- The device once engine `n` has drawn a free value for command `w`, has put `v` into DST and steps on. -/
def resultStored (n : Fin 48) (p : BnProg) (w v : Nat) (d : Dev) : Dev :=
  commandDone n (slotPut (pSlot p (cDst w)) v (engineOf d n.val)) p { d with free := d.free + 1 }

section
variable {s : State} {n : Fin 48} {op : Nat} {p : BnProg} {w : Nat} (h : BnRuns s n op p w)
include h

theorem bnCommand_of_runs : bnCommand n.val op s.dev = some (engineOf s.dev n.val, p, w) :=
  bnCommand_eq_some_iff.mpr ⟨rfl, h⟩

/-- A command written over `bnStep` changes its engine and its program as its function says, and the program steps on. -/
theorem bnStep_of_runs (f : BnEngine → BnProg → Nat → BnEngine × BnProg) :
    bnStep n op f s = becomes s (commandDone n (f (engineOf s.dev n.val) p w).1 (f (engineOf s.dev n.val) p w).2 s.dev) := by
  simp only [bnStep, onDev, bnCommand_of_runs h]
  rfl

/-- A command written over `bnCompute` puts its function's value into DST, the free value where the function states none. -/
theorem bnCompute_of_runs (f : BnEngine → BnProg → Nat → Option Nat) :
    bnCompute n op f s =
      becomes s (resultStored n p w ((f (engineOf s.dev n.val) p w).getD (Config.freeNat s.dev.free)) s.dev) := by
  simp only [bnCompute, onDev, bnCommand_of_runs h]
  rfl

end

section
variable {s : State} {n : Fin 48} {op : Nat} (h : ∀ p w, ¬ BnRuns s n op p w)
include h

theorem bnCommand_of_not_runs : bnCommand n.val op s.dev = none :=
  Option.eq_none_iff_forall_ne_some.mpr fun (_, p, w) hc => h p w (bnCommand_eq_some_iff.mp hc).2

theorem bnStep_of_not_runs (f : BnEngine → BnProg → Nat → BnEngine × BnProg) : bnStep n op f s = .next s := by
  simp only [bnStep, onDev, bnCommand_of_not_runs h]

theorem bnCompute_of_not_runs (f : BnEngine → BnProg → Nat → Option Nat) : bnCompute n op f s = .next s := by
  simp only [bnCompute, onDev, bnCommand_of_not_runs h]

end

/-! The commands that do more than compute a number. -/

theorem writeSpans_dev (secret : Bool) (ws : List (Nat × Bytes)) (s : State) : (writeSpans secret ws s).dev = s.dev := by
  unfold writeSpans
  induction ws generalizing s with
  | nil => rfl
  | cons w ws ih => exact ih _

/-- STORE's bytes go to memory and leave the device as it is. -/
theorem storeOut_dev (n o : Nat) (b : Bytes) (s : State) : (storeOut n o b s).dev = s.dev := by
  unfold storeOut
  split
  · rfl
  · exact writeSpans_dev ..

theorem bnStore_of_not_runs {s : State} {n : Fin 48} (h : ∀ p w, ¬ BnRuns s n 0x03 p w) : exec (.bnStore n) s = .next s := by
  simp only [exec_bnStore, execBnStore, bnCommand_of_not_runs h]

section
variable {s : State} {n : Fin 48} {p : BnProg} {w : Nat}

theorem bnStore_of_runs (h : BnRuns s n 0x03 p w) :
    exec (.bnStore n) s = becomes
      (storeOut n.val (cImm w * 64) (be (64 * (pSlot p (cA w)).words) (opA (engineOf s.dev n.val) p w)) s)
      (commandDone n (engineOf s.dev n.val) { p with top := max p.top (cImm w * 64 + 64 * (pSlot p (cA w)).words) } s.dev) := by
  have hstored (b : Bytes) : BnRuns (storeOut n.val (cImm w * 64) b s) n 0x03 p w := by rwa [BnRuns, storeOut_dev]
  simp only [exec_bnStore, execBnStore, bnCommand_of_runs h]
  rw [bnStep_of_runs (hstored _), storeOut_dev]
  rfl

theorem bnModinv_of_runs (h : BnRuns s n 0x0A p w) :
    (∀ v, modInv (opA (engineOf s.dev n.val) p w) (opM (engineOf s.dev n.val) p w) = some v →
      exec (.bnModinv n) s = becomes s (commandDone n (slotPut (pSlot p (cDst w)) v (engineOf s.dev n.val)) p s.dev)) ∧
    (modInv (opA (engineOf s.dev n.val) p w) (opM (engineOf s.dev n.val) p w) = none →
      exec (.bnModinv n) s = becomes s (commandDone n (engineOf s.dev n.val) { p with failed := true } s.dev)) := by
  rw [exec_bnModinv, execBnModinv, bnStep_of_runs h]
  constructor
  · intro v hv
    simp only [hv]
  · intro hnone
    simp only [hnone]

end

/-! Commands whose meaning says the same in another form. -/

section
variable (n : Fin 48) (s : State)

/-- MODEXP's squaring computes the power. -/
theorem exec_bnModexp_eq_pow : exec (.bnModexp n) s = bnCompute n 0x0B (fun e p w =>
    if opM e p w = 0 then none else some (opA e p w ^ opB e p w % opM e p w)) s := by
  simp only [exec_bnModexp, execBnModexp, powMod_eq]

theorem exec_bnCmp_eq_ne : exec (.bnCmp n) s = bnStep n 0x0D (fun e p w =>
    (e, { p with failed := bitOf (cFlags w) 0 && decide (opA e p w ≠ opB e p w) })) s := by
  simp only [decide_not]
  rfl

theorem exec_bnEccheck_eq_any : exec (.bnEccheck n) s = bnStep n 0x13 (fun e p w =>
    (e, { p with failed := !((curveOf (cImm w)).any fun c => ptValid c (ptVal c (opA e p w))) })) s := by
  rw [exec_bnEccheck, execBnEccheck]
  congr 1
  funext e p w
  cases curveOf (cImm w) <;> rfl

/-- A point command computes its point's number on the curve that IMM names, if it names one. -/
theorem bnPoint_eq_bnCompute (op : Nat) (f : Curve → Nat → Nat → Option (Nat × Nat)) :
    bnPoint n op f s = bnCompute n op (fun e p w =>
      (curveOf (cImm w)).bind fun c => (f c (opA e p w) (opB e p w)).map (valPt c)) s := by
  rw [bnPoint]
  congr 1
  funext e p w
  cases curveOf (cImm w) <;> rfl

end

theorem bnPoint_of_runs {s : State} {n : Fin 48} {op : Nat} {p : BnProg} {w : Nat} (h : BnRuns s n op p w)
    (f : Curve → Nat → Nat → Option (Nat × Nat)) :
    bnPoint n op f s = becomes s (resultStored n p w (((curveOf (cImm w)).bind fun c =>
      (f c (opA (engineOf s.dev n.val) p w) (opB (engineOf s.dev n.val) p w)).map (valPt c)).getD
        (Config.freeNat s.dev.free)) s.dev) :=
  (bnPoint_eq_bnCompute n s op f).trans (bnCompute_of_runs h _)

/-- Settles O24: each command by the form its meaning is written in, `bnStep`, `bnCompute` or `bnPoint`, on the next command of a
running program and otherwise. -/
theorem bigNumberCommands : Obligations.BigNumberCommands := by
  unfold Obligations.BigNumberCommands
  refine ⟨?runs, ?stands⟩
  case runs =>
    intro s n p w e slot dst a b m r step writes gives fails mod
    refine ⟨?slotcfg, ?load, bnStore_of_runs, ?montin, ?montout, ?modadd, ?modsub, ?modmul, ?modsqr, ?modinv, ?modexp,
      ?mul, ?cmp, ?copy, ?zero, ⟨?ecadd, ?ecdbl, ?ecmul, ?eccheck⟩, ?ntt, ?intt, ?pmul, ?padd, ?fin⟩
    case slotcfg => exact fun h => ((exec_bnSlotcfg n s).trans (bnStep_of_runs h _) :)
    case load => exact fun h => ((exec_bnLoad n s).trans (bnStep_of_runs h _) :)
    case montin => exact fun h => ((exec_bnMontin n s).trans (bnCompute_of_runs h _) :)
    case montout => exact fun h => ((exec_bnMontout n s).trans (bnCompute_of_runs h _) :)
    case modadd => exact fun h => ((exec_bnModadd n s).trans (bnCompute_of_runs h _) :)
    case modsub => exact fun h => ((exec_bnModsub n s).trans (bnCompute_of_runs h _) :)
    case modmul => exact fun h => ((exec_bnModmul n s).trans (bnCompute_of_runs h _) :)
    case modsqr => exact fun h => ((exec_bnModsqr n s).trans (bnCompute_of_runs h _) :)
    case modinv =>
      intro h
      obtain ⟨hinverse, hnone⟩ := bnModinv_of_runs h
      exact ⟨fun v hv => ⟨mul_mod_of_modInv hv, hinverse v hv⟩, hnone, fun hm => hnone (modInv_eq_none hm)⟩
    case modexp => exact fun h => ((exec_bnModexp_eq_pow n s).trans (bnCompute_of_runs h _) :)
    case mul => exact fun h => ((exec_bnMul n s).trans (bnCompute_of_runs h _) :)
    case cmp => exact fun h => ((exec_bnCmp_eq_ne n s).trans (bnStep_of_runs h _) :)
    case copy => exact fun h => ((exec_bnCopy n s).trans (bnCompute_of_runs h _) :)
    case zero => exact fun h => ((exec_bnZero n s).trans (bnCompute_of_runs h _) :)
    case ecadd => exact fun h => ((exec_bnEcadd n s).trans (bnPoint_of_runs h _) :)
    case ecdbl => exact fun h => ((exec_bnEcdbl n s).trans (bnPoint_of_runs h _) :)
    case ecmul => exact fun h => ((exec_bnEcmul n s).trans (bnPoint_of_runs h _) :)
    case eccheck => exact fun h => ((exec_bnEccheck_eq_any n s).trans (bnStep_of_runs h _) :)
    case ntt => exact fun h => ((exec_bnNtt n s).trans (bnCompute_of_runs h _) :)
    case intt => exact fun h => ((exec_bnIntt n s).trans (bnCompute_of_runs h _) :)
    case pmul => exact fun h => ((exec_bnPmul n s).trans (bnCompute_of_runs h _) :)
    case padd => exact fun h => ((exec_bnPadd n s).trans (bnCompute_of_runs h _) :)
    case fin => exact fun h => ((exec_bnEnd n s).trans (bnStep_of_runs h _) :)
  case stands =>
    intro s n
    simp only [List.forall_mem_cons]
    exact ⟨fun h => (exec_bnSlotcfg n s).trans (bnStep_of_not_runs h _),
      fun h => (exec_bnLoad n s).trans (bnStep_of_not_runs h _),
      bnStore_of_not_runs,
      fun h => (exec_bnMontin n s).trans (bnCompute_of_not_runs h _),
      fun h => (exec_bnMontout n s).trans (bnCompute_of_not_runs h _),
      fun h => (exec_bnModadd n s).trans (bnCompute_of_not_runs h _),
      fun h => (exec_bnModsub n s).trans (bnCompute_of_not_runs h _),
      fun h => (exec_bnModmul n s).trans (bnCompute_of_not_runs h _),
      fun h => (exec_bnModsqr n s).trans (bnCompute_of_not_runs h _),
      fun h => (exec_bnModinv n s).trans (bnStep_of_not_runs h _),
      fun h => (exec_bnModexp n s).trans (bnCompute_of_not_runs h _),
      fun h => (exec_bnMul n s).trans (bnCompute_of_not_runs h _),
      fun h => (exec_bnCmp n s).trans (bnStep_of_not_runs h _),
      fun h => (exec_bnCopy n s).trans (bnCompute_of_not_runs h _),
      fun h => (exec_bnZero n s).trans (bnCompute_of_not_runs h _),
      fun h => (exec_bnEcadd n s).trans (bnCompute_of_not_runs h _),
      fun h => (exec_bnEcdbl n s).trans (bnCompute_of_not_runs h _),
      fun h => (exec_bnEcmul n s).trans (bnCompute_of_not_runs h _),
      fun h => (exec_bnEccheck n s).trans (bnStep_of_not_runs h _),
      fun h => (exec_bnNtt n s).trans (bnCompute_of_not_runs h _),
      fun h => (exec_bnIntt n s).trans (bnCompute_of_not_runs h _),
      fun h => (exec_bnPmul n s).trans (bnCompute_of_not_runs h _),
      fun h => (exec_bnPadd n s).trans (bnCompute_of_not_runs h _),
      fun h => (exec_bnEnd n s).trans (bnStep_of_not_runs h _),
      fun _ h => absurd h List.not_mem_nil⟩

end Sys2Proof.Machine
end

section
/-! PROOF. A message delivered into its string and parsed: one equation for each outcome that the obligation names. -/

namespace Sys2Proof.Machine

open Sys2Proof

section
variable {s : State} {tag : BitVec 16} {m : Msg} (hmsg : look s.dev.rig.msgs tag.toNat = some m)
include hmsg

/-- A message not yet delivered, of a string with power, enters its buffer with the words it touches untagged, and its
operation runs (R234, R341). -/
theorem messageDeliver_delivered (hdelivered : m.delivered = false) (hgated : (stringOf s.dev m.string).gated = false) :
    exec (.messageDeliver tag) s =
      (let a := strPhys m.string (msgAddr s.dev m)
       .next { s with
        dev := onOp tag.toNat (fun o => { o with phase := .running })
          (onMsg tag.toNat (fun m => { m with delivered := true, t0 := s.dev.tb.now }) s.dev),
        mem := writeBytes s.mem a m.bytes, memTags := fillTags s.memTags a m.bytes.length false }) := by
  simp [execMessageDeliver, hmsg, hdelivered, hgated]

variable {e : RigEntry} {c : RigClass} {p : ClassPlace} (hentry : msgEntry s.dev m = some e)
  (hclass : classAt e m.cls m.string = some (c, p)) (hdelivered : m.delivered = true) (hparsed : m.parsed = false)
include hentry hclass hdelivered hparsed

/-- A message that its class parses is routed when the class's parsing and its lookups have passed since T0 (R268, R270). -/
theorem parseEnd_routed {x : Parsed} (hparse : parseWith c m.bytes = some x) :
    exec (.parseEnd tag) s =
      .next (routed tag.toNat c p m x (m.t0 + fabNs (parseFab c + routeFab c)) s) := by
  simp [execParseEnd, hmsg, hentry, hclass, hdelivered, hparsed, hparse]

/-- A message that does not parse, with no REJECT class to try, is dropped and counted (R267). -/
theorem parseEnd_dropped (hparse : parseWith c m.bytes = none) (hreject : classAt e c.reject m.string = none) :
    exec (.parseEnd tag) s =
      becomes s (dropMsg tag.toNat (dk 0x5002 2) (reach (m.t0 + fabNs (parseFab c)) s.dev)) := by
  simp [execParseEnd, hmsg, hentry, hclass, hdelivered, hparsed, hparse, hreject]

end

/-- Settles O27: delivery, then parsing by whether the class's steps take the message; `parseFab` and `routeFab` are the cycles
that the statement writes out. -/
theorem messagesDeliveredAndParsed : Obligations.MessagesDeliveredAndParsed := by
  unfold Obligations.MessagesDeliveredAndParsed
  intro s tag m hmsg
  refine ⟨messageDeliver_delivered hmsg, fun e c p hentry hclass hdelivered hparsed => ⟨?parses, ?fails⟩⟩
  case parses => exact fun _ => parseEnd_routed hmsg hentry hclass hdelivered hparsed
  case fails => exact parseEnd_dropped hmsg hentry hclass hdelivered hparsed

end Sys2Proof.Machine
end

section
/-! PROOF. Rig images: what one admission leaves, then each command that admits, ends a hold or retires. -/

namespace Sys2Proof.Machine

open Sys2Proof

section
variable {r : RigReq} {d : Dev}

/-- An admission whose domain holds no other by QUIESCE does not queue (R291). -/
theorem admitOrQueue_of_not_held (hfree : (rigOf d r.img.domain).quiesce = none) : admitOrQueue r d = admitOne r d := by
  simp [admitOrQueue, hfree]

variable (hcheck : admitCheck d r.officer r.quiesce r.img = (.ok, 0))
include hcheck

/-- Without QUIESCE, or with no message of the domain in flight, an image that passes its checks is accepted where it is placed
(R286, R287). -/
theorem admitOne_accepted {places : List ClassPlace} (hgo : r.quiesce = false ∨ rigBusy d r.img.domain = false)
    (hplaces : placeImage d r.img r.quiesce = some places) : admitOne r d = acceptImage r (rigActor d r) places d := by
  have hwait : (r.quiesce && rigBusy d r.img.domain) = false := by
    rcases hgo with h | h <;> simp [h]
  simp [admitOne, hcheck, hwait, hplaces]

/-- With QUIESCE and a message of the domain in flight, the image is held until QUIESCE_LIMIT (R289). -/
theorem admitOne_held (hquiesce : r.quiesce = true) (hbusy : rigBusy d r.img.domain = true) :
    admitOne r d =
      (let held : Quiesce :=
         { img := r.img, via := r.via, officer := r.officer, till := d.tb.now + ms (numOf 20 d (dk 0x5001 2)) }
       onRig r.img.domain (fun x => { x with quiesce := some held }) d) := by
  rw [hquiesce] at hcheck
  simp [admitOne, hcheck, hquiesce, hbusy]

end

/-- A rig command is what its device step leaves of the device it starts from. -/
theorem rigStep_of_dev {dom : Nat} {f : Dev → Dev} {s : State} {d : Dev} (hf : f s.dev = d) :
    rigStep dom f s = rigStep dom (fun _ => d) s := by
  subst hf
  rfl

/-- RIG_ADMIT by a role that may ask for it, on a domain that holds no image by QUIESCE, runs the admission of the image that the
request names. -/
theorem rigAdmit_served {s : State} {h : SvcHdr} {obj : ObjRef} {given : RigImage} {d d' : Dev} {role : Role}
    (hs : Served h (.rigAdmit obj given) s d role)
    (hobj : objStatus h.via obj (takeRequest h.via (servedHobbled (.rigAdmit obj given)) s.dev).2 = .ok)
    (hmig : d.ks.migState = 0) (hrole : (∃ n, role = .domainOfficer n) ∨ role = .operator ∨ role = .hostDriver)
    (hfree : (rigOf d (imageNamed h.via obj given s.dev).domain).quiesce = none)
    (hrun : admitOne { img := imageNamed h.via obj given s.dev, via := h.via, officer := h.officer, quiesce := h.quiesce } d =
      d') :
    exec (.rigAdmit h obj given) s = .next (rigStep (imageNamed h.via obj given s.dev).domain
      (fun _ => dropStaged h.via (.rigAdmit obj given) d') s) := by
  rw [exec_rigAdmit, execRigAdmit]
  refine congrArg _ (rigStep_of_dev ?_)
  rw [serve_ok hs hobj rfl ?right (by simp [hmig]), admitOrQueue_of_not_held hfree, hrun]
  case right => rcases hrole with ⟨_, rfl⟩ | rfl | rfl <;> exact rightMet_of_single hs nofun rfl

section
variable {s : State} {dom : BitVec 12} {q : Quiesce} (hheld : (rigOf s.dev dom.toNat).quiesce = some q)
include hheld

/-- A held image, once no message of its domain is in flight, is accepted where it is placed, and the admissions that waited
run (R289, R291). -/
theorem quiesceDrained_accepted (hbusy : rigBusy s.dev dom.toNat = false) {places : List ClassPlace}
    (hplaces : placeImage (onRig dom.toNat (fun x => { x with quiesce := none }) s.dev) q.img true = some places) :
    exec (.quiesceDrained dom) s =
      (let r : RigReq := { img := q.img, via := q.via, officer := q.officer, quiesce := true }
       let d := onRig dom.toNat (fun x => { x with quiesce := none }) s.dev
       .next (rigStep dom.toNat (fun _ => runQueued dom.toNat 256 (acceptImage r (rigActor d r) places d)) s)) := by
  rw [exec_quiesceDrained, execQuiesceDrained]
  exact congrArg _ (rigStep_of_dev (by simp [hheld, hbusy, hplaces]))

/-- At QUIESCE_LIMIT a held image is refused with TIMEOUT, and the admissions that waited run (R289, R291). -/
theorem quiesceTimeout_refused :
    exec (.quiesceTimeout dom) s =
      (let r : RigReq := { img := q.img, via := q.via, officer := q.officer, quiesce := true }
       let d := onRig dom.toNat (fun x => { x with quiesce := none }) (reach q.till s.dev)
       .next (rigStep dom.toNat (fun _ => runQueued dom.toNat 256 (refuseImage r (rigActor d r) .timeout 0 d)) s)) := by
  rw [exec_quiesceTimeout, execQuiesceTimeout]
  exact congrArg _ (rigStep_of_dev (by simp [hheld]))

end

/-- RIG_RETIRE by officers of the device and of the domain takes the domain's image out of force, with an audit record of its
version (R290). -/
theorem rigRetire_served {s : State} {h : SvcHdr} {domain : BitVec 16} {d : Dev} {role : Role} {e : RigEntry}
    (hs : Served h (.rigRetire domain.toNat) s d role) (hdom : domain.toNat < 4096)
    (hcurrent : (rigOf d domain.toNat).current = some e)
    (hr : rightMet d h.via role { dual := [(2, .device), (2, .domain domain.toNat)] } = true) :
    exec (.rigRetire h domain) s = becomes s (answer h.via .ok [] (raise srcCustodian 0x0212 domain.toNat (actorReq d h)
      [(4, e.img.version), (1, 0), (4, 0)] (retireImage domain.toNat d))) := by
  rw [exec_rigRetire, execRigRetire, onDev, serve_ok hs (by simp [hdom]) rfl hr (by simp [hcurrent]), dropStaged_none rfl]
  simp [hcurrent]

/-- Settles O29: an image named runs `admitOne`, which accepts or holds it; a hold ends drained or timed out; an image in force is
retired. -/
theorem rigImages : Obligations.RigImages := by
  unfold Obligations.RigImages
  refine ⟨?admission, ?hold, fun _ _ _ _ _ _ => rigRetire_served⟩
  case admission =>
    intro s h obj given d role img r hs hobj hmig hrole hfree hcheck
    have hrigAdmit {d' : Dev} := rigAdmit_served (d' := d') hs hobj hmig hrole hfree
    exact ⟨fun hgo _ hplaces => hrigAdmit (admitOne_accepted (r := r) hcheck hgo hplaces),
      fun hquiesce hbusy => hrigAdmit (admitOne_held (r := r) hcheck hquiesce hbusy)⟩
  case hold =>
    intro s dom q hheld
    exact ⟨fun hbusy _ hplaces => quiesceDrained_accepted hheld hbusy hplaces, quiesceTimeout_refused hheld⟩

end Sys2Proof.Machine
end

section
/-! PROOF. Ports: what reading a port and its counters gives after a change, and what event records and the loss of a link leave
of them (R293-R304, R321). -/

namespace Sys2Proof.Machine

open Sys2Proof

@[simp] theorem portOf_setNum (d0 key v : Nat) (d : Dev) (p : Nat) : portOf (setNum d0 key v d) p = portOf d p := rfl
@[simp] theorem portOf_bumpBy (n key : Nat) (d : Dev) (p : Nat) : portOf (bumpBy n key d) p = portOf d p := rfl
@[simp] theorem portOf_bump (key : Nat) (d : Dev) (p : Nat) : portOf (bump key d) p = portOf d p := rfl
@[simp] theorem portOf_emit (e : Emission) (d : Dev) (p : Nat) : portOf (emit e d) p = portOf d p := rfl
@[simp] theorem portOf_reach (t : Nat) (d : Dev) (p : Nat) : portOf (reach t d) p = portOf d p := rfl

@[simp] theorem portOf_pushDelivery (c typ : Nat) (b : Bytes) (t : Nat) (tag : Option Nat) (d : Dev) (p : Nat) :
    portOf (pushDelivery c typ b t tag d) p = portOf d p := by
  simp only [pushDelivery, onChan]
  split <;> rfl

@[simp] theorem onPort_tb (p : Nat) (f : Port → Port) (d : Dev) : (onPort p f d).tb = d.tb := rfl

/-- A port changed into something else than a port in its reset state reads back as changed. -/
theorem portOf_onPort {p : Nat} {f : Port → Port} {d : Dev} (h : (f (portOf d p)).state ≠ 1) :
    portOf (onPort p f d) p = f (portOf d p) :=
  lookD_put_self_of_ne _ _ _ _ (ne_of_apply_ne Port.state h)

theorem portOf_onPort_ne {p q : Nat} (f : Port → Port) (d : Dev) (h : q ≠ p) : portOf (onPort p f d) q = portOf d q :=
  lookD_put_ne _ _ _ _ h

/-- Where the ports stand in rising order, every port reads back as changed. -/
theorem portOf_onPort_of_rising {p : Nat} {f : Port → Port} {d : Dev} (h : rising d.net.ports = true) :
    portOf (onPort p f d) p = f (portOf d p) :=
  lookD_put_self _ _ _ h

@[simp] theorem numOf_onPort (d0 : Nat) (p : Nat) (f : Port → Port) (d : Dev) (key : Nat) :
    numOf d0 (onPort p f d) key = numOf d0 d key := rfl
@[simp] theorem numOf_emit (d0 : Nat) (e : Emission) (d : Dev) (key : Nat) : numOf d0 (emit e d) key = numOf d0 d key := rfl

@[simp] theorem numOf_pushDelivery (d0 c typ : Nat) (b : Bytes) (t : Nat) (tag : Option Nat) (d : Dev) (key : Nat) :
    numOf d0 (pushDelivery c typ b t tag d) key = numOf d0 d key := by
  simp only [pushDelivery, onChan]
  split <;> rfl

/-- A counter that has counted one more. -/
@[simp] theorem numOf_bump_self (key : Nat) (d : Dev) : numOf 0 (bump key d) key = numOf 0 d key + 1 :=
  lookD_put_self_of_ne _ _ _ _ (Nat.succ_ne_zero _)

theorem numOf_bumpBy_ne (d0 n : Nat) {key key' : Nat} (d : Dev) (h : key' ≠ key) :
    numOf d0 (bumpBy n key d) key' = numOf d0 d key' :=
  lookD_put_ne _ _ _ _ h

/-- Two entries of the ports' tables are two numbers of the dictionary. -/
theorem pk_ne {p q a b : Nat} (ha : a < 256) (hb : b < 256) (h : a ≠ b) : pk p a ≠ pk q b := by
  simp only [pk, dk]
  omega

/-- An entry of a port, read past another one's counter. -/
theorem numOf_bumpBy_pk {p q a b : Nat} (d0 n : Nat) (d : Dev) (ha : a < 256) (hb : b < 256) (h : a ≠ b) :
    numOf d0 (bumpBy n (pk q b) d) (pk p a) = numOf d0 d (pk p a) :=
  numOf_bumpBy_ne d0 n d (pk_ne ha hb h)

theorem numOf_bump_pk {p q a b : Nat} (d0 : Nat) (d : Dev) (ha : a < 256) (hb : b < 256) (h : a ≠ b) :
    numOf d0 (bump (pk q b) d) (pk p a) = numOf d0 d (pk p a) :=
  numOf_bumpBy_pk d0 1 d ha hb h

/-! Event records. -/

/-- What an event record leaves of the ports: all of them, unless it is a LINK_UP or LINK_DOWN that waits at its own port (R321). -/
theorem sendEvent_ports (p typ sa pn info : Nat) (frame : Bytes) (d : Dev) :
    (∀ q, portOf (sendEvent p typ sa pn info frame d).2 q = portOf d q) ∨
    (typ = 8 ∨ typ = 9) ∧ ∃ b, ∀ q,
      portOf (sendEvent p typ sa pn info frame d).2 q =
        portOf (onPort p (fun x => { x with events := x.events ++ [b] }) d) q := by
  simp only [sendEvent]
  split
  · exact .inl fun _ => rfl
  · split
    · exact .inl fun _ => rfl
    · split
      · exact .inl fun _ => by simp
      · split
        · next htyp => exact .inr ⟨htyp, _, fun _ => rfl⟩
        · exact .inl fun _ => rfl

theorem portOf_sendEvent {p typ : Nat} (sa pn info : Nat) (frame : Bytes) (d : Dev) (q : Nat) (h8 : typ ≠ 8) (h9 : typ ≠ 9) :
    portOf (sendEvent p typ sa pn info frame d).2 q = portOf d q := by
  rcases sendEvent_ports p typ sa pn info frame d with h | ⟨htyp, -⟩
  · exact h q
  · omega

/-- At its own port an event record changes no more than the records that wait. -/
theorem portOf_portEvent {p : Nat} (typ sa pn info : Nat) (frame : Bytes) {d : Dev} (hd : (portOf d p).state ≠ 1) :
    ∃ es, portOf (portEvent p typ sa pn info frame d) p = { portOf d p with events := es } := by
  rcases sendEvent_ports p typ sa pn info frame d with h | ⟨-, b, h⟩
  · exact ⟨_, h p⟩
  · exact ⟨_, (h p).trans (portOf_onPort hd)⟩

/-- Of the ports' counters an event record changes no more than EVENTS_LOST. -/
theorem numOf_portEvent (d0 p typ sa pn info : Nat) (frame : Bytes) (d : Dev) {q sub : Nat} (hsub : sub < 256)
    (h : sub ≠ 0x4B) : numOf d0 (portEvent p typ sa pn info frame d) (pk q sub) = numOf d0 d (pk q sub) := by
  simp only [portEvent, sendEvent]
  split
  · rfl
  · split
    · exact numOf_bump_pk d0 d hsub (by decide) h
    · split
      · simp
      · split
        · rfl
        · exact numOf_bump_pk d0 d hsub (by decide) h

end Sys2Proof.Machine
end

section
/-! PROOF. Frames: what a port receives and drops, and what a frame that leaves under an association does to its packet number
(R304-R307, R313, R317, R320). -/

namespace Sys2Proof.Machine

open Sys2Proof

/-! Frames received. -/

/-- A frame passes the checks of an endpoint port that come before MACsec and VLAN: FCS and FEC verify, its length is in range, and
it is no MAC control frame (R304, R305, R307). -/
def PassesMac (d : Dev) (p : Nat) (f : RxFrame) : Prop :=
  f.fcsOk = true ∧ f.fecOk = true ∧ 64 ≤ f.bytes.length + 4 ∧ f.bytes.length + 4 ≤ portMtu d p ∧
    f.bytes.length + 4 ≤ 9216 ∧ etherType f.bytes ≠ 0x8808

theorem PassesMac.length_ok {d : Dev} {p : Nat} {f : RxFrame} (h : PassesMac d p f) :
    ¬ (f.bytes.length + 4 < 64 ∨ 9216 < f.bytes.length + 4 ∨ portMtu d p < f.bytes.length + 4) := by
  obtain ⟨-, -, h64, hmtu, hmax, -⟩ := h
  omega

section
variable {s : State} {p : Fin 64} {f : RxFrame}

/-- On an endpoint port no partner has begun to forward a frame that fails. -/
theorem stompPair_bump {sub : Nat} (hrole : portRole s.dev p.val = 0) (h256 : sub < 256) (hsub : sub ≠ 0x0C) :
    stompPair p.val (bump (pk p.val sub) s.dev) = bump (pk p.val sub) s.dev := by
  have h : portRole (bump (pk p.val sub) s.dev) p.val = 0 :=
    (numOf_bump_pk 0 s.dev (by decide) h256 hsub.symm).trans hrole
  simp [stompPair, h]

variable (hup : portUp s.dev p.val = true)
include hup

theorem frameReceive_fails (hrole : portRole s.dev p.val = 0) (h : f.fcsOk = false ∨ f.fecOk = false) :
    exec (.frameReceive p f) s = becomes s (bump (pk p.val 0x21) s.dev) := by
  have hbad : (!f.fcsOk || !f.fecOk) = true := by rcases h with h | h <;> simp [h]
  simp [execFrameReceive, onDev, hup, hbad, stompPair_bump hrole]

section
variable (hfcs : f.fcsOk = true) (hfec : f.fecOk = true)
include hfcs hfec

theorem frameReceive_length
    (h : f.bytes.length + 4 < 64 ∨ portMtu s.dev p.val < f.bytes.length + 4 ∨ 9216 < f.bytes.length + 4) :
    exec (.frameReceive p f) s = becomes s (bump (pk p.val 0x22) s.dev) := by
  have hlen : f.bytes.length + 4 < 64 ∨ 9216 < f.bytes.length + 4 ∨ portMtu s.dev p.val < f.bytes.length + 4 := by omega
  simp [execFrameReceive, onDev, hup, hfcs, hfec, hlen]

theorem frameReceive_control (h64 : 64 ≤ f.bytes.length + 4) (hmtu : f.bytes.length + 4 ≤ portMtu s.dev p.val)
    (hmax : f.bytes.length + 4 ≤ 9216) (htype : etherType f.bytes = 0x8808) :
    exec (.frameReceive p f) s = becomes s (bump (pk p.val 0x24) s.dev) := by
  have hlen : ¬ (f.bytes.length + 4 < 64 ∨ 9216 < f.bytes.length + 4 ∨ portMtu s.dev p.val < f.bytes.length + 4) := by omega
  simp [execFrameReceive, onDev, hup, hfcs, hfec, hlen, htype]

end

variable (hmac : PassesMac s.dev p.val f)
include hmac

/-- Without MACsec the frame is used where its VLAN is the port's (R305). -/
theorem frameReceive_clear (hmode : macsecMode s.dev p.val = 0) :
    exec (.frameReceive p f) s = becomes s (if vlanOk s.dev p.val f.bytes then
      frameUse p.val (f.bytes.length + 4) f.bytes s.dev else bump (pk p.val 0x23) s.dev) := by
  have hlen := hmac.length_ok
  obtain ⟨hfcs, hfec, -, -, -, htype⟩ := hmac
  simp [execFrameReceive, onDev, hup, hfcs, hfec, hlen, htype, hmode]

variable (hrole : portRole s.dev p.val = 0) (hmode : macsecMode s.dev p.val ≠ 0)
include hrole hmode

/-- With MACsec a frame that fails verification, but for its ICV, is dropped under the counter verification names (R320). -/
theorem frameReceive_rejected {sub : Nat} {d : Dev} (hin : macsecIn p.val f.bytes s.dev = (.drop sub, d)) (hicv : sub ≠ 0x41) :
    exec (.frameReceive p f) s = becomes s (bump (pk p.val sub) d) := by
  have hlen := hmac.length_ok
  obtain ⟨hfcs, hfec, -, -, -, htype⟩ := hmac
  simp [execFrameReceive, onDev, hup, hfcs, hfec, hlen, htype, hmode, hrole, hin]

/-- With MACsec a frame that verifies is used as it reads then, where its VLAN is the port's (R305, R320). -/
theorem frameReceive_verified {b : Bytes} {d : Dev} (hin : macsecIn p.val f.bytes s.dev = (.plain b, d))
    (hvlan : vlanOk d p.val b = true) :
    exec (.frameReceive p f) s = becomes s (frameUse p.val (f.bytes.length + 4) b d) := by
  have hlen := hmac.length_ok
  obtain ⟨hfcs, hfec, -, -, -, htype⟩ := hmac
  simp [execFrameReceive, onDev, hup, hfcs, hfec, hlen, htype, hmode, hrole, hin, hvlan]

end

/-- A frame neither under MACsec nor of MKA is rejected under its own counter (R320). -/
theorem macsecIn_untagged {b : Bytes} (p : Nat) (d : Dev) (htag : etherType b ≠ 0x88E5) (hmka : etherType b ≠ 0x888E) :
    macsecIn p b d = (.drop 0x44, d) := by
  simp [macsecIn, htag, hmka]

/-! Frames sent. -/

/-- A frame given to a port that is down is lost (R306). -/
theorem frameTransmit_down {s : State} {p : Fin 64} {b : Bytes} (hb : b ≠ []) (hdown : portUp s.dev p.val = false) :
    exec (.frameTransmit p b) s = becomes s (bump (pk p.val 0x29) s.dev) := by
  simp [execFrameTransmit, onDev, hb, sendFrame, hdown, lostFrame]

theorem portOf_ptpStamp (p : Nat) (rx : Bool) (b : Bytes) (d : Dev) (q : Nat) : portOf (ptpStamp p rx b d) q = portOf d q := by
  simp only [ptpStamp]
  split
  · rfl
  · rw [portOf_bump, portOf_sendEvent] <;> cases rx <;> decide

theorem portOf_reserveIv (holder idx gen base v : Nat) (d : Dev) (q : Nat) :
    portOf (reserveIv holder idx gen base v d).2 q = portOf d q := rfl

theorem portOf_sentFrame (p : Nat) (b : Bytes) (d : Dev) (q : Nat) : portOf (sentFrame p b none d) q = portOf d q := rfl

/-- The transmit association `an` of port `p`, which is not in its reset state, is at packet number `pn` (R317). -/
def AtPn (p an pn : Nat) (d : Dev) : Prop :=
  (portOf d p).state ≠ 1 ∧ ∃ a, look (portOf d p).txSas an = some a ∧ a.pn = pn

/-- It stays there where the port stays as it is. -/
theorem AtPn.of_portOf {p an pn : Nat} {d d' : Dev} (hport : portOf d' p = portOf d p) (h : AtPn p an pn d) : AtPn p an pn d' := by
  unfold AtPn
  rw [hport]
  exact h

section
variable {p an pn : Nat} {d : Dev} (h : AtPn p an pn d)
include h

/-- A change of the association moves its packet number as the change says. -/
theorem atPn_onTxSa (f : MacSa → MacSa) {pn' : Nat} (hf : ∀ a, a.pn = pn → (f a).pn = pn') :
    AtPn p an pn' (onTxSa p an f d) := by
  obtain ⟨hstate, a, hlook, hpn⟩ := h
  have hport : portOf (onTxSa p an f d) p = { portOf d p with txSas := ins (portOf d p).txSas an (f a) } := by
    rw [onTxSa, portOf_onPort] <;> simp [hlook, hstate]
  exact ⟨by rw [hport]; exact hstate, f a, by rw [hport, look_ins_self], hf a hpn⟩

/-- The warning of R319 leaves it. -/
theorem atPn_warnPn : AtPn p an pn (warnPn p an d) := by
  simp only [warnPn]
  split
  · exact h
  · split
    · exact .of_portOf (portOf_sendEvent _ _ _ _ _ _ (by decide) (by decide)) (atPn_onTxSa h _ fun _ ha => ha)
    · exact h

/-- Asking for more packet numbers (R317) leaves it. -/
theorem atPn_askPns : AtPn p an pn (askPns p an d) := by
  simp only [askPns]
  split
  · exact h
  · split
    · exact h
    · split
      · exact h
      · split
        · exact h
        · exact .of_portOf (portOf_reserveIv ..) (atPn_onTxSa h _ fun _ ha => ha)

end

/-- What the datapath uses while the association in use serves and its packet numbers last: that association, as it is (R317). -/
theorem pickTxSa_use {p an : Nat} {a : MacSa} {d : Dev} (han : (portOf d p).txAn = some an)
    (hlook : look (portOf d p).txSas an = some a) (hserves : saServes a = true) (hresolving : a.resolving = none)
    (hfollow : a.follow = none) (hlast : a.pn ≤ lastPn (macsecMode d p)) (hstop : a.pn < a.stop) :
    pickTxSa p d = .use an a d := by
  simp [pickTxSa, han, hlook, hserves, hresolving, hlast, nextReservation, hfollow, hstop]

/-- A frame that the datapath sends under an association leaves protected under it, and the association moves on to the next packet
number (R313, R317). -/
theorem sendFrame_use {p an : Nat} {a : MacSa} {b : Bytes} {d : Dev} (hup : portUp d p = true) (hmode : macsecMode d p ≠ 0)
    (hrole : portRole d p = 0) (htype : etherType b ≠ 0x888E) (huse : pickTxSa p d = .use an a d)
    (hmtu : b.length + 36 ≤ portMtu d p) (hat : AtPn p an a.pn d) :
    (sendFrame p b none d).2.out.head? = some (.frame p (protect d p an a b) false) ∧
      AtPn p an (a.pn + 1) (sendFrame p b none d).2 := by
  have hsend : sendFrame p b none d = (true, sentFrame p (protect d p an a b) none (bump (pk p 0x48) (askPns p an
      (onTxSa p an (fun a => { a with pn := a.pn + 1 }) (warnPn p an (onTxSa p an (fun _ => a) (ptpStamp p false b d))))))) := by
    simp [sendFrame, hup, hmode, hrole, htype, huse, Nat.not_lt.mpr hmtu]
  rw [hsend]
  have hused := atPn_warnPn (atPn_onTxSa (.of_portOf (portOf_ptpStamp p false b d p) hat) (fun _ => a) fun _ _ => rfl)
  have hmoved := atPn_askPns (atPn_onTxSa hused (fun a => { a with pn := a.pn + 1 }) fun _ ha => congrArg (· + 1) ha)
  exact ⟨rfl, .of_portOf ((portOf_sentFrame ..).trans (portOf_bump ..)) hmoved⟩

/-- Settles O32: a frame received ends at the first check that it fails; a frame sent moves its association on by one packet
number. -/
theorem framesInAndOut : Obligations.FramesInAndOut := by
  unfold Obligations.FramesInAndOut
  intro s p f hrole n drops good
  refine ⟨fun hup => ⟨frameReceive_fails hup hrole, frameReceive_length hup, frameReceive_control hup,
    ?otherVlan, ?clear, ?untagged, ?verified⟩, fun hf => ⟨frameTransmit_down hf, ?sent⟩⟩
  case otherVlan =>
    intro hgood hmode hvlan
    simpa [drops, hvlan] using frameReceive_clear hup hgood hmode
  case clear =>
    intro hgood hmode hvlan
    simpa [hvlan] using frameReceive_clear hup hgood hmode
  case untagged =>
    intro hgood hmode htag hmka
    exact frameReceive_rejected hup hgood hrole hmode (macsecIn_untagged p.val s.dev htag hmka) (by decide)
  case verified => exact fun hgood hmode b d => frameReceive_verified hup hgood hrole hmode
  case sent =>
    intro an a hup hmode htype han hlook hserves hresolving hfollow hlast hstop hmtu
    have hstate : (portOf s.dev p.val).state ≠ 1 := by
      rw [eq_of_beq hup]
      decide
    obtain ⟨hout, -, b, hb, hpn⟩ := sendFrame_use hup hmode hrole htype
      (pickTxSa_use han hlook hserves hresolving hfollow hlast hstop) hmtu ⟨hstate, a, hlook, rfl⟩
    exact ⟨_, b, by simp [execFrameTransmit, onDev, hf], hout, hb, hpn⟩

end Sys2Proof.Machine
end

section
/-! PROOF. A port's way to its link, lock, and loss (R294-R304): one equation for each outcome of a command, then what it leaves of
the port. -/

namespace Sys2Proof.Machine

open Sys2Proof

/-! Settings. -/

/-- The record of a write by custodian firmware (R408). -/
def entryWritten (index sub : Nat) (value : Bytes) (d : Dev) : Dev :=
  emit (.wrote index sub 0)
    (raise srcCustodian 0x0240 0 actorFw [(2, index), (1, sub), (16, leVal (value.take 16))] d)

/-- A write that its rules allow, of an entry that is not the ceremony card's, is recorded. -/
theorem writeRow_ok {index sub : Nat} {value : Bytes} {f : Dev → Except Nat Dev} {s : State} {d : Dev} (hf : f s.dev = .ok d)
    (hindex : index ≠ 0x7800) :
    writeRow index sub value f s = becomes s (entryWritten index sub value d) := by
  simp [writeRow, onDev, entryWrite, hf, cardTimedOut, hindex, entryWritten]

theorem writeRow_error {index sub : Nat} {value : Bytes} {f : Dev → Except Nat Dev} {s : State} {r : Nat}
    (hf : f s.dev = .error r) : writeRow index sub value f s = becomes s (emit (.wrote index sub r) s.dev) := by
  simp [writeRow, onDev, entryWrite, hf]

/-- No table of a port is the ceremony card's. -/
theorem portIndex_ne (p : Fin 64) : 0x3000 + p.val ≠ 0x7800 := by omega

theorem portEnable_written {s : State} {p : Fin 64} (on : Bool) (hfused : portFused s.dev p.val = false) :
    exec (.portEnable p on) s =
      becomes s (entryWritten (0x3000 + p.val) 2 [BitVec.ofNat 8 (b2n on)] (setPortEnable p.val on s.dev)) :=
  writeRow_ok (by simp [hfused]) (portIndex_ne p)

section
variable {d : Dev} {p n : Nat} (hfused : portFused d p = false)
include hfused

theorem portSetting_modeAllowed (hn : n < 512) : portSetting p 0 n d = .ok (restartPort p (setNum 0x1FF (pk p 3) n d)) := by
  simp [portSetting, hfused, hn]

theorem portSetting_anEnable (hn : n < 2) : portSetting p 1 n d = .ok (restartPort p (setNum 1 (pk p 4) n d)) := by
  simp [portSetting, hfused, hn]

theorem portSetting_modeForced (h1 : 1 ≤ n) (h9 : n ≤ 9) (hallowed : bitOf (modeAllowed d p) (n - 1) = true) :
    portSetting p 2 n d = .ok (restartPort p (setNum 1 (pk p 5) n d)) := by
  simp [portSetting, hfused, h1, h9, hallowed]

theorem portSetting_fec25 (hn : n < 2) : portSetting p 3 n d = .ok (restartPort p (setNum 1 (pk p 6) n d)) := by
  simp [portSetting, hfused, hn]

theorem portSetting_polarity (hn : n < 16) : portSetting p 4 n d = .ok (restartPort p (setNum 0 (pk p 0x0E) n d)) := by
  simp [portSetting, hfused, hn]

/-- A MODE_FORCED that MODE_ALLOWED does not contain is refused (R296). -/
theorem portSetting_refused (hmode : bitOf (modeAllowed d p) (n - 1) = false) : portSetting p 2 n d = .error 3 := by
  simp [portSetting, hfused, hmode]

end

/-- A setting that its rules allow is recorded under its entry, in the length of its type. -/
theorem portConfigChange_written {s : State} {p : Fin 64} {field : Fin 5} {v : BitVec 16} {sub len : Nat} {d : Dev}
    (hset : portSetting p.val field.val v.toNat s.dev = .ok d)
    (hsub : (if field.val = 4 then 0x0E else 3 + field.val) = sub) (hlen : (if field.val = 0 then 2 else 1) = len) :
    exec (.portConfigChange p field v) s = becomes s (entryWritten (0x3000 + p.val) sub (le len v.toNat) d) := by
  have hvalue : (if field.val = 0 then le 2 v.toNat else le 1 v.toNat) = le len v.toNat := by
    rw [← hlen]
    split <;> rfl
  rw [exec_portConfigChange, execPortConfigChange, hsub, hvalue]
  exact writeRow_ok hset (portIndex_ne p)

theorem portConfigChange_refused {s : State} {p : Fin 64} {v : BitVec 16} (hfused : portFused s.dev p.val = false)
    (hmode : bitOf (modeAllowed s.dev p.val) (v.toNat - 1) = false) :
    exec (.portConfigChange p 2 v) s = becomes s (emit (.wrote (0x3000 + p.val) 5 3) s.dev) :=
  writeRow_error (portSetting_refused hfused hmode)

/-! Starting. -/

section
variable {d : Dev} {p : Nat} (hegress : (portOf d p).egress = [])
include hegress

/-- With nothing waiting for egress, discarding it rewrites the port as it stands and a counter by nothing. -/
theorem dropEgress_nil : dropEgress p d = bumpBy 0 (pk p 0x29) (onPort p (fun q => { q with egress := [] }) d) := by
  simp [dropEgress, hegress]

/-- It leaves every entry of the dictionary but that counter. -/
theorem numOf_dropEgress_nil {q sub : Nat} (d0 : Nat) (hsub : sub < 256) (h : sub ≠ 0x29) :
    numOf d0 (dropEgress p d) (pk q sub) = numOf d0 d (pk q sub) := by
  rw [dropEgress_nil hegress, numOf_bumpBy_pk _ _ _ hsub (by decide) h, numOf_onPort]

/-- It leaves every port, where they stand in rising order. -/
theorem portOf_dropEgress_nil (hrising : rising d.net.ports = true) (q : Nat) : portOf (dropEgress p d) q = portOf d q := by
  rw [dropEgress_nil hegress, portOf_bumpBy]
  by_cases hq : q = p
  · subst hq
    rw [portOf_onPort_of_rising hrising, ← hegress]
  · exact portOf_onPort_ne _ _ hq

end

section
variable {d : Dev} {p : Nat} (hrising : rising d.net.ports = true) (hegress : (portOf d p).egress = [])
  (hpair : pairOk d p = true)
include hrising hegress hpair

/-- What starting a port asks of its partner, past the discarding of its egress (R309). -/
theorem pairOk_dropEgress_nil : pairOk (dropEgress p d) p = true := by
  have hrole (q : Nat) : portRole (dropEgress p d) q = portRole d q := numOf_dropEgress_nil hegress 0 (by decide) (by decide)
  have hpartner (q : Nat) : portPair (dropEgress p d) q = portPair d q := numOf_dropEgress_nil hegress 0 (by decide) (by decide)
  have hfused (q : Nat) : portFused (dropEgress p d) q = portFused d q := by
    rw [dropEgress_nil hegress]
    rfl
  simpa only [pairOk, hrole, hpartner, hfused, portOf_dropEgress_nil hegress hrising] using hpair

/-- With AN_ENABLE a port starts by negotiating (R296). -/
theorem startPort_negotiates (han : anEnabled d p = true) :
    (portOf (startPort p d) p).state = 2 ∧ (portOf (startPort p d) p).mode = 0 := by
  have han' : anEnabled (dropEgress p d) p = true := by
    rwa [anEnabled, numOf_dropEgress_nil hegress 1 (by decide) (by decide)]
  simp [startPort, pairOk_dropEgress_nil hrising hegress hpair, han', portOf_onPort]

/-- Without it a port starts by training in its forced mode (R296). -/
theorem startPort_trains (han : anEnabled d p = false) :
    (portOf (startPort p d) p).state = 3 ∧ (portOf (startPort p d) p).mode = modeForced d p := by
  have han' : anEnabled (dropEgress p d) p = false := by
    rwa [anEnabled, numOf_dropEgress_nil hegress 1 (by decide) (by decide)]
  have hmode : modeForced (dropEgress p d) p = modeForced d p := numOf_dropEgress_nil hegress 1 (by decide) (by decide)
  simp [startPort, pairOk_dropEgress_nil hrising hegress hpair, han', portOf_onPort, hmode]

end

/-! Negotiation and training. -/

/-- The smallest number from `i` on that a test passes is found. -/
theorem firstFrom_eq_some {t : Nat → Bool} {n i k : Nat} (hik : i ≤ k) (hk : k < i + n) (ht : t k = true)
    (hbelow : ∀ j, i ≤ j → j < k → t j = false) : firstFrom t n i = some k := by
  induction n generalizing i with
  | zero => omega
  | succ n ih =>
    rw [firstFrom]
    rcases Nat.eq_or_lt_of_le hik with rfl | hlt
    · simp [ht]
    · simp [hbelow i (Nat.le_refl i) hlt, ih hlt (by omega) fun j hj => hbelow j (by omega)]

theorem fecOf_succ (i : Nat) (rs : Bool) : fecOf (i + 1) rs = if i < 6 then 2 else if i < 8 then b2n rs else 0 := by
  simp only [fecOf, Nat.lt_iff_add_one_le]

section
variable {s : State} {p : Fin 64}

/-- Negotiation settles on the first mode that both sides allow, modes in falling order of rate, and its FEC (R296). -/
theorem anComplete_resolved {partner : BitVec 9} {rs : Bool} {i : Fin 9} (hstate : (portOf s.dev p.val).state = 2)
    (hrestart : (portOf s.dev p.val).restartAt = none) (hrole : portRole s.dev p.val = 0)
    (hmine : bitOf (modeAllowed s.dev p.val) i.val = true) (htheirs : partner.getLsbD i.val = true)
    (hbelow : ∀ j < i.val, (bitOf (modeAllowed s.dev p.val) j && partner.getLsbD j) = false) :
    exec (.anComplete p partner rs) s = becomes s (onPort p.val (fun q => { q with
      state := 3, mode := i.val + 1, trainSince := s.dev.tb.now,
      fec := if i.val < 6 then 2 else if i.val < 8 then b2n (fec25 s.dev p.val || rs) else 0 }) s.dev) := by
  have hfirst : firstBelow 9 (fun j => bitOf (modeAllowed s.dev p.val) j && partner.getLsbD j) = some i.val :=
    firstFrom_eq_some (Nat.zero_le _) (by omega) (by simp only [hmine, htheirs]; rfl) fun j _ => hbelow j
  have hpair (f : Port → Port) : pairOk (onPort p.val f s.dev) p.val = true := by
    have hrole' : portRole (onPort p.val f s.dev) p.val = 0 := hrole
    simp [pairOk, hrole']
  simp [execAnComplete, onDev, hstate, hrestart, hfirst, hpair, fecOf_succ]

theorem trainingDone_locks (hstate : (portOf s.dev p.val).state = 3) :
    exec (.trainingDone p) s =
      becomes s (onPort p.val (fun q => { q with state := 4, lanes := [], blockLocked := false }) s.dev) := by
  simp [execTrainingDone, onDev, hstate]

/-- At the limit of its training a port waits for 50 to 100 ms (R297). -/
theorem trainingTimeout_waits (hstate : (portOf s.dev p.val).state = 3) :
    ∃ w ≤ ms 50, exec (.trainingTimeout p) s = becomes s
      (let d := (freshFree (reach ((portOf s.dev p.val).trainSince + trainLimit (portOf s.dev p.val).mode) s.dev)).2
       bump (pk p.val 0x37) (onPort p.val (fun q => { q with
         state := 2, mode := 0, fec := 0, restartAt := some (d.tb.now + ms 50 + w) }) d)) := by
  refine ⟨Config.freeNat s.dev.free % (ms 50 + 1), by simp only [ms]; omega, ?_⟩
  simp only [exec_trainingTimeout, execTrainingTimeout, onDev, hstate]
  rfl

/-- It negotiates again once that has ended, and the failure is counted. -/
theorem trainingTimeout_leaves (hstate : (portOf s.dev p.val).state = 3) :
    ∃ d t, exec (.trainingTimeout p) s = becomes s d ∧ (portOf d p.val).state = 2 ∧
      (portOf d p.val).restartAt = some t ∧ d.tb.now + 50000000 ≤ t ∧ t ≤ d.tb.now + 100000000 ∧
      d.tb = reachTime s.dev.tb ((portOf s.dev p.val).trainSince + trainLimit (portOf s.dev p.val).mode) ∧
      numOf 0 d (pk p.val 0x37) = numOf 0 s.dev (pk p.val 0x37) + 1 := by
  obtain ⟨w, hw, hexec⟩ := trainingTimeout_waits hstate
  refine ⟨_, _, hexec, by simp [portOf_onPort], by simp only [portOf_bump]; rw [portOf_onPort (by simp)],
    ?_, ?_, rfl, ?_⟩
  · simp only [ms, bump_tb, onPort_tb]
    omega
  · simp only [ms, bump_tb, onPort_tb] at hw ⊢
    omega
  · exact numOf_bump_self _ _

theorem anRestart_starts {t : Nat} (h : (portOf s.dev p.val).restartAt = some t) :
    exec (.anRestart p) s = becomes s (startPort p.val (reach t s.dev)) := by
  simp [execAnRestart, onDev, h]

end

/-! Coming up and going down. -/

/-- A port as it comes up. -/
def upPort (q : Port) : Port := { q with state := 5, downSince := none, linked := true }

/-- The device once the return of a port from a loss is counted: of its markers, or of its blocks (R303). -/
def returnCounted (p : Nat) (am : Bool) (d : Dev) : Dev :=
  if (portOf d p).state == 6 then bump (pk p (if am then 0x34 else 0x35)) d else d

theorem portOf_returnCounted (p : Nat) (am : Bool) (d : Dev) (q : Nat) : portOf (returnCounted p am d) q = portOf d q := by
  unfold returnCounted
  split <;> rfl

theorem numOf_returnCounted (p : Nat) (am : Bool) (d : Dev) : numOf 0 (returnCounted p am d) (pk p (if am then 0x34 else 0x35)) =
    numOf 0 d (pk p (if am then 0x34 else 0x35)) + b2n ((portOf d p).state == 6) := by
  unfold returnCounted
  split
  · next h => rw [numOf_bump_self, h]; rfl
  · next h => rw [Bool.eq_false_iff.mpr h]; rfl

section
variable {p : Nat} {am : Bool} {d : Dev} (hlost : linkLost (portOf d p) d.tb.now = false)
include hlost

/-- A port that comes up within 10 ms of its loss counts the return, and reports LINK_UP where it had no link (R303, R321). -/
theorem comeUp_of_not_lost : comeUp p am d = onPort p upPort (returnCounted p am d) ∨
    ∃ info, comeUp p am d = portEvent p 8 0 0 info [] (onPort p upPort (returnCounted p am d)) := by
  simp only [comeUp, hlost]
  by_cases hlinked : (portOf d p).linked = true
  · exact .inl (by rw [if_pos hlinked]; rfl)
  · exact .inr ⟨_, by rw [if_neg hlinked]; rfl⟩

theorem portOf_comeUp : ∃ es, portOf (comeUp p am d) p = { upPort (portOf d p) with events := es } := by
  have hport : portOf (onPort p upPort (returnCounted p am d)) p = upPort (portOf d p) := by
    rw [portOf_onPort (by simp [upPort]), portOf_returnCounted]
  rcases comeUp_of_not_lost (am := am) hlost with h | ⟨info, h⟩
  · exact ⟨_, h ▸ hport⟩
  · rw [h, ← hport]
    exact portOf_portEvent 8 0 0 info [] (by simp [hport, upPort])

theorem numOf_comeUp : numOf 0 (comeUp p am d) (pk p (if am then 0x34 else 0x35)) =
    numOf 0 d (pk p (if am then 0x34 else 0x35)) + b2n ((portOf d p).state == 6) := by
  rw [← numOf_returnCounted]
  rcases comeUp_of_not_lost (am := am) hlost with h | ⟨info, h⟩
  · rw [h, numOf_onPort]
  · rw [h, numOf_portEvent, numOf_onPort] <;> cases am <;> decide

end

section
variable {p : Nat} {d : Dev} (hegress : (portOf d p).egress = []) (mid : Bool)
include hegress

/-- With nothing waiting for egress, a port that goes down counts the frame that was being received, if one was (R303). -/
theorem portDown_nil : portDown p mid d = bumpBy 0 (pk p 0x29) (onPort p (fun q => { q with egress := [] })
    (onPort p (fun q => { q with state := 6, downSince := some d.tb.now }) (if mid then bump (pk p 0x25) d else d))) := by
  refine dropEgress_nil ?_
  rw [portOf_onPort (by simp)]
  cases mid <;> exact hegress

theorem portOf_portDown : portOf (portDown p mid d) p = { portOf d p with state := 6, downSince := some d.tb.now } := by
  have hcounted : portOf (if mid then bump (pk p 0x25) d else d) p = portOf d p := by cases mid <;> rfl
  rw [portDown_nil hegress, portOf_bumpBy, portOf_onPort, portOf_onPort, hcounted, ← hegress] <;> simp [portOf_onPort]

theorem numOf_portDown : numOf 0 (portDown p mid d) (pk p 0x25) = numOf 0 d (pk p 0x25) + b2n mid := by
  rw [portDown_nil hegress, numOf_bumpBy_pk _ _ _ (by decide) (by decide) (by decide), numOf_onPort, numOf_onPort]
  cases mid
  · rfl
  · exact numOf_bump_self _ _

end

section
variable {s : State} {p : Fin 64}

/-- A change of a port that leaves the moment of its loss leaves whether its link is lost. -/
theorem linkLost_onPort {f : Port → Port} (hf : (portOf (onPort p.val f s.dev) p.val).downSince = (portOf s.dev p.val).downSince)
    (hlost : linkLost (portOf s.dev p.val) s.dev.tb.now = false) :
    linkLost (portOf (onPort p.val f s.dev) p.val) (onPort p.val f s.dev).tb.now = false := by
  rwa [linkLost, hf]

section
variable (hmode : 7 ≤ (portOf s.dev p.val).mode)
include hmode

theorem blockLock_gained (hstate : (portOf s.dev p.val).state = 4 ∨ (portOf s.dev p.val).state = 6) (mid : Bool) :
    exec (.blockLock p true mid) s =
      becomes s (comeUp p.val false (onPort p.val (fun q => { q with blockLocked := true }) s.dev)) := by
  simp [execBlockLock, onDev, Nat.not_lt.mpr hmode, hstate]

theorem blockLock_lost (hstate : (portOf s.dev p.val).state = 5) (mid : Bool) :
    exec (.blockLock p false mid) s =
      becomes s (portDown p.val mid (onPort p.val (fun q => { q with blockLocked := false }) s.dev)) := by
  simp [execBlockLock, onDev, Nat.not_lt.mpr hmode, hstate]

/-- A port that gains block lock is up, and its return from a loss is counted (R300, R303). -/
theorem blockLock_gained_leaves (hstate : (portOf s.dev p.val).state = 4 ∨ (portOf s.dev p.val).state = 6)
    (hlost : linkLost (portOf s.dev p.val) s.dev.tb.now = false) (mid : Bool) :
    ∃ d, exec (.blockLock p true mid) s = becomes s d ∧ (portOf d p.val).state = 5 ∧ (portOf d p.val).blockLocked = true ∧
      (portOf d p.val).downSince = none ∧
      numOf 0 d (pk p.val 0x35) = numOf 0 s.dev (pk p.val 0x35) + b2n ((portOf s.dev p.val).state == 6) := by
  have hport : portOf (onPort p.val (fun q => { q with blockLocked := true }) s.dev) p.val =
      { portOf s.dev p.val with blockLocked := true } :=
    portOf_onPort (by rcases hstate with h | h <;> simp [h])
  have hlost' := linkLost_onPort (f := fun q => { q with blockLocked := true }) (by rw [hport]) hlost
  obtain ⟨es, hup⟩ := portOf_comeUp (am := false) hlost'
  refine ⟨_, blockLock_gained hmode hstate mid, by rw [hup]; rfl, by rw [hup, hport]; rfl, by rw [hup]; rfl, ?_⟩
  simpa [hport] using numOf_comeUp (am := false) hlost'

/-- A port that loses block lock is down, and the frame that was being received is counted (R300, R303). -/
theorem blockLock_lost_leaves (hstate : (portOf s.dev p.val).state = 5) (hegress : (portOf s.dev p.val).egress = []) (mid : Bool) :
    ∃ d, exec (.blockLock p false mid) s = becomes s d ∧ (portOf d p.val).state = 6 ∧
      (portOf d p.val).downSince = some s.dev.tb.now ∧
      numOf 0 d (pk p.val 0x25) = numOf 0 s.dev (pk p.val 0x25) + b2n mid := by
  have hegress' : (portOf (onPort p.val (fun q => { q with blockLocked := false }) s.dev) p.val).egress = [] := by
    rw [portOf_onPort (by simp [hstate])]
    exact hegress
  have hdown := portOf_portDown hegress' mid
  exact ⟨_, blockLock_lost hmode hstate mid, by rw [hdown], by rw [hdown]; rfl, numOf_portDown hegress' mid⟩

end

/-! Alignment markers. -/

section
variable {lane : Fin 8} (hlock : locking (portOf s.dev p.val) = true)
include hlock

theorem state_of_locking : (portOf s.dev p.val).state ≠ 1 := by
  simp only [locking, Bool.and_eq_true, Bool.or_eq_true, beq_iff_eq] at hlock
  omega

theorem portOf_onPort_setLane (k : LaneLock) :
    portOf (onPort p.val (setLane lane.val k) s.dev) p.val = setLane lane.val k (portOf s.dev p.val) :=
  portOf_onPort (state_of_locking hlock)

theorem amCandidate_found {f : Nat} {pos : BitVec 64} (hlane : lane.val < fecLanes (portOf s.dev p.val).mode)
    (hsearch : fecLane (portOf s.dev p.val) lane.val = .search f) (hpos : f ≤ pos.toNat) :
    exec (.amCandidate p lane pos) s = becomes s (onPort p.val (setLane lane.val (.confirm pos.toNat)) s.dev) := by
  simp [execAmCandidate, onDev, hlock, Nat.not_le.mpr hlane, hsearch, hpos]

section
variable {b : Nat} (hconfirm : fecLane (portOf s.dev p.val) lane.val = .confirm b) (skewOk : Bool)
include hconfirm

theorem amConfirm_mismatch : exec (.amConfirm p lane false skewOk) s =
    becomes s (onPort p.val (setLane lane.val (.search (b + 1))) s.dev) := by
  simp [execAmConfirm, onDev, hlock, hconfirm]

theorem amConfirm_waits (hall : allLocked (setLane lane.val (.locked b 0 0) (portOf s.dev p.val)) = false) :
    exec (.amConfirm p lane true skewOk) s = becomes s (onPort p.val (setLane lane.val (.locked b 0 0)) s.dev) := by
  simp [execAmConfirm, onDev, hlock, hconfirm, portOf_onPort_setLane hlock, hall]

theorem amConfirm_up (hall : allLocked (setLane lane.val (.locked b 0 0) (portOf s.dev p.val)) = true)
    (hstate : (portOf s.dev p.val).state = 4) (hskew : 3 ≤ (portOf s.dev p.val).mode ∨ skewOk = true) :
    exec (.amConfirm p lane true skewOk) s =
      becomes s (comeUp p.val true (onPort p.val (setLane lane.val (.locked b 0 0)) s.dev)) := by
  have hfine : (decide ((portOf s.dev p.val).mode ≤ 2) && !skewOk) = false := by
    rcases hskew with h | h
    · simp [Nat.not_le.mpr h]
    · simp [h]
  simp [execAmConfirm, onDev, hlock, hconfirm, portOf_onPort_setLane hlock, hall, hstate, hfine]

/-- A port whose last lane locks is up (R301-R303). -/
theorem amConfirm_leaves (hall : allLocked (setLane lane.val (.locked b 0 0) (portOf s.dev p.val)) = true)
    (hstate : (portOf s.dev p.val).state = 4) (hlost : linkLost (portOf s.dev p.val) s.dev.tb.now = false)
    (hskew : 3 ≤ (portOf s.dev p.val).mode ∨ skewOk = true) :
    ∃ d, exec (.amConfirm p lane true skewOk) s = becomes s d ∧ (portOf d p.val).state = 5 := by
  have hlost' := linkLost_onPort (f := setLane lane.val (.locked b 0 0)) (by rw [portOf_onPort_setLane hlock]; rfl) hlost
  obtain ⟨es, hup⟩ := portOf_comeUp (am := true) hlost'
  exact ⟨_, amConfirm_up hlock hconfirm skewOk hall hstate hskew, by rw [hup]; rfl⟩

end

section
variable {b n last : Nat} (hlocked : fecLane (portOf s.dev p.val) lane.val = .locked b n last) {k : BitVec 64} (mid : Bool)
include hlocked

theorem amMiss_first (h : n = 0 ∨ last + 1 ≠ k.toNat) : exec (.amMiss p lane k mid) s =
    becomes s (onPort p.val (setLane lane.val (.locked b 1 k.toNat)) (bump (pk p.val 0x33) s.dev)) := by
  have hfirst : n = 0 ∨ ¬ last + 1 = k.toNat := h
  simp [execAmMiss, onDev, hlock, hlocked, hfirst]

theorem amMiss_second (hn : n = 1) (h : last + 1 = k.toNat) : exec (.amMiss p lane k mid) s =
    becomes s (onPort p.val (setLane lane.val (.locked b 2 k.toNat)) (bump (pk p.val 0x33) s.dev)) := by
  simp [execAmMiss, onDev, hlock, hlocked, hn, h]

/-- At the third miss in a row the lane searches again, and a port that was up goes down (R301, R303). -/
theorem amMiss_third (hn : n = 2) (h : last + 1 = k.toNat) : exec (.amMiss p lane k mid) s =
    becomes s (let d := onPort p.val (setLane lane.val (.search (b + 1))) (bump (pk p.val 0x33) s.dev)
      if (portOf s.dev p.val).state = 5 then portDown p.val mid d else d) := by
  simp [execAmMiss, onDev, hlock, hlocked, hn, h]

end

end

theorem linkDownTimeout_restarts {t : Nat} (h : (portOf s.dev p.val).downSince = some t) :
    exec (.linkDownTimeout p) s = becomes s (loseLink p.val (reach (t + ms 10) s.dev)) := by
  simp [execLinkDownTimeout, onDev, h]

theorem fecWindow_counts (hstate : (portOf s.dev p.val).state = 5) (hfec : (portOf s.dev p.val).fec ≠ 0)
    (cw ok bad sym : BitVec 32) (mid : Bool) : exec (.fecWindow p cw ok bad sym mid) s =
      (let d := bumpBy sym.toNat (pk p.val 0x32) (bumpBy bad.toNat (pk p.val 0x31) (bumpBy ok.toNat (pk p.val 0x30) s.dev))
       becomes s (if cw.toNat < bad.toNat * 8192 then
         portDown p.val mid (onPort p.val (fun q => { q with lanes := [], blockLocked := false }) d) else d)) := by
  simp [execFecWindow, onDev, hstate, hfec]

end

/-- Settles O30: the equation of each command, then what it leaves of the port where the statement says no more. -/
theorem portLinks : Obligations.PortLinks := by
  unfold Obligations.PortLinks
  refine ⟨⟨?start, ?settings⟩, ?lock⟩
  case start =>
    exact fun d p hrising hegress hpair =>
      ⟨startPort_negotiates hrising hegress hpair, startPort_trains hrising hegress hpair⟩
  case settings =>
    intro s p on v hfused q n wrote again
    exact ⟨portEnable_written on hfused,
      fun hn => portConfigChange_written (portSetting_modeAllowed hfused hn) rfl rfl,
      fun hn => portConfigChange_written (portSetting_anEnable hfused hn) rfl rfl,
      fun h1 h9 hallowed => portConfigChange_written (portSetting_modeForced hfused h1 h9 hallowed) rfl rfl,
      portConfigChange_refused hfused,
      fun hn => portConfigChange_written (portSetting_fec25 hfused hn) rfl rfl,
      fun hn => portConfigChange_written (portSetting_polarity hfused hn) rfl rfl,
      fun _ _ _ => anComplete_resolved, trainingDone_locks, trainingTimeout_leaves, fun _ => anRestart_starts⟩
  case lock =>
    intro s p lane pos k mid skewOk cw ok bad sym q lanes
    refine ⟨fun hmode hstate hlost => blockLock_gained_leaves hmode hstate hlost mid,
      fun hmode hstate hegress => blockLock_lost_leaves hmode hstate hegress mid,
      fun hlock hlane => ⟨fun f => amCandidate_found hlock hlane, fun b hconfirm => ?confirm, fun b n last hlocked => ?miss⟩,
      fun _ => linkDownTimeout_restarts, fun hstate hfec => fecWindow_counts hstate hfec cw ok bad sym mid⟩
    case confirm =>
      exact ⟨amConfirm_mismatch hlock hconfirm skewOk, amConfirm_waits hlock hconfirm skewOk,
        amConfirm_leaves hlock hconfirm skewOk⟩
    case miss =>
      exact ⟨amMiss_first hlock hlocked mid, amMiss_second hlock hlocked mid, amMiss_third hlock hlocked mid⟩

end Sys2Proof.Machine
end

section
/-! PROOF. Secure channels and associations: each request served, then MACSEC_ENABLE and an association whose key is resolved again
(R313, R315-R317, R319, R322). -/

namespace Sys2Proof.Machine

open Sys2Proof

/-! Requests. -/

/-- The record of a change of an association that the custodian made for a request (R315). -/
def saEvent (h : SvcHdr) (p dir rxsc an handle domain : Nat) (d : Dev) : Dev :=
  raise (srcPort p) 0x0230 domain (actorReq d h) [(1, p), (1, saByte (dir == 0) rxsc an), (4, handle)] d

section
variable {s : State} {h : SvcHdr} {d : Dev} {role : Role} {port : BitVec 8}
  (hrights : rightMet d h.via role (saRights port.toNat h d) = true)
include hrights

section
variable (hfused : portFused d port.toNat = false)
include hfused

theorem rxscSet_served {rxsc : BitVec 8} {window : BitVec 32} {sci : BitVec 64}
    (hs : Served h (.rxscSet port.toNat rxsc.toNat window.toNat sci.toNat) s d role) (hport : port.toNat < 64)
    (hrxsc : rxsc.toNat < 16) (hwindow : window.toNat < 2 ^ 30) :
    exec (.rxscSet h port rxsc window sci) s = becomes s (answer h.via .ok [] (onPort port.toNat (fun q =>
      if sci = 0 then { q with rxscs := del q.rxscs rxsc.toNat, rxSas := keep (fun i _ => !(i / 4 == rxsc.toNat)) q.rxSas }
      else { q with rxscs := ins q.rxscs rxsc.toNat { sci := sci.toNat, window := window.toNat } }) d)) := by
  have hargs : port.toNat < 64 ∧ rxsc.toNat < 16 ∧ window.toNat ≤ 0x3FFFFFFF := ⟨hport, hrxsc, Nat.le_of_lt_succ hwindow⟩
  rw [exec_rxscSet, execRxscSet, onDev, serve_ok hs (if_pos hargs) rfl hrights (by simp [hfused]), dropStaged_none rfl]
  by_cases hsci : sci = 0 <;> simp only [hsci, if_true, if_false]

theorem txArm_served {an : BitVec 8} (hs : Served h (.txArm port.toNat an.toNat) s d role) (hport : port.toNat < 64)
    (han : an.toNat < 4 ∨ an.toNat = 255) :
    exec (.txArm h port an) s = becomes s (answer h.via .ok [] (onPort port.toNat (fun q =>
      { q with nextAn := if an.toNat = 255 then none else some an.toNat }) d)) := by
  rw [exec_txArm, execTxArm, onDev, serve_ok hs (if_pos ⟨hport, han⟩) rfl hrights (by simp [hfused]), dropStaged_none rfl]

end

section
variable {dir rxsc an : BitVec 8} (hargs : saArgs port.toNat dir.toNat rxsc.toNat an.toNat = true)
include hargs

section
variable {sa : MacSa} (hsa : saOf (portOf d port.toNat) dir.toNat rxsc.toNat an.toNat = some sa)
include hsa

theorem saDelete_served (hs : Served h (.saDelete port.toNat dir.toNat rxsc.toNat an.toNat) s d role) :
    exec (.saDelete h port dir rxsc an) s = becomes s (answer h.via .ok [] (dropSa port.toNat dir.toNat rxsc.toNat an.toNat
      (saEvent h port.toNat dir.toNat rxsc.toNat an.toNat sa.handle (portOwner d port.toNat) d))) := by
  rw [exec_saDelete, execSaDelete, onDev, serve_ok hs (if_pos hargs) rfl hrights (by simp [hsa]), dropStaged_none rfl]
  simp only [hsa, saEvent]

variable (hs : Served h (.saEnable port.toNat dir.toNat rxsc.toNat an.toNat) s d role) (hkey : sa.keyIn = true)
  (hready : sa.ready = true) (hlost : sa.lost = false)
include hs hkey hready hlost

/-- An association that is installed with its key is enabled: on receive in its place, on transmit as the one in use. -/
theorem saEnable_served :
    exec (.saEnable h port dir rxsc an) s =
      (let e := saEvent h port.toNat dir.toNat rxsc.toNat an.toNat sa.handle (portOwner d port.toNat) d
       becomes s (answer h.via .ok [] (if dir.toNat = 1 then
           onRxSa port.toNat (4 * rxsc.toNat + an.toNat) (fun sa => { sa with enabled := true }) e
         else warnPn port.toNat an.toNat (onPort port.toNat (fun q =>
           { q with txAn := some an.toNat, switchTo := none, exhaustedSent := false })
           (onTxSa port.toNat an.toNat (fun sa => { sa with enabled := true }) e))))) := by
  rw [exec_saEnable, execSaEnable, onDev, serve_ok hs (if_pos hargs) rfl hrights (by simp [hsa, hkey, hready, hlost]),
    dropStaged_none rfl]
  simp only [hsa, saEvent]

end

/-- SA_CREATE with a key of the owner domain that fits, and a use of it at hand, makes the association at once (R315, R316). -/
theorem saCreate_served {key ssci : BitVec 32} {pn : BitVec 64} {salt : Bytes} {i : Nat} {k : KeyRec} {d' : Dev}
    (hs : Served h (.saCreate port.toNat dir.toNat rxsc.toNat an.toNat key.toNat ssci.toNat pn.toNat salt) s d role)
    (hsalt : salt.length = 12)
    (hsuite : macsecMode (takeRequest h.via false s.dev).2 port.toNat = 2 ∨
      ssci = 0 ∧ salt.all (fun b => b == 0#8) = true ∧ pn.toNat < 2 ^ 32)
    (hresolve : resolve d.ks false (portOwner d port.toNat) key.toNat = .ok (i, k))
    (hkeys : saKeys port.toNat dir.toNat key.toNat d role = .ok)
    (hlate : saLate port.toNat dir.toNat rxsc.toNat an.toNat key.toNat pn.toNat d = .ok)
    (huse : spendUse i k d = .ok (none, d')) :
    exec (.saCreate h port dir rxsc an key ssci pn salt) s =
      (let sa : MacSa := { handle := key.toNat, idx := i, gen := k.gen, ssci := ssci.toNat, salt := salt, pn := pn.toNat }
       let e := saEvent h port.toNat dir.toNat rxsc.toNat an.toNat key.toNat k.domain d'
       becomes s (if dir.toNat = 1 then
           answer h.via .ok [] (onPort port.toNat (fun q => { q with rxSas := ins q.rxSas (4 * rxsc.toNat + an.toNat) sa }) e)
         else
           let v := saReserve k.ivctr pn.toNat
           let new := { sa with
             pn := firstPn k.ivctr pn.toNat, stop := min v (lastPn (macsecMode e port.toNat) + 1), ready := false }
           let x := reserveIv (txHolder port.toNat an.toNat) i k.gen (v - 2 ^ 24) v
             (onPort port.toNat (fun q => { q with txSas := ins q.txSas an.toNat new }) e)
           waitFor x.1 (.answer h.via .ok (le 8 (firstPn k.ivctr pn.toNat))) x.2)) := by
  have hformat : (saArgs port.toNat dir.toNat rxsc.toNat an.toNat && salt.length == 12 &&
      (macsecMode (takeRequest h.via false s.dev).2 port.toNat == 2 ||
        (ssci == 0 && salt.all (fun b => b == 0#8) && decide (pn.toNat < 2 ^ 32)))) = true := by
    simpa [hargs, hsalt, and_assoc] using hsuite
  rw [exec_saCreate, execSaCreate, onDev, serve_ok hs (if_pos hformat) hkeys hrights hlate, dropStaged_none rfl]
  simp only [saRun, hresolve, withUse, huse, saEvent]

end

end

/-! MACSEC_ENABLE, and keys that are resolved again. -/

/-- MACSEC_ENABLE selects the suite and deletes every association of the port (R313, R326). -/
theorem macsecEnableWrite_written {s : State} {p : Fin 64} {v : BitVec 8} (hfused : portFused s.dev p.val = false)
    (hv : v.toNat ≤ 2) (hrole : portRole s.dev p.val ≠ 2 ∨ v = 0) :
    exec (.macsecEnableWrite p v) s =
      becomes s (entryWritten (0x3000 + p.val) 0x10 [v] (setMacsec p.val v.toNat s.dev)) := by
  have hrule : (decide (2 < v.toNat) || (portRole s.dev p.val == 2 && !(v.toNat == 0))) = false := by
    rcases hrole with h | h <;> simp [h, hv]
  exact writeRow_ok (by simp only [macsecWrite, hfused, hrule]; rfl) (portIndex_ne p)

/-- An association whose key is lost: disabled, its key slot cleared (R322). -/
def keyLost (a : MacSa) : MacSa := { a with enabled := false, lost := true, keyIn := false, resolving := none }

theorem loseTx_of_look {p an : Nat} {a : MacSa} {d : Dev} (h : look (portOf d p).txSas an = some a) (hlost : a.lost = false) :
    loseTx p an d = portEvent p 7 (saByte true 0 an) a.pn 0 [] (onTxSa p an keyLost d) := by
  simp only [loseTx, h, hlost]
  rfl

theorem loseRx_of_look {p i : Nat} {a : MacSa} {d : Dev} (h : look (portOf d p).rxSas i = some a) (hlost : a.lost = false) :
    loseRx p i d = portEvent p 7 (saByte false (i / 4) (i % 4)) a.pn 0 [] (onRxSa p i keyLost d) := by
  simp only [loseRx, h, hlost]
  rfl

section
variable {s : State} {p : Fin 64} {tx : Bool} {i : Fin 64} {a : MacSa} {t : Nat}
  (hlook : (if tx then look (portOf s.dev p.val).txSas i.val else look (portOf s.dev p.val).rxSas i.val) = some a)
  (hresolving : a.resolving = some t)
include hlook hresolving

/-- After 4 µs an association whose key resolves again carries on (R322). -/
theorem saKeyResolveTimeout_resolved (hkey : saKeyOk (reach (t + 4000) s.dev) p.val tx a = true) :
    exec (.saKeyResolveTimeout p tx i) s = becomes s
      (let calm := fun (a : MacSa) => { a with resolving := none }
       if tx then onTxSa p.val i.val calm (reach (t + 4000) s.dev) else onRxSa p.val i.val calm (reach (t + 4000) s.dev)) := by
  simp only [exec_saKeyResolveTimeout, execSaKeyResolveTimeout, onDev, hlook, hresolving, us, hkey, if_true]

/-- After 4 µs an association whose key does not resolve is disabled, with its record (R322). -/
theorem saKeyResolveTimeout_lost (hlost : a.lost = false) (hkey : saKeyOk (reach (t + 4000) s.dev) p.val tx a = false) :
    exec (.saKeyResolveTimeout p tx i) s = becomes s
      (portEvent p.val 7 (if tx then saByte true 0 i.val else saByte false (i.val / 4) (i.val % 4)) a.pn 0 []
        (if tx then onTxSa p.val i.val keyLost (reach (t + 4000) s.dev)
         else onRxSa p.val i.val keyLost (reach (t + 4000) s.dev))) := by
  simp only [exec_saKeyResolveTimeout, execSaKeyResolveTimeout, onDev, hlook, hresolving, us, hkey]
  cases tx with
  | false => exact congrArg (becomes s) (loseRx_of_look hlook hlost)
  | true => exact congrArg (becomes s) (loseTx_of_look hlook hlost)

end

/-- Settles O31: each request served runs to the equation of its service; the two forms of SA_ENABLE and SA_CREATE are their
directions. -/
theorem macsecAssociations : Obligations.MacsecAssociations := by
  unfold Obligations.MacsecAssociations
  refine ⟨?requests, ?keys⟩
  case requests =>
    intro s h port dir rxsc an window key ssci sci pn salt d role hrights hfused p
    refine ⟨rxscSet_served hrights hfused, txArm_served hrights hfused,
      fun hargs sa hsa => ⟨saDelete_served hrights hargs hsa, ?enableRx, ?enableTx⟩, ?create⟩
    case enableRx =>
      intro hs hkey hready hlost hdir
      exact (saEnable_served hrights hargs hsa hs hkey hready hlost).trans
        (congrArg (fun e => becomes s (answer h.via .ok [] e)) (if_pos hdir))
    case enableTx =>
      intro hs hkey hready hlost hdir
      exact (saEnable_served hrights hargs hsa hs hkey hready hlost).trans
        (congrArg (fun e => becomes s (answer h.via .ok [] e)) (if_neg (by omega)))
    case create =>
      intro i k d' hs hargs hsalt hsuite hresolve hkeys hlate huse sa e
      have hexec := saCreate_served hrights hargs hs hsalt hsuite hresolve hkeys hlate huse
      exact ⟨fun hdir => hexec.trans (congrArg (becomes s) (if_pos hdir)),
        fun hdir => ⟨_, Nat.min_le_left .., hexec.trans (congrArg (becomes s) (if_neg (by omega)))⟩⟩
  case keys =>
    intro s p v tx i a t
    exact ⟨fun hfused hv hrole => ⟨_, macsecEnableWrite_written hfused hv hrole, rfl⟩,
      fun hlook hresolving hlost => ⟨saKeyResolveTimeout_resolved hlook hresolving,
        saKeyResolveTimeout_lost hlook hresolving hlost⟩⟩

end Sys2Proof.Machine
end

section
/-! PROOF. Message Transport: neighbours, listeners, routes and the timers of connections (R329-R348): one equation for each outcome of
a command. -/

namespace Sys2Proof.Machine

open Sys2Proof

/-! Neighbours. -/

section
variable {s : State} {p : Fin 64} {addr : Bytes} {n : Neighbour} (hn : neighbourOf s.dev p.val addr = some n)
include hn

/-- A neighbour without its address is asked for again 250 ms on (R329). -/
theorem neighbourRetry_asks (hmac : n.mac = none) :
    exec (.neighbourRetry p addr) s = becomes s (askNeighbour p.val addr
      (onNeighbour p.val addr (fun n => { n with nextTry := n.nextTry + ms 250 }) (reach n.nextTry s.dev))) := by
  simp only [exec_neighbourRetry, execNeighbourRetry, onDev, hn, hmac, Option.isSome_none, Bool.false_eq_true, if_false]

/-- After a second it is forgotten, and what waited for it is dropped (R329). -/
theorem neighbourTimeout_drops (hmac : n.mac = none) :
    exec (.neighbourTimeout p addr) s = becomes s
      (dropWaiting n.waiting (dropNeighbour p.val addr (reach (n.since + sec 1) s.dev))) := by
  simp only [exec_neighbourTimeout, execNeighbourTimeout, onDev, hn, hmac, Option.isSome_none, Bool.false_eq_true, if_false]

/-- A resolved neighbour lapses 300 s after it was confirmed (R329). -/
theorem neighbourLapse_forgets (hmac : n.mac.isSome = true) :
    exec (.neighbourLapse p addr) s = becomes s (dropNeighbour p.val addr (reach (n.confirmed + sec 300) s.dev)) := by
  simp only [exec_neighbourLapse, execNeighbourLapse, onDev, hn, hmac, if_true]

end

/-! Listeners. -/

/-- No table of a listener is the ceremony card's. -/
theorem listenerIndex_ne (n : Fin 224) : 0x3400 + n.val ≠ 0x7800 := by omega

/-- ENABLE as its record shows it. -/
theorem leVal_enable (on : Bool) : leVal ((le 1 (b2n on)).take 16) = b2n on := by cases on <;> rfl

/-- A write of ENABLE that its rules allow is recorded (R333, R348). -/
theorem listenerEnable_written {s : State} {n : Fin 224} {on : Bool} {d : Dev} (hset : setListener n.val on s.dev = (.ok, d)) :
    exec (.listenerEnable n on) s = becomes s (emit (.wrote (0x3400 + n.val) 0x0A 0)
      (raise srcCustodian 0x0240 0 actorFw [(2, 0x3400 + n.val), (1, 0x0A), (16, b2n on)] d)) := by
  have hwrite : exec (.listenerEnable n on) s =
      becomes s (entryWritten (0x3400 + n.val) 0x0A (le 1 (b2n on)) d) :=
    writeRow_ok (by simp only [hset]) (listenerIndex_ne n)
  rwa [entryWritten, leVal_enable] at hwrite

/-- What ENABLE asks of a listener that is disabled (R333, R338; log entry 108). -/
def MayListen (d : Dev) (n : Nat) : Prop :=
  (lisOf d n).state = 0 ∧ endpoint d (lisPort d n) = true ∧ lisClash d n = false ∧ d.life.reef ≠ 3 ∧ lisLocal d n ≠ 0 ∧
    (lisFraming d n = 0 ↔ 2 ≤ lisProto d n)

/-- Such a listener opens its channel and listens, and the routes that may connect now are opened (R333, R337). -/
theorem setListener_opens {d e : Dev} {n c h : Nat} (hmay : MayListen d n)
    (hopen : openChan (.listener n) (lisDomain d n) 256 0 d = some (c, h, e)) :
    setListener n true d = (.ok, openRoutes
      (setNum 0 (lk n 0x0A) 1 (setNum 0 (lk n 0x0B) h (onLis n (fun _ => { state := 1, chan := c }) e)))) := by
  obtain ⟨hstate, hport, hclash, hreef, hlocal, hframing⟩ := hmay
  have hdisabled : ¬ (lisOf d n).state = 1 := by omega
  have hallowed : ¬ ((lisOf d n).state = 2 ∨ ¬ endpoint d (lisPort d n) = true ∨ lisClash d n = true ∨ d.life.reef = 3 ∨
      lisLocal d n = 0 ∨ (lisFraming d n = 0) ≠ (2 ≤ lisProto d n)) := by
    rintro (h | h | h | h | h | h)
    · omega
    · exact h hport
    · exact absurd h (Bool.eq_false_iff.mp hclash)
    · exact hreef h
    · exact hlocal h
    · exact h (propext hframing)
  simp only [setListener, if_true, if_neg hdisabled, if_neg hallowed, hopen]

/-- A listener that has not closed within its second loses what is left of it (R348). -/
theorem listenerCloseTimeout_resets {s : State} {n : Fin 224} (hstate : (lisOf s.dev n.val).state = 2) :
    exec (.listenerCloseTimeout n) s =
      becomes s (finishListeners (resetListener n.val (reach (lisOf s.dev n.val).closeAt s.dev))) := by
  simp only [exec_listenerCloseTimeout, execListenerCloseTimeout, onDev, hstate, if_true]

/-! Routes. -/

/-- No table of route descriptors is the ceremony card's. -/
theorem routeIndex_ne (r : Fin 4096) : 0x34E0 + r.val / 256 ≠ 0x7800 := by omega

theorem padTo_self (b : Bytes) : padTo b.length b = b := by
  simp only [padTo, zeros, List.take_length, Nat.sub_self, List.replicate_zero, List.append_nil]

theorem blobOf_setBlob_self {d : Dev} (key : Nat) (v : Bytes) (h : rising d.dict.blobs = true) :
    blobOf (setBlob key v d) key = v :=
  lookD_put_self [] key v h

/-- The dictionary's form of a descriptor that is not valid (an all-zero one is not stored) keeps no connection open (R337). -/
theorem routeOpens_cleared {d : Dev} {r : Nat} {b : Bytes} (hrising : rising d.dict.blobs = true)
    (hvalid : (Route.ofBytes b).valid = false) :
    routeOpens (setBlob (dk 0x34E0 0 + r) (if b.all (fun y => y == 0#8) then [] else b) d) r = false := by
  have hstored : (Route.ofBytes (if b.all (fun y => y == 0#8) then [] else b)).valid = false := by
    split
    · rfl
    · exact hvalid
  simp only [routeOpens, routeOf, blobOf_setBlob_self _ _ hrising, hstored, Bool.false_and]

/-- A descriptor that is not valid, of a route without a connection, is stored, and nothing is opened (R336, R337). -/
theorem writeRoute_cleared {r : Nat} {b : Bytes} {d : Dev} (hrising : rising d.dict.blobs = true) (hlen : b.length = 32)
    (hok : routeOk d (Route.ofBytes b) = true) (hconn : (lookD {} d.net.routes r).conn = none)
    (hvalid : (Route.ofBytes b).valid = false) : writeRoute r b d =
    (true, setBlob (dk 0x34E0 0 + r) (if b.all (fun y => y == 0#8) then [] else b)
      { d with net := { d.net with routes := del d.net.routes r } }) := by
  have hpad : padTo 32 b = b := hlen ▸ padTo_self b
  have hopens := routeOpens_cleared (d := { d with net := { d.net with routes := del d.net.routes r } }) (r := r) hrising hvalid
  have hnotRefused : ¬ (b.length ≠ 32 ∨ ¬ routeOk d (Route.ofBytes b) = true) :=
    not_or.mpr ⟨fun h => h hlen, fun h => h hok⟩
  simp only [writeRoute, hpad, if_neg hnotRefused, hconn, hvalid, Bool.false_and, hopens, Bool.false_eq_true, if_false]

theorem routeWrite_written {s : State} {r : Fin 4096} {b : Bytes} {d : Dev} (hwrite : writeRoute r.val b s.dev = (true, d)) :
    exec (.routeWrite r b) s = becomes s (entryWritten (0x34E0 + r.val / 256) (r.val % 256) b d) :=
  writeRow_ok (by simp only [hwrite]) (routeIndex_ne r)

/-- A route that may be open and has no connection is opened, no earlier than the end of its wait (R337). -/
theorem routeReconnect_opens {s : State} {r : Fin 4096} (hconn : (lookD {} s.dev.net.routes r.val).conn = none)
    (hopens : routeOpens s.dev r.val = true) :
    exec (.routeReconnect r) s = becomes s (openRoute r.val
      (match (lookD {} s.dev.net.routes r.val).at_ with | some t => reach t s.dev | none => s.dev)) := by
  rw [exec_routeReconnect, execRouteReconnect, onDev]
  exact congrArg (becomes s) (if_neg (by simp only [hconn, hopens, Option.isSome_none, Bool.not_true, Bool.or_self, Bool.false_eq_true,
    not_false_eq_true]))

/-! Timers of connections. -/

/-- Two changes that agree on a connection change the table alike. -/
theorem onConn_congr {c : Nat} {t : TcpConn} {f g : TcpConn → TcpConn} {d : Dev} (ht : connOf d c = some t) (hfg : f t = g t) :
    onConn c f d = onConn c g d := by
  simp only [onConn, show look d.net.conns c = some t from ht, hfg]

/-- A connection with data in flight after its retransmission timer has run out: the timer doubled up to 2 s, one segment's window,
and everything sent taken as lost (R331; log entry 103). -/
def timedOut (rto now : Nat) (t : TcpConn) : TcpConn :=
  { t with retries := t.retries + 1, rto := rto, timer := some (now + rto), rttAt := none, dupAcks := 0, sacked := [],
           recovering := true, lost := true, recover := t.sndNxt, highRxt := t.sndUna,
           ssthresh := max (inFlight t / 2) (2 * t.mss), cwnd := t.mss }

section
variable {s : State} {c : Fin 32768} {t : TcpConn} (ht : connOf s.dev c.val = some t)
include ht

section
variable {at_ : Nat} (htimer : t.timer = some at_)
include htimer

/-- Eight retransmissions, or four SYNs, without an answer abort a connection (R331). -/
theorem tcpRetransmitTimeout_aborts
    (hlimit : 8 ≤ t.retries ∨ (t.state = .synSent ∨ t.state = .synRcvd) ∧ 3 ≤ t.retries) :
    exec (.tcpRetransmitTimeout c) s = becomes s (abortConn c.val (reach at_ s.dev)) := by
  have habort : ((t.state == .synSent || t.state == .synRcvd) && decide (4 ≤ t.retries + 1) ||
      decide (8 < t.retries + 1)) = true := by
    rcases hlimit with hretries | ⟨hsyn, hretries⟩
    · rw [decide_eq_true (Nat.lt_succ_of_le hretries), Bool.or_true]
    · have hstate : (t.state == .synSent || t.state == .synRcvd) = true := by
        rcases hsyn with h | h <;> rw [h] <;> rfl
      rw [hstate, decide_eq_true (Nat.succ_le_succ hretries)]
      rfl
  simp only [exec_tcpRetransmitTimeout, execTcpRetransmitTimeout, onDev, ht, htimer, habort, if_true]

/-- Below those limits, what is in flight is sent again from its first byte (R331). -/
theorem tcpRetransmitTimeout_resends (hretries : t.retries < 8) (hsyn : ¬ (t.state = .synSent ∨ t.state = .synRcvd))
    (hflight : inFlight t ≠ 0) :
    exec (.tcpRetransmitTimeout c) s = becomes s (resend c.val (onConn c.val
      (timedOut (min (sec 2) (2 * t.rto)) (reach at_ s.dev).tb.now) (reach at_ s.dev))) := by
  have hdata : (t.state == .synSent || t.state == .synRcvd) = false :=
    Bool.or_eq_false_iff.mpr ⟨beq_false_of_ne fun h => hsyn (.inl h), beq_false_of_ne fun h => hsyn (.inr h)⟩
  have hagain : decide (8 < t.retries + 1) = false := decide_eq_false (by omega)
  simp only [exec_tcpRetransmitTimeout, execTcpRetransmitTimeout, onDev, ht, htimer, hdata, hagain]
  exact congrArg (fun d => becomes s (resend c.val d)) (onConn_congr ht (by simp only [timedOut, beq_false_of_ne hflight,
    Bool.not_false, Bool.and_self, Bool.or_self, Bool.false_eq_true, if_false]))

end

section
variable (hstate : t.state = .established) (hkeepalive : lisKeepalive s.dev t.listener ≠ 0)
include hstate hkeepalive

/-- An established connection that has been idle for its listener's KEEPALIVE is aborted or probed (R331). -/
theorem tcpKeepalive_idle :
    exec (.tcpKeepalive c) s = becomes s
      (let d := reach (t.lastActive + sec ((t.probes + 1) * lisKeepalive s.dev t.listener)) s.dev
       if 3 ≤ t.probes then abortConn c.val d
       else
         let e := onConn c.val (fun t => { t with probes := t.probes + 1 }) d
         sendSeg t (segment e t (seqSub t.sndNxt 1) 0x10 []) t.vlan 0 none e) := by
  have hidle : ¬ (lisKeepalive s.dev t.listener = 0 ∨
      ¬ (t.state == .established || t.state == .closeWait || t.state == .finWait2) = true) := by
    rintro (h | h)
    · exact hkeepalive h
    · exact h (by rw [hstate]; rfl)
  simp only [exec_tcpKeepalive, execTcpKeepalive, onDev, ht, if_neg hidle]

/-- Three probes without an answer abort a connection (R331). -/
theorem tcpKeepalive_aborts (hprobes : 3 ≤ t.probes) :
    exec (.tcpKeepalive c) s = becomes s
      (abortConn c.val (reach (t.lastActive + sec ((t.probes + 1) * lisKeepalive s.dev t.listener)) s.dev)) := by
  simp only [tcpKeepalive_idle ht hstate hkeepalive, if_pos hprobes]

/-- Before that, an idle connection is probed with the byte before its next one (R331). -/
theorem tcpKeepalive_probes (hprobes : t.probes < 3) :
    exec (.tcpKeepalive c) s = becomes s
      (let e := onConn c.val (fun t => { t with probes := t.probes + 1 })
         (reach (t.lastActive + sec ((t.probes + 1) * lisKeepalive s.dev t.listener)) s.dev)
       sendSeg t (segment e t (seqSub t.sndNxt 1) 0x10 []) t.vlan 0 none e) := by
  simp only [tcpKeepalive_idle ht hstate hkeepalive, if_neg (Nat.not_le_of_lt hprobes)]

end

theorem timeWaitExpire_removes (hstate : t.state = .timeWait) :
    exec (.timeWaitExpire c) s = becomes s (finishListeners (removeConn c.val (reach (t.stateAt + sec 4) s.dev))) := by
  simp only [exec_timeWaitExpire, execTimeWaitExpire, onDev, ht, hstate, beq_self_eq_true, if_true]

theorem halfOpenLapse_removes (hstate : t.state = .synRcvd) :
    exec (.halfOpenLapse c) s = becomes s (removeConn c.val (reach (t.created + sec 3) s.dev)) := by
  simp only [exec_halfOpenLapse, execHalfOpenLapse, onDev, ht, hstate, beq_self_eq_true, if_true]

/-- The message that has waited longest for room is dropped under its counter (R345). -/
theorem sendBufferTimeout_drops {w : SendWait} {rest : List SendWait} (hwaiting : t.waiting = w :: rest) :
    exec (.sendBufferTimeout c) s = becomes s (finishCloses (dropOut 0x0C w.tag
      (onConn c.val (fun t => { t with waiting := rest }) (reach (w.since + ms 100) s.dev)))) := by
  simp only [exec_sendBufferTimeout, execSendBufferTimeout, onDev, ht, hwaiting]

end

/-- The correlation entry next to expire leaves the table (R344). -/
theorem corrEntryExpire_erases {s : State} {e : CorrEntry} (hmin : minBy? (fun (e : CorrEntry) => e.till) s.dev.net.corr = some e) :
    exec .corrEntryExpire s = becomes s
      (let d := reach e.till s.dev
       { d with net := { d.net with corr := d.net.corr.erase e } }) := by
  simp only [exec_corrEntryExpire, execCorrEntryExpire, onDev, hmin]

/-- Settles O33: the equation of each command. -/
theorem transportTimersAndTables : Obligations.TransportTimersAndTables := by
  unfold Obligations.TransportTimersAndTables
  refine ⟨⟨?neighbours, fun _ => rfl, fun _ _ _ _ => listenerEnable_written, ?opens, fun _ _ => listenerCloseTimeout_resets,
    ?cleared, fun _ _ => routeReconnect_opens⟩, ?connections, fun _ _ => corrEntryExpire_erases⟩
  case neighbours =>
    exact fun s p addr n hn => ⟨neighbourRetry_asks hn, neighbourTimeout_drops hn, neighbourLapse_forgets hn⟩
  case opens =>
    intro d n hstate hport hclash hreef hlocal hframing c h e hopen
    have hset := setListener_opens ⟨hstate, hport, hclash, hreef, hlocal, hframing⟩ hopen
    exact ⟨congrArg Prod.fst hset, congrArg Prod.snd hset⟩
  case cleared =>
    intro s r b hrising hlen hok hconn hvalid
    exact routeWrite_written (writeRoute_cleared hrising hlen hok hconn hvalid)
  case connections =>
    intro s c t ht
    refine ⟨fun at_ htimer => ?retransmit, fun hstate hkeepalive => ?keepalive, timeWaitExpire_removes ht,
      halfOpenLapse_removes ht, fun w rest => sendBufferTimeout_drops ht⟩
    case retransmit =>
      exact ⟨tcpRetransmitTimeout_aborts ht htimer, tcpRetransmitTimeout_resends ht htimer⟩
    case keepalive =>
      rw [Nat.mul_comm 1000000000]
      exact ⟨tcpKeepalive_aborts ht hstate hkeepalive, tcpKeepalive_probes ht hstate hkeepalive⟩

end Sys2Proof.Machine
end

section
/-! PROOF. Jobs on their way in and out: a submission slot read, a host job and an engine's job completed (R23, R33, R223, R367,
R368, R371). -/

namespace Sys2Proof.Machine

open Sys2Proof

/-- A slot whose place at head holds no job hands the descriptor read there to admission, and head moves on (R367, R368). -/
theorem submissionRead_admits {s : State} {fn slot : BitVec 12} {sl : Slot} {c : Nat} {ch : Chan}
    (hslot : slotOf s.dev fn.toNat slot.toNat = sl) (hopen : sl.state = .opened) (hnew : sl.head ≠ sl.sqTail)
    (hidle : sl.busy.all (fun e => e.1 != sl.head) = true) (hlive : fnLive s.dev fn.toNat = true)
    (hchan : chanOf s.dev sl.handle = some (c, ch)) (b : Bytes) (inList outList input : ReadResult) :
    ∃ r : Req, r.src = .host c sl.head ∧ r.job = Job.ofBytes (padTo 64 b) ∧ r.domain = ch.domain ∧
      r.descAddr = sl.sqBase + 64 * sl.head ∧
      exec (.submissionRead fn slot (.bytes b) inList outList input) s =
        becomes s (tryAdmit r (onSlot fn.toNat slot.toNat (fun y =>
          { y with head := (y.head + 1) % sqSize y, pass := if y.head + 1 = sqSize y then y.pass + 1 else y.pass,
                   busy := y.busy ++ [(sl.head, y.pass)] }) s.dev)) := by
  have hfree : sl.busy.any (fun e => e.1 == sl.head) = false := by
    simpa only [List.all_eq_not_any_not, bne, Bool.not_not, Bool.not_eq_true'] using hidle
  have hreads : (!(sl.state == .opened) || sl.head == sl.sqTail || sl.busy.any (fun e => e.1 == sl.head) ||
      !(fnLive s.dev fn.toNat)) = false := by
    rw [hopen, beq_false_of_ne hnew, hfree, hlive]
    rfl
  refine ⟨?request, ?src, ?job, ?domain, ?place, ?run⟩
  case run =>
    simp only [exec_submissionRead, execSubmissionRead, onDev, hslot, hreads, hchan, Bool.false_eq_true, if_false]
    rfl
  all_goals rfl

/-- A host job whose result is there and waits for no record is delivered, and its tag retires (R23, R371). -/
theorem jobComplete_delivers {s : State} {tag : BitVec 16} {o : Op} (hop : opOf s.dev tag.toNat = some o)
    (hhost : isHostSrc o.req = true) (hphase : o.phase = .completing) (hproduced : o.produced = true)
    (hwait : o.waitSeq = none) :
    exec (.jobComplete tag) s = becomes s (finishChans (finishInvals (retire tag.toNat
      (deliver o.req (doneOf tag.toNat o) (noteMade o s.dev))))) := by
  simp [execJobComplete, onDev, hop, hhost, hphase, hproduced, hwait]

/-- A custodian job that waits for a reserved tag goes to admission again (R24). -/
def admitWaiting (d : Dev) : Dev :=
  match d.op.waitTag with
  | [] => d
  | q :: rest => tryAdmit q { d with op := { d.op with waitTag := rest } }

/-- An engine's job, whose result is there and waits for no record, writes its output before its slot takes the completion
(R33, R223). -/
theorem jobSlotComplete_delivers {s : State} {p : ProcId} {k : Fin 8} {t : Nat} {o : Op}
    (htag : (procOf s.dev p.val).jobs[k].tag = some t) (hop : opOf s.dev t = some o) (hphase : o.phase = .completing)
    (hproduced : o.produced = true) (hwait : o.waitSeq = none) (htrusted : o.untrusted = false) :
    exec (.jobSlotComplete p k) s =
      becomes (writeSpans (procOf s.dev p.val).jobs[k].secret (spread o.req.outPhys o.out) s)
        (admitWaiting (finishInvals (retire t (deliverSlot p.val k.val (doneOf t o) s.dev)))) := by
  have hends : (!(o.phase == .completing) || !o.produced || o.waitSeq.isSome) = false := by
    rw [hphase, hproduced, hwait]
    rfl
  simp only [exec_jobSlotComplete, execJobSlotComplete, htag, hop, hends, htrusted, Bool.false_eq_true, if_false, onDev,
    writeSpans_dev]
  rfl

/-- Settles O16: the three equations above. -/
theorem jobsComeAndGo : Obligations.JobsComeAndGo := by
  unfold Obligations.JobsComeAndGo
  refine ⟨?submission, fun _ _ _ => jobComplete_delivers, fun _ _ _ _ _ => jobSlotComplete_delivers⟩
  case submission =>
    intro s fn slot b inL outL inp c ch sl hopen hnew hidle hlive hchan
    exact submissionRead_admits rfl hopen hnew hidle hlive hchan b inL outL inp

end Sys2Proof.Machine
end

section
/-! PROOF. Reading a host function after a change of it, and what a change of one leaves. -/

namespace Sys2Proof.Machine

open Sys2Proof

/-- A command at a function that is live does what it does there. -/
theorem atFn_live {fn : BitVec 12} {s : State} (h : fnLive s.dev fn.toNat = true) (f : Nat → Dev → Dev) :
    atFn fn f s = becomes s (f fn.toNat s.dev) := by
  simp only [atFn, onDev, h, if_true]

/-- A function changed into something else than a function in its reset state reads back as changed. -/
theorem fnOf_onFn {n : Nat} {f : HostFn → HostFn} {d : Dev} (h : f (fnOf d n) ≠ {}) : fnOf (onFn n f d) n = f (fnOf d n) :=
  lookD_put_self_of_ne _ _ _ _ h

@[simp] theorem onSlot_out (fn n : Nat) (f : Slot → Slot) (d : Dev) : (onSlot fn n f d).out = d.out := rfl

@[simp] theorem emit_out (e : Emission) (d : Dev) : (emit e d).out = e :: d.out := rfl

@[simp] theorem onChan_out (c : Nat) (f : Chan → Chan) (d : Dev) : (onChan c f d).out = d.out := by
  unfold onChan
  split <;> rfl

end Sys2Proof.Machine
end

section
/-! PROOF. What the end of a delivery leaves of what the device has sent: the tag's retirement, the events that wait, the interrupt. -/

namespace Sys2Proof.Machine

open Sys2Proof

@[simp] theorem countChan_out (d : Dev) (o : Op) (up : Bool) : (countChan d o up).out = d.out := by
  unfold countChan
  split
  · rfl
  · split <;> rfl

@[simp] theorem releaseHolds_out (tag : Nat) (o : Op) (d : Dev) : (releaseHolds tag o d).out = d.out := by
  simp only [releaseHolds]
  split
  · rfl
  · split <;> rfl

@[simp] theorem retireOne_out (tag : Nat) (o : Op) (d : Dev) : (retireOne tag o d).out = d.out := by
  simp [retireOne]

@[simp] theorem settleParent_out (p : Nat) (f : Op → Op) (d : Dev) : (settleParent p f d).out = d.out := by
  simp only [settleParent]
  split
  · rfl
  · split
    · exact retireOne_out ..
    · rfl

@[simp] theorem onOp_out (tag : Nat) (f : Op → Op) (d : Dev) : (onOp tag f d).out = d.out := by
  unfold onOp
  split <;> rfl

@[simp] theorem retire_out (tag : Nat) (d : Dev) : (retire tag d).out = d.out := by
  simp only [retire]
  split
  · rfl
  · split
    · split <;> simp
    · exact onOp_out ..

@[simp] theorem endMsg_out (tag : Nat) (d : Dev) : (endMsg tag d).out = d.out :=
  retire_out tag _

@[simp] theorem pushDelivery_out (c typ : Nat) (b : Bytes) (t : Nat) (tag : Option Nat) (d : Dev) :
    (pushDelivery c typ b t tag d).out = d.out :=
  onChan_out ..

/-- Event records that leave their port stand in their channel's queue: nothing is sent yet. -/
@[simp] theorem flushEvents_out (d : Dev) : (flushEvents d).out = d.out := by
  unfold flushEvents
  generalize d.net.ports = ports
  induction ports generalizing d with
  | nil => rfl
  | cons e ports ih =>
    rw [List.foldl_cons, ih]
    split
    · rfl
    · split
      · split
        · exact pushDelivery_out ..
        · rfl
      · rfl

theorem out_subset_sendMsix (fn vec : Nat) (d : Dev) : d.out ⊆ (sendMsix fn vec d).out := by
  unfold sendMsix
  split
  · exact List.Subset.refl _
  · split
    · exact List.Subset.refl _
    · exact List.subset_cons_self ..

theorem out_subset_dueDelivery (fn n : Nat) (d : Dev) : d.out ⊆ (dueDelivery fn n d).out := by
  simp only [dueDelivery]
  split
  · exact out_subset_sendMsix fn _ (onSlot fn n _ d)
  · exact List.Subset.refl _

end Sys2Proof.Machine
end

section
/-! PROOF. Rings of the host functions: doorbells, deliveries into posted buffers, deliveries that fail or wait too long (R363, R369,
R370). -/

namespace Sys2Proof.Machine

open Sys2Proof

/-! Doorbells. -/

/-- Entries of the ring that a doorbell points into: 0 SQ_TAIL, 1 BQ_TAIL, 2 DQ_HEAD. -/
def bellSize (sl : Slot) (which : Nat) : Nat := if which = 0 then sqSize sl else dqSize sl

section
variable {d : Dev} {fn n which v : Nat}

/-- A doorbell of a slot that is not open or not there, or a value that is none of its ring's, is discarded and counted. -/
theorem ringBell_refused (h : slotCount fn ≤ n ∨ (slotOf d fn n).state ≠ .opened ∨ bellSize (slotOf d fn n) which ≤ v) :
    ringBell fn n which v d = badAccess fn 1 d := by
  have hbad : slotCount fn ≤ n ∨ (!((slotOf d fn n).state == .opened)) = true ∨ bellSize (slotOf d fn n) which ≤ v ∨
      65536 ≤ v := by
    rcases h with h | h | h
    · exact .inl h
    · exact .inr (.inl (by simpa using h))
    · exact .inr (.inr (.inl h))
  exact if_pos hbad

/-- Any other doorbell moves its pointer; room for deliveries lets the events that wait go on. -/
theorem ringBell_rung (hslot : n < slotCount fn) (hopen : (slotOf d fn n).state = .opened)
    (hsize : v < bellSize (slotOf d fn n) which) (hv : v < 65536) :
    ringBell fn n which v d =
      if which = 0 then onSlot fn n (fun x => { x with sqTail := v }) d
      else if which = 1 then flushEvents (onSlot fn n (fun x => { x with bqTail := v }) d)
      else flushEvents (onSlot fn n (fun x => { x with dqHead := v }) d) := by
  have hgood : ¬ (slotCount fn ≤ n ∨ (!((slotOf d fn n).state == .opened)) = true ∨ bellSize (slotOf d fn n) which ≤ v ∨
      65536 ≤ v) := by
    rintro (h | h | h | h)
    · omega
    · simp [hopen] at h
    · omega
    · omega
  exact if_neg hgood

end

section
variable {s : State} {fn : BitVec 12} (hlive : fnLive s.dev fn.toNat = true) (slot : BitVec 12) (v : BitVec 32)
include hlive

theorem sqTailWrite_live : exec (.sqTailWrite fn slot v) s = becomes s (ringBell fn.toNat slot.toNat 0 v.toNat s.dev) :=
  atFn_live hlive fun n => ringBell n slot.toNat 0 v.toNat

theorem bqTailWrite_live : exec (.bqTailWrite fn slot v) s = becomes s (ringBell fn.toNat slot.toNat 1 v.toNat s.dev) :=
  atFn_live hlive fun n => ringBell n slot.toNat 1 v.toNat

theorem dqHeadWrite_live : exec (.dqHeadWrite fn slot v) s = becomes s (ringBell fn.toNat slot.toNat 2 v.toNat s.dev) :=
  atFn_live hlive fun n => ringBell n slot.toNat 2 v.toNat

end

/-! Deliveries. -/

/-- One posted buffer of a length in range that holds `n` bytes is enough, and the only one taken. -/
theorem takeBufs_one {addr len n : Nat} (size : Nat) (hmin : 256 ≤ len) (hmax : len ≤ 65536) (hfits : n ≤ len) :
    takeBufs [(addr, len)] size n [] 0 0 none = some ([(addr, len)], 1, 0, 0) := by
  have hlen : ¬ (len < 256 ∨ 65536 < len) := by omega
  simp [takeBufs, hlen, Nat.sub_eq_zero_of_le hfits]

/-- Data that one span holds is written to it whole. -/
theorem spread_one {addr len : Nat} {b : Bytes} (hb : 1 ≤ b.length) (hfits : b.length ≤ len) :
    spread [(addr, len)] b = [(addr, b)] := by
  have hne : b.isEmpty = false := List.isEmpty_eq_false_iff.mpr (List.ne_nil_of_length_pos hb)
  simp [spread, hne, List.take_of_length_le hfits]

/-- What follows the writes of a delivery that used `used` posted buffers of slot `sn`: the rings and the channel's sequence move
on, the delivery interrupt is due, and its message ends or the events that wait go on (R369, R383). -/
def deliveryWritten (c fn sn used : Nat) (ch : Chan) (x : Delivery) (rest : List Delivery) (d : Dev) : Dev :=
  let d := onSlot fn sn (fun y =>
    { y with bqNext := (y.bqNext + used) % dqSize y, dqTail := (y.dqTail + 1) % dqSize y,
             dqPass := if y.dqTail + 1 = dqSize y then y.dqPass + 1 else y.dqPass, lastDseq := ch.nextDseq }) d
  let d := onChan c (fun ch => { ch with deliveries := rest, nextDseq := w32 (ch.nextDseq + 1) }) d
  let d := dueDelivery fn sn d
  match x.tag with
  | some t => endMsg t d
  | none => flushEvents d

/-- What the delivery wrote has been sent. -/
theorem out_subset_deliveryWritten {c fn sn used : Nat} {ch : Chan} {x : Delivery} {rest : List Delivery} {d : Dev} :
    d.out ⊆ (deliveryWritten c fn sn used ch x rest d).out := by
  have hdue (f : Slot → Slot) (g : Chan → Chan) : d.out ⊆ (dueDelivery fn sn (onChan c g (onSlot fn sn f d))).out := by
    simpa using out_subset_dueDelivery fn sn (onChan c g (onSlot fn sn f d))
  simp only [deliveryWritten]
  split
  · rw [endMsg_out]
    exact hdue ..
  · rw [flushEvents_out]
    exact hdue ..

section
variable {s : State} {c fn sn : Nat} {ch : Chan} {x : Delivery} {rest : List Delivery} {sl : Slot}
  (hchan : look s.dev.host.chans c = some ch) (hkind : ch.kind = .slot fn sn) (hwaits : ch.deliveries = x :: rest)
include hchan hkind hwaits

/-- A message that has waited 100 ms for its delivery is dropped and counted (R370). -/
theorem deliveryTimeout_drops {t : Nat} (htag : x.tag = some t) :
    exec (.deliveryTimeout c) s = becomes s (endMsg t (countDeliveryDrop fn
      (onChan c (fun ch => { ch with deliveries := rest }) (reach (x.since + ms 100) s.dev)))) := by
  simp only [exec_deliveryTimeout, execDeliveryTimeout, onDev, hchan, hkind, hwaits, htag]

variable (hslot : slotOf s.dev fn sn = sl) (htakes : takesDeliveries sl = true) (hclosing : ch.closing = none)
  (hlive : fnLive s.dev fn = true)
include hslot htakes hclosing hlive

/-- A read of the buffer ring that fails stops the channel with cause 2 (R369). -/
theorem delivery_read_fails {r : ReadResult} (hr : r.get? = none) :
    exec (.delivery c r) s = becomes s (onSlot fn sn (fun y => { y with state := .error, cause := 2 }) s.dev) := by
  cases r with
  | bytes b => cases hr
  | error | poisoned => simp [execDelivery, onDev, hchan, hkind, hwaits, hslot, htakes, hclosing, hlive]

/-- A delivery that one posted buffer holds fills it and writes its record at the ring's tail (R369). -/
theorem delivery_fills_buffer {b : Bytes} {addr len : Nat} (hbufs : 1 ≤ freeBufs sl) (hentries : 1 ≤ freeEntries sl)
    (hb : b.length = 16) (haddr : leAt b 0 8 = addr) (hlen : leAt b 8 4 = len) (hmin : 256 ≤ len) (hmax : len ≤ 65536)
    (hfits : x.data.length ≤ len) (hdata : 1 ≤ x.data.length) :
    exec (.delivery c (.bytes b)) s = becomes s (deliveryWritten c fn sn 1 ch x rest
      (emit (.hostWrite fn (sl.dqBase + 32 * sl.dqTail)
        (deliveryRecord x 1 (chanHandle c ch) (sl.bqNext % dqSize sl) ch.nextDseq (sl.dqPass % 2 == 0)))
      (emit (.hostWrite fn addr x.data) s.dev))) := by
  have hread : (List.range (min (freeBufs sl) (b.length / 16))).map (fun i => (leAt b (16 * i) 8, leAt b (16 * i + 8) 4)) =
      [(addr, len)] := by
    rw [hb, Nat.min_eq_right hbufs, ← haddr, ← hlen]
    rfl
  have hroom : ¬ freeEntries sl = 0 := by omega
  simp only [exec_delivery, execDelivery, onDev, hchan, hkind, hwaits, hslot, htakes, hclosing, hlive, hread, if_neg hroom,
    takeBufs_one (dqSize sl) hmin hmax hfits, spread_one hdata hfits]
  rfl

end

end Sys2Proof.Machine
end

section
/-! PROOF. Registers and interrupts of the host functions (R355-R360, R362, R382, R383). -/

namespace Sys2Proof.Machine

open Sys2Proof

/-! Reads. -/

/-- The bytes of a number, each by its place. -/
theorem le_eq_map_range (n v : Nat) : le n v = (List.range n).map (fun i => BitVec.ofNat 8 (v / 256 ^ i % 256)) := by
  induction n generalizing v with
  | zero => rfl
  | succ n ih =>
    have hfirst : BitVec.ofNat 8 v = BitVec.ofNat 8 (v % 256) := BitVec.eq_of_toNat_eq (by simp)
    rw [le, ih, List.range_succ_eq_map, List.map_cons, List.map_map, hfirst]
    simp only [Nat.pow_zero, Nat.div_one, List.cons.injEq, true_and]
    exact List.map_congr_left fun i _ => by rw [Nat.div_div_eq_div_mul, ← Nat.pow_succ']; rfl

theorem badAccessAt_physical {fn : Nat} (h : fn < 4) : badAccessAt fn = 0x14 := if_pos h

theorem badAccessAt_virtual {fn : Nat} (h : ¬ fn < 4) : badAccessAt fn = 0x6010 := if_neg h

/-- BAD_ACCESS stands in a function's BAR0 as a register of four bytes. -/
theorem barAt_badAccess (fn : Nat) {i : Nat} (hi : i < 4) : barAt fn (badAccessAt fn + i) = .fixed 4 := by
  by_cases hfn : fn < 4
  · rw [badAccessAt_physical hfn, barAt, if_pos hfn, if_pos (by omega), if_neg (by omega)]
  · rw [badAccessAt_virtual hfn, barAt, if_neg hfn, if_neg (by omega), if_neg (by omega), if_neg (by omega), if_pos (by omega),
      if_neg (by omega)]

theorem fixedReg_badAccess (d : Dev) (fn : Nat) {i : Nat} (hi : i < 4) :
    fixedReg d fn (badAccessAt fn + i) = ((fnOf d fn).badAccess, badAccessAt fn) := by
  by_cases hfn : fn < 4
  · rw [badAccessAt_physical hfn, fixedReg, if_pos hfn, if_neg (by omega), if_neg (by omega), if_neg (by omega),
      if_neg (by omega), if_pos (by omega)]
  · rw [badAccessAt_virtual hfn, fixedReg, if_neg hfn, if_neg (by omega), if_neg (by omega), if_neg (by omega),
      if_neg (by omega), if_neg (by omega), if_neg (by omega), if_pos (by omega)]

theorem barByte_badAccess (d : Dev) (fn : Nat) {i : Nat} (hi : i < 4) :
    barByte d fn (badAccessAt fn + i) = (fnOf d fn).badAccess / 256 ^ i % 256 := by
  simp only [barByte, barAt_badAccess fn hi, fixedReg_badAccess d fn hi, Nat.add_sub_cancel_left]

theorem badAccessAt_mod (fn : Nat) : badAccessAt fn % 2 ^ 23 = badAccessAt fn := by
  unfold badAccessAt
  split <;> rfl

/-- A read of BAD_ACCESS answers it and clears it (R356, R357, R359). -/
theorem barRead_badAccess (fn : Nat) (d : Dev) :
    barRead fn (badAccessAt fn) 4 d =
      onFn fn (fun h => { h with badAccess := 0 }) (emit (.readBytes (le 4 (fnOf d fn).badAccess)) d) := by
  have hbytes : (List.range 4).map (fun i => BitVec.ofNat 8 (barByte d fn (badAccessAt fn + i))) =
      le 4 (fnOf d fn).badAccess := by
    rw [le_eq_map_range]
    exact List.map_congr_left fun i hi => by rw [barByte_badAccess d fn (List.mem_range.mp hi)]
  simp only [barRead, hbytes, Nat.le_refl, and_self, if_true]

/-- A read that leaves out a byte of BAD_ACCESS clears nothing (R359; log entry 271). -/
theorem barRead_other {fn off n : Nat} (h : badAccessAt fn < off ∨ off + n < badAccessAt fn + 4) (d : Dev) :
    barRead fn off n d =
      emit (.readBytes ((List.range n).map (fun i => BitVec.ofNat 8 (barByte d fn (off + i))))) d :=
  if_neg (by omega)

theorem badAccessRead_live {s : State} {fn : BitVec 12} (hlive : fnLive s.dev fn.toNat = true) (off : BitVec 23) (w : BitVec 7) :
    exec (.badAccessRead ⟨fn, off, w⟩) s = becomes s (barRead fn.toNat off.toNat w.toNat s.dev) :=
  atFn_live hlive fun n => barRead n off.toNat w.toNat

/-! Interrupts. -/

section
variable {s : State} {fn : BitVec 12} (hlive : fnLive s.dev fn.toNat = true)
include hlive

theorem msixUnmask_live {vec : BitVec 11} (hvec : vec.toNat < vecCount fn.toNat) :
    exec (.msixUnmask fn vec) s = becomes s (unmask fn.toNat vec.toNat s.dev) := by
  rw [exec_msixUnmask, execMsixUnmask, atFn_live hlive, if_neg (Nat.not_le_of_lt hvec)]

variable {slot : BitVec 12} {sl : Slot} (hslot : slotOf s.dev fn.toNat slot.toNat = sl) (htime : coalTime sl ≠ 0)
include hslot htime

/-- TIME after its first due completion, a slot's completion message is sent (R383). -/
theorem msixCoalTimer_completion (hdue : sl.cqDue ≠ 0) :
    exec (.msixCoalTimer fn slot false) s = becomes s (sendMsix fn.toNat (fieldOf sl.vector 0 11)
      (onSlot fn.toNat slot.toNat (fun x => { x with cqDue := 0 }) (reach (sl.cqSince + coalTime sl) s.dev))) := by
  simp only [exec_msixCoalTimer, execMsixCoalTimer, atFn_live hlive, hslot, if_neg htime, Bool.false_eq_true, if_false,
    if_neg hdue]

/-- TIME after its first due delivery, a slot's delivery message is sent (R383). -/
theorem msixCoalTimer_delivery (hdue : sl.dqDue ≠ 0) :
    exec (.msixCoalTimer fn slot true) s = becomes s (sendMsix fn.toNat (fieldOf sl.vector 16 11)
      (onSlot fn.toNat slot.toNat (fun x => { x with dqDue := 0 }) (reach (sl.dqSince + coalTime sl) s.dev))) := by
  simp only [exec_msixCoalTimer, execMsixCoalTimer, atFn_live hlive, hslot, if_neg htime, if_true, if_neg hdue]

end

/-! Writes. -/

section
variable {s : State} {fn : BitVec 12} (hlive : fnLive s.dev fn.toNat = true) (off : BitVec 23) (b : Bytes)
include hlive

/-- A poisoned write is discarded whole and counted once (R360). -/
theorem registerWrite_poisoned : exec (.registerWrite fn off b true) s = becomes s (badAccess fn.toNat 1 s.dev) :=
  atFn_live hlive fun n d => badAccess n 1 d

theorem registerWrite_sound :
    exec (.registerWrite fn off b false) s = becomes s (applyWrite fn.toNat 64 off.toNat (b.take 64) s.dev) :=
  atFn_live hlive fun n => applyWrite n 64 off.toNat (b.take 64)

end

section
variable {fn n : Nat} (hfn : fn < 4)
include hfn

theorem barAt_bell {which : Nat} (hn : n < 4096) (hwhich : which < 3) :
    barAt fn (0x100000 + 16 * n + 4 * which) = .bell n which := by
  have hslot : (0x100000 + 16 * n + 4 * which - 0x100000) / 16 = n := by omega
  have hplace : (0x100000 + 16 * n + 4 * which) % 16 / 4 = which := by omega
  rw [barAt, if_pos hfn, if_neg (by omega), if_neg (by omega), if_neg (by omega), if_pos (by omega), bellAt, hslot, hplace,
    if_neg (by omega)]

theorem barAt_slotReg {k : Nat} (hn : n < 4096) (hk : k < 4) :
    barAt fn (0x200000 + 64 * n + 8 * k) = .slotReg n (8 * k) := by
  have hslot : (0x200000 + 64 * n + 8 * k - 0x200000) / 64 = n := by omega
  have hplace : (0x200000 + 64 * n + 8 * k) % 64 = 8 * k := by omega
  have hwhole : 8 * k / 8 * 8 = 8 * k := by omega
  rw [barAt, if_pos hfn, if_neg (by omega), if_neg (by omega), if_neg (by omega), if_neg (by omega), if_pos (by omega), slotAt,
    hslot, hplace, if_pos (by omega), if_pos (by omega), hwhole]

/-- The map of a physical function names nothing between the slots and the vectors (R355). -/
theorem barAt_reserved {o : Nat} (hlow : 0x240000 ≤ o) (hhigh : o < 0x400000) : barAt fn o = .reserved := by
  rw [barAt, if_pos hfn, if_neg (by omega), if_neg (by omega), if_neg (by omega), if_neg (by omega), if_neg (by omega),
    if_neg (by omega), if_neg (by omega)]

end

section
variable {fn o : Nat} {b : Bytes} {d : Dev} (fuel : Nat)

/-- Nothing is left of a write whose bytes have all been applied. -/
@[simp] theorem applyWrite_nil : applyWrite fn fuel o [] d = d := by cases fuel <;> rfl

/-- A whole aligned write of a doorbell rings it. -/
theorem applyWrite_bell {n which : Nat} (hat : barAt fn o = .bell n which) (ho : o % 4 = 0) (hb : b.length = 4) :
    applyWrite fn (fuel + 1) o b d = ringBell fn n which (leVal b) d := by
  have hrun : regRun 4 o 4 = 4 := by simp [regRun, ho]
  match b, hb with
  | x :: xs, hb =>
    simp only [applyWrite, hat, hb, hrun, ho, List.take_of_length_le (Nat.le_of_eq hb), List.drop_of_length_le (Nat.le_of_eq hb),
      applyWrite_nil]
    rfl

/-- A write of the eight bytes of a slot register writes both of its halves. -/
theorem applyWrite_slotReg {n off : Nat} (hat : barAt fn o = .slotReg n off) (hoff : off < 0x20) (ho : o % 64 = off)
    (halign : o % 8 = 0) (hb : b.length = 8) :
    applyWrite fn (fuel + 1) o b d = writeSlotReg fn n off 0 b d := by
  have hrun : regRun 8 o 8 = 8 := by simp [regRun, halign]
  match b, hb with
  | x :: xs, hb =>
    simp only [applyWrite, hat, hb, if_pos hoff, hrun, ho, Nat.sub_self, List.take_of_length_le (Nat.le_of_eq hb),
      List.drop_of_length_le (Nat.le_of_eq hb), applyWrite_nil]

/-- Where every entry passes a test, the entries up to the first that fails it are all of them. -/
theorem takeWhile_eq_self {α : Type} {p : α → Bool} {l : List α} (h : ∀ a ∈ l, p a = true) : l.takeWhile p = l := by
  simpa only [List.append_nil, List.takeWhile_nil] using List.takeWhile_append_of_pos (l₂ := []) h

/-- A write that falls on reserved offsets only is discarded and counted once (R360). -/
theorem applyWrite_reserved (hat : ∀ i < b.length, barAt fn (o + i) = .reserved) (hb : 1 ≤ b.length) :
    applyWrite fn (fuel + 1) o b d = badAccess fn 1 d := by
  have hrun : ((List.range b.length).takeWhile (fun i => barAt fn (o + i) == .reserved)).length = b.length := by
    rw [takeWhile_eq_self fun i hi => by rw [hat i (List.mem_range.mp hi)]; rfl, List.length_range]
  match b, hat, hb, hrun with
  | x :: xs, hat, hb, hrun =>
    simp only [applyWrite, show barAt fn o = .reserved from hat 0 hb, hrun, Nat.max_eq_right hb, List.drop_length, applyWrite_nil]

/-- A whole write of a 64-bit register of a free slot commits it, whatever half was held (R360, R362). -/
theorem writeSlotReg_whole {n off : Nat} (hfree : (slotOf d fn n).state = .free) (hoff : off < 0x20) (hb : b.length = 8) :
    writeSlotReg fn n off 0 b d = onFn fn (fun h => { h with lowHalf := del h.lowHalf (n * 64 + off) })
      (onSlot fn n (putSlotReg off (leVal b)) d) := by
  simp [writeSlotReg, hfree, Nat.not_le_of_lt hoff, hb]

end

end Sys2Proof.Machine
end

section
/-! PROOF. The rings and the registers of the host functions together. -/

namespace Sys2Proof.Machine

open Sys2Proof

/-- Settles O34: the doorbells, the deliveries, then the registers by their places in BAR0. -/
theorem hostRingsAndRegisters : Obligations.HostRingsAndRegisters := by
  unfold Obligations.HostRingsAndRegisters
  refine ⟨⟨?bells, ?deliveries⟩, ?registers⟩
  case bells =>
    intro s fn slot v hlive sl puts bad
    simp only [puts, bad, sqTailWrite_live hlive, bqTailWrite_live hlive, dqHeadWrite_live hlive]
    have hrefused (which : Nat) (h : slotCount fn.toNat ≤ slot.toNat ∨ sl.state ≠ .opened ∨ bellSize sl which ≤ v.toNat) :
        becomes s (ringBell fn.toNat slot.toNat which v.toNat s.dev) = becomes s (badAccess fn.toNat 1 s.dev) :=
      congrArg (becomes s) (ringBell_refused h)
    refine ⟨fun hslot hopen => ⟨fun hsize hv => ?sq, fun hsize hv => ⟨?bq, ?dq⟩⟩, fun h => ?closed,
      fun h => hrefused 0 (.inr (.inr h)), fun h => ⟨hrefused 1 (.inr (.inr h)), hrefused 2 (.inr (.inr h))⟩⟩
    case sq | bq | dq => exact congrArg (becomes s) (ringBell_rung hslot hopen hsize hv)
    case closed =>
      have h : slotCount fn.toNat ≤ slot.toNat ∨ sl.state ≠ .opened := h.symm
      exact ⟨hrefused 0 (or_assoc.mp (.inl h)), hrefused 1 (or_assoc.mp (.inl h)), hrefused 2 (or_assoc.mp (.inl h))⟩
  case deliveries =>
    intro s c ch fn sn x rest hchan hkind hwaits sl
    refine ⟨fun htakes hclosing hlive =>
      ⟨fun r => delivery_read_fails hchan hkind hwaits rfl htakes hclosing hlive, ?fills⟩,
      fun t => deliveryTimeout_drops hchan hkind hwaits⟩
    case fills =>
      intro b addr len hbufs hentries hb haddr hlen hmin hmax hfits hdata
      refine ⟨_, delivery_fills_buffer hchan hkind hwaits rfl htakes hclosing hlive hbufs hentries hb haddr hlen hmin hmax hfits
        hdata, out_subset_deliveryWritten ?_, out_subset_deliveryWritten ?_⟩
      · exact List.mem_cons_self
      · exact List.mem_cons_of_mem _ List.mem_cons_self
  case registers =>
    intro s fn slot vec off b hlive n sl
    refine ⟨?badAccess, ?otherReads, msixUnmask_live hlive,
      fun htime => ⟨msixCoalTimer_completion hlive rfl htime, msixCoalTimer_delivery hlive rfl htime⟩,
      registerWrite_poisoned hlive off b, ?bell, ?slotReg, ?reserved⟩
    case badAccess =>
      rw [badAccessRead_live hlive, BitVec.toNat_ofNat, badAccessAt_mod]
      exact congrArg (becomes s) (barRead_badAccess n s.dev)
    case otherReads =>
      intro w h
      refine ⟨_, ?_, (badAccessRead_live hlive off w).trans (congrArg (becomes s) (barRead_other h s.dev))⟩
      rw [List.length_map, List.length_range]
    case bell =>
      intro hn hb which hoff
      have hat := barAt_bell hn slot.isLt which.isLt
      rw [registerWrite_sound hlive, List.take_of_length_le (by omega), hoff, applyWrite_bell _ hat (by omega) hb]
    case slotReg =>
      intro hn hb hfree k hoff
      have hat := barAt_slotReg hn slot.isLt k.isLt
      rw [registerWrite_sound hlive, List.take_of_length_le (by omega), hoff,
        applyWrite_slotReg _ hat (by omega) (by omega) (by omega) hb, writeSlotReg_whole hfree (by omega) hb]
    case reserved =>
      intro hn hb hoff
      rw [registerWrite_sound hlive, List.take_of_length_le (by omega), hoff,
        applyWrite_reserved _ (fun i hi => barAt_reserved hn (by omega) (by omega)) (by omega)]

end Sys2Proof.Machine
end

section
/-! PROOF. Requests in the mailbox of a host function: what the request taken up leaves, then each request on channels (R361, R364,
R365, R374, R376, R377). -/

namespace Sys2Proof.Machine

open Sys2Proof

/-- A function whose request has been taken up is not in its reset state. -/
theorem ne_reset_of_mbTaken {h : HostFn} (ht : h.mbTaken = true) : h ≠ {} := by
  rintro rfl
  cases ht

/-- The device once the descriptor of a JOB request has been copied from the mailbox (R377). -/
def descriptorTaken (fn : BitVec 12) (seq : BitVec 32) (desc : Bytes) (d : Dev) : Dev :=
  onFn fn.toNat (fun h => { h with mbox := mboxPut 0x10 desc h.mbox }) (mailTaken fn seq d)

/-- The records of a channel held in a window, but for those in memory that has failed (R376). -/
def redeliverable (d : Dev) (handle first count : Nat) (ch : Chan) : List (Nat × HeldRec) :=
  (heldIn ch first count).filter (fun e => !poisonedAt (heldEntry (handle / 65536) e.2.seq) 32 d)

section
variable {s : State} {fn : BitVec 12} {seq : BitVec 32}

/-- A request that reaches its function is taken up and runs (R374). -/
theorem mailRequest_ready (h : MailReady s fn seq) (f : Nat → Dev → Dev) :
    mailRequest fn seq f s = becomes s (f fn.toNat (mailTaken fn seq s.dev)) := by
  obtain ⟨hlive, htaken, hbusy⟩ := h
  rw [mailRequest, atFn_live hlive]
  refine congrArg (becomes s) (if_neg ?_)
  rcases hbusy with hbusy | hbusy <;> simp [htaken, hbusy]

variable (fn seq) (d : Dev)

/-- The function's other registers stand while its request is served. -/
theorem fnOf_mailTaken : fnOf (mailTaken fn seq d) fn.toNat =
    { fnOf d fn.toNat with mbBusy := some seq.toNat, mbTaken := true } :=
  fnOf_onFn (ne_reset_of_mbTaken rfl)

@[simp] theorem fnOf_mailTaken_abi : (fnOf (mailTaken fn seq d) fn.toNat).abi = (fnOf d fn.toNat).abi := by
  rw [fnOf_mailTaken]

@[simp] theorem mailTaken_life : (mailTaken fn seq d).life = d.life := rfl
@[simp] theorem unboundVf_mailTaken (n : Nat) : unboundVf (mailTaken fn seq d) n = unboundVf d n := rfl
@[simp] theorem chansOf_mailTaken (n : Nat) : chansOf (mailTaken fn seq d) n = chansOf d n := rfl
@[simp] theorem ownChan_mailTaken (n h : Nat) : ownChan (mailTaken fn seq d) n h = ownChan d n h := rfl

theorem fnOf_descriptorTaken (desc : Bytes) : fnOf (descriptorTaken fn seq desc d) fn.toNat =
    { fnOf d fn.toNat with
      mbBusy := some seq.toNat, mbTaken := true, mbox := mboxPut 0x10 desc (fnOf d fn.toNat).mbox } := by
  rw [descriptorTaken, fnOf_onFn, fnOf_mailTaken]
  rw [fnOf_mailTaken]
  exact ne_reset_of_mbTaken rfl

end

section
variable {s : State} {fn : BitVec 12} {seq : BitVec 32} (hready : MailReady s fn seq)
include hready

/-! NEGOTIATE. -/

section
variable {versions : BitVec 32} (hchans : chansOf s.dev fn.toNat = [])
include hchans

/-- A host that offers version 3 gets it (R377). -/
theorem negotiate_three (h3 : bitOf versions.toNat 3 = true) :
    exec (.negotiate fn seq versions) s = becomes s (answerMailbox fn.toNat .ok (le 1 3)
      (onFn fn.toNat (fun h => { h with abi := 3 }) (mailTaken fn seq s.dev))) := by
  simp [execNegotiate, mailRequest_ready hready, negotiate, h3, hchans]

/-- One that offers no higher than version 1 gets that, with a channel of its domain (R377). -/
theorem negotiate_one (h3 : bitOf versions.toNat 3 = false) (h1 : bitOf versions.toNat 1 = true) {dom c h : Nat} {e : Dev}
    (hdom : implicitDomain (mailTaken fn seq s.dev) fn.toNat = some dom)
    (hopen : openChan (.implicit fn.toNat) dom 16 0 (mailTaken fn seq s.dev) = some (c, h, e)) :
    exec (.negotiate fn seq versions) s = becomes s (answerMailbox fn.toNat .ok (le 1 1)
      (onFn fn.toNat (fun h => { h with abi := 1 }) (onFn fn.toNat (fun h => { h with implicitChan := some c }) e))) := by
  simp [execNegotiate, mailRequest_ready hready, negotiate, h3, h1, hchans, hdom, hopen]

end

/-! Requests under version 3. -/

variable (hup : s.dev.life.hobbled = false)
include hup

/-- A CHANNEL_OPEN whose checks pass opens its slot with its registers as they stand and answers the handle (R361, R364). -/
theorem channelOpen_opens {slot share dom resv : BitVec 16} {kib : BitVec 32} {dm c h : Nat} {e : Dev}
    (hdomain : (if fn.toNat < 4 then dom.toNat else vfDomain (mailTaken fn seq s.dev) fn.toNat) = dm)
    (hok : openStatus fn.toNat slot.toNat share.toNat dom.toNat resv.toNat kib.toNat (mailTaken fn seq s.dev) = .ok)
    (hopen : openChan (.slot fn.toNat slot.toNat) dm share.toNat (kib.toNat * 1024) (mailTaken fn seq s.dev) = some (c, h, e)) :
    exec (.channelOpen fn seq slot share dom resv kib) s = becomes s (answerMailbox fn.toNat .ok (le 4 h)
      (raise (srcFn fn.toNat) 0x0220 dm (actorFn fn.toNat) [(4, h), (2, fn.toNat)] (onSlot fn.toNat slot.toNat (fun x =>
        { sqBase := x.sqBase, cqBase := x.cqBase, bqBase := x.bqBase, dqBase := x.dqBase, sizes := x.sizes,
          vector := x.vector, coal := x.coal, ctl := x.ctl, handle := h, state := .opened }) e))) := by
  simp only [exec_channelOpen, execChannelOpen, mailRequest_ready hready, mailTaken_life, hup, Bool.false_eq_true, if_false, hok,
    hdomain, hopen]

section
variable {handle : BitVec 32} {c sn : Nat} {ch : Chan} (habi : (fnOf s.dev fn.toNat).abi = 3)
  (hbound : unboundVf s.dev fn.toNat = false) (hchan : ownChan s.dev fn.toNat handle.toNat = some (c, ch, sn))
include habi hbound hchan

/-- CHANNEL_CLOSE closes the slot of an open channel; the channel ends once its jobs have (R365). -/
theorem channelClose_closes (hcust : s.dev.life.custUp = true) (hopen : ch.closing = none) :
    exec (.channelClose fn seq handle) s = becomes s (finishClose c
      (onChan c (fun ch => { ch with closing := some s.dev.tb.now })
        (onSlot fn.toNat sn (fun x => { x with state := .closing }) (mailTaken fn seq s.dev)))) := by
  simp only [exec_channelClose, execChannelClose, mailRequest_ready hready, mailTaken_life, hup, fnOf_mailTaken_abi, habi,
    unboundVf_mailTaken, hbound, hcust, ownChan_mailTaken, hchan, hopen]
  rfl

/-- REDELIVER writes the held records of its window again, then counts and answers them (R376). -/
theorem redeliver_rewrites {first : BitVec 32} {count flags : BitVec 16} {dest : BitVec 64} {r : HeldRec} {rest : List HeldRec}
    (hflags : flags.toNat ≤ 1) (hmin : 1 ≤ count.toNat) (hmax : count.toNat ≤ 256) (hheld : ch.held = r :: rest) :
    let es := redeliverable (mailTaken fn seq s.dev) handle.toNat first.toNat count.toNat ch
    let e := es.foldl (fun d e => rewrite fn.toNat dest.toNat (flags.getLsbD 0) e d) (mailTaken fn seq s.dev)
    ∃ bits, exec (.redeliver fn seq handle first count flags dest) s = becomes s
      (answerMailbox fn.toNat .ok (le 2 es.length ++ le 2 0 ++ le 4 r.seq ++ le 4 (slotOf e fn.toNat sn).lastSeq ++ le 32 bits)
        (bumpBy es.length (dk (0x3800 + linkOf e fn.toNat) 0x12) e)) := by
  have hformat : ¬ 1 < flags.toNat := Nat.not_lt_of_le hflags
  have hlength : ¬ (count.toNat = 0 ∨ 256 < count.toNat) := by omega
  intro es e
  refine ⟨?bits, ?run⟩
  case run =>
    simp only [exec_redeliver, execRedeliver, mailRequest_ready hready, mailTaken_life, hup, fnOf_mailTaken_abi, habi,
      if_neg hformat, if_neg hlength, unboundVf_mailTaken, hbound, ownChan_mailTaken, hchan, hheld]
    rfl

end

/-! JOB under version 1. -/

/-- A job of version 1 goes to admission in the domain of the function's implicit channel (R377). -/
theorem mailboxJob_admits {desc : Bytes} {c : Nat} {ch : Chan} (habi : (fnOf s.dev fn.toNat).abi = 1)
    (hbound : unboundVf s.dev fn.toNat = false) (hvf : 4 ≤ fn.toNat) (hdesc : desc.length = 64)
    (himplicit : (fnOf s.dev fn.toNat).implicitChan = some c) (hchan : look s.dev.host.chans c = some ch) (input : ReadResult) :
    ∃ r : Req, r.src = .mailbox fn.toNat ∧ r.job = Job.ofBytes desc ∧ r.domain = ch.domain ∧
      exec (.mailboxJob fn seq desc input) s = becomes s (tryAdmit r
        (descriptorTaken fn seq desc s.dev)) := by
  have hgranted : (unboundVf (descriptorTaken fn seq desc s.dev) fn.toNat ||
      !(decide (4 ≤ fn.toNat) || (firstBelow 4096 (pfGrants (descriptorTaken fn seq desc s.dev) fn.toNat)).isSome)) = false := by
    rw [decide_eq_true hvf]
    exact Bool.or_eq_false_iff.mpr ⟨hbound, rfl⟩
  have hfound : (fnOf (descriptorTaken fn seq desc s.dev) fn.toNat).implicitChan.bind
      (look (descriptorTaken fn seq desc s.dev).host.chans) = some ch := by
    rw [fnOf_descriptorTaken, himplicit]
    exact hchan
  simp only [descriptorTaken] at hgranted hfound
  refine ⟨?request, ?src, ?job, ?domain, ?run⟩
  case run =>
    simp only [exec_mailboxJob, execMailboxJob, mailRequest_ready hready, mailTaken_life, hup, fnOf_mailTaken_abi, habi, hdesc,
      beq_self_eq_true, Bool.not_true, hgranted, hfound, Bool.false_eq_true, if_false]
    rfl
  all_goals rfl

end

/-! The end of a channel that closes. -/

/-- A job squashed at the end of its channel: its completion is written and its tag retires (R365). -/
def endUnfinished (d : Dev) (t : Nat) : Dev :=
  match opOf (squash t d) t with
  | none => squash t d
  | some o => retire t (deliver o.req (doneOf t o) (squash t d))

/-- Where no request waits for the admission that a test names, dropping them changes nothing. -/
theorem dropRequests_of_none {p : Req → Bool} {d : Dev} (h : waitingOf p d = []) : dropRequests p d = d := by
  obtain ⟨hfill, hlease⟩ := List.append_eq_nil_iff.mp h
  have hkeep {l : List Req} (hl : l.filter p = []) : l.filter (fun q => !p q) = l :=
    List.filter_eq_self.mpr fun q hq => by simpa using List.filter_eq_nil_iff.mp hl q hq
  simp only [dropRequests, hkeep hfill, hkeep hlease]

/-- 20 ms after CHANNEL_CLOSE, what the channel's jobs have not finished is squashed (R365). -/
theorem channelCloseSquash_ends {s : State} {c : BitVec 16} {ch : Chan} {t : Nat}
    (hchan : look s.dev.host.chans c.toNat = some ch) (hclosing : ch.closing = some t) :
    let d := reach (t + ms 20) s.dev
    let mine := fun (q : Req) => srcChan d q.src == some c.toNat
    waitingOf mine d = [] → exec (.channelCloseSquash c) s = becomes s (finishChans (finishInvals
      ((tagsWhere (fun o => mine o.req && !(o.phase == .completing)) d).foldl endUnfinished d))) := by
  intro d mine hnone
  have hdrop : dropRequests mine d = d := dropRequests_of_none hnone
  simp only [d, mine] at hnone hdrop
  simp only [exec_channelCloseSquash, execChannelCloseSquash, onDev, hchan, hclosing, hnone, List.foldl_nil, hdrop]
  rfl

/-- Settles O35: the equation of each request, then the end of a channel that closes. -/
theorem channelRequests : Obligations.ChannelRequests := by
  unfold Obligations.ChannelRequests
  refine ⟨?requests, ?squash⟩
  case requests =>
    intro s fn seq handle versions kib first slot share dom resv count flags dest desc input hready n d
    refine ⟨fun h3 hchans => negotiate_three hready hchans h3,
      fun h3 h1 hchans dm c h e => negotiate_one hready hchans h3 h1,
      fun hup => ⟨fun c h e => channelOpen_opens hready hup rfl, ?channel, ?job⟩⟩
    case channel =>
      intro habi hbound c ch sn hchan
      exact ⟨channelClose_closes hready hup habi hbound hchan,
        fun r rest => redeliver_rewrites hready hup habi hbound hchan⟩
    case job =>
      intro habi hbound hvf hdesc c ch himplicit hchan
      exact mailboxJob_admits hready hup habi hbound hvf hdesc himplicit hchan input
  case squash =>
    intro s c ch t hchan hclosing
    exact channelCloseSquash_ends hchan hclosing

end Sys2Proof.Machine
end

section
/-! PROOF. No command touches the queue of waiting commands (log entry 1): first the operations that go from a state to a state, then
the shared forms that commands are written over, then every command. -/

namespace Sys2Proof.Machine

open Sys2Proof

/-! Operations on a state. -/

/-- A fold over steps that leave the queue leaves it. -/
theorem foldl_pending {α : Type} {f : State → α → State} (h : ∀ s a, (f s a).pending = s.pending) (l : List α) (s : State) :
    (l.foldl f s).pending = s.pending :=
  foldl_keep State.pending f h l s

@[simp] theorem violate_pending (v : Violation) (s : State) : (violate v s).pending = s.pending := by
  unfold violate
  dsimp only
  repeat' split
  all_goals rfl

@[simp] theorem denyAccess_pending (p kind region a : Nat) (wr : Bool) (s : State) :
    (denyAccess p kind region a wr s).pending = s.pending := violate_pending ..

@[simp] theorem writeSpans_pending (secret : Bool) (ws : List (Nat × Bytes)) (s : State) :
    (writeSpans secret ws s).pending = s.pending := by
  refine foldl_pending (fun _ _ => ?_) ws s
  rfl

@[simp] theorem storeOut_pending (n o : Nat) (b : Bytes) (s : State) : (storeOut n o b s).pending = s.pending := by
  unfold storeOut
  split
  · rfl
  · exact writeSpans_pending ..

@[simp] theorem writeOutCtl_pending (p : Nat) (r : Req) (s : State) : (writeOutCtl p r s).pending = s.pending := by
  unfold writeOutCtl
  split
  · rfl
  · exact denyAccess_pending ..
  · rfl

@[simp] theorem routed_pending (tag : Nat) (c : RigClass) (p : ClassPlace) (m : Msg) (x : Parsed) (t1 : Nat) (s : State) :
    (routed tag c p m x t1 s).pending = s.pending := by
  unfold routed
  extract_lets
  split <;> rfl

@[simp] theorem rigStep_pending (dom : Nat) (f : Dev → Dev) (s : State) : (rigStep dom f s).pending = s.pending := by
  simp only [rigStep]
  split
  · rfl
  · split <;> rfl

/-! Resets. -/

@[simp] theorem clearAll_pending (cause : Nat) (s : State) : (clearAll cause s).pending = s.pending := rfl

@[simp] theorem zeroise_pending (l : TamperLatch) (s : State) : (zeroise l s).pending = s.pending := by
  unfold zeroise
  extract_lets
  repeat' split
  all_goals rfl

@[simp] theorem reinstallRigs_pending (s : State) : (reinstallRigs s).pending = s.pending :=
  foldl_pending (fun s e => by split <;> rfl) _ s

@[simp] theorem bootFirmware_pending (slot : Nat) (s : State) : (bootFirmware slot s).pending = s.pending := by
  simp only [bootFirmware, reinstallRigs_pending]

@[simp] theorem bootOnce_pending (s : State) : (bootOnce s).pending = s.pending := by
  simp only [bootOnce]
  split
  · rfl
  split
  · rfl
  split
  · rfl
  split
  · rfl
  · split
    · rfl
    · simp

@[simp] theorem boot_pending (s : State) : (boot s).pending = s.pending := by
  simp only [boot]
  split <;> simp

@[simp] theorem fullReset_pending (cause : Nat) (s : State) : (fullReset cause s).pending = s.pending := by
  simp [fullReset]

@[simp] theorem clusterReset_pending (s : State) : (clusterReset s).pending = s.pending := by
  simp only [clusterReset]

@[simp] theorem resetIfDue_pending (s : State) : (resetIfDue s).pending = s.pending := by
  unfold resetIfDue
  split <;> simp

/-! The audit recorder. -/

@[simp] theorem notifyFault_pending (seq : Nat) (s : State) : (notifyFault seq s).pending = s.pending := by
  unfold notifyFault
  extract_lets
  split <;> rfl

@[simp] theorem sequence_pending (e : AuditEv) (late : Bool) (s : State) : (sequence e late s).pending = s.pending := by
  simp only [sequence, apply_ite State.pending, notifyFault_pending, ite_self]

@[simp] theorem closeStorm_pending (x : Storm) (s : State) : (closeStorm x s).pending = s.pending := by
  simp only [closeStorm, apply_ite State.pending, notifyFault_pending, ite_self]

@[simp] theorem closeOverflow_pending (s : State) : (closeOverflow s).pending = s.pending := by
  unfold closeOverflow
  split
  · split
    · exact closeStorm_pending ..
    · rfl
  · rfl

@[simp] theorem closeClassStorms_pending (s : State) : (closeClassStorms s).pending = s.pending := by
  unfold closeClassStorms
  split
  · exact foldl_pending (fun s x => closeStorm_pending x s) _ s
  · rfl

@[simp] theorem closeWindow_pending (e : AuditEv) (s : State) : (closeWindow e s).pending = s.pending := by
  simp [closeWindow]

@[simp] theorem takeEvent_pending (e : AuditEv) (s : State) : (takeEvent e s).pending = s.pending := by
  unfold takeEvent
  split
  · rfl
  · split
    · exact sequence_pending ..
    · rfl

@[simp] theorem pageDurable_pending (p : AuditPage) (s : State) : (pageDurable p s).pending = s.pending := by
  simp [pageDurable]

theorem sequenceAll_pending (n : Nat) (s : State) : (sequenceAll n s).pending = s.pending := by
  induction n generalizing s with
  | zero => rfl
  | succ n ih =>
    unfold sequenceAll
    split
    · rw [ih, takeEvent_pending]
    · split
      · rw [ih, closeWindow_pending]
      · rfl

theorem durableAll_pending (n : Nat) (s : State) : (durableAll n s).pending = s.pending := by
  induction n generalizing s with
  | zero => rfl
  | succ n ih =>
    unfold durableAll
    split
    · rfl
    · rw [ih, pageDurable_pending]

@[simp] theorem drainAudit_pending (s : State) : (drainAudit s).pending = s.pending := by
  simp only [drainAudit, durableAll_pending, foldl_pending (fun s x => closeStorm_pending x s), sequenceAll_pending]

/-! What a write, a service or a committed record leaves to be done outside the device's registers. -/

@[simp] theorem burnState_pending (flag from_ to_ actor : Nat) (s : State) :
    (burnState flag from_ to_ actor s).pending = s.pending := by
  simp only [burnState]
  split <;> simp

@[simp] theorem resetAfterRecords_pending (s : State) : (resetAfterRecords s).pending = s.pending := by
  unfold resetAfterRecords
  split <;> simp

@[simp] theorem afterWrite_pending (s : State) : (afterWrite s).pending = s.pending := by
  unfold afterWrite
  split <;> simp

@[simp] theorem followMigration_pending (s : State) : (followMigration s).pending = s.pending := by
  simp only [followMigration]
  split
  · rfl
  · repeat' split
    all_goals simp

/-! The Shroud. -/

@[simp] theorem assertDetector_pending (monitor det item : Nat) (value limit : Int) (s : State) :
    (assertDetector monitor det item value limit s).pending = s.pending := by
  simp only [assertDetector]
  repeat' split
  all_goals simp

@[simp] theorem mainGone_pending (s : State) : (mainGone s).pending = s.pending := by
  simp only [mainGone]
  repeat' split
  all_goals simp

/-! Requests of the Malath responder and of sessions. -/

@[simp] theorem denyPin_pending (e : DictErr) (a i sub actor : Nat) (wr : Bool) (s : State) :
    (denyPin e a i sub actor wr s).pending = s.pending := by
  simp only [denyPin]
  repeat' split
  all_goals simp

@[simp] theorem readPdu_pending (h : MalHdr) (i sub resv : Nat) (s : State) : (readPdu h i sub resv s).pending = s.pending := by
  simp only [readPdu]
  repeat' split
  all_goals simp

@[simp] theorem writePdu_pending (h : MalHdr) (i sub tcode : Nat) (vlenOk : Bool) (v : Bytes) (s : State) :
    (writePdu h i sub tcode vlenOk v s).pending = s.pending := by
  simp only [writePdu]
  repeat' split
  all_goals simp

@[simp] theorem openSession_pending (h : SvcHdr) (req : SvcReq) (s : State) : (openSession h req s).pending = s.pending := by
  unfold openSession
  extract_lets
  split
  extract_lets
  split
  · rfl
  split
  · rfl
  split
  · rfl
  · rfl
  split
  · rfl
  split
  · rfl
  split
  · rfl
  split
  · rfl
  split
  extract_lets
  split
  · rfl
  split
  · rfl
  split <;> rfl

/-! Outcomes. -/

/-- A command's outcome leaves the queue `q`, where it has a next state. -/
def KeepsQueue (q : List Instr) (o : Out) : Prop := ∀ t, o = .next t → t.pending = q

theorem keepsQueue_next {q : List Instr} {t : State} (h : t.pending = q) : KeepsQueue q (.next t) :=
  fun _ hu => Host.Outcome.next.inj hu ▸ h

@[simp] theorem keepsQueue_next_iff {q : List Instr} {t : State} : KeepsQueue q (.next t) ↔ t.pending = q :=
  ⟨fun h => h t rfl, keepsQueue_next⟩

theorem nextState_pending {s : State} {o : Out} (h : KeepsQueue s.pending o) : (nextState s o).pending = s.pending := by
  cases o with
  | next t => exact h t rfl
  | fault f => rfl
  | refused r => rfl

/-- A command whose effect lies outside memory leaves the queue that it finds. -/
@[simp] theorem keepsQueue_onDev_iff {q : List Instr} (f : Dev → Dev) (s : State) :
    KeepsQueue q (onDev f s) ↔ s.pending = q := keepsQueue_next_iff

@[simp] theorem keepsQueue_bnStep_iff {q : List Instr} (n : Fin 48) (op : Nat)
    (f : BnEngine → BnProg → Nat → BnEngine × BnProg) (s : State) : KeepsQueue q (bnStep n op f s) ↔ s.pending = q :=
  keepsQueue_next_iff

/-! The registers of the custodian cores. -/

@[simp] theorem regWrite_pending (b : RegBlock) (off v : Nat) (s : State) : (regWrite b off v s).pending = s.pending := by
  unfold regWrite
  split <;> repeat' split
  all_goals rfl

theorem regStore_pending {cu a : Nat} {bytes : Bytes} {s t : State} (h : regStore cu a bytes s = some t) :
    t.pending = s.pending := by
  have hcover (b : RegBlock) (o n : Nat) : (regStore.cover b o n bytes s).pending = s.pending :=
    foldl_pending (fun _ _ => regWrite_pending ..) _ s
  unfold regStore at h
  split at h
  · cases h
  extract_lets at h
  split at h
  · split at h <;> obtain rfl := Option.some.inj h
    · rfl
    · exact hcover ..
  · obtain rfl := Option.some.inj h
    exact hcover ..

/-! Loads and stores. -/

theorem loadBytes_pending {p : Nat} {q : Proc} {a n : Nat} {s t : State} {b : Bytes} {tag : Bool}
    (h : loadBytes p q a n s = .ok (b, tag, t)) : t.pending = s.pending := by
  unfold loadBytes at h
  repeat' split at h
  all_goals cases h
  all_goals simp

theorem storeBytes_pending {p : Nat} {q : Proc} {a : Nat} {b : Bytes} {tag : Bool} {s t : State}
    (h : storeBytes p q a b tag s = .ok t) : t.pending = s.pending := by
  unfold storeBytes at h
  repeat' split at h
  all_goals cases h
  case h_1 hreg => exact regStore_pending hreg
  · exact denyAccess_pending ..
  · rfl

@[simp] theorem notePoison_pending (p : ProcId) (len : Nat) (body : State → Proc → LRes (State × Proc)) (s : State) :
    (notePoison p len body s).pending = s.pending := by
  unfold notePoison
  extract_lets
  repeat' split
  all_goals rfl

/-! Lope instructions. An instruction's own effect leaves the queue where the state that it answers does. -/

/-- What an instruction computes leaves the queue `q` in the state that `st` takes from it. -/
def BodyKeeps {α : Type} (q : List Instr) (st : α → State) (r : LRes α) : Prop := ∀ x, r = .ok x → (st x).pending = q

section
variable {α : Type} {q : List Instr} {st : α → State}

@[simp] theorem bodyKeeps_flt (c a : Nat) : BodyKeeps q st (.flt c a) := fun _ h => nomatch h

@[simp] theorem bodyKeeps_hold : BodyKeeps q st .hold := fun _ h => nomatch h

@[simp] theorem bodyKeeps_ok {x : α} : BodyKeeps q st (.ok x) ↔ (st x).pending = q :=
  ⟨fun h => h x rfl, fun h _ hx => LRes.ok.inj hx ▸ h⟩

theorem bodyKeeps_noExt {e : Bool} {r : LRes α} (h : BodyKeeps q st r) : BodyKeeps q st (noExt e r) := by
  cases e
  · exact h
  · exact bodyKeeps_flt _ _

theorem bodyKeeps_needPriv {p : Proc} {r : LRes α} (h : BodyKeeps q st r) : BodyKeeps q st (needPriv p r) := by
  unfold needPriv
  split
  · exact h
  · exact bodyKeeps_flt _ _

theorem bodyKeeps_readyX {p : Proc} {x : Fin 4} {r : LRes α} (h : BodyKeeps q st r) : BodyKeeps q st (readyX p x r) := by
  unfold readyX
  split
  · exact bodyKeeps_hold
  · exact h

end

theorem keepsQueue_atBoundary (p : ProcId) (len : Nat) {run : Proc → Out} (s : State)
    (h : ∀ q, KeepsQueue s.pending (run q)) : KeepsQueue s.pending (atBoundary p len run s) := by
  unfold atBoundary
  extract_lets
  split
  · exact keepsQueue_next rfl
  · split
    · exact keepsQueue_next rfl
    · exact h _

theorem keepsQueue_issue (p : ProcId) (len cycles : Nat) {body : State → Proc → LRes (State × Proc)} (s : State)
    (h : ∀ q, BodyKeeps s.pending Prod.fst (body s q)) : KeepsQueue s.pending (issue p len cycles body s) :=
  keepsQueue_atBoundary p len s fun q => by
    split
    · exact keepsQueue_next rfl
    · exact keepsQueue_next rfl
    · next hbody => exact keepsQueue_next (h q _ hbody)

theorem keepsQueue_issueReg (p : ProcId) (len cycles : Nat) (body : Proc → LRes Proc) (s : State) :
    KeepsQueue s.pending (issueReg p len cycles body s) :=
  keepsQueue_issue p len cycles s fun q => by split <;> simp

theorem keepsQueue_issueRead (p : ProcId) (len cycles : Nat) {body : State → Proc → LRes (State × Proc)} (s : State)
    (h : ∀ s q, BodyKeeps s.pending Prod.fst (body s q)) : KeepsQueue s.pending (issueRead p len cycles body s) := by
  unfold issueRead
  rw [← notePoison_pending p len body s]
  exact keepsQueue_issue p len cycles _ (h _)

theorem keepsQueue_issueJump (p : ProcId) (body : Proc → LRes (Proc × Nat × Option (BitVec 32))) (s : State) :
    KeepsQueue s.pending (issueJump p body s) :=
  keepsQueue_atBoundary p 4 s fun q => by split <;> exact keepsQueue_next rfl

theorem keepsQueue_issueWait (p : ProcId) (len : Nat) (body : Proc → LRes (LopeWait ⊕ (Proc → Proc))) (s : State) :
    KeepsQueue s.pending (issueWait p len body s) :=
  keepsQueue_atBoundary p len s fun q => by split <;> exact keepsQueue_next rfl

theorem keepsQueue_issueJob (p : ProcId) (cycles : Nat) {body : State → Proc → LRes (State × Proc × Req)} (s : State)
    (h : ∀ q, BodyKeeps s.pending Prod.fst (body s q)) : KeepsQueue s.pending (issueJob p cycles body s) :=
  keepsQueue_atBoundary p 4 s fun q => by
    split
    · exact keepsQueue_next rfl
    · exact keepsQueue_next rfl
    · next hbody => exact keepsQueue_next (h q _ hbody)

theorem keepsQueue_issueLoad (p : ProcId) (f : MFmt) (n : Nat) (ready : Proc → LRes Unit)
    (put_ : Proc → Bytes → Bool → Proc) (s : State) : KeepsQueue s.pending (issueLoad p f n ready put_ s) :=
  keepsQueue_issueRead p _ _ s fun s q => by
    repeat' split
    all_goals simp
    next hload => exact loadBytes_pending hload

theorem keepsQueue_issueStore (p : ProcId) (f : MFmt) (n : Nat) (data : Proc → LRes (Bytes × Bool)) (s : State) :
    KeepsQueue s.pending (issueStore p f n data s) := by
  unfold issueStore
  refine keepsQueue_issue p _ _ s fun q => ?_
  repeat' split
  all_goals simp
  next hstore => exact storeBytes_pending hstore

theorem keepsQueue_loadD (p : ProcId) (f : MFmt) (n : Nat) (s : State) : KeepsQueue s.pending (loadD p f n s) :=
  keepsQueue_issueLoad p f n _ _ s

theorem keepsQueue_storeD (p : ProcId) (f : MFmt) (n : Nat) (s : State) : KeepsQueue s.pending (storeD p f n s) :=
  keepsQueue_issueStore p f n _ s

theorem keepsQueue_execMfld (p : ProcId) (f : MFFmt) (s : State) : KeepsQueue s.pending (execMfld p f s) :=
  keepsQueue_issueRead p _ _ s fun s q => by
    split
    · simp
    · simp
    · refine bodyKeeps_readyX ?_
      split
      · simp
      · simp
      · next hload => exact bodyKeeps_ok.mpr (loadBytes_pending hload)

theorem keepsQueue_execMfst (p : ProcId) (f : MFFmt) (s : State) : KeepsQueue s.pending (execMfst p f s) :=
  keepsQueue_issueRead p _ _ s fun s q => by
    split
    · simp
    split
    · simp
    · simp
    · refine bodyKeeps_readyX ?_
      repeat' split
      all_goals simp

theorem keepsQueue_execGfence (p : ProcId) (f : RFmt) (s : State) : KeepsQueue s.pending (execGfence p f s) := by
  unfold execGfence
  refine keepsQueue_issue p 4 1 s fun q => bodyKeeps_noExt (bodyKeeps_needPriv ?_)
  split <;> simp

theorem keepsQueue_execPswap (p : ProcId) (f : RFmt) (s : State) : KeepsQueue s.pending (execPswap p f s) := by
  unfold execPswap
  refine keepsQueue_atBoundary p 4 s fun q => ?_
  repeat' split
  all_goals exact keepsQueue_next rfl

theorem keepsQueue_execCall (p : ProcId) (f : RFmt) (s : State) : KeepsQueue s.pending (execCall p f s) :=
  keepsQueue_atBoundary p 4 s fun q => by
    extract_lets
    split <;> exact keepsQueue_next rfl

theorem keepsQueue_execJobx (p : ProcId) (f : JXFmt) (s : State) : KeepsQueue s.pending (execJobx p f s) :=
  keepsQueue_issueJob p 2 s fun q => by
    extract_lets
    split
    · simp
    split
    · simp
    refine bodyKeeps_readyX (bodyKeeps_readyX ?_)
    split
    · simp
    split <;> simp

theorem keepsQueue_execJob (p : ProcId) (f : JFmt) (s : State) : KeepsQueue s.pending (execJob p f s) := by
  have hdeny (wr : Bool) (l : List (Nat × Nat)) (t : State) :
      (l.foldl (fun t e => denyAccess p.val 0x07 e.2 e.1 wr t) t).pending = t.pending :=
    foldl_pending (fun _ _ => denyAccess_pending ..) l t
  refine keepsQueue_issueJob p 4 s fun q => ?_
  extract_lets
  split
  · simp
  split
  · simp
  split
  · simp
  split
  · simp
  · simp
  extract_lets job read
  split
  · simp
  split
  · simp
  split
  · simp
  split
  · simp
  extract_lets
  split
  split
  extract_lets denied bad spoilt r noted
  refine bodyKeeps_ok.mpr ?_
  calc noted.pending
    _ = denied.pending := by
      simp only [noted]
      clear_value spoilt
      cases spoilt <;> rfl
    _ = read.pending := (hdeny true _ _).trans (hdeny false _ _)
    _ = s.pending := by
      simp only [read]
      split <;> simp

theorem keepsQueue_execSev (p : ProcId) (f : SevFmt) (s : State) : KeepsQueue s.pending (execSev p f s) :=
  keepsQueue_issue p 4 1 s fun q => by
    extract_lets
    repeat' split
    all_goals simp

theorem keepsQueue_execSevAll (p : ProcId) (f : SevFmt) (s : State) : KeepsQueue s.pending (execSevAll p f s) :=
  keepsQueue_issue p 4 1 s fun q => by
    extract_lets
    split <;> simp

/-! Actions that a session executes. -/

@[simp] theorem runAction_pending (h : SvcHdr) (a : SvcAction) (s : State) : (runAction h a s).pending = s.pending := by
  refine nextState_pending ?_
  cases a with
  | rigAdmit => exact keepsQueue_next (rigStep_pending ..)
  | deviceReset => exact keepsQueue_next (resetIfDue_pending _)
  | hobbleUnlock => exact keepsQueue_next (resetAfterRecords_pending _)
  | dictWrite => exact keepsQueue_next (afterWrite_pending _)
  | _ => exact keepsQueue_next rfl

@[simp] theorem authorise_pending (h : SvcHdr) (slot resv : Nat) (card : CardReply) (s : State) :
    (authorise h slot resv card s).pending = s.pending := by
  unfold authorise
  split
  · rfl
  split
  · rfl
  split
  · rfl
  split
  · rfl
  split
  · rfl
  split
  · dsimp only
    split
    · rfl
    · exact runAction_pending ..
  · rfl

/-! Every command. -/

/-- Every command leaves the queue: the classes are those of `completes_exec`. -/
theorem keepsQueue_exec (c : Instr) (s : State) : KeepsQueue s.pending (exec c s) := by
  cases c with
  | mov | add | sub | and | or | xor | not | neg | shl | shr | sar | shli | shri | sari | mul | mulhu | divu | cmp | cmpeqm
  | cmpltm | sel | bswap | popc | sett | clt | addi | andi | ori | xori | movi | cmpi | mova | movad | movda | adda | suba
  | cmpa | addai | movai | xmov | xand | xOr | xxor | xaddb | xsubb | xcmpeqb | xcmpltb | xsel | xins | xext | xshlb | xshrb
  | xzero | xbcast | xrev | xmaskl | rep | repu | time | mfc | mtc | nop => dsimp only [exec]; exact keepsQueue_issueReg _ _ _ _ s
  | b | bl | jr | bz | bnz | rfe => dsimp only [exec]; exact keepsQueue_issueJump _ _ s
  | wfe | wtu | jwait | halt | fence => dsimp only [exec]; exact keepsQueue_issueWait _ _ _ s
  | job => dsimp only [exec]; exact keepsQueue_execJob _ _ s
  | jobx => dsimp only [exec]; exact keepsQueue_execJobx _ _ s
  | sev => dsimp only [exec]; exact keepsQueue_execSev _ _ s
  | sevAll => dsimp only [exec]; exact keepsQueue_execSevAll _ _ s
  | mfld => dsimp only [exec]; exact keepsQueue_execMfld _ _ s
  | mfst => dsimp only [exec]; exact keepsQueue_execMfst _ _ s
  | ldB | ldH | ldW | ldD => dsimp only [exec]; exact keepsQueue_loadD _ _ _ s
  | lda | ldx => dsimp only [exec]; exact keepsQueue_issueLoad _ _ _ _ _ s
  | stB | stH | stW | stD => dsimp only [exec]; exact keepsQueue_storeD _ _ _ s
  | sta | stx => dsimp only [exec]; exact keepsQueue_issueStore _ _ _ _ s
  | pswap => dsimp only [exec]; exact keepsQueue_execPswap _ _ s
  | gfence => dsimp only [exec]; exact keepsQueue_execGfence _ _ s
  | call => dsimp only [exec]; exact keepsQueue_execCall _ _ s
  | loadDone | jobSlotComplete | bnStore | engineRestart | messageDeliver | parseEnd | emitEnd | messageRelease | auditEvent
  | auditMergeWindowClose | stormRecordClose | stormTimeout | auditPageDurable | detectorSelfCheck | vbatThreshold | token
  | tokenClose | dbgResp | watchdogExpire | clusterRebootDone | standbyEntryDone | overtempPowerOff | powerOnReset
  | warmReset =>
    dsimp only [exec, execLoadDone, execJobSlotComplete, execBnStore, execEngineRestart, execMessageDeliver,
      execParseEnd, execEmitEnd, execMessageRelease, execAuditEvent, execAuditMergeWindowClose, execStormRecordClose,
      execStormTimeout, execAuditPageDurable, execDetectorSelfCheck, execVbatThreshold, execToken, execTokenClose,
      execDbgResp, execWatchdogExpire, execClusterRebootDone, execStandbyEntryDone, execOvertempPowerOff,
      execPowerOnReset, execWarmReset]
    repeat' split
    all_goals simp
  | journalPageProgrammed => exact keepsQueue_next (followMigration_pending _)
  | rigAdmit | quiesceDrained | quiesceTimeout => exact keepsQueue_next (rigStep_pending ..)
  | sessionOpen => exact keepsQueue_next (openSession_pending ..)
  | sessionAuthorise => exact keepsQueue_next (authorise_pending ..)
  | deviceReset => exact keepsQueue_next (resetIfDue_pending _)
  | hobbleUnlock => exact keepsQueue_next (resetAfterRecords_pending _)
  | read => exact keepsQueue_next (readPdu_pending ..)
  | write => exact keepsQueue_next ((afterWrite_pending _).trans (writePdu_pending ..))
  | dictWrite | segInit | segData | lcRequest => exact keepsQueue_next (afterWrite_pending _)
  | detectorAssert => exact keepsQueue_next (assertDetector_pending ..)
  | _ => exact keepsQueue_next rfl

/-- Settles O57: a command's outcome is a next state with the queue that the command found. -/
theorem commandsLeaveTheQueue : Obligations.CommandsLeaveTheQueue := fun c s => keepsQueue_exec c s

/-- Settles O54: `step` branches on the queue only. -/
theorem stepRunsTheFrontCommand : Obligations.StepRunsTheFrontCommand := by
  intro s c rest hqueue
  simp only [step, hqueue]

end Sys2Proof.Machine
end

section
/-! PROOF. Officers of the custodian: enrolment, login, logout and revocation (R394-R396, R417, R564). -/

namespace Sys2Proof.Machine

open Sys2Proof

theorem not_mem_without (l : List Nat) (n : Nat) : n ∉ without l n := by
  simp [without]

/-- A session without an officer's authorisation, where it is still open (R398). -/
def discardOfficer (id : Nat) (x : Session) : Session :=
  if x.state = 0 then { x with officers := without x.officers id } else x

theorem not_mem_discardOfficer {id : Nat} {x : Session} (h : (discardOfficer id x).state = 0) :
    id ∉ (discardOfficer id x).officers := by
  unfold discardOfficer at h ⊢
  split at h
  · next hopen => simpa [hopen] using not_mem_without x.officers id
  · next hended => exact absurd h hended

/-- What `revokeOfficer` leaves of the custodian's state (R395, R396, R398). -/
theorem revokeOfficer_cust {d : Dev} {id : Nat} {o : Officer} (ho : look d.cust.officers id = some o) (actor : Nat) :
    (revokeOfficer id actor d).cust = { d.cust with
      officers := ins d.cust.officers id { o with revoked := true }
      logins := keep (fun _ l => !(l.officer == id)) d.cust.logins
      sessions := mapV (fun _ => discardOfficer id) d.cust.sessions } := by
  simp only [revokeOfficer, ho]
  rfl

/-- A scope with more officers than its M is not short once one has gone (R396). -/
theorem not_short_of_lt {m n : Nat} (h : m < n) : decide (n - 1 < m) = false := by
  simp only [decide_eq_false_iff_not]
  omega

/-- Settles O38: each service's hypotheses are its checks, so `serve_ok` gives what its run leaves; a revocation by
`revokeOfficer_cust`. -/
theorem officersAndLogins : Obligations.OfficersAndLogins := by
  unfold Obligations.OfficersAndLogins
  refine ⟨?services, ?idle, ?revoked⟩
  case services =>
    intro s h slot pinLen officer pin obj brought card d e role n id record kind
    refine ⟨?enrol, ?login, ?logout, ?revoke⟩
    case enrol =>
      intro hs hpin hobj hrec hr hnew hroom hshut hcard o more
      rw [exec_officerEnrol, execOfficerEnrol, onDev, serve_ok hs (by simp [servedHobbled, n, hpin, hobj, hrec, record]) rfl hr
        (by simp [hnew, hroom, hshut, record, kind])]
      simp only [n] at hcard
      rw [hcard]
      rfl
    case login =>
      intro hs hr hpin o ho hlive hcard l inn
      rw [exec_officerLogin, execOfficerLogin, onDev, serve_ok hs hpin rfl hr (by simp [ho, hlive, id]), dropStaged_none rfl]
      simp only [n] at hcard
      rw [hcard]
      rfl
    case logout =>
      intro hs hr
      rw [exec_officerLogout, execOfficerLogout, onDev, serve_ok hs rfl rfl hr rfl, dropStaged_none rfl]
    case revoke =>
      intro hs hlow hhigh o ho hlive hr hshut hdevice hdomain
      have hin : (look s.dev.cust.officers officer.toNat).filter (fun o => !o.revoked) = some o := by simp [id, ho, hlive]
      rw [exec_officerRevoke, execOfficerRevoke, onDev]
      simp only [hin]
      rw [serve_ok hs (by simp [id, hlow, hhigh]) rfl hr ?_, dropStaged_none rfl]
      cases hrole : o.role with
      | deviceOfficer => simp [not_short_of_lt (hrole ▸ hdevice hrole), hshut]
      | domainOfficer => simp [not_short_of_lt (hrole ▸ hdomain hrole), hshut]
      | auditor => simp [hshut]
      | operator => simp [hshut]
  case idle =>
    intro s slot l hl
    simp [execLoginIdleExpire, onDev, hl, sec, Nat.mul_comm]
  case revoked =>
    intro d id actor o ho e
    simp only [e, revokeOfficer_cust ho]
    refine ⟨fun n l hl => ?_, fun i x hx hopen => ?_, _, look_ins_self .., rfl⟩
    · simpa using (List.mem_filter.mp hl).2
    · obtain ⟨⟨j, y⟩, -, hy⟩ := List.mem_map.mp hx
      obtain ⟨-, rfl⟩ := Prod.mk.inj hy
      exact not_mem_discardOfficer hopen

end Sys2Proof.Machine
end

section
/-! PROOF. Dual-control sessions (R397, R398): one equation for each way that a session service passes its checks. -/

namespace Sys2Proof.Machine

open Sys2Proof

/-! Opening. -/

section
variable {s : State} {h : SvcHdr} {req : SvcReq} {d : Dev} {r role : Role}

/-- The session that SESSION_OPEN opens for an action of the device's scope (R397). -/
def openedSession (h : SvcHdr) (req : SvcReq) (d : Dev) : Session :=
  let act := { req.hdr with via := h.via }
  { req := { hdr := act, action := holdObject h.via req.action d }, opener := h.via, officer := h.officer, scope := none,
    m := max 2 (scopeM d .device), expires := d.tb.now + sec (numOf 300 d (dk 0x1800 2)), digest := actionDigest act req.action d }

/-- The checks of SESSION_OPEN up to the action's own (R16, R389, R390, R397). -/
structure MayOpen (s : State) (h : SvcHdr) (req : SvcReq) (d : Dev) (r role : Role) : Prop where
  taken : takeRequest h.via false s.dev = (true, d)
  notUnlock : req.action ≠ .hobbleUnlock
  header : headerStatus d h false false (req.hdr.session == 0) = .ok
  sender : roleOf d h.via h.officer = .ok r
  requester : roleOf d h.via req.hdr.officer = .ok role
  object : objectStatus h.via req.action d = .ok
  fetched : (fetchObject h.via req.action d).1 = .ok
  known : foreign role (actionDomain req.action d) = false
  deviceScope : req.hdr.dmScope = false
  calm : isThrottled d = false
  room : (d.cust.sessions.filter (fun e => e.2.state == 0)).length < 64

/-- A session whose checks pass, its action's own among them, is listed and answered by its record. -/
theorem openSession_ok (hopen : MayOpen s h req d r role) :
    let fresh := freshSession (fetchObject h.via req.action d).2
    let x := openedSession h req d
    let e := dropStaged h.via req.action (touchLogin h.officer fresh.2)
    probeAction fresh.1 x { s with dev := fresh.2 } = .ok →
    openSession h req s = { s with dev := answer h.via .ok (sessionRecord fresh.1 x) (sessionEvent 0x0106 fresh.1 (actorReq d h) x
      { e with cust := { e.cust with sessions := ins (keep (fun _ y => sessionHeld d y) e.cust.sessions) fresh.1 x } }) } := by
  obtain ⟨htaken, hnot, hheader, hsender, hrequester, hobject, hfetched, hknown, hscope, hcalm, hroom⟩ := hopen
  intro fresh x e hprobe
  have hunlock : (req.action == SvcAction.hobbleUnlock) = false := beq_false_of_ne hnot
  simp only [x, fresh, openedSession, hscope] at hprobe
  simp [openSession, hunlock, htaken, hheader, hsender, hrequester, hobject, hfetched, hknown, hscope, hcalm,
    Nat.not_le.mpr hroom, hprobe, openedSession, x, fresh, e]

end

/-! Authorising. -/

section
variable {s : State} {h : SvcHdr} {slot resv id : Nat} {card : CardReply} {d e : Dev} {x : Session}

/-- The checks of SESSION_AUTHORISE: `id`, an officer of the session's scope logged in at the slot, has its card sign, which leaves `e`
(R394, R398). -/
structure Signs (s : State) (h : SvcHdr) (slot resv : Nat) (card : CardReply) (d e : Dev) (x : Session) (id : Nat) : Prop where
  request : sessionRequest h (decide (slot < 2) && resv == 0) s.dev = (some (some x), d)
  isOpen : x.state = 0
  inTime : d.tb.now < x.expires
  officer : slotOfficer slot x d = some id
  calm : isThrottled d = false
  signed : cardSigns slot card (touchLogin id d) = (.ok, e)

/-- Short of M an authorisation is counted and answered by the session's record. -/
theorem authorise_counts (hs : Signs s h slot resv card d e x id)
    (hshort : (countOfficer h.session id x e).1.officers.length < (countOfficer h.session id x e).1.m) :
    authorise h slot resv card s = { s with
      dev := answer h.via .ok (sessionRecord h.session (countOfficer h.session id x e).1) (countOfficer h.session id x e).2 } := by
  obtain ⟨hrequest, hopen, htime, hofficer, hcalm, hsigned⟩ := hs
  simp only [authorise, hrequest]
  simp [hopen, Nat.not_le.mpr htime, hofficer, hcalm, hsigned, hshort]

/-- The authorisation that reaches M runs the action. -/
theorem authorise_runs (hs : Signs s h slot resv card d e x id)
    (hm : (countOfficer h.session id x e).1.m ≤ (countOfficer h.session id x e).1.officers.length) :
    let f := (countOfficer h.session id x e).2
    let z := { (countOfficer h.session id x e).1 with state := 1, expires := f.tb.now, endedAt := f.tb.now, asker := some h.via }
    authorise h slot resv card s =
      runAction { z.req.hdr with via := .authorise h.session (if slot = 0 then 0 else 1) card } z.req.action
        { s with dev := sessionEvent 0x0108 h.session (actorOfficer id) z (onSession h.session (fun _ => z) f) } := by
  obtain ⟨hrequest, hopen, htime, hofficer, hcalm, hsigned⟩ := hs
  intro f z
  simp only [authorise, hrequest]
  simp [hopen, Nat.not_le.mpr htime, hofficer, hcalm, hsigned, Nat.not_lt.mpr hm, f, z]

end

/-! Status, cancelling, expiry. -/

section
variable {s : State} {h : SvcHdr} {d : Dev} {x : Session}

theorem sessionStatus_ok (hx : sessionRequest h true s.dev = (some (some x), d)) :
    sessionStatus h s.dev = answer h.via .ok (sessionRecord h.session x ++ x.response) d := by
  simp [sessionStatus, hx]

/-- The requester that opened a session ends it (R398). -/
theorem cancelSession_opener (hx : sessionRequest h true s.dev = (some (some x), d)) (hopen : x.state = 0)
    (hcalm : isThrottled d = false) (hvia : sameSender h.via x.opener = true) (hofficer : h.officer = x.officer) :
    cancelSession h s.dev = answer h.via .ok [] (endSession h.session 3 (actorReq d h) x d) := by
  simp [cancelSession, hx, hopen, hcalm, hvia, hofficer]

end

/-- Settles O39: the equation of each session service. -/
theorem dualControlSessions : Obligations.DualControlSessions := by
  unfold Obligations.DualControlSessions
  refine ⟨?opens, ?authorises, ?serves, ?expires⟩
  case opens =>
    intro s h req d r role act fetched fresh hfetched htaken hnot hheader hsender hrequester hobject hknown hscope hcalm hroom x
      hprobe e held more
    exact congrArg Host.Outcome.next (openSession_ok
      ⟨htaken, hnot, hheader, hsender, hrequester, hobject, hfetched, hknown, hscope, hcalm, hroom⟩ hprobe)
  case authorises =>
    intro s h slot card d e x id hrequest hopen htime hofficer hcalm hsigned y f
    have hs : Signs s h slot.toNat 0 card d e x id := ⟨hrequest, hopen, htime, hofficer, hcalm, hsigned⟩
    exact ⟨rfl, rfl, fun hshort => congrArg Host.Outcome.next (authorise_counts hs hshort),
      fun hm => congrArg Host.Outcome.next (authorise_runs hs hm)⟩
  case serves =>
    intro s h d x hx
    refine ⟨?_, fun hopen hcalm hvia hofficer => ?_⟩
    · rw [exec_sessionStatus, execSessionStatus, onDev, sessionStatus_ok hx]
    · rw [exec_sessionCancel, execSessionCancel, onDev, cancelSession_opener hx hopen hcalm hvia hofficer, endSession]
  case expires =>
    intro s i x hx hopen d
    simp [execSessionExpire, onDev, hx, hopen, endSession, d]

end Sys2Proof.Machine
end

section
/-! PROOF. What answers leave of the custodian's own state: all of it but the session an action was executed for. -/

namespace Sys2Proof.Machine

open Sys2Proof

@[simp] theorem sendMsix_cust (a b : Nat) (d : Dev) : (sendMsix a b d).cust = d.cust := by
  unfold sendMsix
  repeat' split
  all_goals rfl

@[simp] theorem canQueue_cust (f : CanFrame) (d : Dev) : (canQueue f d).cust = d.cust := by
  unfold canQueue
  split <;> rfl

@[simp] theorem inbandAnswer_cust (pf : Nat) (p : Pdu) (d : Dev) : (inbandAnswer pf p d).cust = d.cust := by
  simp [inbandAnswer]

@[simp] theorem answerMailbox_cust (fn : Nat) (st : Status) (r : Bytes) (d : Dev) : (answerMailbox fn st r d).cust = d.cust := by
  unfold answerMailbox
  split
  · rfl
  · simp

@[simp] theorem onAssoc_cust (a : Nat) (f : Assoc → Assoc) (d : Dev) : (onAssoc a f d).cust = d.cust := by
  unfold onAssoc
  split <;> rfl

@[simp] theorem sendPdu_cust (peer : MalPeer) (alive : Nat) (p : Pdu) (d : Dev) : (sendPdu peer alive p d).cust = d.cust := by
  unfold sendPdu
  split <;> simp

@[simp] theorem sendTo_cust (a : Nat) (p : Pdu) (d : Dev) : (sendTo a p d).cust = d.cust := by
  unfold sendTo
  split <;> simp

@[simp] theorem answerPdu_cust (a txn typ : Nat) (payload : Bytes) (d : Dev) : (answerPdu a txn typ payload d).cust = d.cust := by
  unfold answerPdu
  split <;> simp

@[simp] theorem answerService_cust (a txn : Nat) (st : Status) (r : Bytes) (d : Dev) :
    (answerService a txn st r d).cust = d.cust := by
  unfold answerService
  split
  · rfl
  · split <;> simp

@[simp] theorem answerDoor_cust (v : Via) (st : Status) (r : Bytes) (d : Dev) : (answerDoor v st r d).cust = d.cust := by
  unfold answerDoor
  split <;> simp

@[simp] theorem onSession_wd (i : Nat) (f : Session → Session) (d : Dev) : (onSession i f d).cust.wd = d.cust.wd := by
  unfold onSession
  split <;> rfl

/-- No answer changes the watchdog. -/
@[simp] theorem answer_wd (v : Via) (st : Status) (r : Bytes) (d : Dev) : (answer v st r d).cust.wd = d.cust.wd := by
  unfold answer
  split
  · dsimp only
    split
    · simp
    · split <;> simp
  · simp

end Sys2Proof.Machine
end

section
/-! PROOF. The watchdog, the time base and failed channels of memory (R37, R38, R49, R400, R401). -/

namespace Sys2Proof.Machine

open Sys2Proof

/-! What the reset of the cluster alone leaves. -/

/-- What the end of the cluster's work leaves: life, time, keys, network, violation queue and watchdog. -/
def besideCluster (d : Dev) := (d.life, d.tb, d.ks.keys, d.net, d.vq, d.cust.wd)

theorem besideCluster_answer (v : Via) (st : Status) (r : Bytes) (d : Dev) : besideCluster (answer v st r d) = besideCluster d := by
  have h := behindDoors_answer v st r d
  simp only [behindDoors, Prod.mk.injEq] at h
  simp [besideCluster, h]

theorem besideCluster_answerMailbox (fn : Nat) (st : Status) (r : Bytes) (d : Dev) :
    besideCluster (answerMailbox fn st r d) = besideCluster d := by
  have h := behindDoors_answerMailbox fn st r d
  simp only [behindDoors, Prod.mk.injEq] at h
  simp [besideCluster, h]

theorem besideCluster_sendTo (a : Nat) (p : Pdu) (d : Dev) : besideCluster (sendTo a p d) = besideCluster d := by
  have h := behindDoors_sendTo a p d
  simp only [behindDoors, Prod.mk.injEq] at h
  simp [besideCluster, h]

theorem besideCluster_onOp (t : Nat) (f : Op → Op) (d : Dev) : besideCluster (onOp t f d) = besideCluster d := by
  unfold onOp
  split <;> rfl

theorem besideCluster_unqueue (t : Nat) (o : Op) (d : Dev) : besideCluster (unqueue t o d) = besideCluster d := by
  unfold unqueue
  extract_lets
  split
  · rfl
  · split <;> rfl

theorem besideCluster_squashOne (t : Nat) (d : Dev) : besideCluster (squashOne t d) = besideCluster d := by
  unfold squashOne
  split
  · rfl
  · split
    · rfl
    · rw [besideCluster_onOp, besideCluster_unqueue]

theorem besideCluster_squash (t : Nat) (d : Dev) : besideCluster (squash t d) = besideCluster d := by
  unfold squash
  split
  · rfl
  · exact (foldl_keep besideCluster _ (fun d k => besideCluster_squashOne k d) _ _).trans (besideCluster_squashOne t d)

theorem besideCluster_dropUses (st : Status) (d : Dev) : besideCluster (dropUses st d) = besideCluster d :=
  foldl_keep besideCluster _ (fun _ _ => besideCluster_answer ..) _ _

theorem besideCluster_dropCustodianRequests (d : Dev) : besideCluster (dropCustodianRequests d) = besideCluster d := by
  exact (foldl_keep besideCluster _ (fun _ _ => besideCluster_answerMailbox ..) _ _).trans
    (foldl_keep besideCluster _ (fun _ _ => besideCluster_answer ..) _ _)

theorem besideCluster_dropDownloads (d : Dev) : besideCluster (dropDownloads d) = besideCluster d :=
  foldl_keep besideCluster _ (fun _ _ => besideCluster_sendTo ..) _ _

theorem besideCluster_logout (d : Dev) :
    besideCluster (onCust (fun c => { c with sessions := [], logins := [] }) d) = besideCluster d := rfl

/-- The cluster's processors, the engines' custodian work and the custodian's instances reach neither. -/
def custodianSide (d : Dev) := (besideCluster d, d.cust)

theorem custodianSide_setProc (p : Nat) (q : Proc) (d : Dev) : custodianSide (setProc p q d) = custodianSide d := rfl

theorem custodianSide_zeroInst (i : Nat) (d : Dev) : custodianSide (zeroInst i d) = custodianSide d := rfl

theorem custodianSide_endDebug (d : Dev) : custodianSide (endDebug d) = custodianSide d := rfl

theorem custodianSide_engine (p : Nat) (d : Dev) :
    custodianSide (if (procOf d p).custodianWork then endWorld p (takeInterrupt p 0x81 d)
      else if (procOf d p).custDue then onProc p (fun q => { q with custDue := false }) d else d) = custodianSide d := by
  split
  · rfl
  · split <;> rfl

/-- The watchdog as the reset of the cluster at `now` leaves it (R400, R401). -/
def rebootingWd (now : Nat) (w : Watchdog) : Watchdog :=
  { w with en := false, armed := none, period := 5000, periodSet := false, rebooting := true, resets := w.resets ++ [now],
           total := w32 (w.total + 1) }

/-- The reset of the cluster counts itself on a device that has no sessions or logins, CUSTODIAN_UP and the violation queue's control
clear, and whose time, keys and network are as they were (R401). -/
theorem clusterReset_dev (s : State) : ∃ e : Dev,
    besideCluster e =
      ({ s.dev.life with custUp := false }, s.dev.tb, s.dev.ks.keys, s.dev.net, { s.dev.vq with ctl := 0 }, s.dev.cust.wd) ∧
    e.cust.sessions = [] ∧ e.cust.logins = [] ∧
    (clusterReset s).dev = raise srcCustodian 0x0004 0 actorHw [(1, (rebootingWd e.tb.now e.cust.wd).resets.length)]
      (onWd (fun _ => rebootingWd e.tb.now e.cust.wd) e) := by
  unfold clusterReset
  extract_lets _ _ d life audit vq down squashed op untagged dropped loggedOut cores engines e w wd raised
  have hdropped : besideCluster dropped = besideCluster down := calc
    besideCluster dropped
    _ = besideCluster untagged := by
      rw [besideCluster_dropDownloads, besideCluster_dropCustodianRequests, besideCluster_dropUses]
    _ = besideCluster down := foldl_keep besideCluster _ (fun d t => besideCluster_squash t d) _ _
  have hside : custodianSide e = custodianSide loggedOut := calc
    custodianSide e
    _ = custodianSide engines :=
      (custodianSide_endDebug _).trans (foldl_keep custodianSide _ (fun d i => custodianSide_zeroInst i d) _ _)
    _ = custodianSide cores := foldl_keep custodianSide _ (fun d p => custodianSide_engine p d) _ _
    _ = custodianSide loggedOut := foldl_keep custodianSide _ (fun d n => custodianSide_setProc _ _ d) _ _
  obtain ⟨hbeside, hcust⟩ := Prod.mk.inj hside
  have hlogged : besideCluster loggedOut = besideCluster dropped := besideCluster_logout dropped
  clear_value squashed dropped
  exact ⟨e, hbeside.trans (hlogged.trans hdropped), by rw [hcust]; rfl, by rw [hcust]; rfl, rfl⟩

/-- What the reset of the cluster leaves of the device (R401). -/
theorem clusterReset_leaves (s : State) :
    let d := (clusterReset s).dev
    d.life.custUp = false ∧ d.vq.ctl = 0 ∧ d.cust.sessions = [] ∧ d.cust.logins = [] ∧
    d.cust.wd = rebootingWd s.dev.tb.now s.dev.cust.wd ∧ d.tb = s.dev.tb ∧ d.ks.keys = s.dev.ks.keys ∧ d.net = s.dev.net := by
  obtain ⟨e, hbeside, hsessions, hlogins, hdev⟩ := clusterReset_dev s
  obtain ⟨hlife, htb, hkeys, hnet, hvq, hwd⟩ : _ ∧ _ ∧ _ ∧ _ ∧ _ ∧ _ := by
    simpa only [besideCluster, Prod.mk.injEq] using hbeside
  simp only [hdev, raise_life, raise_vq, raise_cust, raise_tb, raise_ks, raise_net, onWd, onCust, hlife, htb, hkeys, hnet, hvq, hwd,
    hsessions, hlogins, and_self]

/-! Memory that is zeroed. -/

/-- Keeping entries by their numbers keeps an entry whole or not at all. -/
theorem look_keep_key {α : Type} (p : Nat → Bool) (m : FMap α) (k : Nat) :
    look (keep (fun k _ => p k) m) k = if p k then look m k else none := by
  induction m with
  | nil => simp [keep, look]
  | cons e m ih =>
    obtain ⟨a, v⟩ := e
    unfold keep at ih ⊢
    by_cases hak : a = k
    · subst hak
      cases ha : p a <;> simp [ha, look, ih]
    · cases ha : p a <;> simp [ha, look, hak, ih]

theorem readByte_zeroRange (m : FMap Byte) (a n x : Nat) :
    readByte (zeroRange m a n) x = if a ≤ x ∧ x < a + n then 0 else readByte m x := by
  unfold readByte lookD zeroRange
  rw [look_keep_key (fun k => !(decide (a ≤ k ∧ k < a + n)))]
  by_cases hx : a ≤ x ∧ x < a + n <;> simp [hx]

theorem clusterReset_mem (s : State) : (clusterReset s).mem = zeroRange s.mem sramBase 0x400000 := by
  simp only [clusterReset]

/-! The watchdog. -/

section
variable {s : State}

theorem wdKick_other {v : BitVec 32} (h1 : v ≠ 0xA5#32) (h2 : v ≠ 0x5A#32) : execWdKick v s = becomes s s.dev := by
  simp [execWdKick, onDev, h1, h2]

theorem watchdogExpire_running (hen : s.dev.cust.wd.en = true) (hreboot : s.dev.cust.wd.rebooting = false)
    (hgait : s.dev.life.gait ≠ 3) :
    let u := { s with dev := reach (s.dev.cust.wd.since + 1000000 * s.dev.cust.wd.period) s.dev }
    (2 ≤ s.dev.cust.wd.resets.length → execWatchdogExpire s = .next (fullReset 2 u)) ∧
    (s.dev.cust.wd.resets.length < 2 → execWatchdogExpire s = .next (clusterReset u)) := by
  constructor
  · intro h
    simp [execWatchdogExpire, hen, hreboot, hgait, h, ms, Nat.mul_comm]
  · intro h
    simp [execWatchdogExpire, hen, hreboot, hgait, Nat.not_le.mpr h, ms, Nat.mul_comm]

theorem clusterRebootDone_other (hreboot : s.dev.cust.wd.rebooting = true)
    (h : ∀ i, slotImage s.dev s.dev.cust.booted = some i → i.measurement ≠ s.dev.cust.latch) :
    execClusterRebootDone s = .next (fullReset 2 s) := by
  have hother : ((slotImage s.dev s.dev.cust.booted).any fun i => i.measurement == s.dev.cust.latch) = false := by
    cases hs : slotImage s.dev s.dev.cust.booted with
    | none => rfl
    | some i => simpa using h i hs
  simp [execClusterRebootDone, hreboot, hother]

/-- The units that the cluster's way back leaves: the key store and the custodian's state. -/
def keysAndCustodian (d : Dev) := (d.ks, d.cust)

theorem keysAndCustodian_reseedInst (i : Nat) (d : Dev) : keysAndCustodian (reseedInst i d) = keysAndCustodian d := rfl

theorem keysAndCustodian_setProc (p : Nat) (q : Proc) (d : Dev) : keysAndCustodian (setProc p q d) = keysAndCustodian d := rfl

theorem clusterRebootDone_latched {i : FwImage} (hreboot : s.dev.cust.wd.rebooting = true)
    (hi : slotImage s.dev s.dev.cust.booted = some i) (h : i.measurement = s.dev.cust.latch) :
    ∃ d, execClusterRebootDone s = becomes s d ∧ d.life.custUp = true ∧ d.ks = s.dev.ks ∧
      d.cust.wd.en = true ∧ d.cust.wd.rebooting = false ∧ d.cust.wd.resets = s.dev.cust.wd.resets := by
  have hlatched : ((slotImage s.dev s.dev.cust.booted).any fun i => i.measurement == s.dev.cust.latch) = true := by
    simp [hi, h]
  unfold execClusterRebootDone
  extract_lets d reseeded cores up life
  have hkeep : keysAndCustodian cores = keysAndCustodian s.dev := calc
    keysAndCustodian cores
    _ = keysAndCustodian reseeded := foldl_keep keysAndCustodian _ (fun d n => keysAndCustodian_setProc _ _ d) _ _
    _ = keysAndCustodian s.dev := foldl_keep keysAndCustodian _ (fun d i => keysAndCustodian_reseedInst i d) _ _
  obtain ⟨hks, hcust⟩ := Prod.mk.inj hkeep
  rw [if_neg (by simp [d, hreboot]), if_neg (by simp [d, hlatched])]
  clear_value cores
  exact ⟨_, rfl, rfl, hks, rfl, rfl, congrArg (fun c => c.wd.resets) hcust⟩

end

/-! The time base and failed channels of memory. -/

/-- A byte of a failed channel reads poisoned (R47, R49). -/
theorem poisonedAt_of_failed {d : Dev} {a : Nat} (ha : hbmBase ≤ a) (hc : (a - hbmBase) / 256 % 32 ∈ d.life.hbmFailed) :
    poisonedAt a 1 d = true := by
  have hfailed : has d.life.hbmFailed ((a - hbmBase) / 256 % 32) = true := List.any_beq'.trans (by simpa using hc)
  simp [poisonedAt, ha, hfailed]

/-- Settles O40: the reset of the cluster by `clusterReset_dev`, its memory by `readByte_zeroRange`; the other clauses are the
branches of their commands. -/
theorem watchdogTimeMemory : Obligations.WatchdogTimeMemory := by
  unfold Obligations.WatchdogTimeMemory
  refine ⟨?watchdog, ?memory⟩
  case watchdog =>
    intro s t w onw
    refine ⟨rfl, ?kick, ?late, ?unarmed, ?other, ?expire, ?reboot, ?leaves⟩
    case kick =>
      intro harmed hin
      have hin : s.dev.tb.now ≤ t + ms 1 := hin
      simp [execWdKick, onDev, w, onw, harmed, hin, onWd, onCust]
    case late =>
      intro harmed hlate
      have hlate : ¬s.dev.tb.now ≤ t + ms 1 := Nat.not_le.mpr hlate
      simp [execWdKick, onDev, w, harmed, hlate]
    case unarmed =>
      intro harmed
      simp [execWdKick, onDev, w, harmed]
    case other =>
      intro v h1 h2
      exact wdKick_other h1 h2
    case expire =>
      intro hen hreboot hgait u v
      obtain ⟨hdevice, hcluster⟩ := watchdogExpire_running hen hreboot hgait
      obtain ⟨hup, hvq, hsessions, hlogins, hwd, htb, hkeys, hnet⟩ := clusterReset_leaves u
      refine ⟨hdevice, fun h => ⟨hcluster h, hup, ?_, ?_, ?_, hsessions, hlogins, hvq, ?_, ?_, htb, hkeys, hnet,
        clusterReset_pending u⟩⟩
      · rw [hwd]; rfl
      · rw [hwd]; rfl
      · rw [hwd]; rfl
      · intro a hlow hhigh
        rw [clusterReset_mem, readByte_zeroRange, if_pos ⟨hlow, hhigh⟩]
      · intro a hout
        rw [clusterReset_mem, readByte_zeroRange, if_neg (by omega)]
    case reboot =>
      exact fun hreboot => ⟨clusterRebootDone_other hreboot, fun i => clusterRebootDone_latched hreboot⟩
    case leaves =>
      intro rest (hrest : s.dev.cust.wd.resets = t :: rest)
      simp only [exec_cresetsExpire, execCresetsExpire, onDev, hrest]
      rfl
  case memory =>
    intro s ppb ns c addr replies
    refine ⟨?slew, ?slewTooFar, ?step, ?stepBusy, ?fails, ?failed⟩
    case slew =>
      intro hlow hhigh
      simp [execTimeSlew, onDev, replies, Int.not_lt.mpr hlow, Int.not_lt.mpr hhigh]
    case slewTooFar =>
      intro hfar
      simp [execTimeSlew, onDev, replies, hfar]
    case step =>
      intro hquiet hroom
      have hallowed : ¬((1000 < ns.toNat ∧ transportBusy s.dev = true) ∨ 2 ^ 64 ≤ s.dev.tb.now + ns.toNat) := by
        rintro (⟨hlong, hbusy⟩ | hfull)
        · rcases hquiet with h | h
          · omega
          · exact absurd hbusy (by simp [h])
        · omega
      simp only [exec_timeStep, execTimeStep, onDev, if_neg hallowed, replies]
    case stepBusy =>
      intro hlong hbusy
      simp [execTimeStep, onDev, replies, hlong, hbusy]
    case fails =>
      intro hc
      simp only [exec_hbmChannelFail, execHbmChannelFail, onDev, has_eq_false hc]
      refine ⟨_, rfl, rfl, fun a ha hchannel => poisonedAt_of_failed ha ?_⟩
      simp [hchannel]
    case failed =>
      intro hc
      have hfailed : has s.dev.life.hbmFailed c.val = true := List.any_beq'.trans (by simpa using hc)
      simp [execHbmChannelFail, onDev, hfailed]

end Sys2Proof.Machine
end

section
/-! PROOF. A hobble and what it leaves, a zeroisation, the unlock and the external loop (R498-R502, R508). -/

namespace Sys2Proof.Machine

open Sys2Proof

/-! No step of a hobble brings an operation back, or changes the latches or the state of life set before it. -/

/-- No operation is held, and the state of life and the guard die are the given ones. -/
structure Hobbling (life : LifeState) (guard : Guard) (d : Dev) : Prop where
  ops : d.op.ops = []
  life : d.life = life
  guard : d.guard = guard

variable {life : LifeState} {guard : Guard} {d : Dev}

theorem Hobbling.foldl {α : Type} {f : Dev → α → Dev} (hf : ∀ d x, Hobbling life guard d → Hobbling life guard (f d x))
    (l : List α) (h : Hobbling life guard d) : Hobbling life guard (l.foldl f d) := by
  induction l generalizing d with
  | nil => exact h
  | cons x l ih => exact ih (hf d x h)

/-- What keeps the operations, the state of life and the guard die as they are. -/
theorem Hobbling.of_eq {e : Dev} (h : Hobbling life guard d) (ho : e.op = d.op) (hl : e.life = d.life)
    (hg : e.guard = d.guard) : Hobbling life guard e :=
  ⟨ho ▸ h.ops, hl.trans h.life, hg.trans h.guard⟩

theorem Hobbling.answer (v : Via) (st : Status) (r : Bytes) (h : Hobbling life guard d) : Hobbling life guard (answer v st r d) := by
  have hb := behindDoors_answer v st r d
  simp only [behindDoors, Prod.mk.injEq] at hb
  obtain ⟨hl, -, -, ho, -, -, -, -, -, -, -, -, -, hg, -⟩ := hb
  exact h.of_eq ho hl hg

/-- With no operation held, the end of a message leaves only the images that drained. -/
theorem Hobbling.endMsg (tag : Nat) (h : Hobbling life guard d) : Hobbling life guard (endMsg tag d) := by
  have hr : retire tag { d with rig := { d.rig with msgs := del d.rig.msgs tag } } =
      { d with rig := { d.rig with msgs := del d.rig.msgs tag } } := by
    simp [retire, h.ops, look]
  rw [Machine.endMsg, hr]
  exact h.of_eq rfl rfl rfl

theorem Hobbling.bumps {α : Type} (key : Nat) (l : List α) (h : Hobbling life guard d) :
    Hobbling life guard (l.foldl (fun d _ => bump key d) d) :=
  Hobbling.foldl (f := fun d _ => bump key d) (fun _ _ h => h.of_eq rfl rfl rfl) l h

theorem Hobbling.closeChan (c : Nat) (h : Hobbling life guard d) : Hobbling life guard (closeChan c d) := by
  unfold Machine.closeChan
  split
  · exact h
  · next ch _ =>
    extract_lets tags gone dc d1
    have h1 : Hobbling life guard d1 := by
      simp only [d1, dc]
      split
      · exact (h.bumps (dk 0x34F8 0x0D) (List.range tags.length)).of_eq rfl rfl rfl
      · exact h.of_eq rfl rfl rfl
      · exact h
    exact Hobbling.foldl (fun _ t h => h.endMsg t) _ (h1.of_eq rfl rfl rfl)

theorem Hobbling.endAssoc (a : Nat) (h : Hobbling life guard d) : Hobbling life guard (endAssoc a d) := h.of_eq rfl rfl rfl

theorem Hobbling.hostsOff (h : Hobbling life guard d) : Hobbling life guard (hostsOff d) :=
  Hobbling.of_eq (Hobbling.foldl (fun _ p h => h.endAssoc (48 + p)) _ (Hobbling.foldl (fun _ c h => h.closeChan c) _ h)) rfl rfl rfl

theorem Hobbling.tenantPinsOff (h : Hobbling life guard d) : Hobbling life guard (tenantPinsOff d) := h.of_eq rfl rfl rfl

theorem Hobbling.portsOff (h : Hobbling life guard d) : Hobbling life guard (portsOff d) := by
  unfold Machine.portsOff
  have hl := Hobbling.foldl (f := fun d (e : Nat × Listener) => setNum 0 (lk e.1 0x0B) 0 d) (fun _ _ h => h.of_eq rfl rfl rfl)
    d.net.listeners h
  exact hl.of_eq rfl rfl rfl

theorem Hobbling.onProc (p : Nat) (f : Proc → Proc) (h : Hobbling life guard d) : Hobbling life guard (onProc p f d) :=
  h.of_eq rfl rfl rfl

theorem Hobbling.releaseJwait (p : Nat) (h : Hobbling life guard d) : Hobbling life guard (releaseJwait p d) := by
  unfold Machine.releaseJwait
  split
  · split
    · exact h
    · exact h.of_eq rfl rfl rfl
  · exact h

theorem Hobbling.deliverSlot (p k : Nat) (x : Done) (h : Hobbling life guard d) : Hobbling life guard (deliverSlot p k x d) := by
  unfold Machine.deliverSlot
  split
  · exact (h.onProc _ _).releaseJwait p
  · exact h

theorem Hobbling.squashSlots (p : Nat) (h : Hobbling life guard d) : Hobbling life guard (squashSlots p d) := by
  refine Hobbling.foldl (fun d k h => ?_) _ h
  split
  · exact h.deliverSlot _ _ _
  · exact h

theorem Hobbling.enginesIdle (h : Hobbling life guard d) : Hobbling life guard (enginesIdle d) :=
  Hobbling.foldl (fun _ p h => h.onProc p _) _ (Hobbling.foldl (fun _ p h => h.squashSlots p) _ h)

theorem Hobbling.dropQuiesce (st : Status) (h : Hobbling life guard d) : Hobbling life guard (dropQuiesce st d) :=
  Hobbling.foldl (fun _ v h => h.answer v st []) _ (h.of_eq rfl rfl rfl)

theorem Hobbling.dropUses (st : Status) (h : Hobbling life guard d) : Hobbling life guard (dropUses st d) :=
  Hobbling.foldl (fun _ w h => h.answer w.hdr.via st []) _ (h.of_eq rfl rfl rfl)

theorem Hobbling.haltReq (p : Nat) (h : Hobbling life guard d) : Hobbling life guard (haltReq p d) := by
  simp only [Machine.haltReq]
  split
  · exact h
  · split
    · exact h.onProc _ _
    · exact h.of_eq rfl rfl rfl

/-- The key store and the random number generator, as the answers given while the generators are zeroed leave them. -/
def drawn (d : Dev) := (d.ks, d.rng)

theorem drawn_zeroDrbg (st : Status) (d : Dev) : drawn (zeroDrbg st d) =
    (d.ks, { d.rng with insts := [], domains := [], nextDomain := 128, wait := [], gens := [] }) := by
  refine foldl_keep drawn _ (fun d g => ?_) _ _
  have hb := behindDoors_answer g.via st [] d
  simp only [behindDoors, Prod.mk.injEq] at hb
  obtain ⟨-, -, -, -, hk, -, -, -, -, -, -, hr, -⟩ := hb
  simp only [drawn, hk, hr]

theorem Hobbling.zeroDrbg (st : Status) (h : Hobbling life guard d) : Hobbling life guard (zeroDrbg st d) :=
  Hobbling.foldl (fun _ g h => h.answer g.via st []) _ (h.of_eq rfl rfl rfl)

theorem Hobbling.clearKeyCaches (h : Hobbling life guard d) : Hobbling life guard (clearKeyCaches d) := h.of_eq rfl rfl rfl

/-- The first part of a hobble's effects: everything that serves stops. -/
def stopServing (d : Dev) : Dev :=
  (List.range 512).foldl (fun d p => haltReq p d)
    (dropUses .hobbled (dropQuiesce .hobbled (enginesIdle (portsOff (tenantPinsOff (hostsOff d))))))

/-- The second part: keys, generators, leases, the card hosts and debug. -/
def dropSecrets (d : Dev) : Dev :=
  let d := zeroDrbg .hobbled (clearKeyCaches d)
  let sd : SdHost := { card := d.per.sd.card }
  let per := { d.per with sd := sd, icc0 := { present := d.per.icc0.present }, icc1 := { present := d.per.icc1.present } }
  endDebug { d with ks := { d.ks with leases := [] }, per := per }

theorem hobbleEffects_eq (d : Dev) : hobbleEffects d =
    dropSecrets (stopServing (squashAll { d with life := { d.life with hobbled := true, ready := false } })) := by
  simp only [hobbleEffects, dropSecrets, stopServing]

theorem Hobbling.stopServing (h : Hobbling life guard d) : Hobbling life guard (stopServing d) :=
  Hobbling.foldl (fun _ p h => h.haltReq p) _ (h.hostsOff.tenantPinsOff.portsOff.enginesIdle.dropQuiesce _ |>.dropUses _)

/-- What holds after a hobble: nothing serves, no key is cached or leased, no operation is held; the guard die is as it was but
for the end of debug. -/
structure Hobbled (e : Dev) (life : LifeState) (guard : Guard) : Prop where
  life : e.life = life
  ops : e.op.ops = []
  caches : e.ks.caches = []
  leases : e.ks.leases = []
  insts : e.rng.insts = []
  guard : e.guard = { guard with debugLevel := 0, debugDomain := 0, debugTill := 0 }

theorem Hobbling.dropSecrets (h : Hobbling life guard d) : Hobbled (dropSecrets d) life guard := by
  have hz := h.clearKeyCaches.zeroDrbg .hobbled
  have hd := drawn_zeroDrbg .hobbled (Machine.clearKeyCaches d)
  simp only [Machine.dropSecrets, drawn, Prod.mk.injEq] at hd ⊢
  generalize Machine.zeroDrbg .hobbled (Machine.clearKeyCaches d) = e at hz hd ⊢
  obtain ⟨hk, hr⟩ := hd
  exact ⟨hz.life, hz.ops, congrArg KeyStore.caches hk, rfl, congrArg RngState.insts hr,
    congrArg (fun g : Guard => { g with debugLevel := 0, debugDomain := 0, debugTill := 0 }) hz.guard⟩

theorem hobbling_squashAll (d : Dev) : Hobbling d.life d.guard (squashAll d) := ⟨rfl, rfl, rfl⟩

theorem hobbled_hobbleEffects (d : Dev) :
    Hobbled (hobbleEffects d) { d.life with hobbled := true, ready := false } d.guard := by
  rw [hobbleEffects_eq]
  exact (hobbling_squashAll _).stopServing.dropSecrets

/-- An event on a latch that is not set, in a state with keys, hobbles. -/
theorem hobbleEvent_first {src : Nat} {l : TamperLatch} {d : Dev} (hk : keyState d = true) (hs : d.guard.hobble.set = false) :
    Hobbled (hobbleEvent src l d) { d.life with hobbled := true, ready := false }
      { d.guard with hobble := { l with rtc := w64 d.tb.rtc, set := true, events := 1 } } := by
  unfold hobbleEvent
  extract_lets l1 d1
  have hk1 : keyState d1 = true := hk
  have hs1 : d1.guard.hobble.set = false := hs
  rw [if_neg (by simp [hk1]), if_neg (by simp [hs1])]
  exact hobbled_hobbleEffects _

/-- An event on a latch that is set counts on it and is recorded. -/
theorem hobbleEvent_again {src : Nat} {l : TamperLatch} {d : Dev} (hk : keyState d = true) (hs : d.guard.hobble.set = true) :
    hobbleEvent src l d =
      { report src 0x0500 0xFFFF (tamperParams { l with rtc := w64 d.tb.rtc, set := true }) d with
        guard := { d.guard with hobble := { d.guard.hobble with events := min 255 (d.guard.hobble.events + 1) } } } := by
  have hk' : ∀ p, keyState (report src 0x0500 0xFFFF p d) = true := fun _ => hk
  simp only [hobbleEvent, hk', report_guard, hs]
  rfl

/-! Zeroisation with main power (R502). -/

/-- A zeroisation with main power clears the memory and blanks what the NAND and the battery domain keep. -/
theorem zeroise_powered {s : State} {l : TamperLatch} (hm : monitorsOff s.dev = false) (hp : s.dev.guard.mainPower = true) :
    zeroise l s =
      let t := clearAll s.dev.pow.resetCause { s with dev := zeroLatches l s.dev }
      { t with dev := { blankNand t.dev with
        life := { t.dev.life with zeroised := true, booting := false }
        cust := { (blankNand t.dev).cust with bootStep := 1 } } } := by
  have hp' : (zeroLatches l s.dev).guard.mainPower = true := hp
  have hc : (zeroLatches l s.dev).pow.resetCause = s.dev.pow.resetCause := rfl
  simp only [zeroise, hm, hp', Bool.not_true, Bool.false_eq_true, if_false, hc]
  rfl

/-- The zeroise latch is set whatever it held. -/
theorem zeroLatches_zeroise_set (l : TamperLatch) (d : Dev) : (zeroLatches l d).guard.zeroise.set = true := by
  simp only [zeroLatches, blankBbram]
  split
  · assumption
  · rfl

/-! The external loop (R508). -/

/-- Once the loop is off, none of its detectors asserts. -/
theorem loop_not_asserted {on : Bool} {m : FMap Nat} (hoff : on = false) {k x : Nat}
    (hmem : (k, x) ∈ keep (fun k _ => !(!on && k / 2 == 8)) m) : k / 2 ≠ 8 := by
  have hk := (List.mem_filter.mp hmem).2
  simpa [hoff] using hk

/-- Settles O42: a hobble by `Hobbled`, what every step of its effects keeps; a zeroisation by what `clearAll` and `blankNand`
leave; the unlock by `serve_ok`. -/
theorem hobbleZeroiseUnlock : Obligations.HobbleZeroiseUnlock := by
  unfold Obligations.HobbleZeroiseUnlock
  refine ⟨?hobble, ?zeroise, ?unlock, ?loop⟩
  case hobble =>
    intro d src l _ hkeys
    refine ⟨fun hset => ?_, fun hset => ⟨_, ?_, rfl⟩⟩
    · obtain ⟨hlife, hops, hcaches, hleases, hinsts, hguard⟩ := hobbleEvent_first (src := src) (l := l) hkeys hset
      exact ⟨congrArg LifeState.hobbled hlife, congrArg LifeState.ready hlife, hcaches, hleases, hops, hinsts,
        congrArg Guard.hobble hguard⟩
    · rw [hobbleEvent_again hkeys hset]
  case zeroise =>
    intro s l hm hp
    rw [zeroise_powered hm hp]
    exact ⟨rfl, rfl, rfl, rfl, rfl, rfl, zeroLatches_zeroise_set l s.dev, rfl, rfl⟩
  case unlock =>
    intro s h d role hs hr hset hok
    have hrun : unlock h d = dueReset (answer h.via .ok [] (clearHobble (sessionOf d h.via).1 (sessionOf d h.via).2 d)) := by
      simp only [unlock, hok, Bool.not_true, Bool.false_eq_true, if_false]
    rw [exec_hobbleUnlock, execHobbleUnlock, serve_ok hs rfl rfl hr (by simp [hset]), dropStaged_none rfl]
    simp only [hrun]
    rfl
  case loop =>
    intro s on t d
    refine ⟨?_, fun hchange => ?_⟩
    · rw [exec_extLoopEnable, execExtLoopEnable, writeRow_ok (d := setNum 1 (dk 0x6801 1) (b2n on) d) rfl (by decide),
        entryWritten]
      exact congrArg (fun v => becomes s (emit _ (raise _ _ _ _ [_, _, (16, v)] _))) (leVal_enable on)
    · rw [exec_extLoopEffect, execExtLoopEffect]
      simp only [onDev, hchange]
      exact ⟨_, rfl, rfl, rfl, fun hoff _ _ hmem => loop_not_asserted hoff hmem⟩

end Sys2Proof.Machine
end

section
/-! PROOF. What detectors, self-checks and the shadows lead to (R493-R495, R505, R507). -/

namespace Sys2Proof.Machine

open Sys2Proof

/-- A detector of a monitor that does not run asserts nothing (R493). -/
theorem assertDetector_idle {m det item : Nat} {value limit : Int} {s : State} (h : monitorRuns s.dev m = false) :
    assertDetector m det item value limit s = s := by
  simp [assertDetector, h]

/-- VBAT within its limits is no extreme reading (R507). -/
theorem extreme_vbat_false {d : Dev} {mv : Nat} (hhigh : mv ≤ 4200) (hlow : d.guard.mainPower = true ∨ 2300 ≤ mv) :
    extreme d 9 0 mv = false := by
  have hhigh' : ¬ (4200 : Int) < mv := by omega
  have hlow' : d.guard.mainPower = true ∨ ¬ (mv : Int) < 2300 := hlow.imp_right (by omega)
  rcases hlow' with hmain | hbattery
  · simp [extreme, hhigh', hmain]
  · simp [extreme, hhigh', hbattery]

/-- VBAT above 4.2 V is an extreme reading (R507). -/
theorem extreme_vbat_high {d : Dev} {mv : Nat} (h : 4200 < mv) : extreme d 9 0 mv = true := by
  have h' : (4200 : Int) < mv := by omega
  simp [extreme, h']

theorem us_20 : us 20 = 20000 := rfl

/-- Settles O41: the branches of `assertDetector`, of the timeout of a lone detector, of a shadow and of VBAT. -/
theorem detectors : Obligations.Detectors := by
  unfold Obligations.Detectors
  refine ⟨?detector, ?alone, ?shadow, ?vbat, ?vbatHigh⟩
  case detector =>
    intro s monitor item det value limit m key partner now g d latch near reading alone hobbles
    refine ⟨fun hruns => ?runs, fun hruns => ?_, fun inside => rfl, rfl, rfl⟩
    case runs =>
      rw [exec_detectorAssert, execDetectorAssert]
      have hassert : assertDetector m det.val item.toNat value.toInt limit.toInt s =
          if (zeroiseClass m || extreme d m item.toNat value.toInt) &&
              ((look g.alone partner).isSome && decide (now ≤ lookD 0 g.asserted partner + us 20)) then
            zeroise (latch 3) { s with dev := d }
          else if zeroiseClass m then
            if (look g.alone key).isSome then { s with dev := { d with guard := { d.guard with asserted := g.asserted } } }
            else { s with dev := alone (ins g.alone key reading) }
          else { s with dev := hobbles (if extreme d m item.toNat value.toInt then ins g.alone key reading
            else del g.alone key) } := by
        unfold assertDetector
        rw [if_neg (by simp [hruns])]
      have hnear' : ((look g.alone partner).isSome && decide (now ≤ lookD 0 g.asserted partner + us 20)) = decide near :=
        Bool.eq_iff_iff.mpr (by rw [us_20, Bool.and_eq_true, decide_eq_true_eq, decide_eq_true_eq])
      clear_value d alone hobbles latch
      rw [hassert, hnear']
      refine ⟨fun hbad hnear => ?_, fun hclass hnear hkey => ?_, fun hclass hext hnear => ?_, fun hclass hext => ?_⟩
      · rw [if_pos (by simpa [hnear] using hbad)]
      · rw [if_neg (by simp [hnear]), if_pos hclass, if_neg (by simp [hkey])]
      · rw [if_neg (by simp [hnear]), if_neg (by simp [hclass]), if_pos hext]
      · rw [if_neg (by simp [hclass, hext]), if_neg (by simp [hclass]), if_neg (by simp [hext])]
    · rw [exec_detectorAssert, execDetectorAssert, assertDetector_idle hruns]
  case alone =>
    intro s key item value limit hlone d e
    rw [exec_detectorDisagreeTimeout, execDetectorDisagreeTimeout]
    simp only [onDev, hlone, us_20]
    rfl
  case shadow =>
    intro s cls unit offset hruns d
    rw [exec_shadowMismatch, execShadowMismatch]
    simp only [onDev, hruns, Bool.not_true, Bool.false_eq_true, if_false, Fin.val_zero, OfNat.zero_ne_ofNat, decide_false,
      Bool.false_and, becomes, d]
  case vbat =>
    intro s mv hhigh hlow
    rw [exec_vbatThreshold]
    unfold execVbatThreshold
    extract_lets _ _ d l
    have hgone : (!s.dev.guard.mainPower && mv == 0#16) = false := by
      rcases hlow with hmain | hbattery
      · simp [hmain]
      · have hne : mv ≠ 0#16 := by rintro rfl; simp at hbattery
        simp [hne]
    rw [if_neg (Bool.eq_false_iff.mp hgone), if_neg (Bool.eq_false_iff.mp (extreme_vbat_false (d := d) hhigh hlow))]
  case vbatHigh =>
    intro s mv h d
    have hne : mv ≠ 0#16 := by rintro rfl; simp at h
    rw [exec_vbatThreshold, execVbatThreshold]
    dsimp only
    rw [if_neg (by simp [hne]), if_pos (extreme_vbat_high h)]
    exact ⟨_, rfl⟩

end Sys2Proof.Machine
end

section
/-! PROOF. Tamper events while the device is hobbled (R500). -/

namespace Sys2Proof.Machine

open Sys2Proof

/-- The monitors run where keys resolve (R497). -/
theorem monitorsOff_of_keyState {d : Dev} (h : keyState d = true) : monitorsOff d = false := by
  simp only [keyState, Bool.or_eq_true, beq_iff_eq] at h
  rcases h with h | h <;> simp [monitorsOff, h]

theorem hobbleNow_armed {d : Dev} {src : Nat} {l : TamperLatch} (hkeys : keyState d = true) (hz : d.life.zeroised = false) :
    hobbleNow src l d = leaveStandbyHobbled (hobbleEvent src l d) := by
  simp only [hobbleNow, monitorsOff_of_keyState hkeys, hz, Bool.or_self, Bool.false_eq_true, if_false]

/-- An event on a set latch counts, and its record comes last; where Standby ends for it, what waited in the on-die buffer comes
before what the recorder held. -/
theorem hobbleNow_again {d : Dev} {src : Nat} {l : TamperLatch} (hkeys : keyState d = true) (hz : d.life.zeroised = false)
    (hset : d.guard.hobble.set = true) (hroom : d.guard.hobble.events < 255) :
    ∃ e before, (hobbleNow src l d).guard.hobble = { d.guard.hobble with events := d.guard.hobble.events + 1 } ∧
      (hobbleNow src l d).audit.vc3 = before ++ d.audit.vc3 ++ [e] ∧ e.event = 0x0500 ∧ e.time = d.tb.now := by
  rw [hobbleNow_armed hkeys hz, hobbleEvent_again hkeys hset, Nat.min_eq_right hroom]
  unfold leaveStandbyHobbled
  split
  · exact ⟨_, d.audit.standbyBuf, rfl, (List.append_assoc _ _ _).symm, rfl, rfl⟩
  · exact ⟨_, [], rfl, rfl, rfl, rfl⟩

/-- What a zeroisation with main power leaves. -/
theorem zeroise_zeroised {s : State} (l : TamperLatch) (hkeys : keyState s.dev = true) (hmain : s.dev.guard.mainPower = true) :
    (zeroise l s).dev.life.zeroised = true ∧ (zeroise l s).mem = [] ∧ (zeroise l s).dev.ks.keys = [] := by
  obtain ⟨hmem, -, hzeroised, hks, -⟩ := hobbleZeroiseUnlock.2.1 s l (monitorsOff_of_keyState hkeys) hmain
  exact ⟨hzeroised, hmem, hks⟩

/-- Settles O51: `hobbleEvent_again` counts and records; the detectors lead to it, or to a zeroisation, as O41 says. -/
theorem eventsWhileHobbled : Obligations.EventsWhileHobbled := by
  unfold Obligations.EventsWhileHobbled
  refine ⟨?event, fun s l _ hkeys hmain => zeroise_zeroised l hkeys hmain, ?detector⟩
  case event =>
    intro d src l _ hset hkeys hroom
    rw [hobbleEvent_again hkeys hset]
    refine ⟨_, rfl, rfl, rfl, rfl, ?_⟩
    rw [Nat.min_eq_right hroom]
  case detector =>
    intro s monitor item det value limit m g c _ hzeroised hset hkeys hruns
    obtain ⟨hbad, -, -, hplain⟩ := (detectors.1 s monitor item det value limit).1 hruns
    refine ⟨fun hext hclass hroom => ?_, fun hmain hclass hpartner hnear => ?_⟩
    · have hexec := hplain hclass hext
      obtain ⟨e, before, hcount, hrecords, hevent, htime⟩ := hobbleNow_again (src := monitorSrc m (det.val + 1))
        (l := latchOf s.dev m (det.val + 1) item.toNat value.toInt limit.toInt)
        (d := { s.dev with guard := { g with asserted := ins g.asserted (m * 2 + det.val) s.dev.tb.now,
                                             lastAssert := some s.dev.tb.now, alone := del g.alone (m * 2 + det.val) } })
        hkeys hzeroised hset hroom
      refine ⟨_, e, hexec, hcount, ?_, hevent, htime, ?_⟩
      · exact (congrArg List.getLast? hrecords).trans List.getLast?_concat
      · refine Nat.lt_of_lt_of_eq ?_ (congrArg List.length hrecords).symm
        simp only [List.length_append, List.length_cons, List.length_nil]
        omega
    · exact ⟨_, hbad hclass ⟨hpartner, hnear⟩, zeroise_zeroised _ hkeys hmain⟩

end Sys2Proof.Machine
end

section
/-! PROOF. Standby, power removal and resets (R496, R507, R536, R537, R539, R540, R543). -/

namespace Sys2Proof.Machine

open Sys2Proof

/-! What the tests, the generators and the ports do at the end of Standby leaves the gait, the power state and the on-die buffer. -/

/-- Whether the device runs: its state of life, its engines, its power state and what the on-die buffer of Standby holds. -/
def running (d : Dev) := (d.life, d.lopeOn, d.pow, d.audit.standbyBuf)

theorem running_raise (src ev dom actor : Nat) (p : List (Nat × Nat)) (d : Dev) :
    running (raise src ev dom actor p d) = running d := rfl

theorem running_foldl {α : Type} {f : Dev → α → Dev} (h : ∀ d a, running (f d a) = running d) (l : List α) (d : Dev) :
    running (l.foldl f d) = running d := foldl_keep running f h l d

/-! Self-tests. -/

theorem running_drainEngine (n : Nat) (d : Dev) : running (drainEngine n d) = running d := by
  simp only [drainEngine]
  split
  · rfl
  · split <;> rfl

theorem running_testInHalves (d : Dev) : running (testInHalves d) = running d := by
  unfold testInHalves
  extract_lets cores engines _ _ d1 d2
  calc running _ = running d2 := running_foldl (fun d n => running_drainEngine n d) _ _
    _ = running d1 := running_foldl (f := fun d n => drainCore n d) (fun _ _ => rfl) _ _

/-! Generators and pins. -/

theorem running_startRng (d : Dev) : running (startRng d) = running d := by
  unfold startRng
  extract_lets d1
  calc running _ = running d1 := running_foldl (f := fun d i => reseedInst i d) (fun _ _ => rfl) _ _
    _ = running d := running_foldl (f := fun d k => onSrc k (fun x => { x with state := 0 }) d) (fun _ _ => rfl) _ _

theorem running_restorePins (d : Dev) : running (restorePins d) = running d := rfl

/-! The end of a message. -/

theorem running_releaseHolds (tag : Nat) (o : Op) (d : Dev) : running (releaseHolds tag o d) = running d := by
  simp only [releaseHolds]
  split
  · rfl
  · split <;> rfl

theorem running_countChan (d : Dev) (o : Op) (up : Bool) : running (countChan d o up) = running d := by
  unfold countChan
  split
  · rfl
  · split <;> rfl

theorem running_retireOne (tag : Nat) (o : Op) (d : Dev) : running (retireOne tag o d) = running d := by
  unfold retireOne
  extract_lets d1 d2
  calc running _ = running d2 := rfl
    _ = running d1 := running_countChan ..
    _ = running d := running_releaseHolds ..

theorem running_settleParent (p : Nat) (f : Op → Op) (d : Dev) : running (settleParent p f d) = running d := by
  simp only [settleParent]
  split
  · rfl
  · split
    · exact running_retireOne ..
    · rfl

theorem running_onOp (tag : Nat) (f : Op → Op) (d : Dev) : running (onOp tag f d) = running d := by
  unfold onOp
  split <;> rfl

theorem running_retire (tag : Nat) (d : Dev) : running (retire tag d) = running d := by
  simp only [retire]
  split
  · rfl
  · split
    · split
      · exact running_retireOne ..
      · exact (running_settleParent ..).trans (running_retireOne ..)
    · exact running_onOp ..

theorem running_endMsg (tag : Nat) (d : Dev) : running (endMsg tag d) = running d := running_retire ..

/-! Ports. -/

theorem running_onChan (c : Nat) (f : Chan → Chan) (d : Dev) : running (onChan c f d) = running d := by
  unfold onChan
  split <;> rfl

theorem running_portEvent (p typ sa pn info : Nat) (frame : Bytes) (d : Dev) :
    running (portEvent p typ sa pn info frame d) = running d := by
  simp only [portEvent, sendEvent]
  split
  · rfl
  · split
    · rfl
    · split
      · exact running_onChan ..
      · split <;> rfl

theorem running_loseTx (p an : Nat) (d : Dev) : running (loseTx p an d) = running d := by
  unfold loseTx
  split
  · rfl
  · split
    · rfl
    · exact running_portEvent ..

theorem running_loseRx (p i : Nat) (d : Dev) : running (loseRx p i d) = running d := by
  unfold loseRx
  split
  · rfl
  · split
    · rfl
    · exact running_portEvent ..

theorem running_rehoist (p : Nat) (d : Dev) : running (rehoist p d) = running d := by
  unfold rehoist
  extract_lets q d1 d2 again
  calc running _ = running d2 := rfl
    _ = running d1 := running_foldl (fun d i => running_loseRx p i d) _ _
    _ = running d := running_foldl (fun d an => running_loseTx p an d) _ _

theorem running_dropEgress (p : Nat) (d : Dev) : running (dropEgress p d) = running d := by
  unfold dropEgress
  extract_lets fs d1
  exact running_foldl (fun d t => running_endMsg t d) _ d1

theorem running_startPort (p : Nat) (d : Dev) : running (startPort p d) = running d := by
  unfold startPort
  extract_lets d1 blank m f now
  have h1 : running d1 = running d := running_dropEgress ..
  split
  · exact h1
  · split
    · exact h1
    · exact h1

/-! Frames of the transport. -/

theorem running_lostFrame (p sub : Nat) (tag : Option Nat) (d : Dev) : running (lostFrame p sub tag d) = running d := by
  simp only [lostFrame]
  split
  · exact running_endMsg ..
  · rfl

theorem running_egressFrame (p : Nat) (b : Bytes) (tag : Option Nat) (d : Dev) :
    running (egressFrame p b tag d) = running d := by
  unfold egressFrame
  split
  · exact running_lostFrame ..
  · rfl

theorem running_dropWaiting (fs : List EgressFrame) (d : Dev) : running (dropWaiting fs d) = running d := by
  refine running_foldl (fun d f => ?_) _ _
  split
  · exact running_endMsg ..
  · rfl

theorem running_addNeighbour (n : Neighbour) (d : Dev) : running (addNeighbour n d) = running d := by
  unfold addNeighbour
  extract_lets _ d1
  have h0 : ∀ net, running { d1 with net := net } = running d1 := fun _ => rfl
  rw [h0]
  simp only [d1]
  split
  · split
    · rfl
    · exact running_dropWaiting ..
  · rfl

theorem running_askNeighbour (p : Nat) (addr : Bytes) (d : Dev) : running (askNeighbour p addr d) = running d := by
  unfold askNeighbour
  split
  · exact running_egressFrame ..
  · exact running_egressFrame ..

theorem running_sendIp (p : Nat) (vlan : Option Nat) (ip : Ip) (tag : Option Nat) (d : Dev) :
    running (sendIp p vlan ip tag d) = running d := by
  simp only [sendIp]
  split
  · exact running_dropWaiting ..
  · split
    · split
      · exact running_egressFrame ..
      · rfl
    · exact (running_askNeighbour ..).trans (running_addNeighbour ..)

theorem running_sendSyn (c : Nat) (d : Dev) : running (sendSyn c d) = running d := by
  unfold sendSyn
  split
  · rfl
  · exact running_sendIp ..

/-! Routes and listeners. -/

/-- A generate call leaves all but the random number generator as it is. -/
theorem genCall_rng {i : Nat} {d e : Dev} (h : genCall i d = some e) : e = { d with rng := e.rng } := by
  simp only [genCall] at h
  split at h
  · cases h
  · cases h
    rfl

theorem genUntil_rng {fuel i n : Nat} {d e : Dev} (h : genUntil fuel i n d = some e) : e = { d with rng := e.rng } := by
  induction fuel generalizing d with
  | zero =>
    unfold genUntil at h
    split at h
    · cases h
      rfl
    · cases h
  | succ fuel ih =>
    unfold genUntil at h
    split at h
    · cases h
      rfl
    · split at h
      · cases h
      · next d1 h1 =>
        have he := ih h
        rw [genCall_rng h1] at he
        exact he

theorem draw_rng {i n : Nat} {d e : Dev} {b : Bytes} (h : draw i n d = some (b, e)) : e = { d with rng := e.rng } := by
  unfold draw at h
  split at h
  · cases h
  · next d1 h1 =>
    cases h
    rw [genUntil_rng h1]
    rfl

theorem running_newConn {t : TcpConn} {d e : Dev} {c : Nat} (h : newConn t d = some (c, e)) : running e = running d := by
  unfold newConn at h
  split at h
  · cases h
  · split at h
    · cases h
    · next r d1 h1 =>
      split at h
      · cases h
      · cases h
        exact ((congrArg running (draw_rng h1)).trans rfl : running d1 = running d)

theorem running_takeLocalPort (lport : Nat) (d : Dev) : running (takeLocalPort lport d).2 = running d := by
  unfold takeLocalPort
  split <;> rfl

theorem running_openRoute (r : Nat) (d : Dev) : running (openRoute r d) = running d := by
  unfold openRoute
  extract_lets x
  have hp : running (takeLocalPort x.lport d).2 = running d := running_takeLocalPort ..
  dsimp only
  generalize takeLocalPort x.lport d = lp at hp ⊢
  split
  · exact hp
  · next c e he =>
    exact (running_sendSyn c _).trans ((running_newConn he : running e = running lp.2).trans hp)

theorem running_openRoutes (d : Dev) : running (openRoutes d) = running d := by
  refine running_foldl (fun d r => ?_) _ _
  dsimp only
  split
  · exact running_openRoute ..
  · rfl

theorem running_openChan {kind : ChanKind} {domain share retain c h : Nat} {d e : Dev}
    (ho : openChan kind domain share retain d = some (c, h, e)) : running e = running d := by
  unfold openChan at ho
  split at ho
  · cases ho
  · cases ho
    rfl

theorem running_setListener (n : Nat) (d : Dev) : running (setListener n true d).2 = running d := by
  simp only [setListener, if_true]
  split
  · rfl
  · split
    · rfl
    · split
      · rfl
      · next c h e he =>
        exact (running_openRoutes ..).trans (running_openChan he : running e = running d)

theorem running_startNet (d : Dev) : running (startNet d) = running d := by
  unfold startNet
  extract_lets d1 d2 udp d3
  have h1 : running d1 = running d := by
    refine running_foldl (fun d p => ?_) _ _
    split
    · exact running_startPort ..
    · rfl
  have h2 : running d2 = running d1 := by
    refine running_foldl (fun d p => ?_) _ _
    split
    · exact running_setListener ..
    · rfl
  have h3 : running d3 = running d2 := by
    refine running_foldl (fun d k => ?_) _ _
    dsimp only
    split
    · exact running_takeLocalPort ..
    · rfl
  exact (running_openRoutes d3).trans (h3.trans (h2.trans h1))

/-! The end of Standby (R540). -/

theorem running_setGait {g : Nat} {d : Dev} (h : d.life.gait ≠ g) :
    running (setGait g d) = ({ d.life with gait := g }, d.lopeOn, d.pow, d.audit.standbyBuf) := by
  simp only [setGait, h, if_false]
  rfl

theorem running_onPow {f : PowerState → PowerState} {d : Dev} {life : LifeState} {on : Bool} {p : PowerState} {buf : List AuditEv}
    (h : running d = (life, on, p, buf)) : running (onPow f d) = (life, on, f p, buf) := by
  simp only [running, Prod.mk.injEq] at h
  obtain ⟨rfl, rfl, rfl, rfl⟩ := h
  rfl

/-- Standby ends with the custodian and the engines running, and with nothing left in the on-die buffer. -/
theorem running_standbyExit {source gait : Nat} {d : Dev} (hg : gait ≠ 3) : running (standbyExit source gait d) =
    ({ d.life with gait := gait, custUp := true, ready := !(lcState d == 6) }, true, { d.pow with wakeSource := source }, []) := by
  unfold standbyExit
  extract_lets up _ _ d0 d1 d2 d3 d4
  have h0 : running (setGait gait (flushStandby d0)) = ({ d0.life with gait := gait }, true, d.pow, []) :=
    running_setGait (Ne.symm hg)
  have h1 : running (restorePins (startRng d1)) = ({ d0.life with gait := gait }, true, d.pow, []) :=
    (running_restorePins _).trans ((running_startRng d1).trans ((running_testInHalves _).trans ((running_raise ..).trans h0)))
  have h2 : running d2 = ({ d0.life with gait := gait }, true, { d.pow with wakeSource := source }, []) := running_onPow h1
  clear_value d2
  have h3 : running d3 = running d2 := running_foldl (f := fun d p => rehoist p d) (fun d p => running_rehoist p d) _ d2
  clear_value d3
  have h4 : running d4 = ({ d0.life with gait := gait }, true, { d.pow with wakeSource := source }, []) := h3.trans h2
  split
  · exact (running_startNet d4).trans h4
  · exact h4

/-! The loss of main power (R493, R503, R507). -/

/-- A zeroisation without main power sets the latches only. -/
theorem zeroise_unpowered {s : State} (l : TamperLatch) (h : s.dev.guard.mainPower = false) :
    zeroise l s = if monitorsOff s.dev then s else { s with dev := zeroLatches l s.dev } := by
  have h' : (zeroLatches l s.dev).guard.mainPower = false := h
  simp [zeroise, h']

/-- The memory, the queue and the rails of a state. -/
def rails (s : State) := (s.mem, s.memTags, s.pending, s.dev.life.powerOff, s.dev.guard.mainPower)

theorem rails_zeroise {s : State} (l : TamperLatch) (h : s.dev.guard.mainPower = false) : rails (zeroise l s) = rails s := by
  rw [zeroise_unpowered l h]
  split <;> rfl

theorem zeroise_pow {s : State} (l : TamperLatch) (h : s.dev.guard.mainPower = false) :
    (zeroise l s).dev.pow = s.dev.pow := by
  rw [zeroise_unpowered l h]
  split <;> rfl

theorem rails_mainGone {s : State} (h : s.dev.guard.mainPower = false) : rails (mainGone s) = rails s := by
  simp only [mainGone]
  split
  · rfl
  · split
    · exact rails_zeroise _ h
    · rfl

/-- With a battery the over-temperature stays recorded. -/
theorem mainGone_pow {s : State} (h : s.dev.guard.mainPower = false) (hb : 0 < s.dev.guard.vbatMv) :
    (mainGone s).dev.pow = s.dev.pow := by
  simp only [mainGone, Nat.ne_of_gt hb, if_false]
  split
  · exact zeroise_pow _ h
  · rfl

/-- The state in which OVERTEMP_POWER_OFF takes the main rails away (R537). -/
def overtempOff (sensor : Nat) (temp : Int) (s : State) : State :=
  let d := clearDev 3 s.dev
  { clearAll 3 s with dev := { d with
    life := { d.life with powerOff := true }
    guard := { d.guard with mainPower := false, tj := temp }
    pow := { d.pow with killN := true, overtemp := some (sensor, temp) } } }

/-- Settles O47: the end of Standby by `running_standbyExit`, the loss of the rails by `rails_mainGone`. -/
theorem standbyPowerResets : Obligations.StandbyPowerResets := by
  unfold Obligations.StandbyPowerResets
  intro s sensor temp
  refine ⟨?entry, ?wake, ?overtemp, ?release, ?powerOn, ?powerOff, ?warm, rfl⟩
  case entry =>
    intro t ht
    rw [exec_standbyEntryDone]
    unfold execStandbyEntryDone
    rw [if_neg (by simp [ht])]
    exact ⟨_, rfl, rfl, rfl, rfl, rfl, rfl⟩
  case wake =>
    intro hg
    have hr := running_standbyExit (source := 1) (gait := 1) (d := s.dev) (by decide)
    simp only [running, Prod.mk.injEq] at hr
    obtain ⟨hlife, hlope, hpow, hbuf⟩ := hr
    rw [exec_wakeN, execWakeN]
    simp only [onDev, hg, if_true]
    exact ⟨_, rfl, congrArg LifeState.gait hlife, congrArg LifeState.custUp hlife, hlope,
      congrArg PowerState.wakeSource hpow, hbuf⟩
  case overtemp =>
    intro hmain hoff hhot hbattery
    rw [exec_overtempPowerOff]
    unfold execOvertempPowerOff
    rw [if_neg (by simp [hmain, hoff, hhot])]
    have hrails := rails_mainGone (s := overtempOff sensor.toNat temp.toInt s) rfl
    have hpow := mainGone_pow (s := overtempOff sensor.toNat temp.toInt s) rfl hbattery
    simp only [rails, Prod.mk.injEq] at hrails
    obtain ⟨hmem, htags, hpending, hlife, hguard⟩ := hrails
    exact ⟨mainGone (overtempOff sensor.toNat temp.toInt s), rfl, hmem, htags, hpending, hguard, hlife,
      congrArg PowerState.killN hpow, congrArg PowerState.overtemp hpow⟩
  case release =>
    rw [exec_pwrKillRelease, execPwrKillRelease]
    simp only [onDev, decide_eq_true_eq]
    rfl
  case powerOn =>
    intro hkill u
    rw [exec_powerOnReset]
    unfold execPowerOnReset
    rw [if_pos (by simp [hkill])]
  case powerOff =>
    rw [exec_powerOnReset]
    unfold execPowerOnReset
    rw [if_neg (by simp)]
    extract_lets t src1 src2 src3 u
    have hrails := rails_mainGone (s := u) rfl
    simp only [rails, Prod.mk.injEq] at hrails
    obtain ⟨hmem, -, -, hlife, hguard⟩ := hrails
    exact ⟨_, rfl, hmem, hguard, hlife⟩
  case warm =>
    intro hoff hmain
    rw [exec_warmReset, execWarmReset]
    simp [hoff, hmain]

end Sys2Proof.Machine
end

section
/-! PROOF. The life cycle, test tokens, debug and the calibration set (R517, R520, R522-R525, R527). -/

namespace Sys2Proof.Machine

open Sys2Proof

theorem sec_10 : sec 10 = 10000000000 := rfl

theorem sec_60 : sec 60 = 60000000000 := rfl

theorem sec_600 : sec 600 = 600000000000 := rfl

/-- A zone of the foundation ledger that is not shut is not full. -/
theorem foundationFull_false {d : Dev} (h : foundationShut d = false) : foundationFull d = false := by
  simp only [foundationShut, foundationFull, decide_eq_false_iff_not] at h ⊢
  omega

/-! Selecting an instruction of the test access port changes nothing else. -/

@[simp] theorem lcState_onTap (n : Nat) (d : Dev) : lcState (onTap n d) = lcState d := rfl

@[simp] theorem onTap_now (n : Nat) (d : Dev) : (onTap n d).tb.now = d.tb.now := rfl

@[simp] theorem onTap_tokenBlocked (n : Nat) (d : Dev) : (onTap n d).guard.tokenBlocked = d.guard.tokenBlocked := rfl

@[simp] theorem onTap_otp (n : Nat) (d : Dev) : (onTap n d).guard.otp = d.guard.otp := rfl

@[simp] theorem onTap_chal (n : Nat) (d : Dev) : (onTap n d).guard.chal = d.guard.chal := rfl

@[simp] theorem foundationFull_onTap (n : Nat) (d : Dev) : foundationFull (onTap n d) = foundationFull d := rfl

@[simp] theorem nextToken_onTap (n : Nat) (d : Dev) : nextToken (onTap n d) = nextToken d := rfl

@[simp] theorem openToken_onTap (n : Nat) (d : Dev) : openToken (onTap n d) = openToken d := rfl

/-- A debug nonce leaves the time as it is. -/
theorem debugNonce_tb (d : Dev) : (debugNonce d).2.tb = d.tb := by
  unfold debugNonce
  split
  · next r hr => exact ((congrArg Dev.tb (draw_rng (b := r.1) (e := r.2) hr)).trans rfl : r.2.tb = d.tb)
  · rfl

/-- A challenge holds a nonce for 60 s (R525). -/
theorem dbgChal_held {s : State} {isTarget : Bool} {code : BitVec 8} {domain : BitVec 16} (hup : jtagUp s.dev = true)
    (hlc : lcState s.dev ≠ 7) : ∃ d c, exec (.dbgChal isTarget code domain) s = becomes s d ∧ d.guard.chal = some c ∧
      c.till = s.dev.tb.now + 60000000000 ∧ c.domain = domain.toNat ∧
      (isTarget = false → c.level = code.toNat ∧ c.target = none) ∧ (isTarget = true → c.target = some code.toNat) := by
  have hnow : (debugNonce (onTap 3 s.dev)).2.tb.now = s.dev.tb.now := congrArg TimeBase.now (debugNonce_tb (onTap 3 s.dev))
  have hopen : (!jtagUp s.dev || lcState s.dev == 7) = false := by simp [hup, hlc]
  simp only [exec_dbgChal, execDbgChal, onDev, hopen, Bool.false_eq_true, if_false, hnow, sec_60]
  refine ⟨_, _, rfl, rfl, rfl, rfl, ?_, ?_⟩
  · rintro rfl
    exact ⟨rfl, rfl⟩
  · rintro rfl
    rfl

/-- A response that grants nothing spends the nonce and the consent (R525). -/
theorem dbgResp_refused {s : State} {m e : Bool} (hup : jtagUp s.dev = true)
    (hf : grantFault (onTap 4 s.dev) s.dev.guard.chal (m && e) ≠ 0) :
    exec (.dbgResp m e) s = becomes s { onTap 4 s.dev with guard := { (onTap 4 s.dev).guard with
      chal := none, consent := none, dbgStat := grantFault (onTap 4 s.dev) s.dev.guard.chal (m && e) } } := by
  rw [exec_dbgResp]
  unfold execDbgResp
  extract_lets d c fault
  have hf' : fault ≠ 0 := hf
  rw [if_neg (by simp [hup]), if_pos hf']
  rfl

/-- A response that grants a level spends the nonce (R524, R525). -/
theorem dbgResp_granted {s : State} {m e : Bool} {c : DbgChal} (hup : jtagUp s.dev = true)
    (hf : grantFault (onTap 4 s.dev) s.dev.guard.chal (m && e) = 0) (hc : s.dev.guard.chal = some c) (ht : c.target = none) :
    exec (.dbgResp m e) s =
      becomes s (grantDebug c { onTap 4 s.dev with guard := { (onTap 4 s.dev).guard with chal := none } }) := by
  rw [exec_dbgResp]
  unfold execDbgResp
  extract_lets d c' fault
  have hf' : fault = 0 := hf
  rw [if_neg (by simp [hup]), if_neg (by simp [hf'])]
  simp only [c', d, onTap_chal, hc, ht]
  rfl

/-- A byte written at 6 and a checksum behind leave the first six bytes. -/
theorem take6_overwrite {b v : Bytes} {o : Nat} (ho : 6 ≤ o) (hb : 6 ≤ b.length) : (overwrite b o v).take 6 = b.take 6 := by
  unfold overwrite
  rw [List.append_assoc, List.take_append_of_le_length (by simp; omega), List.take_take, Nat.min_eq_left ho]

/-- Settles O49: the branches of each write and of each instruction of the test access port. -/
theorem lifeCycleAndDebug : Obligations.LifeCycleAndDebug := by
  unfold Obligations.LifeCycleAndDebug
  refine ⟨?burn, ?rows⟩
  case burn =>
    intro s flag from_ to_ actor h calm
    simp only [afterWrite, h]
    rfl
  case rows =>
    intro s target code hd isTarget mldsaOk ecdsaOk domain duration value set e
    dsimp only
    refine ⟨?lc, ?leaves, ?jtag, ?consent, ?expire, ?cal, ?calSet⟩
    case lc =>
      intro h
      have hvalue : leVal ([target].take 16) = target.toNat := by simp [leVal]
      simp only [exec_lcRequest, execLcRequest, writeThen, entryWrite, h]
      rw [if_neg (by simp [cardTimedOut]), hvalue]
    case leaves =>
      intro hlc hmig hshut hhd htarget
      unfold lcRequest
      extract_lets lc
      have h3 : lc ≠ 3 := by omega
      rw [if_neg (by simp [hhd]), if_neg (by simp [hmig, foundationFull_false hshut]), if_neg (by simp [h3]),
        if_neg (by simp [htarget]), if_neg (by simp [htarget]), if_pos ⟨hlc, htarget⟩]
    case jtag =>
      intro hup hroom
      refine ⟨?token, ?close, ?chal, ?resp⟩
      case token =>
        intro hlc hfree t ht
        have htoken : exec (.token value) s =
            if nth [] s.dev.guard.otp.tokenHashes t == padTo 32 (Config.hash 1 (le 32 value.toNat)) then
              .next (burnState (otpOpen t) 1 2 actorHw { s with dev := onTap 1 s.dev })
            else .next { s with dev := { onTap 1 s.dev with guard := { (onTap 1 s.dev).guard with
              tokenBlocked := s.dev.tb.now + 10000000000 } } } := by
          rw [exec_token]
          unfold execToken
          rw [if_neg (by simp [hup])]
          extract_lets d1
          rw [if_neg (by simp [d1, hlc, hroom, Nat.not_lt.mpr hfree])]
          simp only [d1, nextToken_onTap, ht, ← sec_10]
          rfl
        rw [htoken]
        exact ⟨fun hmatch => if_pos (by simpa using hmatch), fun hmiss => if_neg (by simpa using hmiss)⟩
      case close =>
        intro hlc t ht
        rw [exec_tokenClose]
        unfold execTokenClose
        rw [if_neg (by simp [hup])]
        simp only [lcState_onTap, foundationFull_onTap, openToken_onTap, hlc, hroom, ht]
        rfl
      case chal =>
        intro hlc
        exact dbgChal_held hup hlc
      case resp =>
        refine ⟨fun hf => ?_, fun hf c hc htarget => dbgResp_granted hup hf hc htarget⟩
        rw [dbgResp_refused hup hf]
        exact ⟨_, rfl, rfl, rfl, rfl⟩
    case consent =>
      intro hkeys hlo hhi hdom hdur hdur'
      have hwrite : debugConsent code.toNat domain.toNat duration.toNat s.dev =
          .ok { s.dev with guard := { s.dev.guard with consent := some {
            level := code.toNat, domain := domain.toNat, duration := duration.toNat,
            till := s.dev.tb.now + 600000000000 } } } := by
        have hrange : ¬ (code.toNat < 1 ∨ 2 < code.toNat ∨ 4096 ≤ domain.toNat ∨ duration.toNat < 1 ∨
            3600 < duration.toNat) := by omega
        simp only [debugConsent, hkeys, Bool.not_true, Bool.false_eq_true, if_false, hrange, sec_600]
      rw [exec_debugConsent, execDebugConsent, writeRow_ok hwrite (by decide), entryWritten,
        List.take_of_length_le (by simp [le])]
    case expire =>
      intro hlevel htill
      rw [exec_debugGrantExpire, execDebugGrantExpire]
      simp only [onDev]
      rw [if_neg (by simp [hlevel, htill])]
      exact ⟨_, rfl, rfl, rfl⟩
    case cal =>
      intro h
      rw [exec_calSet, execCalSet, writeRow_ok h (by decide), entryWritten]
    case calSet =>
      intro hlc hshut hvalid hseq
      have hlength : 6 ≤ set.length := by
        simp only [calValid, Bool.and_eq_true, beq_iff_eq] at hvalid
        omega
      unfold calSet
      extract_lets cur lc b1 b2
      rw [if_neg (by simp [lc, hshut]; omega), if_neg (by simp [hvalid, cur, hseq])]
      refine ⟨_, rfl, rfl, ?_⟩
      have h1 : 6 ≤ b1.length ∧ b1.take 6 = set.take 6 := by
        simp only [b1, if_pos (show lc = 4 ∨ lc = 5 from hlc)]
        exact ⟨by simp [overwrite]; omega, take6_overwrite (Nat.le_refl 6) hlength⟩
      exact (take6_overwrite (by decide) h1.1).trans h1.2

end Sys2Proof.Machine
end

section
/-! PROOF. The CAN controller, the management link and the pins (R9, R429, R443-R449). -/

namespace Sys2Proof.Machine

open Sys2Proof

theorem ms_50 : ms 50 = 50000000 := rfl

theorem ms_100 : ms 100 = 100000000 := rfl

/-- The value that the record of a 32-bit write carries. -/
theorem leVal_word (v : BitVec 32) : leVal ((le 4 v.toNat).take 16) = v.toNat := by
  rw [List.take_of_length_le (by simp [le]), Laws.leVal_le 4 _ v.isLt]

/-! The CAN controller. -/

/-- The state that the error counters lead to (R445). -/
def canChecked (d : Dev) : Dev :=
  if 256 ≤ d.per.can.tec then busOff d
  else if 128 ≤ d.per.can.tec ∨ 128 ≤ d.per.can.rec_ then onCan (fun c => { c with state := 1 }) d else d

theorem canErrorFrame_sent {s : State} (hstate : s.dev.per.can.state ≠ 2) (hqueue : s.dev.per.can.queue ≠ []) :
    exec (.canErrorFrame true) s =
      becomes s (canChecked (bump (dk 0x7808 5) (onCan (fun c => { c with tec := c.tec + 8 }) s.dev))) := by
  have hsent : (s.dev.per.can.state == 2 || (true && s.dev.per.can.queue.isEmpty)) = false := by simp [hstate, hqueue]
  simp only [exec_canErrorFrame, execCanErrorFrame, onDev, hsent, Bool.false_eq_true, if_false, if_true]
  rfl

theorem canErrorFrame_received {s : State} (hstate : s.dev.per.can.state ≠ 2) :
    exec (.canErrorFrame false) s =
      becomes s (canChecked (bump (dk 0x7808 5) (onCan (fun c => { c with rec_ := min 255 (c.rec_ + 1) }) s.dev))) := by
  have hsent : (s.dev.per.can.state == 2 || (false && s.dev.per.can.queue.isEmpty)) = false := by simp [hstate]
  simp only [exec_canErrorFrame, execCanErrorFrame, onDev, hsent, Bool.false_eq_true, if_false]
  rfl

/-- Below bus-off the counters and the queue stand, and a TEC of 128 is error-passive. -/
theorem canChecked_below {d : Dev} (h : d.per.can.tec < 256) :
    (canChecked d).per.can.tec = d.per.can.tec ∧ (canChecked d).per.can.rec_ = d.per.can.rec_ ∧
      (canChecked d).per.can.queue = d.per.can.queue ∧ (128 ≤ d.per.can.tec → (canChecked d).per.can.state = 1) := by
  unfold canChecked
  rw [if_neg (Nat.not_le.mpr h)]
  split
  · exact ⟨rfl, rfl, rfl, fun _ => rfl⟩
  · next hactive => exact ⟨rfl, rfl, rfl, fun hpassive => absurd (.inl hpassive) hactive⟩

theorem canChecked_off {d : Dev} (h : 256 ≤ d.per.can.tec) : canChecked d = busOff d := if_pos h

/-- New timing makes a controller that is not bus-off integrate again (R443). -/
theorem canTiming_integrates {data : Bool} {v : Nat} {d e : Dev} (h : canTiming data v d = .ok e)
    (hstate : d.per.can.state ≠ 2) : e.per.can.state = 3 := by
  unfold canTiming at h
  extract_lets nom dat d1 at h
  split at h
  · cases h
  · have h1 : d1.per.can.state ≠ 2 := by
      cases data <;> exact hstate
    rw [if_neg h1] at h
    cases h
    rfl

/-! Pins. -/

/-- Settles O45: the branches of each command of the controller, and of a write of PINCFG by what it changes. -/
theorem canAndPins : Obligations.CanAndPins := by
  unfold Obligations.CanAndPins
  refine ⟨?can, ?pins⟩
  case can =>
    intro s tx data on up v f e
    dsimp only
    refine ⟨?sent, ?received, ?off, ?abandon, ?busoff, ?recovery, ?auto, ?timing, rfl⟩
    case sent =>
      intro hstate hqueue htec
      have hbelow : s.dev.per.can.tec + 8 < 256 := by omega
      obtain ⟨htec', -, hqueue', hpassive⟩ := canChecked_below
        (d := bump (dk 0x7808 5) (onCan (fun c => { c with tec := c.tec + 8 }) s.dev)) hbelow
      exact ⟨_, canErrorFrame_sent hstate hqueue, htec', hqueue', fun h => hpassive (Nat.add_le_add_right h 8)⟩
    case received =>
      intro hstate htec
      obtain ⟨htec', hrec, -, -⟩ := canChecked_below
        (d := bump (dk 0x7808 5) (onCan (fun c => { c with rec_ := min 255 (c.rec_ + 1) }) s.dev)) htec
      exact ⟨_, canErrorFrame_received hstate, hrec, htec'⟩
    case off =>
      intro hstate hqueue htec
      have hoff := canChecked_off
        (d := bump (dk 0x7808 5) (onCan (fun c => { c with tec := c.tec + 8 }) s.dev)) (Nat.add_le_add_right htec 8)
      exact ⟨_, canErrorFrame_sent hstate hqueue, congrArg (fun d : Dev => d.per.can.state) hoff⟩
    case abandon =>
      intro h
      simp only [exec_canFrameAbandon, execCanFrameAbandon, onDev, h, ms_50]
    case busoff =>
      intro hstate
      simp only [exec_canBusoff, execCanBusoff, onDev, beq_iff_eq, hstate, if_false]
      exact ⟨_, rfl, rfl, rfl, rfl⟩
    case recovery =>
      intro hstate hnot hauto
      simp only [exec_busoffRecovery, execBusoffRecovery, onDev, hstate, hnot, hauto, ms_100]
      rfl
    case auto =>
      have hauto : busoffAuto (b2n on) s.dev = .ok (if on = true ∧ s.dev.per.can.state = 2
          then onCan (fun c => { c with recovering := true }) (setNum 1 (dk 0x7808 8) (b2n on) s.dev)
          else setNum 1 (dk 0x7808 8) (b2n on) s.dev) := by
        cases on <;> simp [busoffAuto, b2n]
      rw [exec_busoffAuto, execBusoffAuto, writeRow_ok hauto (by decide), entryWritten, leVal_enable]
    case timing =>
      intro h
      refine ⟨?_, canTiming_integrates h⟩
      rw [exec_canTimingWrite, execCanTimingWrite, writeRow_ok h (by decide), entryWritten, leVal_word]
  case pins =>
    intro s n v busy full e t
    dsimp only
    refine ⟨?write, ?allowed, ?window, rfl, rfl⟩
    case write =>
      intro h
      rw [exec_pincfgWrite, execPincfgWrite, writeRow_ok h (by omega), entryWritten, leVal_word]
    case allowed =>
      intro hok
      unfold pinCfgWrite
      rw [if_neg (by simp [hok])]
      extract_lets w p owner func d1 ns f d2 d3
      refine ⟨fun howner hfunc => ?_, fun howner hfunc hbusy => ?_, fun howner => ?_⟩
      · rw [if_pos (by simpa [owner, func, p, w] using ⟨howner, hfunc⟩)]
      · rw [if_neg (by simpa [owner, func, p, w, howner] using hfunc), if_pos (by simpa [owner, p, w] using howner)]
        have hd3 : d3 = d2 := if_neg (by simp [hbusy])
        rw [hd3]
        rfl
      · rw [if_neg (by simp [owner, p, w, howner]), if_neg (by simpa [owner, p, w] using howner)]
        refine ⟨_, rfl, ?_⟩
        cases busy <;> exact ⟨rfl, rfl⟩
    case window =>
      intro h
      simp only [exec_pinSwitchWindowClose, execPinSwitchWindowClose, onDev, h]

end Sys2Proof.Machine
end

section
/-! PROOF. The ceremony card host and the officer card slots (R395, R432-R442, R451). -/

namespace Sys2Proof.Machine

open Sys2Proof

/-! The ceremony card. -/

theorem sec_240 : sec 240 = 240000000000 := rfl

/-- A transfer that fails times out and leaves the card in state 4; one that does not leaves its state (R436). -/
theorem sdTransfer_sd (c : SdCard) (writing : Bool) (n : Nat) (d : Dev) :
    (sdTransfer c writing n d).2.per.sd.timedOut = !(sdTransfer c writing n d).1 ∧
      (sdTransfer c writing n d).2.per.sd.state = if (sdTransfer c writing n d).1 then d.per.sd.state else 4 := ⟨rfl, rfl⟩

theorem sdTransfer_tb (c : SdCard) (writing : Bool) (n : Nat) (d : Dev) : (sdTransfer c writing n d).2.tb = d.tb := rfl

/-- A write of a row of the card, whose CMD42 is one block: it is recorded where the transfer arrives, and times out otherwise. -/
theorem writeRow_card {sub n : Nat} {value : Bytes} {f : Dev → Except Nat Dev} {g : SdHost → SdHost} {s : State} {c : SdCard}
    (hsub : sub = 9 ∨ sub = 0xA ∨ sub = 0xB) (hvalue : leVal (value.take 16) = n) (hg : ∀ x, (g x).timedOut = x.timedOut)
    (hf : f s.dev = if (sdTransfer c true 1 s.dev).1 then .ok (onSd g (sdTransfer c true 1 s.dev).2)
      else .ok (sdTransfer c true 1 s.dev).2) :
    writeRow 0x7800 sub value f s =
      if (sdTransfer c true 1 s.dev).1 = true then becomes s (emit (.wrote 0x7800 sub 0)
        (raise srcCustodian 0x0240 0 actorFw [(2, 0x7800), (1, sub), (16, n)] (onSd g (sdTransfer c true 1 s.dev).2)))
      else becomes s (emit (.wrote 0x7800 sub 257) (sdTransfer c true 1 s.dev).2) := by
  obtain ⟨htimed, -⟩ := sdTransfer_sd c true 1 s.dev
  generalize sdTransfer c true 1 s.dev = sent at hf htimed ⊢
  have hrow : (sub == 9 || sub == 0xA || sub == 0xB) = true := by simpa [or_assoc] using hsub
  have hsd : (onSd g sent.2).per.sd.timedOut = sent.2.per.sd.timedOut := hg _
  cases h : sent.1
  · rw [h] at hf htimed
    simp [writeRow, onDev, entryWrite, hf, cardTimedOut, hrow, htimed, becomes, timeoutReason]
  · rw [h] at hf htimed
    simp [writeRow, onDev, entryWrite, hf, cardTimedOut, hsd, htimed, hvalue, becomes]

/-! SD_SET_PWD carries the old and the new password, each behind its length. -/

theorem leAt_length {a b : Bytes} {o m : Nat} (ha : a.length = o) (hm : m ≤ 16) : leAt (a ++ (le 1 m ++ b)) o 1 = m := by
  rw [leAt, Laws.slice_at ha, Laws.take_left (Laws.length_le 1 m), Laws.leVal_le 1 m (by omega)]

theorem sdSetPwd_served {old new : Bytes} {d : Dev} {c : SdCard} (hold : old.length ≤ 16) (hnew : 1 ≤ new.length)
    (hnew' : new.length ≤ 16) (hstate : d.per.sd.state = 2) (hcard : d.per.sd.card = some c) (hpwd : c.password = old) :
    sdSetPwd (le 1 old.length ++ old ++ le 1 new.length ++ new) d =
      sdLockCommand c (fun d => .ok (onSd (fun x => { x with card := some { c with password := new } }) d)) d := by
  have hv : le 1 old.length ++ old ++ le 1 new.length ++ new = [] ++ (le 1 old.length ++ (old ++ (le 1 new.length ++ new))) := by
    simp
  have hn : leAt (le 1 old.length ++ old ++ le 1 new.length ++ new) 0 1 = old.length := by
    rw [hv]
    exact leAt_length rfl hold
  have ho : slice (le 1 old.length ++ old ++ le 1 new.length ++ new) 1 old.length = old := by
    rw [List.append_assoc, List.append_assoc, Laws.slice_at (Laws.length_le 1 _), Laws.take_left rfl]
  have hm : leAt (le 1 old.length ++ old ++ le 1 new.length ++ new) (1 + old.length) 1 = new.length := by
    rw [List.append_assoc]
    exact leAt_length (by simp [Laws.length_le]) hnew'
  have hw : slice (le 1 old.length ++ old ++ le 1 new.length ++ new) (2 + old.length) new.length = new := by
    rw [Laws.slice_at (by simp [Laws.length_le]; omega), List.take_length]
  have hlen : (le 1 old.length ++ old ++ le 1 new.length ++ new).length = 2 + old.length + new.length := by
    simp [Laws.length_le]
    omega
  generalize le 1 old.length ++ old ++ le 1 new.length ++ new = v at hn ho hm hw hlen ⊢
  unfold sdSetPwd
  simp only [hn, ho, hm, hw, hlen, hstate, hcard, hpwd]
  have hne : new ≠ [] := List.length_pos_iff.mp hnew
  rw [if_neg (by simp [hold, hnew', hne]), if_neg (by simp)]
  simp only [beq_self_eq_true, if_true]

/-! An error that meets a transfer (R436). -/

section walk

variable {c : SdCard} {err : SdError} {r : SdRun} {b run mid : Nat}

/-- Up to three tries again from the block, a data error in SDR50 and SDR104 retuning first. -/
theorem sdWalk_again (h : r.tries < 3) :
    let meets := sdWalk c [{ err := err, block := b, run := run, mid := mid }] { r with block := b }
    meets.1 = true ∧ meets.2.retries = r.retries + 1 ∧ meets.2.tries = r.tries + 1 ∧ meets.2.block = b ∧
      (err = .command ∨ r.mode < 6 → meets.2.mode = r.mode ∧ meets.2.retunes = r.retunes) ∧
      (err ≠ .command → 6 ≤ r.mode →
        meets.2.retunes = r.retunes + 1 ∧ (8 ≤ run → meets.2.mode = r.mode ∧ meets.2.phase = mid)) := by
  simp only [sdWalk, h, if_true, Nat.lt_irrefl, if_false]
  split
  · next hplain =>
    refine ⟨rfl, rfl, rfl, rfl, fun _ => ⟨rfl, rfl⟩, fun hdata hmode => ?_⟩
    exact absurd hplain (not_or.mpr ⟨hdata, Nat.not_lt.mpr hmode⟩)
  · next hretunes =>
    refine ⟨rfl, rfl, rfl, rfl, fun hplain => absurd hplain hretunes, fun _ _ => ⟨rfl, fun hrun => ?_⟩⟩
    simp only [retuned, hrun, if_true, and_self]

/-- In Default Speed the fourth error at a block fails the transfer. -/
theorem sdWalk_fails (h : 3 ≤ r.tries) (hmode : r.mode ≤ 2) :
    (sdWalk c [{ err := err, block := b, run := run, mid := mid }] { r with block := b }).1 = false := by
  simp only [sdWalk, Nat.not_lt.mpr h, hmode, if_true, Nat.lt_irrefl, if_false]

/-- Above it the transfer drops one mode and starts again. -/
theorem sdWalk_drops (h : 3 ≤ r.tries) (hmode : 2 < r.mode) :
    let lower := tuneFrom c (r.mode - 1)
    sdWalk c [{ err := err, block := b, run := run, mid := mid }] { r with block := b } =
      (true, { r with mode := lower.1, phase := lower.2, block := 0, tries := 0 }) := by
  simp only [sdWalk, Nat.not_lt.mpr h, Nat.not_le.mpr hmode, if_true, Nat.lt_irrefl, if_false]

end walk

/-! Officer card slots. -/

/-- A slot changed twice. -/
theorem onIcc_onIcc (n : Nat) (f g : IccSlot → IccSlot) (d : Dev) : onIcc n g (onIcc n f d) = onIcc n (fun x => g (f x)) d := by
  unfold onIcc
  split <;> rfl

/-- What a slot becomes, from what it is. -/
theorem onIcc_at (n : Nat) (f : IccSlot → IccSlot) (d : Dev) : onIcc n f d = onIcc n (fun _ => f (iccOf d n)) d := by
  unfold onIcc iccOf
  split <;> rfl

theorem onIcc_tb (n : Nat) (f : IccSlot → IccSlot) (d : Dev) : (onIcc n f d).tb = d.tb := by
  unfold onIcc
  split <;> rfl

theorem firmwareUp_onIcc (n : Nat) (f : IccSlot → IccSlot) (d : Dev) : firmwareUp (onIcc n f d) = firmwareUp d := by
  unfold onIcc
  split <;> rfl

/-- A slot activated again at class B. -/
theorem onIcc_classB (n t since : Nat) (d : Dev) :
    onIcc n (fun x => { iccActive 2 since x with triedB := true, noPps := x.noPps }) (reach t d) =
      onIcc n (fun _ => { present := (iccOf d n).present, state := 1, cls := 2, since := since, triedB := true,
                          noPps := (iccOf d n).noPps }) (reach t d) :=
  onIcc_at ..

theorem ms_10 : ms 10 = 10000000 := by decide

theorem ms_20 : ms 20 = 20000000 := by decide

/-- Settles O44: the branches of each command of the card host and of a slot; `sdWalk` by its three ways on; the slot's record as
a function of what it was by `onIcc_at`. -/
theorem cardHosts : Obligations.CardHosts := by
  unfold Obligations.CardHosts
  refine ⟨?sd, ?walk, ?icc⟩
  case sd =>
    intro s card c run mid pwd v e
    dsimp only
    refine ⟨fun hstate hup hserves => ?detect, fun hstate hmode hrun => ?retune, fun hcard =>
      ⟨?remove, ⟨?failed, ?unlock, ?setPwd, ?erase⟩, ?recorded, ?erased⟩⟩
    case detect =>
      have hstate' : ∀ x, (onSd x s.dev).life = s.dev.life := fun _ => rfl
      have hup' : firmwareUp (onSd (fun x => { x with card := some card }) s.dev) = true := hup
      simp only [exec_sdCardDetect, execSdCardDetect, onDev, hstate, hup', hstate', hserves, beq_self_eq_true, Bool.not_true,
        Bool.not_false, Bool.and_self, Bool.false_eq_true, if_false, if_true]
      rfl
    case retune =>
      have hmode' : ¬ s.dev.per.sd.mode < 6 := Nat.not_lt.mpr hmode
      simp only [exec_sdRetune, execSdRetune, onDev, hstate, retuned, hrun, hmode', if_true, beq_self_eq_true, Bool.not_true,
        decide_false, Bool.or_self, Bool.false_eq_true, if_false, sec_60]
      rfl
    case remove =>
      simp only [exec_sdCardRemove, execSdCardRemove, onDev, hcard]
      rfl
    case failed =>
      intro h
      exact (sdTransfer_sd c true 1 s.dev).2.trans (by rw [h]; rfl)
    case unlock =>
      intro hne hlen hstate hpwd
      have hne' : pwd.isEmpty = false := by simpa using hne
      refine writeRow_card (.inl rfl) rfl (fun _ => rfl) ?_
      simp only [sdUnlock, hne', Nat.not_lt.mpr hlen, hstate, hcard, hpwd, beq_self_eq_true, decide_false, Bool.or_self,
        Bool.not_true, Bool.false_eq_true, if_false, if_true, sdLockCommand]
    case setPwd =>
      intro new hnew hnew' hold hstate
      refine writeRow_card (.inr (.inl rfl)) rfl (fun _ => rfl) ?_
      rw [sdSetPwd_served hold hnew hnew' hstate hcard rfl]
      rfl
    case erase =>
      intro hstate
      have hstate' : (!(s.dev.per.sd.state == 2) && !(s.dev.per.sd.state == 3)) = false := by
        rcases hstate with h | h <;> simp [h]
      refine writeRow_card (.inr (.inr rfl)) rfl (fun _ => rfl) ?_
      simp only [sdForceErase, hcard, hstate', Bool.not_true, Bool.false_eq_true, if_false, sdLockCommand, sec_240,
        sdTransfer_tb]
    case recorded =>
      intro h
      cases htimed : e.per.sd.timedOut <;>
        simp [execSdSetPwd, writeRow, onDev, entryWrite, h, cardTimedOut, timeoutReason, htimed, becomes, leVal]
    case erased =>
      intro hstate
      simp only [exec_sdEraseDone, execSdEraseDone, onDev, hcard, hstate]
      rfl
  case walk =>
    intro c err r b run mid
    exact ⟨sdWalk_again, sdWalk_fails, sdWalk_drops⟩
  case icc =>
    intro s slot atr len wtx more
    dsimp only
    refine ⟨fun hup habsent => ?insert, fun hstate hsent => ⟨fun hok ht1 hclasses hta2 hpps => ?atr, fun hbad => ?badAtr,
      fun hcls => ?classB, fun hcls => ?refused⟩, fun hstate hsent => ⟨?echo, ?noEcho⟩,
      fun hstate => ⟨fun hr => ?again, fun hr hs => ?resynch, fun hr hs => ?given, fun hw => ?extension,
        fun hlen htotal => ?block⟩,
      fun hpresent => ?removed⟩
    case insert =>
      simp only [exec_iccCardInsert, execIccCardInsert, onDev, habsent, Bool.false_and, Bool.false_eq_true, if_false,
        firmwareUp_onIcc, hup, if_true, onIcc_tb, onIcc_onIcc]
      rfl
    case atr =>
      simp only [exec_iccAtr, execIccAtr, onDev, hstate, hsent, hok, ht1, hclasses, hta2, hpps, beq_self_eq_true, Bool.not_true,
        Bool.or_self, Option.any_none, Bool.false_and, Bool.false_eq_true, if_false, onIcc_onIcc]
      rw [onIcc_at]
      simp only [becomes, hstate, hpps]
    case badAtr =>
      simp only [exec_iccAtr, execIccAtr, onDev, hstate, hsent, hbad, beq_self_eq_true, Bool.not_true,
        Bool.or_self, Bool.not_false, Bool.true_or, Bool.false_eq_true, if_false, if_true, iccRefuse, onIcc_onIcc]
      rw [onIcc_at]
    case classB =>
      simp only [exec_iccAtrTimeout, execIccAtrTimeout, onDev, hstate, hsent, hcls, beq_self_eq_true, Bool.not_true,
        Bool.or_self, Bool.false_eq_true, if_false, if_true, ms_10, ms_20]
      rw [onIcc_classB]
    case refused =>
      simp only [exec_iccAtrTimeout, execIccAtrTimeout, onDev, hstate, hsent, hcls, beq_self_eq_true, Bool.not_true,
        Bool.or_self, Bool.false_eq_true, if_false, ms_20]
    case echo =>
      simp only [exec_iccPpsResponse, execIccPpsResponse, onDev, hstate, hsent, beq_self_eq_true, Bool.not_true,
        Bool.or_self, Bool.false_eq_true, if_false, if_true]
      rw [onIcc_at]
    case noEcho =>
      simp only [exec_iccPpsResponse, execIccPpsResponse, onDev, hstate, hsent, beq_self_eq_true, Bool.not_true,
        Bool.or_self, Bool.false_eq_true, if_false]
      rw [onIcc_at]
      rfl
    case again =>
      simp only [exec_iccBlockError, execIccBlockError, onDev, hstate, beq_self_eq_true, if_true, iccError, hr]
      rw [onIcc_at]
      simp only [becomes, hstate]
    case resynch =>
      simp only [exec_iccBlockError, execIccBlockError, onDev, hstate, beq_self_eq_true, if_true, iccError, Nat.not_lt.mpr hr,
        if_false, hs, Bool.not_false]
      rw [onIcc_at]
      simp only [becomes, hstate]
    case given =>
      simp only [exec_iccBlockError, execIccBlockError, onDev, hstate, beq_self_eq_true, if_true, iccError, Nat.not_lt.mpr hr,
        if_false, hs, Bool.not_true, Bool.false_eq_true]
    case extension =>
      simp only [exec_iccBlockReceive, execIccBlockReceive, onDev, hstate, beq_self_eq_true, Bool.not_true, Bool.false_eq_true,
        if_false, Nat.not_lt.mpr hw]
      rw [onIcc_at]
      simp only [becomes, hstate]
    case block =>
      simp only [exec_iccBlockReceive, execIccBlockReceive, onDev, hstate, beq_self_eq_true, Bool.not_true, Bool.false_eq_true,
        if_false, Nat.not_lt.mpr hlen, Nat.not_lt.mpr htotal, decide_false, Bool.or_self]
      rw [onIcc_at]
      simp only [becomes, hstate]
    case removed =>
      simp only [exec_iccCardRemove, execIccCardRemove, onDev, hpresent, Bool.not_true, Bool.false_eq_true, if_false]

end Sys2Proof.Machine
end

section
/-! PROOF. The Malath responder: requests, segments, heartbeats and the end of associations (R408, R411, R417-R427). -/

namespace Sys2Proof.Machine

open Sys2Proof

/-! What is sent to a peer leaves the transfers as they are. -/

theorem sendMsix_xfers (f v : Nat) (d : Dev) : (sendMsix f v d).mal.xfers = d.mal.xfers := by
  unfold sendMsix
  split
  · rfl
  · split <;> rfl

theorem canQueue_xfers (f : CanFrame) (d : Dev) : (canQueue f d).mal.xfers = d.mal.xfers := by
  unfold canQueue
  split <;> rfl

theorem onAssoc_xfers (a : Nat) (f : Assoc → Assoc) (d : Dev) : (onAssoc a f d).mal.xfers = d.mal.xfers := by
  unfold onAssoc
  split <;> rfl

theorem sendPdu_xfers (p : MalPeer) (alive : Nat) (x : Pdu) (d : Dev) : (sendPdu p alive x d).mal.xfers = d.mal.xfers := by
  unfold sendPdu
  split
  · rfl
  · exact canQueue_xfers ..
  · exact sendMsix_xfers ..

theorem sendTo_xfers (a : Nat) (p : Pdu) (d : Dev) : (sendTo a p d).mal.xfers = d.mal.xfers := by
  unfold sendTo
  split
  · rfl
  · exact (sendPdu_xfers ..).trans (onAssoc_xfers ..)

theorem answerPdu_xfers (a txn typ : Nat) (payload : Bytes) (d : Dev) :
    (answerPdu a txn typ payload d).mal.xfers = d.mal.xfers := by
  unfold answerPdu
  split
  · rfl
  · exact (sendTo_xfers ..).trans (onAssoc_xfers ..)

/-! Downloads. -/

/-- A download of some bytes waits for its first segment. -/
theorem startXfer_waits {a x : Nat} {d : Dev} {t : Xfer} (h : look d.mal.xfers (xferKey a x) = some t) (hdir : t.dir ≠ 1)
    (htotal : t.total ≠ 0) : startXfer a x d = d := by
  unfold startXfer
  split
  · rfl
  · next u hu =>
    have htu : u = t := by
      simp only [liveXfer, h, Option.filter_eq_some_iff, Option.some.injEq] at hu
      exact hu.1.symm
    rw [htu, if_neg hdir, if_neg htotal]

/-- A segment that lies where the bytes so far end is joined on. -/
theorem joinSegs_next {data b : Bytes} {off : Nat} (hoff : off = data.length) (hb : b ≠ []) :
    joinSegs 1 data [(off, b)] = data ++ b := by
  have hpos : 0 < b.length := List.length_pos_iff.mpr hb
  simp [joinSegs, hoff, hpos]

/-- The next segment lies in the window (R423). -/
theorem keepsSeg_next {l : MalLink} {t : Xfer} {off n : Nat} (hoff : off = t.nextOff) (hn : 0 < n) (htotal : t.nextOff + n < t.total)
    (hsize : n ≤ segWindow l * segSize l) (hsegs : t.segs = []) : keepsSeg l t off n = true := by
  simp only [keepsSeg, hsegs, List.any_nil, Bool.not_false, Bool.and_true, Bool.and_eq_true, decide_eq_true_eq]
  omega

/-- With nothing burned and no reset due, a write leaves nothing to be done. -/
theorem afterWrite_calm {s : State} (hburn : s.dev.life.burnDue = none) (hreset : s.dev.life.resetDue = false) :
    afterWrite s = s := by
  simp only [afterWrite, hburn, resetAfterRecords, hreset, Bool.false_eq_true, if_false]

theorem onXfer_of_look {k : Nat} {f : Xfer → Xfer} {d : Dev} {t : Xfer} (h : look d.mal.xfers k = some t) :
    onXfer k f d = { d with mal := { d.mal with xfers := ins d.mal.xfers k (f t) } } := by
  simp only [onXfer, h]

theorem sendXfer_life (a typ txn : Nat) (payload : Bytes) (d : Dev) : (sendXfer a typ txn payload d).life = d.life :=
  congrArg (fun x => x.1) (behindDoors_sendTo a _ d)

/-- A download of some bytes opens on the first free XFER (R422). -/
theorem segInit_opens {h : MalHdr} {a i n tcode total x : Nat} {role : Role} {d e : Dev}
    (harrive : arriveRequest h 10 e = (some a, d)) (hgate : openGate a 2 false false d = none)
    (htarget : initTarget h a 0 i n tcode total d = .ok ([], role)) (htotal : total ≠ 0)
    (hno : firstBelow 256 (fun x => (look d.mal.xfers (xferKey a x)).isNone) = some x)
    (hassoc : xferCount (fun t => t.assoc == a) d < 8) (hall : xferCount (fun _ => true) d < 64) :
    let t : Xfer := { assoc := a, dir := 0, index := i, sub := n, total := total, txn := h.txn, actor := h.actor, data := [],
                      role := role, lastMove := d.tb.now, lastAck := d.tb.now }
    let e' := touchLogin h.actor d
    segInit h 0 0 i n tcode total e = answerPdu a h.txn 0xA0
      (le 1 x ++ le 1 (segWindow (peerLink h.peer)) ++ le 2 (segSize (peerLink h.peer)) ++ le 4 total)
      { e' with mal := { e'.mal with xfers := ins e'.mal.xfers (xferKey a x) t } } := by
  intro t e'
  have hroom : ¬ (8 ≤ xferCount (fun t => t.assoc == a) d ∨ 64 ≤ xferCount (fun _ => true) d) := by omega
  have hgate' : openGate a 2 ((0 : Nat) == 1 && (zeroisedEntry i || i == 0xFFFF)) ((0 : Nat) == 1) d = none := hgate
  have hheld : ∀ typ body, look (answerPdu a h.txn typ body
      { e' with mal := { e'.mal with xfers := ins e'.mal.xfers (xferKey a x) t } }).mal.xfers (xferKey a x) = some t := by
    intro typ body
    rw [answerPdu_xfers]
    exact look_ins_self ..
  simp only [segInit, harrive, hgate', htarget, hroom, hno]
  exact startXfer_waits (hheld ..) (Nat.zero_ne_one) htotal

/-- A reserved byte of a segment is 0. -/
theorem toNat_zero8 : (0 : BitVec 8).toNat = 0 := rfl

/-- A segment in order is joined on and acknowledged (R423). -/
theorem segData_next {h : MalHdr} {x off a : Nat} {b : Bytes} {t : Xfer} {d e : Dev}
    (harrive : arriveSeg h (6 + b.length) x 0 e = (some (a, t), d)) (hdir : t.dir ≠ 1) (hup : d.life.custUp = true)
    (hgait : d.life.gait ≠ 3) (hsegs : t.segs = []) (hlen : t.data.length = t.nextOff) (hoff : off = t.nextOff) (hb : b ≠ [])
    (htotal : t.nextOff + b.length < t.total) (hsize : b.length ≤ segWindow (peerLink h.peer) * segSize (peerLink h.peer))
    (hlook : look d.mal.xfers (xferKey a x) = some t) :
    segData h x 0 off b e = sendXfer a 0x22 t.txn (le 1 x ++ le 1 0 ++ le 4 (t.nextOff + b.length))
      { d with mal := { d.mal with xfers := ins d.mal.xfers (xferKey a x) { t with
        segs := [], data := t.data ++ b, nextOff := t.nextOff + b.length, lastMove := d.tb.now } } } := by
  have hpos : 0 < b.length := List.length_pos_iff.mpr hb
  have hkeep : keepsSeg (peerLink h.peer) t off b.length = true := keepsSeg_next hoff hpos htotal hsize hsegs
  have hjoin : joinSegs 1 t.data [(off, b)] = t.data ++ b := joinSegs_next (hoff.trans hlen.symm) hb
  have hmove : ¬ t.nextOff + b.length = t.nextOff := by omega
  have hleft : ¬ t.nextOff + b.length < off + b.length := by omega
  simp only [segData, harrive]
  rw [if_neg hdir, if_neg (by simp [hup, hgait]), onXfer_of_look hlook, if_pos hkeep, hsegs, List.nil_append,
    List.length_singleton, hjoin, List.length_append, hlen, if_neg hmove, if_neg (Nat.ne_of_lt htotal)]
  simp only [List.filter_cons, hleft, decide_false, Bool.false_eq_true, if_false, List.filter_nil]

theorem segAck_taken {h : MalHdr} {x next a : Nat} {t : Xfer} {d e : Dev} (harrive : arriveSeg h 6 x 0 e = (some (a, t), d))
    (hdir : t.dir = 1) : segAck h x 0 next e =
      if t.total < next then d
      else if next = t.total then delXfer (xferKey a x) d
      else sendSegs a x (onXfer (xferKey a x) (fun u => { u with
        nextOff := max u.nextOff next, sent := max u.sent next,
        lastMove := if t.nextOff < next then d.tb.now else t.lastMove, lastAck := d.tb.now }) d) := by
  simp only [segAck, harrive]
  rw [if_neg (by simp [hdir])]

theorem sec_5 : sec 5 = 5000000000 := by decide

theorem ms_200 : ms 200 = 200000000 := by decide

/-- A second is 10^9 ns. -/
theorem sec_eq (n : Nat) : sec n = 1000000000 * n := Nat.mul_comm ..

/-- Settles O43: the branch of each request, segment and timeout that its hypotheses select. -/
theorem malathResponder : Obligations.MalathResponder := by
  unfold Obligations.MalathResponder
  refine ⟨?requests, ?segments, ?timeouts, ?expiries⟩
  case requests =>
    intro s h offer hflags sub tcode maxp index value total a d
    dsimp only
    refine ⟨?hello, ?read, ?write, ?segInit⟩
    case hello =>
      intro v harrive hflags' hversion
      simp only [exec_hello, execHello, onDev, hello, harrive, Nat.not_le.mpr hflags', if_false, hversion]
    case read =>
      intro r v harrive hgate htarget
      simp only [exec_read, execRead, readPdu, harrive, hgate, htarget]
      rfl
    case write =>
      intro r role e harrive hgate hrights hinstall hcard
      simp only [exec_write, execWrite, writePdu, harrive, hgate, hrights, hinstall, hcard]
      rfl
    case segInit =>
      intro x role harrive hgate htarget htotal hno hassoc hall
      rw [exec_segInit, execSegInit, toNat_zero8, segInit_opens harrive hgate htarget htotal hno hassoc hall]
  case segments =>
    intro s h xfer status offset next b a t d
    dsimp only
    refine ⟨?data, ?ack, ?abort⟩
    case data =>
      intro harrive hdir hup hgait hsegs hlen hoff hb htotal hsize hburn hreset hlook
      rw [exec_segData, execSegData, toNat_zero8, segData_next harrive hdir hup hgait hsegs hlen hoff hb htotal hsize hlook]
      exact congrArg Host.Outcome.next (afterWrite_calm ((congrArg _ (sendXfer_life ..)).trans hburn)
        ((congrArg _ (sendXfer_life ..)).trans hreset))
    case ack =>
      intro harrive hdir
      refine ⟨fun hend => ?_, fun hmore hnext hlook => ?_⟩
      · rw [exec_segAck, execSegAck, onDev, toNat_zero8, segAck_taken harrive hdir, if_neg (by omega), if_pos hend]
      · rw [exec_segAck, execSegAck, onDev, toNat_zero8, segAck_taken harrive hdir, if_neg (by omega), if_neg (by omega),
          onXfer_of_look hlook, if_pos hnext, Nat.max_eq_right (Nat.le_of_lt hnext)]
    case abort =>
      intro harrive
      simp only [exec_segAbort, execSegAbort, onDev, segAbort, harrive]
  case timeouts =>
    intro s assoc xfer t hup
    dsimp only
    intro hlive
    refine ⟨fun hdir => ?_, ?_⟩
    · simp only [exec_segAckTimeout, execSegAckTimeout, onDev, segResend, hlive, hdir, hup, ms_200]
      rfl
    · simp only [exec_segProgressTimeout, execSegProgressTimeout, onDev, segStalled, hlive, hup, sec_5]
      rfl
  case expiries =>
    intro s assoc xfer t y can
    dsimp only
    refine ⟨fun hlook hstaged => ?_, fun hassoc hlink => ?_, fun hbeats hlink => ?_⟩
    · simp only [exec_stagingExpire, execStagingExpire, onDev, hlook, Option.filter_some, hstaged, if_true, sec_600]
    · simp only [exec_assocIdleExpire, execAssocIdleExpire, onDev, hassoc, beq_iff_eq, hlink, if_false, sec_eq]
    · have hgo : (!heartbeats s.dev || (!can && !s.dev.mal.mgtUp)) = false := by
        rcases hlink with h | h <;> simp [hbeats, h]
      simp only [exec_heartbeat, execHeartbeat, onDev, hgo, Bool.false_eq_true, if_false]

end Sys2Proof.Machine
end

section
/-! PROOF. Every step keeps the memories and their secret tags in canonical form (R226, R543): first the operations that go from a state
to a state, then the shared forms that commands are written over, then every command and the idle step. -/

namespace Sys2Proof.Machine

open Sys2Proof

/-! The form of a state's memories. -/

/-- Memory and tags of a state are in canonical form, as one fact about the state that no update of the device alone touches. -/
def Canon (s : State) : Prop := MemInv s

theorem Canon.mem {s : State} (h : Canon s) : memWf s.mem = true := h.1

theorem Canon.tags {s : State} (h : Canon s) : tagsWf s.memTags = true := h.2

theorem canon_mk {d : Dev} {m : FMap Byte} {t : FMap Bool} {q : List Instr} :
    Canon { dev := d, mem := m, memTags := t, pending := q } ↔ memWf m = true ∧ tagsWf t = true := Iff.rfl

/-- The device and the queue are no part of the form. -/
@[simp] theorem canon_withDev {s : State} {d : Dev} {q : List Instr} :
    Canon { dev := d, mem := s.mem, memTags := s.memTags, pending := q } ↔ Canon s := Iff.rfl

/-- What leaves both memories keeps their form. -/
theorem canon_of_eq {s t : State} (h : Canon s) (hm : t.mem = s.mem) (ht : t.memTags = s.memTags) : Canon t :=
  ⟨hm ▸ h.mem, ht ▸ h.tags⟩

/-- A write into memory that leaves the tags keeps the form. -/
@[simp] theorem canon_writeBytes {s : State} {d : Dev} {q : List Instr} {a : Nat} {b : Bytes} (h : Canon s) :
    Canon { dev := d, mem := writeBytes s.mem a b, memTags := s.memTags, pending := q } :=
  ⟨memWf_writeBytes a b h.mem, h.tags⟩

/-- Tags filled over one span after another keep the form. -/
theorem tagsWf_foldl_fill {α : Type} {f : FMap Bool → α → FMap Bool} (hf : ∀ t x, tagsWf t = true → tagsWf (f t x) = true)
    (l : List α) {t : FMap Bool} (h : tagsWf t = true) : tagsWf (l.foldl f t) = true :=
  List.foldlRecOn l f h fun t ht x _ => hf t x ht

/-- A fold over steps that keep the form keeps it. -/
theorem canon_foldl {α : Type} {f : State → α → State} (hf : ∀ s a, Canon s → Canon (f s a)) (l : List α) {s : State}
    (h : Canon s) : Canon (l.foldl f s) :=
  List.foldlRecOn l f h fun s hs a _ => hf s a hs

/-! Operations on a state. -/

section
variable {s : State} (h : Canon s)
include h

@[simp] theorem canon_violate (v : Violation) : Canon (violate v s) := by
  unfold violate
  dsimp only
  repeat' split
  all_goals simp [h]

@[simp] theorem canon_denyAccess (p kind region a : Nat) (wr : Bool) : Canon (denyAccess p kind region a wr s) :=
  canon_violate h _

@[simp] theorem canon_writeSpans (secret : Bool) (ws : List (Nat × Bytes)) : Canon (writeSpans secret ws s) := by
  refine canon_foldl (fun s w h => canon_mk.mpr ⟨memWf_writeBytes _ _ h.mem, ?_⟩) ws h
  split
  · exact tagsWf_fillTags _ _ _ h.tags
  · exact h.tags

@[simp] theorem canon_storeOut (n o : Nat) (b : Bytes) : Canon (storeOut n o b s) := by
  unfold storeOut
  split
  · exact h
  · exact canon_writeSpans h _ _

@[simp] theorem canon_writeOutCtl (p : Nat) (r : Req) : Canon (writeOutCtl p r s) := by
  unfold writeOutCtl
  split
  · exact canon_mk.mpr ⟨memWf_writeBytes _ _ h.mem, tagsWf_storeTags _ _ _ h.tags⟩
  · exact canon_denyAccess h ..
  · exact h

@[simp] theorem canon_writeParsed (c : RigClass) (p : ClassPlace) (m : Msg) (x : Parsed) : Canon (writeParsed c p m x s) := by
  refine canon_mk.mpr ⟨memWf_writeBytes _ _ (memWf_writeBytes _ _ h.mem), ?_⟩
  refine tagsWf_foldl_fill (fun t e ht => ?_) _ (tagsWf_foldl_fill (fun t f ht => ?_) _
    (tagsWf_fillTags _ _ _ (tagsWf_fillTags _ _ _ h.tags)))
  · repeat' split
    all_goals simp only [ht, tagsWf_fillTags]
  · split
    all_goals simp only [ht, tagsWf_fillTags]

@[simp] theorem canon_routed (tag : Nat) (c : RigClass) (p : ClassPlace) (m : Msg) (x : Parsed) (t1 : Nat) :
    Canon (routed tag c p m x t1 s) := by
  unfold routed
  extract_lets
  split <;> simp [h]

/-- An image loaded class by class keeps the form (R287). -/
@[simp] theorem canon_loadImage (e : RigEntry) : Canon (loadImage e s) := by
  refine canon_mk.mpr ?_
  exact List.foldlRecOn (motive := fun m : FMap Byte × FMap Bool => memWf m.1 = true ∧ tagsWf m.2 = true) _ _ h
    fun m hm p _ => memInv_loadClass _ p hm

@[simp] theorem canon_rigStep (dom : Nat) (f : Dev → Dev) : Canon (rigStep dom f s) := by
  simp only [rigStep]
  repeat' split
  all_goals simp [h]

/-! Resets. -/

omit h in
@[simp] theorem canon_clearAll (cause : Nat) (s : State) : Canon (clearAll cause s) := canon_mk.mpr ⟨rfl, rfl⟩

@[simp] theorem canon_zeroise (l : TamperLatch) : Canon (zeroise l s) := by
  unfold zeroise
  extract_lets
  repeat' split
  · exact h
  · exact h
  · exact canon_mk.mpr ⟨rfl, rfl⟩

@[simp] theorem canon_reinstallRigs : Canon (reinstallRigs s) :=
  canon_foldl (fun _ e h => by split <;> simp [h]) _ h

@[simp] theorem canon_bootFirmware (slot : Nat) : Canon (bootFirmware slot s) := by
  simp only [bootFirmware]
  exact canon_withDev.mpr (canon_reinstallRigs (canon_withDev.mpr h))

@[simp] theorem canon_bootOnce : Canon (bootOnce s) := by
  simp only [bootOnce]
  split
  · exact h
  split
  · exact h
  split
  · exact h
  split
  · exact h
  · split
    · exact h
    · exact canon_bootFirmware (canon_withDev.mpr h) _

@[simp] theorem canon_boot : Canon (boot s) := by
  simp only [boot]
  split <;> simp [h]

omit h in
@[simp] theorem canon_fullReset (cause : Nat) (s : State) : Canon (fullReset cause s) :=
  canon_boot (canon_clearAll cause s)

@[simp] theorem canon_clusterReset : Canon (clusterReset s) :=
  canon_mk.mpr ⟨memWf_zeroRange _ _ h.mem, tagsWf_zeroTags _ _ h.tags⟩

@[simp] theorem canon_resetIfDue : Canon (resetIfDue s) := by
  unfold resetIfDue
  split <;> simp [h]

/-! The audit recorder. -/

@[simp] theorem canon_notifyFault (seq : Nat) : Canon (notifyFault seq s) := by
  unfold notifyFault
  extract_lets
  split
  · exact h
  · exact canon_writeBytes h

@[simp] theorem canon_sequence (e : AuditEv) (late : Bool) : Canon (sequence e late s) := by
  simp only [sequence]
  split <;> simp [h]

@[simp] theorem canon_closeStorm (x : Storm) : Canon (closeStorm x s) := by
  simp only [closeStorm]
  repeat' split
  all_goals simp [h]

@[simp] theorem canon_closeOverflow : Canon (closeOverflow s) := by
  unfold closeOverflow
  repeat' split
  all_goals simp [h]

@[simp] theorem canon_closeClassStorms : Canon (closeClassStorms s) := by
  unfold closeClassStorms
  split
  · exact canon_foldl (fun _ x h => canon_closeStorm h x) _ (canon_withDev.mpr h)
  · exact h

@[simp] theorem canon_closeWindow (e : AuditEv) : Canon (closeWindow e s) := by
  simp [closeWindow, h]

@[simp] theorem canon_takeEvent (e : AuditEv) : Canon (takeEvent e s) := by
  unfold takeEvent
  repeat' split
  all_goals simp [h]

@[simp] theorem canon_pageDurable (p : AuditPage) : Canon (pageDurable p s) := by
  simp [pageDurable, h]

end

theorem canon_sequenceAll (n : Nat) {s : State} (h : Canon s) : Canon (sequenceAll n s) := by
  induction n generalizing s with
  | zero => exact h
  | succ n ih =>
    unfold sequenceAll
    repeat' split
    · exact ih (canon_takeEvent (canon_withDev.mpr h) _)
    · exact ih (canon_closeWindow (canon_withDev.mpr h) _)
    · exact h

theorem canon_durableAll (n : Nat) {s : State} (h : Canon s) : Canon (durableAll n s) := by
  induction n generalizing s with
  | zero => exact h
  | succ n ih =>
    unfold durableAll
    split
    · exact h
    · exact ih (canon_pageDurable h _)

section
variable {s : State} (h : Canon s)
include h

@[simp] theorem canon_drainAudit : Canon (drainAudit s) :=
  canon_durableAll _ (canon_withDev.mpr (canon_foldl (fun _ x h => canon_closeStorm h x) _ (canon_sequenceAll _ h)))

/-! What a write, a service or a committed record leaves to be done outside the device's registers. -/

@[simp] theorem canon_burnState (flag from_ to_ actor : Nat) : Canon (burnState flag from_ to_ actor s) := by
  simp only [burnState]
  split <;> simp [h]

@[simp] theorem canon_resetAfterRecords : Canon (resetAfterRecords s) := by
  unfold resetAfterRecords
  split <;> simp [h]

@[simp] theorem canon_afterWrite : Canon (afterWrite s) := by
  unfold afterWrite
  split <;> simp [h]

@[simp] theorem canon_followMigration : Canon (followMigration s) := by
  simp only [followMigration]
  split
  · exact h
  · repeat' split
    all_goals simp [h]

/-! The Shroud. -/

@[simp] theorem canon_assertDetector (monitor det item : Nat) (value limit : Int) :
    Canon (assertDetector monitor det item value limit s) := by
  simp only [assertDetector]
  repeat' split
  all_goals simp [h]

@[simp] theorem canon_mainGone : Canon (mainGone s) := by
  simp only [mainGone]
  repeat' split
  all_goals simp [h]

/-! Requests of the Malath responder and of sessions. -/

@[simp] theorem canon_denyPin (e : DictErr) (a i sub actor : Nat) (wr : Bool) : Canon (denyPin e a i sub actor wr s) := by
  simp only [denyPin]
  repeat' split
  all_goals simp [h]

@[simp] theorem canon_readPdu (x : MalHdr) (i sub resv : Nat) : Canon (readPdu x i sub resv s) := by
  simp only [readPdu]
  repeat' split
  all_goals simp [h]

@[simp] theorem canon_writePdu (x : MalHdr) (i sub tcode : Nat) (vlenOk : Bool) (v : Bytes) :
    Canon (writePdu x i sub tcode vlenOk v s) := by
  simp only [writePdu]
  repeat' split
  all_goals simp [h]

end

/-! Outcomes. -/

/-- Where a command's outcome has a next state, its memories are in canonical form. -/
def YieldsCanon (o : Out) : Prop := ∀ t, o = .next t → Canon t

@[simp] theorem yieldsCanon_next {t : State} : YieldsCanon (.next t) ↔ Canon t :=
  ⟨fun h => h t rfl, fun h _ hu => Host.Outcome.next.inj hu ▸ h⟩

@[simp] theorem yieldsCanon_onDev (f : Dev → Dev) {s : State} : YieldsCanon (onDev f s) ↔ Canon s := yieldsCanon_next

@[simp] theorem yieldsCanon_bnStep (n : Fin 48) (op : Nat) (f : BnEngine → BnProg → Nat → BnEngine × BnProg) {s : State} :
    YieldsCanon (bnStep n op f s) ↔ Canon s := yieldsCanon_next

theorem canon_nextState {s : State} {o : Out} (h : Canon s) (ho : YieldsCanon o) : Canon (nextState s o) := by
  cases o with
  | next t => exact ho t rfl
  | fault f => exact h
  | refused r => exact h

/-- A command that leaves both memories keeps their form. -/
theorem yieldsCanon_of_eq {s t : State} (h : Canon s) (hm : t.mem = s.mem) (ht : t.memTags = s.memTags) :
    YieldsCanon (.next t) :=
  yieldsCanon_next.mpr (canon_of_eq h hm ht)

section
variable {s : State} (h : Canon s)
include h

@[simp] theorem canon_openSession (x : SvcHdr) (req : SvcReq) : Canon (openSession x req s) := by
  unfold openSession
  extract_lets
  split
  extract_lets
  split
  · exact h
  split
  · exact h
  split
  · exact h
  · exact h
  split
  · exact h
  split
  · exact h
  split
  · exact h
  split
  · exact h
  split
  extract_lets
  split
  · exact h
  split
  · exact h
  split <;> exact h

/-! The registers of the custodian cores. -/

@[simp] theorem canon_regWrite (b : RegBlock) (off v : Nat) : Canon (regWrite b off v s) := by
  unfold regWrite
  split <;> repeat' split
  all_goals exact canon_of_eq h rfl rfl

theorem canon_regStore {cu a : Nat} {bytes : Bytes} {t : State} (ht : regStore cu a bytes s = some t) : Canon t := by
  have hcover (b : RegBlock) (o n : Nat) : Canon (regStore.cover b o n bytes s) :=
    canon_foldl (fun _ _ h => canon_regWrite h ..) _ h
  unfold regStore at ht
  split at ht
  · cases ht
  extract_lets at ht
  split at ht
  · split at ht <;> obtain rfl := Option.some.inj ht
    · exact h
    · exact hcover ..
  · obtain rfl := Option.some.inj ht
    exact hcover ..

/-! Loads and stores. -/

theorem canon_loadBytes {p : Nat} {q : Proc} {a n : Nat} {t : State} {b : Bytes} {tag : Bool}
    (ht : loadBytes p q a n s = .ok (b, tag, t)) : Canon t := by
  unfold loadBytes at ht
  repeat' split at ht
  all_goals cases ht
  all_goals simp [h]

@[simp] theorem canon_putBytes (phys : Nat) (hbm : Bool) (b : Bytes) (t : Bool) : Canon (putBytes phys hbm b t s) := by
  refine canon_mk.mpr ⟨memWf_writeBytes _ _ h.mem, ?_⟩
  split
  · exact h.tags
  · exact tagsWf_storeTags _ _ _ h.tags

theorem canon_storeBytes {p : Nat} {q : Proc} {a : Nat} {b : Bytes} {tag : Bool} {t : State}
    (ht : storeBytes p q a b tag s = .ok t) : Canon t := by
  unfold storeBytes at ht
  repeat' split at ht
  all_goals cases ht
  case h_1 hreg => exact canon_regStore h hreg
  · exact canon_denyAccess h ..
  · exact canon_putBytes h ..

@[simp] theorem canon_notePoison (p : ProcId) (len : Nat) (body : State → Proc → LRes (State × Proc)) :
    Canon (notePoison p len body s) := by
  unfold notePoison
  extract_lets
  repeat' split
  all_goals exact h

end

/-! Lope instructions. An instruction's own effect keeps the form where the state that it answers does. -/

/-- What an instruction computes has its memories in canonical form, in the state that `st` takes from it. -/
def BodyCanon {α : Type} (st : α → State) (r : LRes α) : Prop := ∀ x, r = .ok x → Canon (st x)

section
variable {α : Type} {st : α → State}

@[simp] theorem bodyCanon_flt (c a : Nat) : BodyCanon st (.flt c a) := fun _ h => nomatch h

@[simp] theorem bodyCanon_hold : BodyCanon st .hold := fun _ h => nomatch h

@[simp] theorem bodyCanon_ok {x : α} : BodyCanon st (.ok x) ↔ Canon (st x) :=
  ⟨fun h => h x rfl, fun h _ hx => LRes.ok.inj hx ▸ h⟩

theorem bodyCanon_noExt {e : Bool} {r : LRes α} (h : BodyCanon st r) : BodyCanon st (noExt e r) := by
  cases e
  · exact h
  · exact bodyCanon_flt _ _

theorem bodyCanon_needPriv {p : Proc} {r : LRes α} (h : BodyCanon st r) : BodyCanon st (needPriv p r) := by
  unfold needPriv
  split
  · exact h
  · exact bodyCanon_flt _ _

theorem bodyCanon_readyX {p : Proc} {x : Fin 4} {r : LRes α} (h : BodyCanon st r) : BodyCanon st (readyX p x r) := by
  unfold readyX
  split
  · exact bodyCanon_hold
  · exact h

end

/-- MFST sets tags and clears none (R226). -/
theorem tagsWf_mfstTags {t : FMap Bool} (ht : tagsWf t = true) (a n : Nat) (v : Bool) :
    tagsWf (execMfst.mfstTags t a n v) = true := by
  unfold execMfst.mfstTags
  split
  · exact tagsWf_fillTags _ _ _ ht
  · exact ht

section
variable {s : State} (h : Canon s)
include h

theorem yieldsCanon_atBoundary (p : ProcId) (len : Nat) {run : Proc → Out} (hrun : ∀ q, YieldsCanon (run q)) :
    YieldsCanon (atBoundary p len run s) := by
  rcases atBoundary_cases p len run s with hs | ⟨c, a, hs⟩ | hs
  · exact hs ▸ yieldsCanon_next.mpr h
  · exact hs ▸ yieldsCanon_next.mpr h
  · exact hs ▸ hrun _

theorem yieldsCanon_issue (p : ProcId) (len cycles : Nat) {body : State → Proc → LRes (State × Proc)}
    (hbody : ∀ q, BodyCanon Prod.fst (body s q)) : YieldsCanon (issue p len cycles body s) := by
  rcases issue_cases p len cycles body s with hs | ⟨c, a, hs⟩ | ⟨t, q, ht, hs⟩
  · exact hs ▸ yieldsCanon_next.mpr h
  · exact hs ▸ yieldsCanon_next.mpr h
  · exact hs ▸ yieldsCanon_next.mpr (hbody _ _ ht)

theorem yieldsCanon_issueReg (p : ProcId) (len cycles : Nat) (body : Proc → LRes Proc) :
    YieldsCanon (issueReg p len cycles body s) :=
  yieldsCanon_issue h p len cycles fun q => by split <;> simp [h]

omit h in
theorem yieldsCanon_issueRead (h : Canon s) (p : ProcId) (len cycles : Nat) {body : State → Proc → LRes (State × Proc)}
    (hbody : ∀ s q, Canon s → BodyCanon Prod.fst (body s q)) : YieldsCanon (issueRead p len cycles body s) :=
  have hnoted := canon_notePoison h p len body
  yieldsCanon_issue hnoted p len cycles fun q => hbody _ q hnoted

theorem yieldsCanon_issueJump (p : ProcId) (body : Proc → LRes (Proc × Nat × Option (BitVec 32))) :
    YieldsCanon (issueJump p body s) :=
  yieldsCanon_atBoundary h p 4 fun q => by split <;> simp [h]

theorem yieldsCanon_issueWait (p : ProcId) (len : Nat) (body : Proc → LRes (LopeWait ⊕ (Proc → Proc))) :
    YieldsCanon (issueWait p len body s) :=
  yieldsCanon_atBoundary h p len fun q => by split <;> exact yieldsCanon_next.mpr h

theorem yieldsCanon_issueJob (p : ProcId) (cycles : Nat) {body : State → Proc → LRes (State × Proc × Req)}
    (hbody : ∀ q, BodyCanon Prod.fst (body s q)) : YieldsCanon (issueJob p cycles body s) :=
  yieldsCanon_atBoundary h p 4 fun q => by
    split
    · exact yieldsCanon_next.mpr h
    · exact yieldsCanon_next.mpr h
    · next hok => exact yieldsCanon_next.mpr (hbody q _ hok)

theorem yieldsCanon_issueLoad (p : ProcId) (f : MFmt) (n : Nat) (ready : Proc → LRes Unit)
    (put_ : Proc → Bytes → Bool → Proc) : YieldsCanon (issueLoad p f n ready put_ s) :=
  yieldsCanon_issueRead h p _ _ fun s q h => by
    repeat' split
    all_goals simp
    next hload => exact canon_loadBytes h hload

theorem yieldsCanon_issueStore (p : ProcId) (f : MFmt) (n : Nat) (data : Proc → LRes (Bytes × Bool)) :
    YieldsCanon (issueStore p f n data s) := by
  unfold issueStore
  refine yieldsCanon_issue h p _ _ fun q => ?_
  repeat' split
  all_goals simp
  next hstore => exact canon_storeBytes h hstore

theorem yieldsCanon_loadD (p : ProcId) (f : MFmt) (n : Nat) : YieldsCanon (loadD p f n s) :=
  yieldsCanon_issueLoad h p f n _ _

theorem yieldsCanon_storeD (p : ProcId) (f : MFmt) (n : Nat) : YieldsCanon (storeD p f n s) :=
  yieldsCanon_issueStore h p f n _

theorem yieldsCanon_execMfld (p : ProcId) (f : MFFmt) : YieldsCanon (execMfld p f s) :=
  yieldsCanon_issueRead h p _ _ fun s q h => by
    split
    · simp
    · simp
    · refine bodyCanon_readyX ?_
      split
      · simp
      · simp
      · next hload => exact bodyCanon_ok.mpr (canon_loadBytes h hload)

theorem yieldsCanon_execMfst (p : ProcId) (f : MFFmt) : YieldsCanon (execMfst p f s) :=
  yieldsCanon_issueRead h p _ _ fun s q h => by
    split
    · simp
    split
    · simp
    · simp
    · refine bodyCanon_readyX ?_
      split
      · simp
      · exact bodyCanon_ok.mpr (canon_denyAccess h ..)
      split
      · simp
      split
      · simp
      · exact bodyCanon_ok.mpr (canon_mk.mpr ⟨memWf_writeBytes _ _ h.mem, tagsWf_mfstTags h.tags _ _ _⟩)

theorem yieldsCanon_execGfence (p : ProcId) (f : RFmt) : YieldsCanon (execGfence p f s) := by
  unfold execGfence
  refine yieldsCanon_issue h p 4 1 fun q => bodyCanon_noExt (bodyCanon_needPriv ?_)
  split <;> simp [h]

theorem yieldsCanon_execPswap (p : ProcId) (f : RFmt) : YieldsCanon (execPswap p f s) := by
  unfold execPswap
  refine yieldsCanon_atBoundary h p 4 fun q => ?_
  repeat' split
  all_goals exact yieldsCanon_next.mpr h

theorem yieldsCanon_execCall (p : ProcId) (f : RFmt) : YieldsCanon (execCall p f s) :=
  yieldsCanon_atBoundary h p 4 fun q => by
    extract_lets
    split <;> exact yieldsCanon_next.mpr h

theorem yieldsCanon_execJobx (p : ProcId) (f : JXFmt) : YieldsCanon (execJobx p f s) :=
  yieldsCanon_issueJob h p 2 fun q => by
    extract_lets
    split
    · simp
    split
    · simp
    refine bodyCanon_readyX (bodyCanon_readyX ?_)
    split
    · simp
    split <;> simp [h]

theorem yieldsCanon_execJob (p : ProcId) (f : JFmt) : YieldsCanon (execJob p f s) := by
  have hdeny (wr : Bool) (l : List (Nat × Nat)) {t : State} (ht : Canon t) :
      Canon (l.foldl (fun t e => denyAccess p.val 0x07 e.2 e.1 wr t) t) :=
    canon_foldl (fun _ _ hu => canon_denyAccess hu ..) l ht
  refine yieldsCanon_issueJob h p 4 fun q => ?_
  extract_lets
  split
  · simp
  split
  · simp
  split
  · simp
  split
  · simp
  · simp
  extract_lets job read
  split
  · simp
  split
  · simp
  split
  · simp
  split
  · simp
  extract_lets
  split
  split
  extract_lets denied bad spoilt r noted
  refine bodyCanon_ok.mpr ?_
  have hread : Canon read := by
    simp only [read]
    split <;> simp [h]
  have hdenied : Canon denied := hdeny true _ (hdeny false _ hread)
  simp only [noted]
  clear_value spoilt
  cases spoilt <;> exact hdenied

theorem yieldsCanon_execSev (p : ProcId) (f : SevFmt) : YieldsCanon (execSev p f s) :=
  yieldsCanon_issue h p 4 1 fun q => by
    extract_lets
    repeat' split
    all_goals simp [h]

theorem yieldsCanon_execSevAll (p : ProcId) (f : SevFmt) : YieldsCanon (execSevAll p f s) :=
  yieldsCanon_issue h p 4 1 fun q => by
    extract_lets
    split <;> simp [h]

/-! Messages: each lies in its string's data memory (R234). -/

theorem yieldsCanon_execMessageDeliver (tag : BitVec 16) : YieldsCanon (execMessageDeliver tag s) := by
  unfold execMessageDeliver
  split
  · exact yieldsCanon_next.mpr h
  split
  · exact yieldsCanon_next.mpr h
  · exact yieldsCanon_next.mpr (canon_mk.mpr ⟨memWf_writeBytes _ _ h.mem, tagsWf_fillTags _ _ _ h.tags⟩)

theorem yieldsCanon_execEmitEnd (tag : BitVec 16) : YieldsCanon (execEmitEnd tag s) := by
  unfold execEmitEnd
  split
  · exact yieldsCanon_next.mpr h
  split
  · exact yieldsCanon_next.mpr h
  split
  swap
  · exact yieldsCanon_next.mpr h
  split
  · exact yieldsCanon_next.mpr h
  extract_lets
  split
  split
  · exact yieldsCanon_next.mpr h
  · refine yieldsCanon_next.mpr (canon_mk.mpr ⟨memWf_writeBytes _ _ (memWf_writeBytes _ _ h.mem), ?_⟩)
    refine tagsWf_foldl_fill (fun t x ht => ?_) _ (tagsWf_fillTags _ _ _ h.tags)
    split
    · exact tagsWf_fillTags _ _ _ ht
    · exact ht

/-- A restarted engine's scratch and its tags are erased (R541). -/
theorem yieldsCanon_execEngineRestart (p : Fin 512) : YieldsCanon (execEngineRestart p s) := by
  unfold execEngineRestart
  split
  · exact yieldsCanon_next.mpr (canon_mk.mpr ⟨memWf_zeroRange _ _ h.mem, tagsWf_zeroTags _ _ h.tags⟩)
  · exact yieldsCanon_next.mpr h

/-! Actions that a session executes. -/

@[simp] theorem canon_runAction (x : SvcHdr) (a : SvcAction) : Canon (runAction x a s) := by
  refine canon_nextState h ?_
  cases a with
  | rigAdmit => exact yieldsCanon_next.mpr (canon_rigStep h ..)
  | deviceReset => exact yieldsCanon_next.mpr (canon_resetIfDue (canon_withDev.mpr h))
  | hobbleUnlock => exact yieldsCanon_next.mpr (canon_resetAfterRecords (canon_withDev.mpr h))
  | dictWrite => exact yieldsCanon_next.mpr (canon_afterWrite (canon_withDev.mpr h))
  | _ => exact yieldsCanon_of_eq h rfl rfl

@[simp] theorem canon_authorise (x : SvcHdr) (slot resv : Nat) (card : CardReply) : Canon (authorise x slot resv card s) := by
  unfold authorise
  split
  · exact h
  split
  · exact h
  split
  · exact h
  split
  · exact h
  split
  · exact h
  split
  · dsimp only
    split
    · exact h
    · exact canon_runAction (canon_withDev.mpr h) ..
  · exact h

/-! Every command and every step. -/

/-- Every command keeps the form: the classes are those of `completes_exec`. -/
theorem yieldsCanon_exec (c : Instr) : YieldsCanon (exec c s) := by
  cases c with
  | mov | add | sub | and | or | xor | not | neg | shl | shr | sar | shli | shri | sari | mul | mulhu | divu | cmp | cmpeqm
  | cmpltm | sel | bswap | popc | sett | clt | addi | andi | ori | xori | movi | cmpi | mova | movad | movda | adda | suba
  | cmpa | addai | movai | xmov | xand | xOr | xxor | xaddb | xsubb | xcmpeqb | xcmpltb | xsel | xins | xext | xshlb | xshrb
  | xzero | xbcast | xrev | xmaskl | rep | repu | time | mfc | mtc | nop => dsimp only [exec]; exact yieldsCanon_issueReg h _ _ _ _
  | b | bl | jr | bz | bnz | rfe => dsimp only [exec]; exact yieldsCanon_issueJump h _ _
  | wfe | wtu | jwait | halt | fence => dsimp only [exec]; exact yieldsCanon_issueWait h _ _ _
  | job => dsimp only [exec]; exact yieldsCanon_execJob h _ _
  | jobx => dsimp only [exec]; exact yieldsCanon_execJobx h _ _
  | sev => dsimp only [exec]; exact yieldsCanon_execSev h _ _
  | sevAll => dsimp only [exec]; exact yieldsCanon_execSevAll h _ _
  | mfld => dsimp only [exec]; exact yieldsCanon_execMfld h _ _
  | mfst => dsimp only [exec]; exact yieldsCanon_execMfst h _ _
  | ldB | ldH | ldW | ldD => dsimp only [exec]; exact yieldsCanon_loadD h _ _ _
  | lda | ldx => dsimp only [exec]; exact yieldsCanon_issueLoad h _ _ _ _ _
  | stB | stH | stW | stD => dsimp only [exec]; exact yieldsCanon_storeD h _ _ _
  | sta | stx => dsimp only [exec]; exact yieldsCanon_issueStore h _ _ _ _
  | pswap => dsimp only [exec]; exact yieldsCanon_execPswap h _ _
  | gfence => dsimp only [exec]; exact yieldsCanon_execGfence h _ _
  | call => dsimp only [exec]; exact yieldsCanon_execCall h _ _
  | messageDeliver => dsimp only [exec]; exact yieldsCanon_execMessageDeliver h _
  | emitEnd => dsimp only [exec]; exact yieldsCanon_execEmitEnd h _
  | engineRestart => dsimp only [exec]; exact yieldsCanon_execEngineRestart h _
  | loadDone | jobSlotComplete | bnStore | parseEnd | messageRelease | auditEvent
  | auditMergeWindowClose | stormRecordClose | stormTimeout | auditPageDurable | detectorSelfCheck | vbatThreshold | token
  | tokenClose | dbgResp | watchdogExpire | clusterRebootDone | standbyEntryDone | overtempPowerOff | powerOnReset
  | warmReset =>
    dsimp only [exec, execLoadDone, execJobSlotComplete, execBnStore, 
      execParseEnd, execMessageRelease, execAuditEvent, execAuditMergeWindowClose, execStormRecordClose,
      execStormTimeout, execAuditPageDurable, execDetectorSelfCheck, execVbatThreshold, execToken, execTokenClose,
      execDbgResp, execWatchdogExpire, execClusterRebootDone, execStandbyEntryDone, execOvertempPowerOff,
      execPowerOnReset, execWarmReset]
    repeat' split
    all_goals simp [h]
  | journalPageProgrammed => exact yieldsCanon_next.mpr (canon_followMigration (canon_withDev.mpr h))
  | rigAdmit | quiesceDrained | quiesceTimeout => exact yieldsCanon_next.mpr (canon_rigStep h ..)
  | sessionOpen => exact yieldsCanon_next.mpr (canon_openSession h ..)
  | sessionAuthorise => exact yieldsCanon_next.mpr (canon_authorise h ..)
  | deviceReset => exact yieldsCanon_next.mpr (canon_resetIfDue (canon_withDev.mpr h))
  | hobbleUnlock => exact yieldsCanon_next.mpr (canon_resetAfterRecords (canon_withDev.mpr h))
  | read => exact yieldsCanon_next.mpr (canon_readPdu h ..)
  | write => exact yieldsCanon_next.mpr (canon_afterWrite (canon_writePdu h ..))
  | dictWrite | segInit | segData | lcRequest => exact yieldsCanon_next.mpr (canon_afterWrite (canon_withDev.mpr h))
  | detectorAssert => exact yieldsCanon_next.mpr (canon_assertDetector h ..)
  | _ => exact yieldsCanon_of_eq h rfl rfl

theorem canon_runWord (p : ProcId) : Canon (runWord p s) := by
  unfold runWord
  split
  · exact canon_nextState h (yieldsCanon_exec h _)
  · exact canon_nextState h (yieldsCanon_issueReg h _ _ _ _)

theorem canon_runSlices : Canon (runSlices s) :=
  canon_foldl (fun _ p h => by
    split
    · exact canon_runWord h _
    · exact h) _ h

theorem canon_idle : Canon (idle s) := by
  unfold idle
  repeat' split
  · exact canon_boot h
  · exact canon_withDev.mpr h
  · exact canon_runSlices (canon_withDev.mpr h)

end

/-- Settles O59: an idle step keeps the form, and so does the command at the front of the queue, whatever it is. -/
theorem stepsKeepMemoryCanonical : Obligations.StepsKeepMemoryCanonical := by
  intro s t h ht
  unfold step at ht
  split at ht
  · obtain rfl := Host.Outcome.next.inj ht
    exact canon_idle h
  · exact yieldsCanon_exec (canon_withDev.mpr h) _ t ht

end Sys2Proof.Machine
end

section
/-! PROOF. Memory reads back what was written (R226, R543). -/

namespace Sys2Proof.Machine

open Sys2Proof

/-- A byte within those written is the one written there. -/
theorem readByte_writeBytes_inside {m : FMap Byte} {a x : Nat} {b : Bytes} (hm : memWf m = true)
    (h : a ≤ x ∧ x < a + b.length) : readByte (writeBytes m a b) x = b.getD (x - a) 0 := by
  induction b generalizing m a with
  | nil => simp at h; omega
  | cons c b ih =>
    simp only [List.length_cons] at h
    show readByte (writeBytes (writeByte m a c) (a + 1) b) x = _
    by_cases hx : x = a
    · subst hx
      rw [readByte_writeBytes_outside _ _ (by omega), readByte_writeByte_self _ _ hm]
      simp
    · rw [ih (memWf_writeByte a c hm) (by omega), show x - a = x - (a + 1) + 1 by omega]
      simp

/-- Every byte after a write. -/
theorem readByte_writeBytes {m : FMap Byte} (hm : memWf m = true) (a x : Nat) (b : Bytes) :
    readByte (writeBytes m a b) x = if a ≤ x ∧ x < a + b.length then b.getD (x - a) 0 else readByte m x := by
  split
  · next h => exact readByte_writeBytes_inside hm h
  · exact readByte_writeBytes_outside m b (by omega)

@[simp] theorem length_readBytes (m : FMap Byte) (a n : Nat) : (readBytes m a n).length = n := by
  induction n generalizing a with
  | zero => rfl
  | succ n ih => simp [readBytes, ih]

/-- A byte of those read is the one that stands there. -/
theorem getElem?_readBytes (m : FMap Byte) (a : Nat) {n i : Nat} (h : i < n) :
    (readBytes m a n)[i]? = some (readByte m (a + i)) := by
  induction n generalizing a i with
  | zero => omega
  | succ n ih =>
    cases i with
    | zero => rfl
    | succ i =>
      rw [readBytes, List.getElem?_cons_succ, ih (a + 1) (by omega), show a + 1 + i = a + (i + 1) by omega]

/-- The bytes written are the bytes read. -/
theorem readBytes_writeBytes_self {m : FMap Byte} (hm : memWf m = true) (a : Nat) (b : Bytes) :
    readBytes (writeBytes m a b) a b.length = b := by
  refine List.ext_getElem? fun i => ?_
  by_cases hi : i < b.length
  · rw [getElem?_readBytes _ _ hi, readByte_writeBytes_inside hm (by omega)]
    simp [hi]
  · rw [List.getElem?_eq_none (by simpa using hi), List.getElem?_eq_none (by simpa using hi)]

/-- Settles O58: inside and outside the bytes written. -/
theorem memoryReadsBack : Obligations.MemoryReadsBack :=
  fun _ a x b hm => ⟨readByte_writeBytes hm a x b, memWf_writeBytes a b hm⟩

end Sys2Proof.Machine
end

section
/-! PROOF. Register instructions of the Lope processors (R196-R208, R225): each runs its body at a boundary where nothing stops it and
retires with the registers that the body gives. -/

namespace Sys2Proof.Machine

open Sys2Proof

/-! Values. -/

theorem maskOf_beq (a b : Word) : maskOf (a == b) = if a = b then BitVec.allOnes 64 else 0#64 := by
  simp [maskOf]

theorem maskOf_ult (a b : Word) : maskOf (a.ult b) = if a.toNat < b.toNat then BitVec.allOnes 64 else 0#64 := by
  simp [maskOf, BitVec.ult]

/-- A bit of a byte of a value. -/
theorem getLsbD_byteAt {w : Nat} (v : BitVec w) (i : Nat) {j : Nat} (hj : j < 8) :
    (byteAt v i).getLsbD j = v.getLsbD (8 * i + j) := by
  simp [byteAt, hj]

/-- Of numbers that fail a test all but one, only that one decides. -/
theorem any_range_eq {n k : Nat} {g : Nat → Bool} (hk : k < n) (h : ∀ i < n, i ≠ k → g i = false) :
    (List.range n).any g = g k := by
  rw [Bool.eq_iff_iff, List.any_eq_true]
  constructor
  · rintro ⟨i, hi, hgi⟩
    by_cases hik : i = k
    · exact hik ▸ hgi
    · exact absurd hgi (by simp [h i (List.mem_range.mp hi) hik])
  · exact fun hgk => ⟨k, List.mem_range.mpr hk, hgk⟩

/-- A bit of a byte that stands at a place of its own in a word. -/
theorem getLsbD_byte_placed (b : Byte) {k i j : Nat} (hk : k < 8) (hi : i < 8) (hj : j < 8) :
    ((b.zeroExtend 64) <<< (8 * k)).getLsbD (8 * i + j) = (decide (i = k) && b.getLsbD j) := by
  by_cases hik : i = k
  · subst hik
    simp [show 8 * i + j < 64 by omega, show 8 * i + j - 8 * i = j by omega]
  · simp only [BitVec.getLsbD_shiftLeft, hik, decide_false, Bool.false_and]
    by_cases hlt : 8 * i + j < 8 * k
    · simp [hlt]
    · simp [BitVec.getLsbD_of_ge b (8 * i + j - 8 * k) (by omega)]

/-- Byte i of a word whose bytes are reversed. -/
theorem byteAt_bswap64 (v : Word) {i : Nat} (hi : i < 8) : byteAt (bswap64 v) i = byteAt v (7 - i) := by
  refine BitVec.eq_of_getLsbD_eq fun j hj => ?_
  have hplaced (k : Nat) : (((byteAt v k).zeroExtend 64) <<< (8 * (7 - k))).getLsbD (8 * i + j) =
      (decide (i = 7 - k) && (byteAt v k).getLsbD j) := getLsbD_byte_placed _ (by omega) hi hj
  rw [getLsbD_byteAt _ _ hj, bswap64, getLsbD_foldl_or]
  simp only [hplaced]
  rw [any_range_eq (k := 7 - i) (by omega) (fun k hk hne => by simp [show i ≠ 7 - k by omega])]
  rw [decide_eq_true (show i = 7 - (7 - i) by omega), BitVec.getLsbD_zero, Bool.false_or, Bool.true_and, getLsbD_byteAt _ _ hj]

/-- A single bit shifted to its place. -/
theorem getLsbD_one_shiftLeft (i : Nat) {j : Nat} (hj : j < 64) : ((1#64) <<< i).getLsbD j = decide (i = j) := by
  rw [BitVec.getLsbD_shiftLeft, BitVec.getLsbD_one]
  grind

/-- Flags set one by one: bit i is the flag of number i. -/
theorem getLsbD_flags (c : Nat → Bool) {j : Nat} (hj : j < 64) :
    ((List.range 32).foldl (fun acc i => if c i then acc ||| (1#64 <<< i) else acc) 0#64).getLsbD j =
      (decide (j < 32) && c j) := by
  have hor : (fun (acc : BitVec 64) i => if c i then acc ||| (1#64 <<< i) else acc) =
      fun acc i => acc ||| (if c i then 1#64 <<< i else 0#64) := by
    funext acc i
    split <;> simp
  have hbit (i : Nat) : (if c i then 1#64 <<< i else 0#64).getLsbD j = (decide (i = j) && c i) := by
    split
    · rw [getLsbD_one_shiftLeft i hj]
      simp [*]
    · simp [*]
  rw [hor, getLsbD_foldl_or]
  simp only [hbit]
  by_cases h : j < 32
  · rw [any_range_eq h (fun i hi hne => by simp [hne])]
    simp [h]
  · simp [h]; omega

/-- Bytes shifted up and down by whole bytes. -/
theorem byteAt_shiftLeft (v : BitVec 256) (n : Nat) {i : Nat} (hi : i < 32) :
    byteAt (v <<< (8 * n)) i = if i < n then 0#8 else byteAt v (i - n) := by
  refine BitVec.eq_of_getLsbD_eq fun j hj => ?_
  rw [getLsbD_byteAt _ _ hj, BitVec.getLsbD_shiftLeft, decide_eq_true (show 8 * i + j < 256 by omega)]
  split
  · simp [show 8 * i + j < 8 * n by omega]
  · rw [getLsbD_byteAt _ _ hj, decide_eq_false (show ¬ 8 * i + j < 8 * n by omega), show 8 * i + j - 8 * n = 8 * (i - n) + j by omega]
    rfl

theorem byteAt_ushiftRight (v : BitVec 256) (n i : Nat) : byteAt (v >>> (8 * n)) i = byteAt v (i + n) := by
  refine BitVec.eq_of_getLsbD_eq fun j hj => ?_
  rw [getLsbD_byteAt _ _ hj, getLsbD_byteAt _ _ hj, BitVec.getLsbD_ushiftRight, show 8 * n + (8 * i + j) = 8 * (i + n) + j by omega]

/-! Status bits (R198). -/

/-- A bit of a register in which one bit was written. -/
theorem getLsbD_withBit (r : BitVec 32) {k : Nat} (hk : k < 32) (v : Bool) (i : Nat) :
    (withBit r k v).getLsbD i = if i = k then v else r.getLsbD i := by
  by_cases hi : i < 32
  · have hone : ((1#32) <<< k).getLsbD i = decide (i = k) := by
      rw [BitVec.getLsbD_shiftLeft, BitVec.getLsbD_one]
      grind
    cases v <;> simp only [withBit, if_true, Bool.false_eq_true, if_false, BitVec.getLsbD_or, BitVec.getLsbD_and,
      BitVec.getLsbD_not, hone, hi] <;> grind
  · rw [BitVec.getLsbD_of_ge _ _ (by omega), BitVec.getLsbD_of_ge _ _ (by omega), if_neg (by omega)]

/-- A compare writes NZCV and FT, each from its own fact, and no other bit. -/
theorem getLsbD_cmpSr {w : Nat} (sr : BitVec 32) (a b : BitVec w) (ft : Bool) (i : Nat) :
    (cmpSr sr a b ft).getLsbD i = if i = srFt then ft else if i = 0 then decide (a.toInt - b.toInt ≠ (a - b).toInt)
      else if i = 1 then decide (b.toNat ≤ a.toNat) else if i = 2 then decide (a = b) else if i = 3 then (a - b).msb
      else sr.getLsbD i := by
  have hz : (a - b == 0#w) = decide (a = b) := by
    rw [Bool.eq_iff_iff]
    simp [BitVec.sub_eq_iff_eq_add]
  simp only [cmpSr, withFlags, subFlags, hz]
  rw [getLsbD_withBit _ (by decide), getLsbD_withBit _ (by decide), getLsbD_withBit _ (by decide),
    getLsbD_withBit _ (by decide), getLsbD_withBit _ (by decide)]

/-! Forms of the bodies. -/

section
variable {s : State} {p : ProcId} {f : RFmt} {cycles : Nat}

theorem issueReg_alu1 (h : Issues s p) (he : f.e = false) (op : Word → Word) :
    issueReg p 4 cycles (alu1 f op) s = .next (retired p 4 cycles (putD (procOf s.dev p.val) (dReg f.rd)
      (op (procOf s.dev p.val).d[dReg f.ra]) (procOf s.dev p.val).dTag[dReg f.ra]) s) :=
  issueReg_ok h (by simp [alu1, noExt, he])

theorem issueReg_alu2 (h : Issues s p) (he : f.e = false) (op : Word → Word → Word) :
    issueReg p 4 cycles (alu2 f op) s = .next (retired p 4 cycles (putD (procOf s.dev p.val) (dReg f.rd)
      (op (procOf s.dev p.val).d[dReg f.ra] (procOf s.dev p.val).d[dReg f.rb])
      ((procOf s.dev p.val).dTag[dReg f.ra] || (procOf s.dev p.val).dTag[dReg f.rb])) s) :=
  issueReg_ok h (by simp [alu2, noExt, he])

end

/-- Settles O1: each is `alu2` of its own operation. -/
theorem aluOfTwoRegisters : Obligations.AluOfTwoRegisters := by
  intro s p rd ra rb aux h
  dsimp only
  refine ⟨(exec_add ..).trans (issueReg_alu2 h rfl _), (exec_sub ..).trans (issueReg_alu2 h rfl _),
    (exec_and ..).trans (issueReg_alu2 h rfl _), (exec_or ..).trans (issueReg_alu2 h rfl _),
    (exec_xor ..).trans (issueReg_alu2 h rfl _), (exec_shl ..).trans (issueReg_alu2 h rfl _),
    (exec_shr ..).trans (issueReg_alu2 h rfl _), (exec_sar ..).trans (issueReg_alu2 h rfl _),
    (exec_mul ..).trans (issueReg_alu2 h rfl _), (exec_mulhu ..).trans (issueReg_alu2 h rfl _), ?_, ?_⟩
  · rw [← maskOf_beq]
    exact (exec_cmpeqm ..).trans (issueReg_alu2 h rfl _)
  · rw [← maskOf_ult]
    exact (exec_cmpltm ..).trans (issueReg_alu2 h rfl _)

/-- Settles O2: each is `alu1` of its own operation, or writes its own tag. -/
theorem aluOfOneRegister : Obligations.AluOfOneRegister := by
  refine ⟨fun s p rd ra rb aux h => ?moves, fun s p rd ra rb aux h => ?divu⟩
  case moves =>
    dsimp only
    refine ⟨(exec_mov ..).trans (issueReg_alu1 h rfl _), (exec_not ..).trans (issueReg_alu1 h rfl _), ?neg,
      (exec_shli ..).trans (issueReg_alu1 h rfl _), (exec_shri ..).trans (issueReg_alu1 h rfl _),
      (exec_sari ..).trans (issueReg_alu1 h rfl _), (exec_popc ..).trans (issueReg_alu1 h rfl _),
      ⟨_, (exec_bswap ..).trans (issueReg_alu1 h rfl _), fun i hi => byteAt_bswap64 _ hi⟩,
      (exec_sel ..).trans (issueReg_ok h rfl), (exec_sett ..).trans (issueReg_ok h rfl),
      fun hpriv => (exec_clt ..).trans (issueReg_ok h (by simp [noExt, needPriv, hpriv]))⟩
    case neg =>
      rw [BitVec.zero_sub]
      exact (exec_neg ..).trans (issueReg_alu1 h rfl _)
  case divu =>
    dsimp only
    intro ha hb
    exact (exec_divu ..).trans (issueReg_ok h (by simp [alu2, noExt, ha, hb]))

/-- A sign-extended value extended again. -/
theorem signExtend_signExtend (imm : BitVec 16) (w : Nat) (hw : 32 ≤ w) :
    (imm.signExtend 32).signExtend w = imm.signExtend w := by
  refine BitVec.eq_of_toInt_eq ?_
  rw [BitVec.toInt_signExtend_of_le hw, BitVec.toInt_signExtend_of_le (by decide), BitVec.toInt_signExtend_of_le (by omega)]

section
variable (rd ra : BitVec 4) (imm : BitVec 16) (ext : BitVec 32) (e : Bool)

/-- The immediate of either length: with E = 1 the extension word, else IMM16 sign-extended. -/
theorem immOf_signed {w : Nat} (hw : 32 ≤ w) :
    immOf w true { rd := rd, ra := ra, resv := false, imm16 := if e then 0#16 else imm, e := e, ext := ext } =
      some ((if e then ext else imm.signExtend 32 : BitVec 32).signExtend w) := by
  cases e
  · simp [immOf, signExtend_signExtend imm w hw]
  · simp [immOf]

/-- The same zero-extended. -/
theorem immOf_unsigned :
    immOf 32 false { rd := rd, ra := ra, resv := false, imm16 := if e then 0#16 else imm, e := e, ext := ext } =
      some (if e then ext else imm.zeroExtend 32) := by
  cases e <;> simp [immOf]

end

/-- Settles O3: the immediate is `immOf`'s for either length. -/
theorem immediateForms : Obligations.ImmediateForms := by
  intro s p rd ra imm ext e h
  have h64 := immOf_signed rd ra imm ext e (w := 64) (by decide)
  have h32 := immOf_signed rd ra imm ext e (w := 32) (by decide)
  rw [BitVec.signExtend_eq] at h32
  have hz := immOf_unsigned rd ra imm ext e
  dsimp only
  refine ⟨(exec_addi ..).trans (issueReg_ok h (by simp only [aluI, h64])),
    (exec_andi ..).trans (issueReg_ok h (by simp only [aluI, h64])),
    (exec_ori ..).trans (issueReg_ok h (by simp only [aluI, h64])),
    (exec_xori ..).trans (issueReg_ok h (by simp only [aluI, h64])), fun hra => ?movi, fun hrd => ?cmpi,
    fun n m hn hm => ?addai, fun n hn => ?movai⟩
  case movi =>
    subst hra
    exact (exec_movi ..).trans (issueReg_ok h (by simp [h64]))
  case cmpi =>
    subst hrd
    exact (exec_cmpi ..).trans (issueReg_ok h (by simp [h64]))
  case addai => exact (exec_addai ..).trans (issueReg_ok h (by simp [h32, withA, hn, hm]))
  case movai => exact (exec_movai ..).trans (issueReg_ok h (by simp [hz, withA, hn]))

/-- The bits of SR after a compare, one by one. -/
theorem cmpSr_bits {w : Nat} (sr : BitVec 32) (a b : BitVec w) (ft : Bool) :
    (cmpSr sr a b ft).getLsbD 3 = (a - b).msb ∧ (cmpSr sr a b ft).getLsbD 2 = decide (a = b) ∧
      (cmpSr sr a b ft).getLsbD 1 = decide (b.toNat ≤ a.toNat) ∧
      (cmpSr sr a b ft).getLsbD 0 = decide (a.toInt - b.toInt ≠ (a - b).toInt) ∧ (cmpSr sr a b ft).getLsbD srFt = ft ∧
      ∀ i, 4 ≤ i → i ≠ srFt → (cmpSr sr a b ft).getLsbD i = sr.getLsbD i := by
  simp only [getLsbD_cmpSr]
  refine ⟨rfl, rfl, rfl, rfl, rfl, fun i hi hft => ?_⟩
  rw [if_neg hft, if_neg (by omega), if_neg (by omega), if_neg (by omega), if_neg (by omega)]

/-- Settles O4: the bits of SR are those of `cmpSr`. -/
theorem compareFlags : Obligations.CompareFlags := by
  intro s p ra rb aux h
  exact ⟨⟨_, (exec_cmp ..).trans (issueReg_ok h rfl), cmpSr_bits _ _ _ _⟩, fun n m hn hm =>
    ⟨_, (exec_cmpa ..).trans (issueReg_ok h (by simp only [noExt, withA, hn, hm]; rfl)), cmpSr_bits _ _ _ false⟩⟩

/-! Accumulators that wait for no result. -/

section
variable {q : Proc} {f : RFmt} {x y z : Fin 4}

theorem readyX_idle {α : Type} {k : LRes α} (h : q.xPend[x] = false) : readyX q x k = k := by
  simp [readyX, h]

theorem xop1_ok (he : f.e = false) (hx : xReg f.rd = some x) (hy : xReg f.ra = some y) (px : q.xPend[x] = false)
    (py : q.xPend[y] = false) (op : BitVec 256 → BitVec 256) : xop1 f op q = .ok (putX q x (op q.x[y]) q.xTag[y]) := by
  simp only [xop1, noExt, he, withX, hx, hy, readyX_idle px, readyX_idle py]
  rfl

theorem xop2_ok (he : f.e = false) (hx : xReg f.rd = some x) (hy : xReg f.ra = some y) (hz : xReg f.rb = some z)
    (px : q.xPend[x] = false) (py : q.xPend[y] = false) (pz : q.xPend[z] = false) (op : BitVec 256 → BitVec 256 → BitVec 256) :
    xop2 f op q = .ok (putX q x (op q.x[y] q.x[z]) (q.xTag[y] || q.xTag[z])) := by
  simp only [xop2, noExt, he, withX, hx, hy, hz, readyX_idle px, readyX_idle py, readyX_idle pz]
  rfl

/-- A bytewise compare gives a word whose bit i tells of byte i. -/
theorem xcmp_ok (he : f.e = false) (hy : xReg f.ra = some y) (hz : xReg f.rb = some z) (py : q.xPend[y] = false)
    (pz : q.xPend[z] = false) (op : Byte → Byte → Bool) :
    ∃ v, xcmp f op q = .ok (putD q (dReg f.rd) v (q.xTag[y] || q.xTag[z])) ∧
      ∀ i < 64, v.getLsbD i = (decide (i < 32) && op (byteAt q.x[y] i) (byteAt q.x[z] i)) := by
  refine ⟨_, ?_, fun i hi => getLsbD_flags _ hi⟩
  simp only [xcmp, noExt, he, withX, hy, hz, readyX_idle py, readyX_idle pz]
  rfl

end

/-- Settles O5: moves and sums of A registers by the registers their fields name; accumulators by `xop1`, `xop2` and `xcmp`. -/
theorem addressesAndAccumulators : Obligations.AddressesAndAccumulators := by
  refine ⟨fun s p rd ra rb aux h => ?addresses, fun s p rd ra rb aux x y z h => ?accumulators⟩
  case addresses =>
    dsimp only
    refine ⟨fun n m hn hm => ⟨(exec_mova ..).trans (issueReg_ok h (by simp [noExt, withA, hn, hm])), fun k hk =>
      ⟨(exec_adda ..).trans (issueReg_ok h (by simp [noExt, withA, hn, hm, hk])),
        (exec_suba ..).trans (issueReg_ok h (by simp [noExt, withA, hn, hm, hk]))⟩⟩,
      fun n hn htag => (exec_movad ..).trans (issueReg_ok h (by simp [noExt, withA, hn, htag])),
      fun m hm => (exec_movda ..).trans (issueReg_ok h (by simp [noExt, withA, hm]))⟩
  case accumulators =>
    dsimp only
    refine ⟨fun hx px => ⟨?_, ⟨_, ?_, fun i hi => byteAt_ofBytes32 _ i hi⟩, ?_⟩, fun hy py => ?_,
      (exec_xmaskl ..).trans (issueReg_ok h rfl),
      fun hx hy px py => ?one, fun hy hz py pz => ?compares, fun hx hy hz px py pz => ?two⟩
    · exact (exec_xzero ..).trans (issueReg_ok h (by simp [noExt, withX, hx, readyX_idle px]))
    · exact (exec_xbcast ..).trans (issueReg_ok h (by simp [noExt, withX, hx, readyX_idle px]))
    · exact (exec_xins ..).trans (issueReg_ok h (by simp [noExt, withX, hx, readyX_idle px]))
    · exact (exec_xext ..).trans (issueReg_ok h (by simp [noExt, withX, hy, readyX_idle py]))
    case one =>
      exact ⟨(exec_xmov ..).trans (issueReg_ok h (xop1_ok rfl hx hy px py _)),
        ⟨_, (exec_xrev ..).trans (issueReg_ok h (xop1_ok rfl hx hy px py _)), fun i hi => byteAt_ofBytes32 _ i hi⟩,
        ⟨_, (exec_xshlb ..).trans (issueReg_ok h (xop1_ok rfl hx hy px py _)), fun i hi => byteAt_shiftLeft _ _ hi⟩,
        ⟨_, (exec_xshrb ..).trans (issueReg_ok h (xop1_ok rfl hx hy px py _)), fun i _ => byteAt_ushiftRight _ _ i⟩⟩
    case compares =>
      obtain ⟨v, hv, hbits⟩ := xcmp_ok (q := procOf s.dev p.val) (f := { rd := rd, ra := ra, rb := rb, aux := aux, e := false })
        rfl hy hz py pz (fun a b => a == b)
      obtain ⟨w, hw, hless⟩ := xcmp_ok (q := procOf s.dev p.val) (f := { rd := rd, ra := ra, rb := rb, aux := aux, e := false })
        rfl hy hz py pz (fun a b => a.ult b)
      exact ⟨⟨v, (exec_xcmpeqb ..).trans (issueReg_ok h hv), hbits⟩, ⟨w, (exec_xcmpltb ..).trans (issueReg_ok h hw), hless⟩⟩
    case two =>
      refine ⟨(exec_xand ..).trans (issueReg_ok h (xop2_ok rfl hx hy hz px py pz _)),
        (exec_xOr ..).trans (issueReg_ok h (xop2_ok rfl hx hy hz px py pz _)),
        (exec_xxor ..).trans (issueReg_ok h (xop2_ok rfl hx hy hz px py pz _)),
        ⟨_, (exec_xaddb ..).trans (issueReg_ok h (xop2_ok rfl hx hy hz px py pz _)), fun i hi => byteAt_bytewise _ _ _ i hi⟩,
        ⟨_, (exec_xsubb ..).trans (issueReg_ok h (xop2_ok rfl hx hy hz px py pz _)), fun i hi => byteAt_bytewise _ _ _ i hi⟩,
        ⟨_, (exec_xsel ..).trans (issueReg_ok h ?_), fun i hi => byteAt_ofBytes32 _ i hi⟩⟩
      simp only [noExt, withX, hx, hy, hz, readyX_idle px, readyX_idle py, readyX_idle pz]
      rfl

/-! Branches. -/

/-- A branch that is taken continues at its target. -/
theorem issueJump_taken {s : State} {p : ProcId} {body : Proc → LRes (Proc × Nat × Option (BitVec 32))} {q : Proc} {cycles : Nat}
    {t : BitVec 32} (h : Issues s p) (hb : body (procOf s.dev p.val) = .ok (q, cycles, some t)) :
    issueJump p body s = .next (branched p cycles q t s) := issueJump_ok h hb

/-- One that is not continues behind itself. -/
theorem issueJump_untaken {s : State} {p : ProcId} {body : Proc → LRes (Proc × Nat × Option (BitVec 32))} {q : Proc} {cycles : Nat}
    (h : Issues s p) (hb : body (procOf s.dev p.val) = .ok (q, cycles, none)) :
    issueJump p body s = .next (branched p cycles q (q.pc + 4#32) s) := issueJump_ok h hb

/-- A branch on an untagged register goes where its test says. -/
theorem issueJump_branchOn {s : State} {p : ProcId} {f : BZFmt} {taken : Word → Bool} (h : Issues s p) (he : f.e = false)
    (htag : (procOf s.dev p.val).dTag[dReg f.ds] = false) :
    issueJump p (branchOn f taken) s = .next (if taken (procOf s.dev p.val).d[dReg f.ds]
      then branched p 2 (procOf s.dev p.val) (branchTo (procOf s.dev p.val) (f.off.signExtend 32)) s
      else branched p 1 (procOf s.dev p.val) ((procOf s.dev p.val).pc + 4#32) s) := by
  split
  · next ht => exact issueJump_taken h (by simp only [branchOn, he, htag, ht]; rfl)
  · next ht => exact issueJump_untaken h (by simp only [branchOn, he, htag, ht]; rfl)

/-- Settles O6: each branch's own test, then `issueJump_ok`. -/
theorem branches : Obligations.Branches := by
  intro s p cond off boff ds ra h
  dsimp only
  refine ⟨fun t ht hft => ?b, (exec_bl ..).trans (issueJump_taken h rfl), fun n hn rd rb aux => ?jr, fun htag => ⟨?bz, ?bnz⟩⟩
  case b =>
    have hclear : (!(cond == 0#4) && bitAt (procOf s.dev p.val).sr srFt) = false := by
      rcases hft with hc | hf
      · simp [hc]
      · simp [hf]
    cases t with
    | true => exact (exec_b ..).trans (issueJump_taken h (by simp only [ht, hclear]; rfl))
    | false => exact (exec_b ..).trans (issueJump_untaken h (by simp only [ht, hclear]; rfl))
  case jr => exact (exec_jr ..).trans (issueJump_taken h (by simp only [withA, hn]; rfl))
  case bz =>
    refine (exec_bz ..).trans ((issueJump_branchOn h rfl htag).trans ?_)
    simp only [beq_iff_eq]
    rfl
  case bnz =>
    refine (exec_bnz ..).trans ((issueJump_branchOn h rfl htag).trans ?_)
    simp only [Bool.not_eq_true', beq_eq_false_iff_ne, ne_eq, ite_not]
    rfl

end Sys2Proof.Machine
end

section
/-! PROOF. What a register instruction leaves unchanged (R208). -/

namespace Sys2Proof.Machine

open Sys2Proof

/-! Retirement. -/

@[simp] theorem countInstr_pc (cycles : Nat) (q : Proc) : (countInstr cycles q).pc = q.pc := by
  unfold countInstr
  split <;> rfl

@[simp] theorem countInstr_sr (cycles : Nat) (q : Proc) : (countInstr cycles q).sr = q.sr := by
  unfold countInstr
  split <;> rfl

@[simp] theorem countInstr_repOn (cycles : Nat) (q : Proc) : repOn (countInstr cycles q) = repOn q := by
  unfold countInstr
  split <;> rfl

/-- Counting an instruction and moving past it change the counters, the program counter, and in a repeat its count and marks. -/
theorem stepPc_countInstr (len cycles : Nat) (q : Proc) :
    ∃ pc rc sr cycle instret,
      stepPc len (countInstr cycles q) = { q with pc := pc, rc := rc, sr := sr, cycle := cycle, instret := instret } ∧
      (repOn q = false → sr = q.sr ∧ rc = q.rc ∧ pc = q.pc + BitVec.ofNat 32 len) := by
  have hcount : ∃ cycle instret, countInstr cycles q = { q with cycle := cycle, instret := instret } := by
    unfold countInstr
    split
    · exact ⟨q.cycle, q.instret, rfl⟩
    · exact ⟨_, _, rfl⟩
  have hrep := countInstr_repOn cycles q
  obtain ⟨cycle, instret, hq⟩ := hcount
  rw [hq] at hrep ⊢
  unfold stepPc
  rw [hrep]
  cases repOn q with
  | false => exact ⟨_, _, _, _, _, rfl, fun _ => ⟨rfl, rfl, rfl⟩⟩
  | true =>
    rw [if_pos rfl]
    dsimp only
    split
    · exact ⟨_, _, _, _, _, rfl, nofun⟩
    · exact ⟨_, _, _, _, _, rfl, nofun⟩

/-- A revocation that does not wait does nothing. -/
theorem lateRevoke_idle {p : Nat} {d : Dev} (h : (protOf d p).revokePending = false) : lateRevoke p d = d := by
  simp [lateRevoke, h]

@[simp] theorem protOf_setProc (p n : Nat) (q : Proc) (d : Dev) : protOf (setProc p q d) n = protOf d n := rfl

@[simp] theorem procOf_setProc_ne {p n : Nat} (h : n ≠ p) (q : Proc) (d : Dev) : procOf (setProc p q d) n = procOf d n :=
  lookD_put_ne _ _ _ _ h

/-- Without a revocation that waits, retirement puts back the processor and does nothing else. -/
theorem retired_dev {s : State} {p : ProcId} (h : (protOf s.dev p.val).revokePending = false) (len cycles : Nat) (q : Proc) :
    (retired p len cycles q s).dev = setProc p.val (stepPc len (countInstr cycles q)) s.dev :=
  lateRevoke_idle h

/-- Every instruction of the list writes one D register. -/
theorem registerInstr_retires {s : State} {p : ProcId} {f : RFmt} (h : Issues s p) (he : f.e = false) :
    ∀ c ∈ [Instr.mov p f, .add p f, .sub p f, .and p f, .or p f, .xor p f, .not p f, .neg p f, .shl p f, .shr p f, .sar p f,
      .shli p f, .shri p f, .sari p f, .mul p f, .mulhu p f, .cmpeqm p f, .cmpltm p f, .sel p f, .bswap p f, .popc p f,
      .sett p f], ∃ cycles v tag, exec c s = .next (retired p 4 cycles (putD (procOf s.dev p.val) (dReg f.rd) v tag) s) := by
  simp only [List.forall_mem_cons, List.not_mem_nil, false_implies, implies_true, and_true]
  exact ⟨⟨_, _, _, (exec_mov ..).trans (issueReg_alu1 h he _)⟩, ⟨_, _, _, (exec_add ..).trans (issueReg_alu2 h he _)⟩,
    ⟨_, _, _, (exec_sub ..).trans (issueReg_alu2 h he _)⟩, ⟨_, _, _, (exec_and ..).trans (issueReg_alu2 h he _)⟩,
    ⟨_, _, _, (exec_or ..).trans (issueReg_alu2 h he _)⟩, ⟨_, _, _, (exec_xor ..).trans (issueReg_alu2 h he _)⟩,
    ⟨_, _, _, (exec_not ..).trans (issueReg_alu1 h he _)⟩, ⟨_, _, _, (exec_neg ..).trans (issueReg_alu1 h he _)⟩,
    ⟨_, _, _, (exec_shl ..).trans (issueReg_alu2 h he _)⟩, ⟨_, _, _, (exec_shr ..).trans (issueReg_alu2 h he _)⟩,
    ⟨_, _, _, (exec_sar ..).trans (issueReg_alu2 h he _)⟩, ⟨_, _, _, (exec_shli ..).trans (issueReg_alu1 h he _)⟩,
    ⟨_, _, _, (exec_shri ..).trans (issueReg_alu1 h he _)⟩, ⟨_, _, _, (exec_sari ..).trans (issueReg_alu1 h he _)⟩,
    ⟨_, _, _, (exec_mul ..).trans (issueReg_alu2 h he _)⟩, ⟨_, _, _, (exec_mulhu ..).trans (issueReg_alu2 h he _)⟩,
    ⟨_, _, _, (exec_cmpeqm ..).trans (issueReg_alu2 h he _)⟩, ⟨_, _, _, (exec_cmpltm ..).trans (issueReg_alu2 h he _)⟩,
    ⟨_, _, _, (exec_sel ..).trans (issueReg_ok h (by simp only [noExt, he]; rfl))⟩,
    ⟨_, _, _, (exec_bswap ..).trans (issueReg_alu1 h he _)⟩, ⟨_, _, _, (exec_popc ..).trans (issueReg_alu1 h he _)⟩,
    ⟨_, _, _, (exec_sett ..).trans (issueReg_ok h (by simp only [noExt, he]; rfl))⟩⟩

/-- Settles O14: each writes one D register, and retirement puts back its processor alone. -/
theorem registerFrame : Obligations.RegisterFrame := by
  intro s t p f c h hc he hpend hexec
  obtain ⟨cycles, v, tag, hrun⟩ := registerInstr_retires h he c hc
  obtain rfl := Host.Outcome.next.inj (hrun.symm.trans hexec)
  obtain ⟨pc, rc, sr, cycle, instret, hstep, hrep⟩ := stepPc_countInstr 4 cycles (putD (procOf s.dev p.val) (dReg f.rd) v tag)
  dsimp only
  rw [retired_dev hpend, hstep]
  exact ⟨rfl, rfl, rfl, rfl, fun n hn => procOf_setProc_ne hn _ _, v, tag, pc, rc, sr, cycle, instret, rfl, hrep⟩

end Sys2Proof.Machine
end

section
/-! PROOF. Loads, stores and masked field moves (R203, R206, R208-R211, R225, R226, R241). -/

namespace Sys2Proof.Machine

open Sys2Proof

/-! Issuing an instruction that reads memory. -/

section
variable {s s' : State} {p : ProcId} {len cycles : Nat} {body : State → Proc → LRes (State × Proc)} {q : Proc}

theorem issueRead_ok (h : Issues s p len) (hb : body s (procOf s.dev p.val) = .ok (s', q)) :
    issueRead p len cycles body s = .next (retired p len cycles q s') :=
  (issueRead_eq (by rw [hb]; nofun)).trans (issue_ok h hb)

/-- A fault other than POISON is taken as in any instruction. -/
theorem issueRead_flt {c a : Nat} (h : Issues s p len) (hc : c ≠ fPoison) (hb : body s (procOf s.dev p.val) = .flt c a) :
    issueRead p len cycles body s = becomes s (takeFault p.val c a s.dev) := by
  refine (issueRead_eq fun x hx => hc ?_).trans (issue_flt h hb)
  rw [hb] at hx
  exact (LRes.flt.inj hx).1

end

/-! Loads. -/

section
variable {s s' : State} {p : ProcId} {f : MFmt} {a : BitVec 32} {base : Option (Fin 8 × BitVec 32)} {n : Nat}

/-- A load whose operand is ready and whose access loads bytes writes them to its destination. -/
theorem issueLoad_ok {b : Bytes} {t : Bool} {ready : Proc → LRes Unit} {put_ : Proc → Bytes → Bool → Proc}
    (h : Issues s p (if f.e then 8 else 4)) (ha : effAddr (procOf s.dev p.val) f = .ok (a, base)) (hn : a.toNat % n = 0)
    (hload : loadBytes p.val (procOf s.dev p.val) a.toNat n s = .ok (b, t, s')) (hready : ready (procOf s.dev p.val) = .ok ()) :
    issueLoad p f n ready put_ s = .next (retired p (if f.e then 8 else 4)
      (memCycles p.val a.toNat (procOf s.dev p.val) (isDenied p.val (procOf s.dev p.val) a.toNat n true false s) s.dev)
      (postBase f base (put_ (procOf s.dev p.val) b t)) s') := by
  unfold issueLoad
  simp only [ha]
  exact issueRead_ok h (by simp [hready, ha, hn, hload])

/-- A load into a D register. -/
theorem loadD_ok {b : Bytes} {t : Bool} (h : Issues s p (if f.e then 8 else 4))
    (ha : effAddr (procOf s.dev p.val) f = .ok (a, base)) (hn : a.toNat % n = 0)
    (hload : loadBytes p.val (procOf s.dev p.val) a.toNat n s = .ok (b, t, s')) :
    loadD p f n s = .next (retired p (if f.e then 8 else 4)
      (memCycles p.val a.toNat (procOf s.dev p.val) (isDenied p.val (procOf s.dev p.val) a.toNat n true false s) s.dev)
      (postBase f base (putD (procOf s.dev p.val) (dReg f.rd) (BitVec.ofNat 64 (leVal b)) t)) s') :=
  issueLoad_ok h ha hn hload rfl

/-- A store whose data is ready and whose access stores bytes updates its base. -/
theorem issueStore_ok {b : Bytes} {t : Bool} {data : Proc → LRes (Bytes × Bool)}
    (h : Issues s p (if f.e then 8 else 4)) (ha : effAddr (procOf s.dev p.val) f = .ok (a, base)) (hn : a.toNat % n = 0)
    (hstore : storeBytes p.val (procOf s.dev p.val) a.toNat b t s = .ok s') (hdata : data (procOf s.dev p.val) = .ok (b, t)) :
    issueStore p f n data s = .next (retired p (if f.e then 8 else 4)
      (memCycles p.val a.toNat (procOf s.dev p.val) (isDenied p.val (procOf s.dev p.val) a.toNat n false true s) s.dev)
      (postBase f base (procOf s.dev p.val)) s') := by
  unfold issueStore
  simp only [ha]
  exact issue_ok h (by simp [hdata, ha, hn, hstore])

/-- A store of a D register's low bytes. -/
theorem storeD_ok (h : Issues s p (if f.e then 8 else 4)) (ha : effAddr (procOf s.dev p.val) f = .ok (a, base))
    (hn : a.toNat % n = 0) (hstore : storeBytes p.val (procOf s.dev p.val) a.toNat
      (le n (procOf s.dev p.val).d[dReg f.rd].toNat) (procOf s.dev p.val).dTag[dReg f.rd] s = .ok s') :
    storeD p f n s = .next (retired p (if f.e then 8 else 4)
      (memCycles p.val a.toNat (procOf s.dev p.val) (isDenied p.val (procOf s.dev p.val) a.toNat n false true s) s.dev)
      (postBase f base (procOf s.dev p.val)) s') :=
  issueStore_ok h ha hn hstore rfl

end

theorem hasA_ok {r : BitVec 4} {k : Fin 8} (h : aReg r = some k) : hasA r = .ok () := by
  simp [hasA, h]

theorem hasX_ok {r : BitVec 4} {k : Fin 4} {q : Proc} (h : xReg r = some k) (hp : q.xPend[k] = false) : hasX r q = .ok () := by
  simp only [hasX, h, hp]
  rfl

/-! Accesses. -/

/-- Every processor reaches memory rather than registers below the custodian cores' register blocks. -/
theorem reachesMemory {p a : Nat} (h : a < 0x400000 ∨ p < 512) : (decide (512 ≤ p) && decide (0x400000 ≤ a)) = false := by
  simp
  omega

section
variable {s : State} {p a : Nat} {q : Proc} (hspace : a < 0x400000 ∨ p < 512) (hrepu : repuSlow p a q = false)
include hspace hrepu

/-- A load that is granted reads memory. -/
theorem loadBytes_granted {n phys : Nat} {hbm secret : Bool}
    (hacc : checkAccess s.dev p q a n true false = .granted phys hbm secret) (hpoison : poisonedAt phys n s.dev = false)
    (hbad : memBad s.dev phys n = false) : loadBytes p q a n s =
      .ok (readBytes s.mem phys n, if hbm then secret else !untaggedStore phys && readTags s.memTags phys n, s) := by
  simp [loadBytes, hrepu, reachesMemory hspace, hacc, hpoison, hbad]

/-- One that is denied reads zero, tagged, and records the violation. -/
theorem loadBytes_denied {n kind region : Nat} (hacc : checkAccess s.dev p q a n true false = .denied kind region) :
    loadBytes p q a n s = .ok (zeros n, true, denyAccess p kind region a false s) := by
  simp [loadBytes, hrepu, reachesMemory hspace, hacc]

/-- A load that is granted leaves the state where it loads at all. -/
theorem loadBytes_granted_state {n phys : Nat} {hbm secret : Bool} {b : Bytes} {t : Bool} {s' : State}
    (hacc : checkAccess s.dev p q a n true false = .granted phys hbm secret) (hload : loadBytes p q a n s = .ok (b, t, s')) :
    s' = s := by
  simp only [loadBytes, hrepu, reachesMemory hspace, hacc, Bool.false_eq_true, if_false] at hload
  repeat' split at hload
  all_goals cases hload
  all_goals rfl

omit hspace hrepu in
/-- Words made good hold no new error. -/
theorem memBad_healWords {d : Dev} {phys n : Nat} (h : memBad d phys n = false) (x m : Nat) :
    memBad (healWords x m d) phys n = false := by
  rw [memBad, List.any_eq_false] at h ⊢
  exact fun w hw => h w (List.mem_filter.mp hw).1

/-- A store that is granted writes its bytes. -/
theorem storeBytes_granted {phys : Nat} {b : Bytes} {t hbm secret : Bool}
    (hacc : checkAccess s.dev p q a b.length false true = .granted phys hbm secret) (htag : (hbm && t && !secret) = false)
    (hbad : memBad s.dev phys b.length = false) : storeBytes p q a b t s = .ok (putBytes phys hbm b t s) := by
  simp only [storeBytes, hrepu, reachesMemory hspace, hacc, htag, memBad_healWords hbad]
  rfl

/-- One that is denied only records the violation. -/
theorem storeBytes_denied {kind region : Nat} {b : Bytes} {t : Bool}
    (hacc : checkAccess s.dev p q a b.length false true = .denied kind region) :
    storeBytes p q a b t s = .ok (denyAccess p kind region a true s) := by
  simp [storeBytes, hrepu, reachesMemory hspace, hacc]

end

/-- Settles O7: `issueLoad_ok` for each width, then what an access loads. -/
theorem loads : Obligations.Loads := by
  refine ⟨fun s s' p f a base n b t h => ?width, fun s p q a n phys hbm secret hspace hrepu hacc hpoison hbad =>
    loadBytes_granted hspace hrepu hacc hpoison hbad, fun s p q a n kind region hp hrepu hacc =>
    loadBytes_denied (.inr hp) hrepu hacc⟩
  dsimp only
  intro ha hn hload
  refine ⟨?_, ?_, ?_, ?_, ?_, ?_⟩
  · rintro rfl
    exact (exec_ldB ..).trans (loadD_ok h ha hn hload)
  · rintro rfl
    exact (exec_ldH ..).trans (loadD_ok h ha hn hload)
  · rintro rfl
    exact (exec_ldW ..).trans (loadD_ok h ha hn hload)
  · rintro rfl
    exact (exec_ldD ..).trans (loadD_ok h ha hn hload)
  · rintro r rfl hr
    refine (exec_lda ..).trans ((issueLoad_ok h ha hn hload (hasA_ok hr)).trans ?_)
    simp only [hr]
  · rintro r rfl hr hp
    refine (exec_ldx ..).trans ((issueLoad_ok h ha hn hload (hasX_ok hr hp)).trans ?_)
    simp only [hr]

/-! Masked field moves. -/

section
variable {p : ProcId} {f : MFFmt} {q : Proc} {a n : Nat}

/-- The span of a field that lies in one memory and is no longer than an accumulator. -/
theorem fieldSpan_ok (he : f.e = false) (hn : n = f.max1.toNat + 1) (h32 : n ≤ 32)
    (ha : a = (q.a[abReg f.ab] + f.off.zeroExtend 32).toNat)
    (hspan : if p.val < 512 then a + n ≤ 0x8000 ∨ (0x100000 ≤ a ∧ a + n ≤ 0x200000) else a + n ≤ 0x400000) :
    fieldSpan p.val f q = .ok (a, n) := by
  have hok : (if 512 ≤ p.val then decide (a + n - 1 < 0x400000)
      else decide (a + n - 1 ≤ 0x7FFF) || decide (0x100000 ≤ a ∧ a + n - 1 ≤ 0x1FFFFF)) = true := by
    split at hspan
    · rw [if_neg (by omega), Bool.or_eq_true, decide_eq_true_eq, decide_eq_true_eq]
      omega
    · rw [if_pos (by omega), decide_eq_true_eq]
      omega
  simp only [fieldSpan, ← ha, ← hn, he, hok, decide_eq_false (show ¬ 32 < n by omega)]
  rfl

omit n in
/-- A field never lies where a repeat may not reach. -/
theorem repuSlow_field {n : Nat} (hn : 0 < n)
    (hspan : if p.val < 512 then a + n ≤ 0x8000 ∨ (0x100000 ≤ a ∧ a + n ≤ 0x200000) else a + n ≤ 0x400000) :
    repuSlow p.val a q = false := by
  have hreach : (if p.val < 512 then decide (a ≤ 0x7FFF ∨ (0x100000 ≤ a ∧ a ≤ 0x1FFFFF)) else decide (a < 0x400000)) = true := by
    split at hspan
    · rw [if_pos ‹_›, decide_eq_true_eq]
      omega
    · rw [if_neg ‹_›, decide_eq_true_eq]
      omega
  rw [repuSlow, hreach, Bool.not_true, Bool.and_false]

end

/-- The accumulator filled from the first bytes of a span, zero beyond them. -/
theorem byteAt_xOfBytes_take (m : FMap Byte) (phys : Nat) {n kept i : Nat} (hk : kept ≤ n) (hi : i < 32) :
    byteAt (xOfBytes ((readBytes m phys n).take kept)) i = if i < kept then readByte m (phys + i) else 0#8 := by
  rw [xOfBytes, byteAt_ofBytes32 _ i hi, nth, List.getElem?_take]
  split
  · rw [getElem?_readBytes _ _ (by omega)]
    rfl
  · rfl

/-- The first bytes of an accumulator written over a span, the others as they were. -/
theorem readByte_writeField {m : FMap Byte} (hm : memWf m = true) (x : BitVec 256) (phys y : Nat) {n kept : Nat} (hk : kept ≤ n)
    (h32 : n ≤ 32) : readByte (writeBytes m phys ((bytesOfX x).take kept ++ (readBytes m phys n).drop kept)) y =
      if phys ≤ y ∧ y < phys + kept then byteAt x (y - phys) else readByte m y := by
  have htake : ((bytesOfX x).take kept).length = kept := by simp [bytesOfX]; omega
  have hlen : ((bytesOfX x).take kept ++ (readBytes m phys n).drop kept).length = n := by
    rw [List.length_append, htake, List.length_drop, length_readBytes]
    omega
  rw [readByte_writeBytes hm, hlen]
  by_cases hin : phys ≤ y ∧ y < phys + n
  · rw [if_pos hin, List.getD_eq_getElem?_getD, List.getElem?_append, htake]
    by_cases hkept : y < phys + kept
    · rw [if_pos (by omega), if_pos ⟨hin.1, hkept⟩, List.getElem?_take, if_pos (by omega), bytesOfX, List.getElem?_map,
        List.getElem?_range (by omega)]
      rfl
    · rw [if_neg (by omega), if_neg (by omega), List.getElem?_drop, getElem?_readBytes _ _ (by omega),
        show phys + (kept + (y - phys - kept)) = y by omega]
      rfl
  · rw [if_neg hin, if_neg (by omega)]

/-- MFST of a field whose span is granted: the kept bytes come from the accumulator, the others are written back. -/
theorem execMfst_ok {s : State} {p : ProcId} {f : MFFmt} {a n phys : Nat} {hbm secret : Bool} (h : Issues s p) (hs : f.s = false)
    (hspan : fieldSpan p.val f (procOf s.dev p.val) = .ok (a, n)) (hx : (procOf s.dev p.val).xPend[xReg2 f.xd] = false)
    (hacc : checkAccess s.dev p.val (procOf s.dev p.val) a n true true = .granted phys hbm secret)
    (hpoison : poisonedAt phys n s.dev = false) (hbad : memBad s.dev phys n = false) :
    exec (.mfst p f) s = .next (retired p 4 (fieldCycles p.val f true true s) (procOf s.dev p.val)
      { s with
        mem := writeBytes s.mem phys ((bytesOfX (procOf s.dev p.val).x[xReg2 f.xd]).take (fieldKept f n (procOf s.dev p.val)) ++
          (readBytes s.mem phys n).drop (fieldKept f n (procOf s.dev p.val))),
        memTags := execMfst.mfstTags s.memTags phys n
          ((procOf s.dev p.val).xTag[xReg2 f.xd] || (procOf s.dev p.val).dTag[dReg f.dl]) }) := by
  refine (exec_mfst ..).trans (issueRead_ok h ?_)
  simp only [hs, hspan, readyX_idle hx, hacc, hpoison, hbad, Bool.false_eq_true, if_false]

/-- Settles O8: `issueStore_ok` for each width, what an access stores, and the two field moves. -/
theorem storesAndMaskedFields : Obligations.StoresAndMaskedFields := by
  refine ⟨⟨fun s s' p f a base h => ?width, fun s p q a phys b t hbm secret hspace hrepu hacc htag hbad =>
    storeBytes_granted hspace hrepu hacc htag hbad, fun s p q a kind region b t hp hrepu hacc =>
    storeBytes_denied (.inr hp) hrepu hacc⟩, fun s p f n phys hbm secret h hm => ?fields⟩
  case width =>
    dsimp only
    intro ha
    refine ⟨fun hn hs => (exec_stB ..).trans (storeD_ok h ha hn hs), fun hn hs => (exec_stH ..).trans (storeD_ok h ha hn hs),
      fun hn hs => (exec_stW ..).trans (storeD_ok h ha hn hs), fun hn hs => (exec_stD ..).trans (storeD_ok h ha hn hs),
      fun r hr hn hs => (exec_sta ..).trans (issueStore_ok h ha hn hs (by simp only [hr])),
      fun r hr hp hn hs => (exec_stx ..).trans (issueStore_ok h ha hn hs (by simp only [hr, hp]; rfl))⟩
  case fields =>
    dsimp only
    intro he hn h32 hp hpoison hbad hspan
    have hspanOk := fieldSpan_ok he hn h32 rfl hspan
    have hkept : min (procOf s.dev p.val).d[dReg f.dl].toNat n ≤ n := Nat.min_le_right _ _
    refine ⟨fun hacc hhbm => ?mfld, fun hacc hs => ?mfst⟩
    case mfld =>
      subst hhbm
      have hload := loadBytes_granted (by split at hspan <;> omega) (repuSlow_field (by omega) hspan) hacc hpoison hbad
      refine ⟨_, xOfBytes ((readBytes s.mem phys n).take (fieldKept f n (procOf s.dev p.val))),
        (exec_mfld ..).trans (issueRead_ok h ?_), fun i hi => byteAt_xOfBytes_take _ _ hkept hi⟩
      simp only [hspanOk, readyX_idle hp, hload, Bool.false_eq_true, if_false]
    case mfst =>
      exact ⟨_, _, execMfst_ok h hs hspanOk hp hacc hpoison hbad, rfl, rfl, fun y => readByte_writeField hm _ _ y hkept h32⟩

/-! Memory after a granted access. -/

/-- The check of an access looks at the protection units only. -/
theorem checkAccess_of_prot {d e : Dev} (h : d.prot = e.prot) (p : Nat) (q : Proc) (a n : Nat) (rd wr : Bool) :
    checkAccess d p q a n rd wr = checkAccess e p q a n rd wr := by
  simp only [checkAccess, protOf, h]

@[simp] theorem reportPoison_prot (src phys n : Nat) (d : Dev) : (reportPoison src phys n d).prot = d.prot := by
  unfold reportPoison
  split <;> rfl

@[simp] theorem reportPoison_procs (src phys n : Nat) (d : Dev) : (reportPoison src phys n d).procs = d.procs := by
  unfold reportPoison
  split <;> rfl

/-- Noting poison leaves memory, the processors and their protection units. -/
theorem notePoison_leaves (p : ProcId) (len : Nat) (body : State → Proc → LRes (State × Proc)) (s : State) :
    (notePoison p len body s).mem = s.mem ∧ (notePoison p len body s).dev.procs = s.dev.procs ∧
      (notePoison p len body s).dev.prot = s.dev.prot := by
  unfold notePoison
  extract_lets
  repeat' split
  all_goals simp

section
variable {s t : State} {p : ProcId} {f : MFmt} {a : BitVec 32} {base : Option (Fin 8 × BitVec 32)} {n phys : Nat}
  {hbm secret : Bool}

/-- A load that is granted leaves memory, whether it loads, faults or does not issue. -/
theorem issueLoad_mem {ready : Proc → LRes Unit} {put_ : Proc → Bytes → Bool → Proc}
    (ha : effAddr (procOf s.dev p.val) f = .ok (a, base)) (hspace : p.val < 512 ∨ a.toNat < 0x400000)
    (hrepu : repuSlow p.val a.toNat (procOf s.dev p.val) = false)
    (hacc : checkAccess s.dev p.val (procOf s.dev p.val) a.toNat n true false = .granted phys hbm secret)
    (ht : issueLoad p f n ready put_ s = .next t) : t.mem = s.mem := by
  unfold issueLoad issueRead at ht
  extract_lets q0 cycles at ht
  generalize hbody : (fun (s : State) (q : Proc) => _ : State → Proc → LRes (State × Proc)) = body at ht
  obtain ⟨hmem, hprocs, hprot⟩ := notePoison_leaves p (if f.e then 8 else 4) body s
  generalize notePoison p (if f.e then 8 else 4) body s = noted at ht hmem hprocs hprot
  have hq : procOf noted.dev p.val = procOf s.dev p.val := by simp only [procOf, hprocs]
  rw [← hq] at ha hrepu hacc
  rw [← checkAccess_of_prot hprot] at hacc
  rcases issue_cases p (if f.e then 8 else 4) cycles body noted with hrun | ⟨c, x, hrun⟩ | ⟨u, q, hu, hrun⟩
  · obtain rfl := Host.Outcome.next.inj (hrun.symm.trans ht)
    exact hmem
  · obtain rfl := Host.Outcome.next.inj (hrun.symm.trans ht)
    exact hmem
  · obtain rfl := Host.Outcome.next.inj (hrun.symm.trans ht)
    subst hbody
    have hstate : u = noted := by
      simp only [ha] at hu
      split at hu
      · cases hu
      · cases hu
      split at hu
      · cases hu
      split at hu
      · cases hu
      · cases hu
      · next hload =>
        obtain ⟨rfl, rfl⟩ := Prod.mk.inj (LRes.ok.inj hu)
        exact loadBytes_granted_state hspace.symm hrepu hacc hload
    exact (congrArg State.mem hstate).trans hmem

/-- A granted store's bytes stand in memory, and no other byte changes. -/
theorem issueStore_mem {b : Bytes} {tag : Bool} {data : Proc → LRes (Bytes × Bool)} (h : Issues s p (if f.e then 8 else 4))
    (hm : memWf s.mem = true) (ha : effAddr (procOf s.dev p.val) f = .ok (a, base)) (hspace : p.val < 512 ∨ a.toNat < 0x400000)
    (hrepu : repuSlow p.val a.toNat (procOf s.dev p.val) = false) (hdata : data (procOf s.dev p.val) = .ok (b, tag))
    (hb : b.length = n) (hn : a.toNat % n = 0)
    (hacc : checkAccess s.dev p.val (procOf s.dev p.val) a.toNat n false true = .granted phys hbm secret)
    (htag : (hbm && tag && !secret) = false) (hbad : memBad s.dev phys n = false)
    (ht : issueStore p f n data s = .next t) :
    readBytes t.mem phys n = b ∧ ∀ x, (x < phys ∨ phys + n ≤ x) → readByte t.mem x = readByte s.mem x := by
  subst hb
  have hrun := issueStore_ok h ha hn (storeBytes_granted hspace.symm hrepu hacc htag hbad) hdata
  obtain rfl := Host.Outcome.next.inj (hrun.symm.trans ht)
  exact ⟨readBytes_writeBytes_self hm _ _, fun x hx => readByte_writeBytes_outside _ _ hx⟩

/-- The same for a D register's low bytes. -/
theorem storeD_mem (h : Issues s p (if f.e then 8 else 4)) (hm : memWf s.mem = true)
    (ha : effAddr (procOf s.dev p.val) f = .ok (a, base)) (hspace : p.val < 512 ∨ a.toNat < 0x400000)
    (hrepu : repuSlow p.val a.toNat (procOf s.dev p.val) = false) (hn : a.toNat % n = 0)
    (hacc : checkAccess s.dev p.val (procOf s.dev p.val) a.toNat n false true = .granted phys hbm secret)
    (htag : (hbm && (procOf s.dev p.val).dTag[dReg f.rd] && !secret) = false) (hbad : memBad s.dev phys n = false)
    (ht : storeD p f n s = .next t) :
    readBytes t.mem phys n = le n (procOf s.dev p.val).d[dReg f.rd].toNat ∧
      ∀ x, (x < phys ∨ phys + n ≤ x) → readByte t.mem x = readByte s.mem x :=
  issueStore_mem h hm ha hspace hrepu rfl (Laws.length_le ..) hn hacc htag hbad ht

theorem loadD_mem (ha : effAddr (procOf s.dev p.val) f = .ok (a, base)) (hspace : p.val < 512 ∨ a.toNat < 0x400000)
    (hrepu : repuSlow p.val a.toNat (procOf s.dev p.val) = false)
    (hacc : checkAccess s.dev p.val (procOf s.dev p.val) a.toNat n true false = .granted phys hbm secret)
    (ht : loadD p f n s = .next t) : t.mem = s.mem :=
  issueLoad_mem ha hspace hrepu hacc ht

end

/-- Settles O9: `issueStore_mem` for each store, `issueLoad_mem` for each load. -/
theorem storeMemoryFrame : Obligations.StoreMemoryFrame := by
  intro s t p f a base phys hbm secret h hm
  dsimp only
  intro ha hspace hrepu
  refine ⟨fun hn hacc htag hbad ht => storeD_mem h hm ha hspace hrepu hn hacc htag hbad ((exec_stB ..).symm.trans ht),
    fun hn hacc htag hbad ht => storeD_mem h hm ha hspace hrepu hn hacc htag hbad ((exec_stH ..).symm.trans ht),
    fun hn hacc htag hbad ht => storeD_mem h hm ha hspace hrepu hn hacc htag hbad ((exec_stW ..).symm.trans ht),
    fun hn hacc htag hbad ht => storeD_mem h hm ha hspace hrepu hn hacc htag hbad ((exec_stD ..).symm.trans ht),
    fun r hr hn hacc htag hbad ht => ?sta, fun r hr hp hn hacc htag hbad ht => ?stx, fun n hn hacc ht => ?loads⟩
  case sta =>
    rw [exec_sta, execSta] at ht
    exact issueStore_mem h hm ha hspace hrepu (by simp only [hr]) (Laws.length_le ..) hn hacc htag hbad ht
  case stx =>
    rw [exec_stx, execStx] at ht
    exact issueStore_mem h hm ha hspace hrepu (by simp only [hr, hp]; rfl) (by simp [bytesOfX]) hn hacc htag hbad ht
  case loads =>
    rcases ht with ⟨rfl, ht⟩ | ⟨rfl, ht⟩ | ⟨rfl, ht | ht⟩ | ⟨rfl, ht⟩ | ⟨rfl, ht⟩
    · exact loadD_mem ha hspace hrepu hacc ((exec_ldB ..).symm.trans ht)
    · exact loadD_mem ha hspace hrepu hacc ((exec_ldH ..).symm.trans ht)
    · exact loadD_mem ha hspace hrepu hacc ((exec_ldW ..).symm.trans ht)
    · exact issueLoad_mem ha hspace hrepu hacc ((exec_lda ..).symm.trans ht)
    · exact loadD_mem ha hspace hrepu hacc ((exec_ldD ..).symm.trans ht)
    · exact issueLoad_mem ha hspace hrepu hacc ((exec_ldx ..).symm.trans ht)

end Sys2Proof.Machine
end

section
/-! PROOF. Events and waits of the Lope processors, and what ends a wait (R212-R216, R223). -/

namespace Sys2Proof.Machine

open Sys2Proof

/-! Issuing an instruction that completes at once or waits. -/

theorem boundaryFault_eq_none_iff {d : Dev} {p : Nat} {q : Proc} {len : Nat} : boundaryFault d p q len = none ↔
    overBudget p q = false ∧ fetchOk d p q len = true ∧ memBad d (codePhys p q.pc.toNat) len = false := by
  unfold boundaryFault
  cases overBudget p q <;> cases fetchOk d p q len <;> cases memBad d (codePhys p q.pc.toNat) len <;> simp

/-- What lets an instruction of 8 bytes through lets one of 4 bytes through. -/
theorem issues_four {s : State} {p : ProcId} {e : Bool} (h : Issues s p (if e then 8 else 4)) : Issues s p := by
  cases e with
  | false => exact h
  | true =>
    obtain ⟨hcan, hb⟩ := h
    obtain ⟨hbudget, hfetch, hmem⟩ := boundaryFault_eq_none_iff.mp hb
    refine ⟨hcan, boundaryFault_eq_none_iff.mpr ⟨hbudget, ?_, ?_⟩⟩
    · simp only [fetchOk, Bool.and_eq_true] at hfetch ⊢
      exact ⟨hfetch.1, rfl⟩
    · simp only [memBad, List.any_eq_false, decide_eq_true_eq] at hmem ⊢
      exact fun w hw hin => hmem w hw ⟨by simp; omega, hin.2⟩

section
variable {s : State} {p : ProcId} {len : Nat} {body : Proc → LRes (LopeWait ⊕ (Proc → Proc))} (h : Issues s p len)
include h

theorem issueWait_ends {f : Proc → Proc} (hb : body (procOf s.dev p.val) = .ok (.inr f)) :
    issueWait p len body s = becomes s (endWait p.val len f s.dev) := by
  rw [issueWait, atBoundary_run h]
  simp only [hb]

theorem issueWait_waits {w : LopeWait} (hb : body (procOf s.dev p.val) = .ok (.inl w)) :
    issueWait p len body s = becomes s (onProc p.val (fun r => { r with wait := some w }) s.dev) := by
  rw [issueWait, atBoundary_run h]
  simp only [hb]
  rfl

theorem issueWait_flt {c a : Nat} (hb : body (procOf s.dev p.val) = .flt c a) :
    issueWait p len body s = becomes s (takeFault p.val c a s.dev) := by
  rw [issueWait, atBoundary_run h]
  simp only [hb]

end

/-- The limit of a wait that starts now (R215). -/
theorem waitLimit_eq (q : Proc) (own : Nat) :
    waitLimit q own = if q.sr.getLsbD srLra = true ∧ q.pc = q.waitAt then q.lrem.toNat else own := by
  simp [waitLimit, lraOn, bitAt]

/-- Settles O10: each instruction's own test, then `issueWait_ends` or `issueWait_waits`; each end of a wait by the wait it finds. -/
theorem eventsAndWaits : Obligations.EventsAndWaits := by
  refine ⟨fun s p rd ra ext e h => ?instructions, fun s p => ?ends⟩
  case instructions =>
    have h4 := issues_four h
    dsimp only
    simp only [← waitLimit_eq]
    refine ⟨fun hm => ⟨fun hev => ?wfeNow, fun hev => ?wfeWaits⟩, fun he ht hl => ⟨fun hnow => ?passed, fun hlater hzero => ?noLimit,
      fun hlater hlimit => ?wtuWaits⟩, fun k hk => ⟨fun hbusy => ?freed, fun hbusy => ?jwaitWaits⟩, fun slot hp => ⟨fun hne => ?other,
      fun heq => ?own, ?all⟩⟩
    case wfeNow => exact (exec_wfe ..).trans (issueWait_ends h (by simp only [hm, beq_eq_false_iff_ne.mpr hev]; rfl))
    case wfeWaits => exact (exec_wfe ..).trans (issueWait_waits h (by simp only [hm, hev]; rfl))
    case passed =>
      subst he
      exact (exec_wtu ..).trans (issueWait_ends h (by simp only [ht, hl, if_pos hnow]; rfl))
    case noLimit =>
      subst he
      refine (exec_wtu ..).trans (issueWait_ends h ?_)
      simp only [ht, hl, if_neg (Nat.not_le.mpr hlater), BitVec.truncate_eq_setWidth, BitVec.toNat_setWidth, hzero]
      rfl
    case wtuWaits =>
      subst he
      refine (exec_wtu ..).trans (issueWait_waits h ?_)
      simp only [ht, hl, if_neg (Nat.not_le.mpr hlater), BitVec.truncate_eq_setWidth, BitVec.toNat_setWidth, if_neg hlimit]
      rfl
    case freed => exact (exec_jwait ..).trans (issueWait_ends h4 (by simp only [hk, hbusy]; rfl))
    case jwaitWaits => exact (exec_jwait ..).trans (issueWait_waits h4 (by simp only [hk, hbusy]; rfl))
    case other =>
      refine (exec_sev ..).trans (issue_ok h4 ?_)
      simp only [decide_eq_false (Nat.not_le.mpr hp), if_neg hne]
      rfl
    case own =>
      refine (exec_sev ..).trans (issue_ok h4 ?_)
      simp only [decide_eq_false (Nat.not_le.mpr hp), if_pos heq]
      rfl
    case all =>
      refine (exec_sevAll ..).trans (issue_ok h4 ?_)
      simp only [decide_eq_false (Nat.not_le.mpr hp)]
      rfl
  case ends =>
    dsimp only
    refine ⟨fun rd mask till len hw hev htill => ?wake, fun rd mask till len hw hev => ?expire, fun target till hw =>
      ⟨fun hle => ?reached, fun hlt => ?limit⟩, (exec_custodianSignal ..).trans rfl⟩
    case wake =>
      have hgone : limitGone till s.dev = false := by
        cases till with
        | none => rfl
        | some t => simpa [limitGone] using htill t rfl
      simp only [exec_wfeWake, execWfeWake, onDev, hw, beq_eq_false_iff_ne.mpr hev, hgone]
      rfl
    case expire =>
      simp only [exec_wfeLimitExpire, execWfeLimitExpire, onDev, hw, hev]
      rfl
    case reached => simp only [exec_wtuTargetReached, execWtuTargetReached, onDev, hw, if_pos hle]
    case limit => simp only [exec_wtuLimitExpire, execWtuLimitExpire, onDev, hw, if_pos hlt]

end Sys2Proof.Machine
end

section
/-! PROOF. Control registers, repeats, system instructions, and what happens to a processor and its protection block from outside its
program (R197, R198, R217-R219, R228-R232, R243-R249, R252, R253, R275, R541). -/

namespace Sys2Proof.Machine

open Sys2Proof

/-! Control registers. -/

/-- A register that user mode writes is one of the first three (R197). -/
theorem has_userWrites (n : Nat) : has [0x000, 0x001, 0x002] n = decide (n ≤ 2) := by
  rw [Bool.eq_iff_iff]
  simp [has]
  omega

/-- RFE takes WORLD and DOMAIN from the present SR, the other fields from ESR, and leaves the reserved bits zero (R198, R228). -/
theorem getLsbD_restoredSr (esr sr : BitVec 32) (i : Nat) (hi : i < 32) :
    ((esr &&& 0xBE00000F#32) ||| (sr &&& 0x40FFF000#32)).getLsbD i =
      if i = srWorld ∨ (12 ≤ i ∧ i < 24) then sr.getLsbD i
      else if i = 24 ∨ (4 ≤ i ∧ i < 12) then false else esr.getLsbD i := by
  have hkept : ∀ i < 32, (0x40FFF000#32).getLsbD i = decide (i = srWorld ∨ (12 ≤ i ∧ i < 24)) := by decide
  have hback : ∀ i < 32, (0xBE00000F#32).getLsbD i =
      decide (¬(i = srWorld ∨ (12 ≤ i ∧ i < 24)) ∧ ¬(i = 24 ∨ (4 ≤ i ∧ i < 12))) := by decide
  rw [BitVec.getLsbD_or, BitVec.getLsbD_and, BitVec.getLsbD_and, hkept i hi, hback i hi]
  by_cases hk : i = srWorld ∨ (12 ≤ i ∧ i < 24)
  · simp [hk]
  · by_cases hz : i = 24 ∨ (4 ≤ i ∧ i < 12) <;> simp [hk, hz]

/-- CALL enters the exception at VBR + 0xC0 with the address behind it saved (R228). -/
theorem enterException_call (aux : BitVec 8) (q : Proc) :
    enterException 0xC0 aux.toNat 0 (q.pc + 4#32) (countInstr 4 q) =
      { countInstr 4 q with
        epc := q.pc + 4#32, esr := q.sr, ecause := aux, eaddr := 0#32, wait := none, pc := q.vbr + 0xC0#32,
        sr := withBit (withBit q.sr srPriv true) srIe false } := by
  have hvbr : (countInstr 4 q).vbr = q.vbr := by
    unfold countInstr
    split <;> rfl
  unfold enterException
  simp [hvbr]

/-- Settles O11: each instruction's own body, then what `issue` or a wait makes of it. -/
theorem controlAndSystemInstructions : Obligations.ControlAndSystemInstructions := by
  refine ⟨fun s p r h => ?control, fun s p rd ra rb aux h => ?system⟩
  case control =>
    dsimp only
    refine ⟨fun reg n op nextE hforbid htag => ?rep, fun n1 op hallow => ?repu, fun num => ⟨(exec_time ..).trans (issueReg_ok h rfl),
      fun v hv hmode => ?mfc, fun hv hmode htag => ?mtc⟩, fun rd ra rb aux => (exec_nop ..).trans (issueReg_ok h rfl)⟩
    case rep =>
      refine (exec_rep ..).trans (issueReg_ok h ?_)
      have huntagged : (reg && (procOf s.dev p.val).dTag[dReg r]) = false := by
        cases reg with
        | false => rfl
        | true => exact htag rfl
      by_cases hcount : (if reg then (procOf s.dev p.val).d[dReg r].truncate 32 else n.zeroExtend 32) = 0#32
      · rw [if_pos hcount]
        simp only [huntagged, hforbid, hcount]
        rfl
      · rw [if_neg hcount]
        simp only [huntagged, hforbid, beq_iff_eq, if_neg hcount]
        rfl
    case repu =>
      refine (exec_repu ..).trans (issueReg_ok h ?_)
      simp only [hallow]
      rfl
    case mfc =>
      refine (exec_mfc ..).trans (issueReg_ok h ?_)
      simp only [hv, (Bool.or_eq_true _ _).mpr hmode]
      rfl
    case mtc =>
      refine (exec_mtc ..).trans (issueReg_ok h ?_)
      have hnone : (crRead p.val (procOf s.dev p.val) num.toNat).isNone = false := by simpa using hv
      have hpriv : (!isPriv (procOf s.dev p.val) && !decide (num.toNat ≤ 2)) = false := by
        rcases hmode with hm | hm <;> simp [hm]
      have huntagged : (decide (num.toNat ≤ 2) && (procOf s.dev p.val).dTag[dReg r]) = false := by
        by_cases hle : num.toNat ≤ 2
        · simp only [htag hle, Bool.and_false]
        · simp [hle]
      simp only [has_userWrites, hnone, hpriv, huntagged]
      rfl
  case system =>
    dsimp only
    refine ⟨fun hpriv => ⟨⟨(leaveException (procOf s.dev p.val)).sr, (exec_rfe ..).trans (issueJump_taken h ?rfe),
      fun i hi => getLsbD_restoredSr _ _ i hi⟩, ?halt, fun hbusy hlock hload => ?pswap,
      fun hold => ?gfence⟩, (exec_fence ..).trans (issueWait_ends h rfl), ?call⟩
    case rfe => simp only [noExt, needPriv, hpriv]; rfl
    case halt => exact (exec_halt ..).trans (issueWait_ends h (by simp only [noExt, needPriv, hpriv]; rfl))
    case pswap =>
      rw [exec_pswap, execPswap]
      refine (atBoundary_run h).trans ?_
      simp only [hpriv, hbusy, hlock, hload]
      rfl
    case gfence =>
      rw [exec_gfence, execGfence]
      refine issue_ok (q := procOf s.dev p.val) h ?_
      simp only [noExt, needPriv, hpriv, hold]
      rfl
    case call =>
      rw [exec_call, execCall]
      refine (atBoundary_run h).trans ?_
      simp only [enterException_call, beq_iff_eq]
      by_cases haux : aux = 1#8
      · by_cases hwork : (procOf s.dev p.val).custodianWork = true
        · simp [haux, hwork]
        · cases isPriv (procOf s.dev p.val) <;> simp [haux, hwork]
      · simp [haux]

end Sys2Proof.Machine
end

section
/-! PROOF. What happens to a processor and its protection block from outside its program (R228-R232, R246-R249, R252, R253, R541). -/

namespace Sys2Proof.Machine

open Sys2Proof

/-- A processor with an event that its mask lets through is not one at reset (R212). -/
theorem ne_procReset_of_event {q : Proc} (p : Nat) (h : q.ev &&& q.evm ≠ 0#32) : q ≠ procReset p := by
  rintro rfl
  refine h ?_
  unfold procReset
  split <;> rfl

/-- An event interrupts at a boundary where nothing else is pending (R228, R229). -/
theorem pendingInterrupt_event {q : Proc} (hdead : q.dead = false) (hhalted : q.halted = false) (hoff : q.off = false)
    (hrepu : repuOn q = false) (hreq : q.haltReq = false) (hint : intOn q = true) (hpre : q.preempt = false)
    (hev : q.ev &&& q.evm ≠ 0#32) : pendingInterrupt q = some 0x80 := by
  unfold pendingInterrupt
  simp [hdead, hhalted, hoff, hrepu, hreq, hint, hpre, hev]

/-- An exception enters privileged mode with interrupts off (R228). -/
theorem enterException_mode (vector cause addr : Nat) (epc : BitVec 32) (q : Proc) :
    isPriv (enterException vector cause addr epc q) = true ∧ intOn (enterException vector cause addr epc q) = false := by
  have hbit (i : Nat) : (withBit (withBit q.sr srPriv true) srIe false).getLsbD i =
      if i = srIe then false else if i = srPriv then true else q.sr.getLsbD i := by
    rw [getLsbD_withBit _ (by decide), getLsbD_withBit _ (by decide)]
  exact ⟨hbit srPriv, hbit srIe⟩

/-- An interrupt outside a wait enters at VBR + 0x80 and changes nothing else of the device (R228). -/
theorem takeInterrupt_running {p : Nat} {cause : Nat} {d : Dev} (h : (procOf d p).wait = none) :
    takeInterrupt p cause d = onProc p (fun q => enterException 0x80 cause 0 q.pc q) d := by
  simp only [takeInterrupt, onProc, h]

/-- Settles O12: each command is its own condition's branch. -/
theorem processorAndProtectionEvents : Obligations.ProcessorAndProtectionEvents := by
  refine ⟨fun s p => ⟨?interrupt, ?budget, ?halt, ?restart⟩,
    fun s p k v word full => ⟨?revoke, ?fenced, ?load, ?loaded, rfl, rfl, rfl, rfl, rfl⟩⟩
  case interrupt =>
    intro hdead hhalted hoff hrepu hreq hint hpre hev hwait
    have hback : procOf (onProc p.val (fun q => q) s.dev) p.val = procOf s.dev p.val :=
      lookD_put_self_of_ne _ _ _ _ (ne_procReset_of_event p.val hev)
    refine ⟨enterException 0x80 0x80 0 (procOf s.dev p.val).pc (procOf s.dev p.val), ?_, rfl, rfl, rfl, rfl,
      enterException_mode ..⟩
    rw [exec_interruptEntry, execInterruptEntry, onDev, pendingInterrupt_event hdead hhalted hoff hrepu hreq hint hpre hev]
    have henter := takeInterrupt_running (cause := 0x80) (hback ▸ hwait : (procOf (onProc p.val (fun q => q) s.dev) p.val).wait = none)
    refine (congrArg (becomes s) henter).trans ?_
    simp only [onProc] at hback ⊢
    rw [hback]
  case budget =>
    intro hp hdead hpriv hbudget hcycle
    rw [exec_budgetExpire, execBudgetExpire, onDev]
    simp [hp, hdead, hpriv, hbudget, hcycle]
    rfl
  case halt =>
    intro hdead hhalted hoff
    rw [exec_haltReq, execHaltReq, onDev, haltReq]
    simp [hdead, hhalted, hoff]
  case restart =>
    intro n hdead
    rw [exec_engineRestart, execEngineRestart, if_pos hdead]
    refine ⟨_, rfl, ?_, rfl, fun _ a => readByte_zeroRange _ _ _ a⟩
    simp only [procReset, if_pos n.isLt]
    rfl
  case revoke =>
    intro hv hbusy hpend hvalid hdom
    refine ⟨fun hidle => ?_, fun hrepu hdead hhalted => ?_⟩
    · have hnow : (repuOn (procOf s.dev p.val) && !(procOf s.dev p.val).dead && !(procOf s.dev p.val).halted) = false := by
        rcases hidle with h | h | h <;> simp [h]
      rw [exec_revoke, execRevoke, onDev]
      simp only [hv, hbusy, hpend, hvalid, hdom, hnow, beq_self_eq_true]
      rfl
    · rw [exec_revoke, execRevoke, onDev]
      simp only [hv, hbusy, hpend, hvalid, hdom, hrepu, hdead, hhalted, beq_self_eq_true]
      rfl
  case fenced =>
    intro hbusy hold
    rw [exec_revokeFenceDone, execRevokeFenceDone, onDev]
    simp only [hbusy, hold]
    rfl
  case load =>
    intro hidle
    rw [exec_load, execLoad, onDev]
    simp only [hidle]
    rfl
  case loaded =>
    intro hbusy
    rw [exec_loadDone, execLoadDone]
    simp only [hbusy]
    rfl

end Sys2Proof.Machine
end

section
/-! PROOF. When instructions fault, and what taking a fault does (R204, R206, R219, R227-R229, R231, R238). -/

namespace Sys2Proof.Machine

open Sys2Proof

section
variable {s : State} {p : ProcId} {len cycles c a : Nat}

/-- A register instruction whose own effect faults takes the fault. -/
theorem issueReg_flt {body : Proc → LRes Proc} (h : Issues s p len) (hb : body (procOf s.dev p.val) = .flt c a) :
    issueReg p len cycles body s = becomes s (takeFault p.val c a s.dev) :=
  issue_flt h (by simp only [hb])

/-- A branch whose condition faults takes the fault. -/
theorem issueJump_flt {body : Proc → LRes (Proc × Nat × Option (BitVec 32))} (h : Issues s p)
    (hb : body (procOf s.dev p.val) = .flt c a) : issueJump p body s = becomes s (takeFault p.val c a s.dev) := by
  rw [issueJump, atBoundary_run h]
  simp only [hb]

end

/-! Accesses that stop. -/

section
variable {s : State} {p : ProcId} {f : MFmt} {a : BitVec 32} {base : Option (Fin 8 × BitVec 32)} {n c : Nat}
  (h : Issues s p (if f.e then 8 else 4)) (ha : effAddr (procOf s.dev p.val) f = .ok (a, base))
include h ha

theorem loadD_misaligned (hn : a.toNat % n ≠ 0) : loadD p f n s = becomes s (takeFault p.val fAlign a.toNat s.dev) := by
  rw [loadD, issueLoad]
  exact issueRead_flt h (by decide) (by simp only [ha, if_pos hn])

theorem storeD_misaligned (hn : a.toNat % n ≠ 0) : storeD p f n s = becomes s (takeFault p.val fAlign a.toNat s.dev) := by
  rw [storeD, issueStore]
  exact issue_flt h (by simp only [ha, if_pos hn])

/-- An aligned load whose access faults takes the access's fault. -/
theorem loadD_flt (hc : c ≠ fPoison) (hn : a.toNat % n = 0)
    (hload : loadBytes p.val (procOf s.dev p.val) a.toNat n s = .flt c a.toNat) :
    loadD p f n s = becomes s (takeFault p.val c a.toNat s.dev) := by
  rw [loadD, issueLoad]
  exact issueRead_flt h hc (by simp only [ha, hn, ne_eq, not_true_eq_false, if_false, hload])

/-- An aligned store whose access faults takes the access's fault. -/
theorem storeD_flt (hn : a.toNat % n = 0)
    (hstore : ∀ b t, storeBytes p.val (procOf s.dev p.val) a.toNat b t s = .flt c a.toNat) :
    storeD p f n s = becomes s (takeFault p.val c a.toNat s.dev) := by
  rw [storeD, issueStore]
  exact issue_flt h (by simp only [ha, hn, ne_eq, not_true_eq_false, if_false, hstore])

/-- Where every access at the address faults alike, so do all loads and stores of D registers. -/
theorem accesses_flt (hc : c ≠ fPoison) (h8 : a.toNat % 8 = 0)
    (hload : ∀ n, loadBytes p.val (procOf s.dev p.val) a.toNat n s = .flt c a.toNat)
    (hstore : ∀ b t, storeBytes p.val (procOf s.dev p.val) a.toNat b t s = .flt c a.toNat) :
    let faults := fun (i : Instr) => exec i s = becomes s (takeFault p.val c a.toNat s.dev)
    faults (.ldB p f) ∧ faults (.ldH p f) ∧ faults (.ldW p f) ∧ faults (.ldD p f) ∧
      faults (.stB p f) ∧ faults (.stH p f) ∧ faults (.stW p f) ∧ faults (.stD p f) :=
  ⟨loadD_flt h ha hc (by omega) (hload 1), loadD_flt h ha hc (by omega) (hload 2),
    loadD_flt h ha hc (by omega) (hload 4), loadD_flt h ha hc h8 (hload 8),
    storeD_flt h ha (by omega) hstore, storeD_flt h ha (by omega) hstore,
    storeD_flt h ha (by omega) hstore, storeD_flt h ha h8 hstore⟩

end

section
variable {s : State} {p : Nat} {q : Proc} {a : Nat}

/-- Under REPU the HBM window is out of reach (R219). -/
theorem repuSlow_hbm (hrepu : repuOn q = true) (hp : p < 512) (hsp : spaceOf a = .hbm) : repuSlow p a q = true := by
  have ha : 0x40000000 ≤ a := by
    unfold spaceOf at hsp
    split_ifs at hsp
    omega
  simp [repuSlow, hrepu, hp]
  omega

theorem repuSlow_idle (hrepu : repuOn q = false) : repuSlow p a q = false := by
  simp [repuSlow, hrepu]

/-- A string engine's address in no space does not exist (R238). -/
theorem checkAccess_reserved (d : Dev) (hp : p < 512) (hsp : spaceOf a = .reserved) (n : Nat) (rd wr : Bool) :
    checkAccess d p q a n rd wr = .unmapped := by
  simp [checkAccess, hsp, Nat.not_le.mpr hp]

end

/-- A condition of B that exists is 0 to 14 (R207). -/
theorem condHolds_isSome (sr : BitVec 32) {cond : BitVec 4} (h : cond ≠ 15#4) : (condHolds sr cond.toNat).isSome = true := by
  have hsome (n : Nat) (hn : n < 16) : (condHolds sr n).isSome = !(n == 15) := by
    interval_cases n <;> rfl
  have hne : cond.toNat ≠ 15 := fun hn => h (BitVec.eq_of_toNat_eq hn)
  simpa [hsome cond.toNat cond.isLt] using hne

/-- SR, BK and EV can be read on every processor (R197). -/
theorem crRead_low (p : Nat) (q : Proc) {n : Nat} (h : n ≤ 2) : (crRead p q n).isNone = false := by
  interval_cases n <;> rfl

/-- Settles O13: the instruction's own test, the access's, and the two ways of `takeFault`. -/
theorem lopeFaults : Obligations.LopeFaults := by
  refine ⟨fun s p rd ra rb cond aux e h => ?instructions, fun s p f a base h => ?accesses, fun d p cause addr => ?taken⟩
  case instructions =>
    dsimp only
    refine ⟨?extension, ?user, fun h0 h15 hft off => ?branch, fun htag => ⟨fun off => ⟨?bz, ?bnz⟩, ?movad, fun num hnum => ?mtc,
      ?divu, fun ext => ⟨fun h => ?wfe, ?wtu⟩, ?rep⟩⟩
    case extension =>
      rintro rfl
      refine ⟨(exec_add ..).trans (issueReg_flt h rfl), (exec_mov ..).trans (issueReg_flt h rfl),
        (exec_xmov ..).trans (issueReg_flt h rfl), (exec_mova ..).trans (issueReg_flt h rfl),
        (exec_nop ..).trans (issueReg_flt h rfl), (exec_fence ..).trans (issueWait_flt h rfl),
        ((exec_call ..).trans (atBoundary_run h)).trans rfl, ?_⟩
      rw [exec_pswap, execPswap]
      exact (atBoundary_run h).trans rfl
    case user =>
      rintro rfl hpriv
      refine ⟨(exec_clt ..).trans (issueReg_flt h ?_), (exec_rfe ..).trans (issueJump_flt h ?_),
        (exec_halt ..).trans (issueWait_flt h ?_), ?pswap, ?gfence⟩
      case pswap =>
        rw [exec_pswap, execPswap]
        refine (atBoundary_run h).trans ?_
        simp only [hpriv]
        rfl
      case gfence =>
        rw [exec_gfence, execGfence]
        refine issue_flt h ?_
        simp only [noExt, needPriv, hpriv]
        rfl
      all_goals
        simp only [noExt, needPriv, hpriv]
        rfl
    case branch =>
      refine (exec_b ..).trans (issueJump_flt h ?_)
      obtain ⟨t, ht⟩ := Option.isSome_iff_exists.mp (condHolds_isSome (procOf s.dev p.val).sr h15)
      have hcond : (cond == 0#4) = false := by simpa using h0
      simp only [ht, hcond, bitAt, hft]
      rfl
    case bz => exact (exec_bz ..).trans (issueJump_flt h (by simp only [branchOn, htag]; rfl))
    case bnz => exact (exec_bnz ..).trans (issueJump_flt h (by simp only [branchOn, htag]; rfl))
    case movad =>
      rintro rfl hsome
      obtain ⟨k, hk⟩ := Option.isSome_iff_exists.mp hsome
      refine (exec_movad ..).trans (issueReg_flt h ?_)
      simp only [noExt, withA, hk, htag]
      rfl
    case mtc =>
      refine (exec_mtc ..).trans (issueReg_flt h ?_)
      have hlow : decide (num.toNat ≤ 2) = true := decide_eq_true hnum
      simp only [crRead_low _ _ hnum, has_userWrites, hlow, htag, Bool.not_true, Bool.and_false]
      rfl
    case divu =>
      rintro rfl
      refine (exec_divu ..).trans (issueReg_flt h ?_)
      simp only [htag]
      rfl
    case wfe =>
      refine (exec_wfe ..).trans (issueWait_flt h ?_)
      simp only [htag]
      rfl
    case wtu =>
      refine (exec_wtu ..).trans (issueWait_flt h ?_)
      simp only [htag, Bool.or_true]
      rfl
    case rep =>
      rintro g hreg rfl hresv he
      refine (exec_rep ..).trans (issueReg_flt h ?_)
      simp only [hreg, hresv, he, htag]
      rfl
  case accesses =>
    dsimp only
    intro ha
    refine ⟨fun hn => ⟨loadD_misaligned h ha hn, storeD_misaligned h ha hn⟩,
      fun hn => ⟨loadD_misaligned h ha hn, storeD_misaligned h ha hn⟩,
      fun hn => ⟨loadD_misaligned h ha hn, storeD_misaligned h ha hn⟩,
      fun h8 hrepu hp hsp => accesses_flt h ha (by decide) h8 (fun n => ?_) fun b t => ?_,
      fun h8 hrepu hp hsp => accesses_flt h ha (by decide) h8 (fun n => ?_) fun b t => ?_⟩
    · rw [loadBytes, if_pos (repuSlow_hbm hrepu hp hsp)]
      rfl
    · rw [storeBytes, if_pos (repuSlow_hbm hrepu hp hsp)]
      rfl
    · simp [loadBytes, repuSlow_idle hrepu, Nat.not_le.mpr hp, checkAccess_reserved _ hp hsp, fUnmapped]
    · simp [storeBytes, repuSlow_idle hrepu, Nat.not_le.mpr hp, checkAccess_reserved _ hp hsp, fUnmapped]
  case taken =>
    refine ⟨fun hpriv => ?_, fun hpriv hint => ?_, fun hpriv hint => ?_⟩
    · simp only [takeFault, hpriv]
      rfl
    · simp only [takeFault, hpriv, hint]
      rfl
    · simp only [takeFault, hpriv, hint]
      rfl

end Sys2Proof.Machine
end

section
/-! PROOF. Key-cache misses, leases, hoists, invalidations, and the count that KEY_INFO reports (R68-R71, R76-R78, R82-R86). -/

namespace Sys2Proof.Machine

open Sys2Proof

/-! Misses and leases. -/

/-- A record without extension lines goes into a set with room beside the lines that are there (R86). -/
theorem install_withRoom {tier idx : Nat} {k : KeyRec} {d : Dev} (hmat : k.material.length ≤ 48)
    (hroom : (cacheSet d.ks tier idx).length < 16) :
    install tier idx k d = (true, { d with ks := onSet tier idx (fun ls => ls ++ [{ idx := idx, key := k }]) d.ks }) := by
  simp [install, extRoom, extLines, hmat, hroom]

/-- Settles O17: each event is its own branch for a request or a pin that meets its conditions. -/
theorem missesLeasesHoists : Obligations.MissesLeasesHoists := by
  refine ⟨fun s n q rest => ⟨fun hpluck => ?waitFill, fun hpluck hasked => ?waitLease⟩,
    fun s tag second o pin r hop hpin hrec => ⟨?hoist, ?keydata⟩⟩
  case waitFill =>
    dsimp only
    refine ⟨fun h tier k hmiss hlook hdest hcomm horph hlocked htier hpoison hmat hroom => ?_, fun hstales => ?_⟩
    · have hhigh : ¬tier < 32 := Nat.not_lt.mpr htier
      rw [exec_fill, execFill, onDev]
      simp only [hpluck, hmiss, hlook, hpoison, hdest, hcomm, horph, hlocked, hhigh, decide_false, Bool.false_and, Bool.and_false,
        Bool.not_true, Bool.or_false, Bool.false_eq_true, if_false, install_withRoom, hmat, hroom, if_true]
    · have hfew : ¬8 ≤ q.stales + 1 := by omega
      rw [exec_stale, execStale, onDev]
      simp only [hpluck, hfew, if_false]
  case waitLease =>
    dsimp only
    intro h u k point idx hfind hdraw hlook hroom hvol hcoming
    refine ⟨_, _, ?_, rfl⟩
    rw [exec_lease, execLease, onDev]
    simp only [hpluck, hasked, hfind, List.mapM_cons, List.mapM_nil, Option.bind_eq_bind, Option.bind_some, Option.pure_def, hdraw,
      hcoming, hlook, hroom, hvol]
    rfl
  case hoist =>
    rw [exec_hoist, execHoist, onDev]
    simp [hop, hpin, hrec, and_assoc]
  case keydata =>
    rw [exec_keydata, execKeydata, onDev]
    simp [hop, hpin, hrec, and_assoc]

/-! Invalidations. -/

theorem mem_keep {α : Type} (f : Nat → α → Bool) (m : FMap α) (k : Nat) (x : α) :
    (k, x) ∈ keep f m ↔ (k, x) ∈ m ∧ f k x = true := List.mem_filter

/-- Noting something on an invalidation changes that one alone. -/
theorem onInval_invals (w : Inval) (f : Inval → Inval) (d : Dev) :
    (onInval w f d).ks.invals = d.ks.invals.map (fun v => if v = w then f v else v) := by
  simp [onInval]

/-- After the sweep, a line of the point that no job pins and that is marked is none the invalidation matched (R76). -/
theorem swept_unmatched {caches : FMap (List CacheLine)} {point : Nat} {hit : CacheLine → Bool} {k : Nat} {ls : List CacheLine}
    {l : CacheLine}
    (hmem : (k, ls) ∈ (mapV (fun k ls => if k / 65536 == point then ls.filter (fun l => !(hit l && l.stale && l.pins == 0)) else ls)
      caches).filter (fun e => !e.2.isEmpty))
    (hk : k / 65536 = point) (hl : l ∈ ls) (hstale : l.stale = true) (hpins : l.pins = 0) : hit l = false := by
  obtain ⟨e, -, he⟩ := List.mem_map.mp (List.mem_filter.mp hmem).1
  obtain ⟨rfl, rfl⟩ := Prod.mk.inj he
  simp only [hk, beq_self_eq_true, if_true, List.mem_filter, hstale, hpins] at hl
  simpa using hl.2

theorem onInval_keys (w : Inval) (f : Inval → Inval) (d : Dev) : (onInval w f d).ks.keys = d.ks.keys := rfl

theorem onInval_leases (w : Inval) (f : Inval → Inval) (d : Dev) : (onInval w f d).ks.leases = d.ks.leases := rfl

theorem staleLines_leases (point : Nat) (hit : CacheLine → Bool) (d : Dev) : (staleLines point hit d).ks.leases = d.ks.leases := rfl

/-- Settles O18: each event finds its invalidation; the leases given up and the lines removed are those its test names. -/
theorem invalidations : Obligations.Invalidations := by
  refine fun s holder point idx v => ⟨fun hv => ⟨fun hhigh => ?clears, fun hlow => ?marks⟩,
    fun hv => ?attr, fun hv => ?sweep, fun hv => ?ack⟩
  case clears =>
    rw [exec_lineageInval, execLineageInval, onDev]
    simp only [hv, Nat.not_le.mpr hhigh, if_false]
  case marks =>
    rw [exec_lineageInval, execLineageInval, onDev]
    simp only [hv, hlow, if_true]
    refine ⟨_, rfl, fun k x => ?_⟩
    rw [mem_keep, onInval_keys, staleLines_leases, onInval_leases]
    cases look s.dev.ks.keys (k % 2 ^ 24) <;> simp [Decidable.imp_iff_not_or]
  case attr =>
    rw [exec_inval, execInval, onDev]
    simp only [hv]
  case sweep =>
    rw [exec_cacheSweepDone, execCacheSweepDone, onDev]
    simp only [hv]
    exact ⟨_, rfl, onInval_invals .., fun k ls l hmem hk hl hstale hpins => swept_unmatched hmem hk hl hstale hpins⟩
  case ack =>
    rw [exec_ack, execAck, onDev]
    simp only [hv]

/-! KEY_INFO. -/

theorem length_lineageBytes (l : List (Nat × Nat)) : (lineageBytes l).length = 40 := Laws.length_padTo _ _

/-- The record's bytes are 80, with C in the eight from 0x10 (R56, R71). -/
theorem length_infoBytes (idx : Nat) (k : KeyRec) : (infoBytes idx k).length = 80 := by
  simp [infoBytes, Laws.length_le, length_lineageBytes]

theorem infoBytes_uses (idx : Nat) {k : KeyRec} (h : k.uses < 2 ^ 64) : leAt (infoBytes idx k) 0x10 8 = k.uses := by
  have hsplit : infoBytes idx k = (le 4 (idx + k.cls * 2 ^ 24 + k.level * 2 ^ 28 + b2n k.expired * 2 ^ 31) ++ le 4 k.gen ++
      le 8 (attrWord k)) ++ (le 8 k.uses ++ (le 8 k.ivctr ++ le 4 k.boot ++ le 2 k.material.length ++ le 2 0 ++
      lineageBytes k.lineage)) := by
    simp only [infoBytes, List.append_assoc]
  rw [leAt, hsplit, Laws.slice_at (by simp [Laws.length_le]), Laws.take_left (Laws.length_le 8 _), Laws.leVal_le 8 _ h]

/-- The right of KEY_INFO is a role of the key's domain or an auditor's (R391). -/
theorem keyInfo_role {role : Role} (h : tenantOrDm role = true ∨ role = .auditor) :
    role ≠ .nobody ∧ (tenantOrDm role || role == .auditor) = true := by
  rcases h with h | rfl
  · exact ⟨by rintro rfl; simp [tenantOrDm] at h, by simp [h]⟩
  · exact ⟨by simp, rfl⟩

/-- KEY_INFO answers the record's bytes to a role that has the right (R71, R563). -/
theorem keyInfo_served {s : State} {h : SvcHdr} {handle : BitVec 32} {d : Dev} {role : Role} {i : Nat} {k : KeyRec}
    (hs : Served h (.keyInfo handle.toNat) s d role) (hrole : tenantOrDm role = true ∨ role = .auditor)
    (hres : resolveFor d h.via role handle.toNat = .ok (i, k)) :
    exec (.keyInfo h handle) s = becomes s (answer h.via .ok (infoBytes i k) d) := by
  obtain ⟨hne, hsingle⟩ := keyInfo_role hrole
  rw [exec_keyInfo, execKeyInfo, onDev, serve_ok hs rfl (by simp [onHandle, hres]) (rightMet_of_single hs hne hsingle) rfl,
    dropStaged_none rfl]
  simp only [hres]

/-- Settles O50: what KEY_INFO answers reads C from the record, and no lookup reads the leases. -/
theorem remainingCountIsC : Obligations.RemainingCountIsC :=
  fun _ _ _ _ _ i k _ hs hrole hres _ huses =>
    ⟨infoBytes i k, keyInfo_served hs hrole hres, length_infoBytes i k, infoBytes_uses i huses, hres⟩

end Sys2Proof.Machine
end

section
/-! PROOF. The key services (R55, R57, R66, R67, R71, R75, R76, R461, R462, R562, R563). -/

namespace Sys2Proof.Machine

open Sys2Proof

/-! Requests that a later check refuses. -/

section
variable {h : SvcHdr} {a : SvcAction} {pre late : Dev → Status} {keys : Dev → Role → Status} {rights : Dev → Rights}
  {records : Bool} {run : Dev → Role → Dev} {s : State} {d : Dev} {role : Role} {st : Status}

/-- A request that fails checks 3 and 4 of its service is answered with their status. -/
theorem serve_pre_fails (hs : Served h a s d role) (hp : pre (takeRequest h.via (servedHobbled a) s.dev).2 = st) (hst : st ≠ .ok) :
    serve h a pre keys rights late records run s.dev =
      dropStaged h.via a (answer h.via st [] (fetchObject h.via a (takeRequest h.via (servedHobbled a) s.dev).2).2) := by
  obtain ⟨htaken, hheader, hfetched, -, -, -, -⟩ := hs
  simp [serve, serveWith, htaken, hheader, hfetched, hp, hst]

/-- A request that meets its service's right and fails the rest of checks 10 to 12 is answered with their status. -/
theorem serve_late_fails (hs : Served h a s d role) (hp : pre (takeRequest h.via (servedHobbled a) s.dev).2 = .ok)
    (hk : keys d role = .ok) (hr : rightMet d h.via role (rights d) = true) (hl : late d = st) (hst : st ≠ .ok) :
    serve h a pre keys rights late records run s.dev = dropStaged h.via a (answer h.via st [] d) := by
  obtain ⟨htaken, hheader, hfetched, rfl, hrole, -, hthrottle⟩ := hs
  by_cases hpol : st = .policy
  · subst hpol
    simp [serve, serveWith, htaken, hheader, hfetched, hp, hrole, hk, hr, hl]
  · simp [serve, serveWith, htaken, hheader, hfetched, hp, hrole, hk, hr, hl, hthrottle, hst, hpol]

end

/-- More rights are met where fewer are. -/
theorem rightMet_mono {d : Dev} {v : Via} {role : Role} {r r' : Rights} (h : rightMet d v role r = true)
    (hsingle : r.single role = true → r'.single role = true) (hdual : ∀ e ∈ r.dual, e ∈ r'.dual) : rightMet d v role r' = true := by
  unfold rightMet at h ⊢
  split at h
  · split at h
    · obtain ⟨e, he, hscope⟩ := List.any_eq_true.mp h
      exact List.any_eq_true.mpr ⟨e, hdual e he, hscope⟩
    · exact h
  · exact hsingle h

/-! Creations. -/

/-- A creation under a parent that lives is answered with the handle once its record commits (R67). -/
theorem createAnswered_ok {pidx gen idx handle seq : Nat} {n : NewKey} {via : Via} {d d2 : Dev} {parent : KeyRec}
    (hlive : liveParent d pidx gen = some parent) (hcreate : createKey pidx parent n d = .ok (idx, handle, seq, d2)) :
    createAnswered pidx gen n via d = waitFor seq (.answer via .ok (le 4 handle)) d2 := by
  simp only [createAnswered, hlive, hcreate]
  rfl

/-- A service whose use of a key is at hand has its effect at once (R68). -/
theorem withUse_now {h : SvcHdr} {a : SvcAction} {role : Role} {idx : Nat} {k : KeyRec} {f : Dev → Dev} {d d1 : Dev}
    (hspend : spendUse idx k d = .ok (none, d1)) : withUse h a role idx k f d = f d1 := by
  simp only [withUse, hspend]

theorem useStatus_ok {d d1 : Dev} {idx : Nat} {k : KeyRec} (hspend : spendUse idx k d = .ok (none, d1)) :
    useStatus d idx k = .ok := by
  simp only [useStatus, hspend]

/-! Services on one key. -/

section
variable {s : State} {h : SvcHdr} {handle : BitVec 32} {d : Dev} {role : Role} {i : Nat} {k : KeyRec}

/-- What KEY_ATTR makes of a record (R57). -/
def attrChanged (k : KeyRec) (w : Nat) : KeyRec :=
  { k with usage := fieldOf w 48 16, exportPol := fieldOf w 44 4, dual := bitOf w 43, label := fieldOf w 0 16 }

section
variable {attr : BitVec 64} (hres : resolveFor d h.via role handle.toNat = .ok (i, k))
  (hkey : keyFor d handle.toNat = some (i, k)) (hs : Served h (.keyAttr handle.toNat attr.toNat) s d role)
  (hright : MayAdminister h k d role)
include hres hkey hs hright

theorem keyAttr_refused (hbad : i ≤ 0x1000 ∨ attrAllowed k attr.toNat = false) :
    exec (.keyAttr h handle attr) s = becomes s (answer h.via .policy [] d) := by
  have hlate : (decide (i ≤ 0x1000) || !attrAllowed k attr.toNat) = true := by
    rcases hbad with hb | hb <;> simp [hb]
  rw [exec_keyAttr, execKeyAttr, onDev, serve_late_fails (st := .policy) hs rfl (by simp [onHandle, hres])
    (by simpa only [keyRights, hkey] using hright) (by simp only [hkey, hlate, if_true]) (by decide), dropStaged_none rfl]

/-- A change that R57 allows: the new record, its invalidation and its record in the journal (R57, R76). -/
theorem keyAttr_changes (hroot : 0x1000 < i) (hallow : attrAllowed k attr.toNat = true) (hroom : roomToJournal d.ks = true) :
    let k' := attrChanged k attr.toNat
    ∃ d', exec (.keyAttr h handle attr) s = becomes s d' ∧ d'.ks.keys = ins d.ks.keys i k' ∧
      d'.ks.gens = d.ks.gens ∧
      d'.ks.invals = d.ks.invals ++ [{ idx := i, gen := k.gen, destroy := false, via := some h.via }] ∧
      d'.ks.waits = d.ks.waits ++ [{ seq := d.ks.nextSeq, kind := .destroy i }] ∧
      ∃ p ∈ d'.ks.journal, { idx := i, seq := d.ks.nextSeq, body := .attr k'.usage k'.exportPol k'.dual k'.label } ∈ p.recs := by
  have hlate : (decide (i ≤ 0x1000) || !attrAllowed k attr.toNat) = false := by simp [hallow, hroot]
  rw [exec_keyAttr, execKeyAttr, onDev, serve_ok hs rfl (by simp [onHandle, hres])
    (by simpa only [keyRights, hkey] using hright) (by simp [hkey, hlate, hroom]), dropStaged_none rfl]
  simp only [hres]
  refine ⟨_, rfl, ?_, ?_, ?_, ?_, ?_⟩
  · simp [attrChanged]
  · simp
  · simp
  · simp
  · exact queueRec_mem ..

end

/-- What a destruction leaves: the generation raised, the record ended, LINEAGE_INVAL on its way and DESTROY in the journal
(R75, R76). -/
theorem destroyKey_leaves (via : Option Via) (actor : Nat) (hlook : look d.ks.keys i = some k) :
    let t := (destroyKey i via actor d).2
    t.ks.gens = put 0 d.ks.gens i (genOf d.ks i + 1) ∧ t.ks.keys = ins d.ks.keys i { k with destroyed := true } ∧
      t.ks.invals = d.ks.invals ++ [{ idx := i, gen := genOf d.ks i + 1, destroy := true, via := via }] ∧
      t.ks.waits = d.ks.waits ++ [{ seq := d.ks.nextSeq, kind := .destroy i }] ∧
      ∃ p ∈ t.ks.journal, { idx := i, seq := d.ks.nextSeq, body := .destroy (genOf d.ks i + 1) } ∈ p.recs := by
  simp only [destroyKey, hlook, waitFor_keys, queueRec_keys, look_ins_self]
  exact ⟨by simp, by simp [killRec], by simp, by simp, queueRec_mem ..⟩

theorem dropDomain_ks (idx : Nat) (d : Dev) : (dropDomain idx d).ks = d.ks := by
  unfold dropDomain
  split <;> rfl

section
variable (hres : resolveFor d h.via role handle.toNat = .ok (i, k)) (hkey : keyFor d handle.toNat = some (i, k))
  (hs : Served h (.keyDestroy handle.toNat) s d role)
include hres hkey hs

/-- A domain root is not destroyed during a migration (R399). -/
theorem keyDestroy_refused (hlow : 1 ≤ i) (hroot : i ≤ 0x1000) (hright : TwoDeviceOfficers h d role) (hmig : d.ks.migState ≠ 0) :
    exec (.keyDestroy h handle) s = becomes s (answer h.via .policy [] d) := by
  rw [exec_keyDestroy, execKeyDestroy, onDev, serve_late_fails (st := .policy) hs rfl (by simp [onHandle, hres]) ?right
    (by simp [hkey, hroot, hmig]) (by decide), dropStaged_none rfl]
  simp only [hkey, hlow, hroot, and_self, if_true]
  exact rightMet_mono hright (fun h => h) (by simp)

/-- Who has the right destroys the key, a root with its domain (R75, R399). -/
theorem keyDestroy_destroys (hroom : roomToJournal d.ks = true)
    (hright : 0x1000 < i ∧ (MayAdminister h k d role ∨ role = .firmware) ∨
      1 ≤ i ∧ i ≤ 0x1000 ∧ TwoDeviceOfficers h d role ∧ d.ks.migState = 0) :
    exec (.keyDestroy h handle) s = becomes s (dropDomain i (destroyKey i (some h.via) (actorReq d h) d).2) := by
  have hlate : (decide (i ≤ 0x1000) && !(d.ks.migState == 0)) = false := by
    rcases hright with ⟨hi, -⟩ | ⟨-, -, -, hmig⟩
    · simp [Nat.not_le.mpr hi]
    · simp [hmig]
  rw [exec_keyDestroy, execKeyDestroy, onDev, serve_ok hs rfl (by simp [onHandle, hres]) ?right (by simp [hkey, hlate, hroom]),
    dropStaged_none rfl]
  case right =>
    simp only [hkey]
    rcases hright with ⟨hi, hadmin | rfl⟩ | ⟨hlow, hroot, htwo, -⟩
    · rw [if_neg (by omega)]
      refine rightMet_mono hadmin (fun hr => ?_) fun e he => ?_
      · simp only [keyRights, hkey, hr, Bool.or_true]
      · simpa only [keyRights, hkey] using he
    · rw [if_neg (by omega)]
      exact rightMet_of_single hs (by decide) rfl
    · rw [if_pos ⟨hlow, hroot⟩]
      exact rightMet_mono htwo (fun h => h) (by simp)
  simp only [hres]

end

end

/-! Services that make a key. -/

section
variable {s : State} {h : SvcHdr} {handle : BitVec 32} {typ cls : BitVec 8} {attr : BitVec 64} {d d1 d2 : Dev} {role : Role} {i : Nat}
  {k : KeyRec} {label context : Bytes} {idx n seq : Nat}

/-- KEY_GENERATE makes symmetric keys only (R563). -/
theorem keyGenerate_format (hs : Served h (.keyGenerate handle.toNat typ.toNat cls.toNat attr.toNat) s d role)
    (htyp : isSym typ.toNat = false) :
    exec (.keyGenerate h handle typ cls attr) s = becomes s (answer h.via .format [] (takeRequest h.via false s.dev).2) := by
  rw [exec_keyGenerate, execKeyGenerate, onDev, serve_pre_fails (st := .format) hs (by simp [htyp]) (by decide), dropStaged_none rfl,
    fetchObject_none rfl]
  rfl

/-- KEY_DERIVE makes symmetric keys only (R563). -/
theorem keyDerive_format (hs : Served h (.keyDerive handle.toNat typ.toNat cls.toNat attr.toNat label context) s d role)
    (htyp : isSym typ.toNat = false) :
    exec (.keyDerive h handle typ cls attr label context) s =
      becomes s (answer h.via .format [] (takeRequest h.via false s.dev).2) := by
  rw [exec_keyDerive, execKeyDerive, onDev, serve_pre_fails (st := .format) hs (by simp [htyp]) (by decide), dropStaged_none rfl,
    fetchObject_none rfl]
  rfl

section
variable (hres : resolveFor d h.via role handle.toNat = .ok (i, k)) (hkey : keyFor d handle.toNat = some (i, k))
  (hattr : attrArgOk (AttrArg.ofNat attr.toNat) = true)
include hres hkey hattr

section
variable (htyp : isSym typ.toNat = true) (hright : rightMet d h.via role { single := mayMakeKey } = true)
  (hformat : createFormat (keyOfAttr (AttrArg.ofNat attr.toNat) typ.toNat cls.toNat (zeros (symLen typ.toNat))) = true)
  (hlate : createLate i (keyOfAttr (AttrArg.ofNat attr.toNat) typ.toNat cls.toNat (zeros (symLen typ.toNat))) d = .ok)
include htyp hright hformat hlate

/-- KEY_GENERATE draws from its domain's instance (R461). -/
theorem keyGenerate_served (hs : Served h (.keyGenerate handle.toNat typ.toNat cls.toNat attr.toNat) s d role) :
    exec (.keyGenerate h handle typ cls attr) s = becomes s (generate (domainInst k.domain d).1
      (.key i k.gen typ.toNat cls.toNat attr.toNat) h.via (actorReq (domainInst k.domain d).2 h) (domainInst k.domain d).2) := by
  rw [exec_keyGenerate, execKeyGenerate, onDev, serve_ok hs (by simp [htyp, hattr, hformat]) (by simp [onHandle, hres]) hright
    (by simp only [hkey, hlate]), dropStaged_none rfl]
  simp only [hres]

/-- KEY_DERIVE creates what the KDF gives under its base (R562). -/
theorem keyDerive_served (hs : Served h (.keyDerive handle.toNat typ.toNat cls.toNat attr.toNat label context) s d role)
    (hlabel : label.length ≤ 64) (hcontext : context.length ≤ 1024) (hcls : k.cls = 3) (husage : bitOf k.usage 6 = true)
    (hspend : spendUse i k d = .ok (none, d1)) :
    exec (.keyDerive h handle typ cls attr label context) s = becomes s (createAnswered i k.gen
      { keyOfAttr (AttrArg.ofNat attr.toNat) typ.toNat cls.toNat (deriveKey k label context (symLen typ.toNat)) with
        actor := actorReq d1 h } h.via d1) := by
  rw [exec_keyDerive, execKeyDerive, onDev, serve_ok hs
    (by simp [htyp, hattr, hformat, Nat.not_lt.mpr hlabel, Nat.not_lt.mpr hcontext]) (by simp [onHandle, hres, hcls, husage]) hright
    (by simp [hkey, hlate, useStatus_ok hspend]), dropStaged_none rfl]
  simp only [deriveRun, hres, withUse_now hspend]

end

/-- KEY_IMPORT spends a use of UNWRAP and goes on with what unwraps (R67, R563). -/
theorem keyImport_served {form : BitVec 8} {obj : ObjRef} {wrapped : Bytes}
    (hs : Served h (.keyImport handle.toNat form.toNat typ.toNat cls.toNat attr.toNat obj wrapped) s d role)
    (hright : rightMet d h.via role { single := fun r => mayMakeKey r || r == .hostDriver } = true) (hform : form.toNat < 2)
    (hformat : createFormat (importKey typ.toNat cls.toNat attr.toNat [] actorFw) = true)
    (hobj : objStatus h.via obj (takeRequest h.via false s.dev).2 = .ok)
    (hwrapped : wrappedOk form.toNat (objBytes h.via obj wrapped (takeRequest h.via false s.dev).2).length = true)
    (husage : bitOf k.usage 5 = true) (haes : isAes k.typ = true)
    (hlate : createLate i { importKey typ.toNat cls.toNat attr.toNat [] actorFw with material := zeros (if isPk typ.toNat then
      (if cls.toNat = 1 then privLen typ.toNat else pubLen typ.toNat) else symLen typ.toNat) } d = .ok)
    (hspend : spendUse i k d = .ok (none, d1)) :
    exec (.keyImport h handle form typ cls attr obj wrapped) s = becomes s (dropStaged h.via
      (.keyImport handle.toNat form.toNat typ.toNat cls.toNat attr.toNat obj wrapped)
      (importRun h handle.toNat form.toNat typ.toNat cls.toNat attr.toNat obj wrapped role d)) := by
  rw [exec_keyImport, execKeyImport, onDev, serve_ok hs ?pre (by simp [onHandle, hres, husage, haes]) hright
    (by simp [hkey, hlate, useStatus_ok hspend])]
  case pre =>
    simp only [servedHobbled, hattr, hformat, hobj, hwrapped, Nat.not_le.mpr hform]
    rfl

end

section
variable {form t c w : Nat} {obj : ObjRef} {wrapped : Bytes} (hres : resolveFor d h.via role n = .ok (i, k))
  (hspend : spendUse i k d = .ok (none, d1))
include hres hspend

/-- An import that does not unwrap, or carries bad material, is answered AUTH_FAIL (log entries 32 and 56). -/
theorem importRun_fails (hbad : (Config.kwUnwrap (form == 1) k.material (objBytes h.via obj wrapped d)).all
      (fun m => !(materialLenOk t c m.length && materialOk t c m)) = true) :
    importRun h n form t c w obj wrapped role d = answer h.via .authFail [] d1 := by
  simp only [importRun, hres, withUse_now hspend]
  cases hm : Config.kwUnwrap (form == 1) k.material (objBytes h.via obj wrapped d) with
  | none => rfl
  | some m =>
    rw [hm] at hbad
    exact if_pos hbad

/-- What unwraps and is good material is created under the unwrapping key (R67). -/
theorem importRun_creates {m : Bytes} (hm : Config.kwUnwrap (form == 1) k.material (objBytes h.via obj wrapped d) = some m)
    (hlen : materialLenOk t c m.length = true) (hmat : materialOk t c m = true) :
    importRun h n form t c w obj wrapped role d = createAnswered i k.gen (importKey t c w m (actorReq d1 h)) h.via d1 := by
  simp only [importRun, hres, withUse_now hspend, hm, hlen, hmat]
  rfl

end

end

/-- A generation whose instance gives its bytes creates its key from them (R461). -/
theorem generate_drawn {inst p gen t c w actor : Nat} {via : Via} {d d1 : Dev} {m : Bytes}
    (hdraw : drawPr inst (symLen t) d = some (m, d1)) :
    generate inst (.key p gen t c w) via actor d =
      createAnswered p gen { keyOfAttr (AttrArg.ofNat w) t c m with actor := actor } via d1 := by
  simp only [generate, genLen, hdraw, genCreate]

/-- A generation whose instance must reseed first waits for it (R462). -/
theorem generate_waits {inst : Nat} {g : GenKind} {via : Via} {actor : Nat} {d : Dev} (hdraw : drawPr inst (genLen g) d = none)
    (hcore : (instCore d inst).isSome = true) :
    (generate inst g via actor d).rng.gens = d.rng.gens ++
        [{ inst := inst, since := d.tb.now, kind := g, via := via, actor := actor }] ∧
      (generate inst g via actor d).ks = d.ks ∧ ∃ t0, (inst, t0) ∈ (generate inst g via actor d).rng.wait := by
  have hlive : (instCore d inst).isNone = false := by simpa using hcore
  simp only [generate, hdraw, hlive]
  refine ⟨rfl, rfl, ?_⟩
  by_cases hw : d.rng.wait.any (fun w => w.1 == inst) = true
  · obtain ⟨⟨j, t0⟩, hmem, hj⟩ := List.any_eq_true.mp hw
    obtain rfl := beq_iff_eq.mp hj
    exact ⟨t0, by simpa [hw] using hmem⟩
  · exact ⟨d.tb.now, by simp [hw]⟩

section
variable {s : State} {cu : Fin 4} {parent : BitVec 32} {typ cls : BitVec 8} {attr : BitVec 64} {material : Bytes} {i : Nat} {k : KeyRec}

/-- A clear write that meets its checks is refused to a tenant world, else it creates its key (R66, R166). -/
theorem clearWrite_served (tenant : Bool) (hgait : s.dev.life.gait ≠ 3) (hup : s.dev.life.custUp = true)
    (hhobbled : s.dev.life.hobbled = false) (hready : s.dev.life.ready = true) (hthrottle : isThrottled s.dev = false)
    (hattr : attrArgOk (AttrArg.ofNat attr.toNat) = true)
    (hformat : createFormat { keyOfAttr (AttrArg.ofNat attr.toNat) typ.toNat cls.toNat material with clearOrigin := true } = true)
    (hlen : materialLenOk typ.toNat cls.toNat material.length = true)
    (hpk : isPk typ.toNat = true → materialOk typ.toNat cls.toNat material = true)
    (hres : resolve s.dev.ks true 0 parent.toNat = .ok (i, k))
    (hlate : createLate i { keyOfAttr (AttrArg.ofNat attr.toNat) typ.toNat cls.toNat material with clearOrigin := true } s.dev = .ok) :
    exec (.clearWrite cu tenant parent typ cls attr material) s =
      becomes s (if tenant then answer (.firmware cu) .policy [] s.dev
        else createAnswered i k.gen { keyOfAttr (AttrArg.ofNat attr.toNat) typ.toNat cls.toNat material with clearOrigin := true }
          (.firmware cu) s.dev) := by
  have hgood : (isPk typ.toNat && !materialOk typ.toNat cls.toNat material) = false := by
    cases hp : isPk typ.toNat with
    | false => rfl
    | true => simp [hpk hp]
  rw [exec_clearWrite, execClearWrite, onDev]
  simp only [hgait, hup, hhobbled, hready, hthrottle, hattr, hformat, hgood, hlen, hres, hlate, Bool.true_and]
  cases tenant <;> rfl

end

/-- Settles O20: each service's hypotheses are its checks, so `serve_ok` gives its run, and `createAnswered_ok` what a creation
leaves. -/
theorem keyServices : Obligations.KeyServices := by
  refine ⟨fun s h handle attr d role i k hres hkey hlook => ⟨fun hs hrole => keyInfo_served hs hrole hres,
      fun hs hright => ⟨fun hbad => keyAttr_refused hres hkey hs hright hbad, fun hroot hallow hroom => ?attr⟩,
      fun hs => ⟨fun hlow hroot hright hmig => keyDestroy_refused hres hkey hs hlow hroot hright hmig,
        fun hroom hright => ?destroy⟩⟩,
    fun s h handle typ cls attr d role i k label context => ?make, fun s cu parent typ cls attr material i k d2 idx n seq => ?clear⟩
  case attr =>
    obtain ⟨d', hexec, hleaves⟩ := keyAttr_changes hres hkey hs hright hroot hallow hroom
    obtain ⟨hkeys, hgens, hinvals, hwaits, hrec⟩ := hleaves
    exact ⟨_, d', hexec, hkeys, hgens, hinvals, hwaits, hrec, by simp [attrChanged, fieldOf, bitOf]⟩
  case destroy =>
    refine ⟨_, keyDestroy_destroys hres hkey hs hroom hright, ?_⟩
    rw [dropDomain_ks]
    exact destroyKey_leaves _ _ hlook
  case make =>
    dsimp only
    refine ⟨fun htyp => ⟨fun hs => keyGenerate_format hs htyp, fun hs => keyDerive_format hs htyp⟩,
      fun hres hkey hattr => ⟨fun htyp hright hformat hlate => ⟨fun hs => ⟨?drawn, ?waits⟩, ?derive⟩, ?imports⟩⟩
    case drawn =>
      intro m d1 d2 idx n seq hdraw hlive hcreate
      rw [keyGenerate_served hres hkey hattr htyp hright hformat hlate hs, generate_drawn hdraw, createAnswered_ok hlive hcreate]
    case waits =>
      intro hdraw hcore
      obtain ⟨hgens, hks, hwait⟩ := generate_waits (g := .key i k.gen typ.toNat cls.toNat attr.toNat) (via := h.via)
        (actor := actorReq (domainInst k.domain d).2 h) hdraw hcore
      exact ⟨_, keyGenerate_served hres hkey hattr htyp hright hformat hlate hs, hgens, hks, hwait⟩
    case derive =>
      intro hs hlabel hcontext hcls husage d1 d2 idx n seq hspend hlive hcreate
      rw [keyDerive_served hres hkey hattr htyp hright hformat hlate hs hlabel hcontext hcls husage hspend,
        createAnswered_ok hlive hcreate]
    case imports =>
      intro form obj wrapped d1 hs hright hform hformat hobj hwrapped husage haes hlate hspend
      have hrun := keyImport_served hres hkey hattr hs hright hform hformat hobj hwrapped husage haes hlate hspend
      refine ⟨fun hbad => ?_, fun b d2 idx n seq hm hlen hmat hlive hcreate => ?_⟩
      · rw [hrun, importRun_fails hres hspend hbad]
      · rw [hrun, importRun_creates hres hspend hm hlen hmat, createAnswered_ok hlive hcreate]
  case clear =>
    dsimp only
    intro hgait hup hhobbled hready hthrottle hattr hformat hlen hpk hres hlate hlive hcreate
    have hwrite (tenant : Bool) := clearWrite_served (cu := cu) tenant hgait hup hhobbled hready hthrottle hattr hformat hlen hpk hres
      hlate
    refine ⟨?_, hwrite true⟩
    rw [hwrite false, ← createAnswered_ok hlive hcreate]
    rfl

end Sys2Proof.Machine
end

section
/-! PROOF. The key journal, its compaction, and the steps of a migration (R63, R72, R89-R93, R402, R481). -/

namespace Sys2Proof.Machine

open Sys2Proof

/-! A page commits. -/

/-- The wait is for a key to be named, or for an answer. -/
abbrev PlainWait (w : Wait) : Prop := (∃ i, w.kind = .keyReady i) ∨ ∃ v st r, w.kind = .answer v st r

/-- The records as one that waited to be named can be (R67). -/
def readied (kind : WaitKind) (keys : FMap KeyRec) : FMap KeyRec :=
  match kind with
  | .keyReady i => ((look keys i).map (fun k => ins keys i { k with committed := true })).getD keys
  | _ => keys

theorem look_readied (kind : WaitKind) (keys : FMap KeyRec) (i : Nat) :
    look (readied kind keys) i =
      (look keys i).map (fun k => if kind == .keyReady i then { k with committed := true } else k) := by
  cases kind with
  | keyReady j =>
    cases hj : look keys j with
    | none =>
      by_cases hij : j = i
      · subst hij
        simp [readied, hj]
      · simp [readied, hj, hij]
    | some k =>
      by_cases hij : j = i
      · subst hij
        simp [readied, hj]
      · simp [readied, hj, hij, look_ins_ne _ _ (Ne.symm hij)]
  | _ => simp [readied]

/-- The end of a plain wait changes the records' flags only, besides what it answers. -/
theorem wakeWait_plain {w : Wait} (hw : PlainWait w) (d : Dev) :
    (wakeWait w d).ks = { d.ks with keys := readied w.kind d.ks.keys } ∧ (wakeWait w d).op = d.op := by
  rcases hw with ⟨i, hi⟩ | ⟨v, st, r, hv⟩
  · cases hk : look d.ks.keys i <;> simp [wakeWait, hi, readied, hk]
  · simp only [wakeWait, hv, readied]
    exact ⟨answer_ks v st r d, answer_op v st r d⟩

theorem wakeWaits_plain (l : List Wait) (hl : ∀ w ∈ l, PlainWait w) (d : Dev) :
    ∃ keys, (l.foldl (fun d w => wakeWait w d) d).ks = { d.ks with keys := keys } ∧
      (l.foldl (fun d w => wakeWait w d) d).op = d.op ∧
      ∀ i, look keys i = (look d.ks.keys i).map
        (fun k => if l.any (fun w => w.kind == .keyReady i) then { k with committed := true } else k) := by
  induction l generalizing d with
  | nil => exact ⟨d.ks.keys, rfl, rfl, fun i => by simp⟩
  | cons w l ih =>
    obtain ⟨hks, hop⟩ := wakeWait_plain (hl w (List.mem_cons_self ..)) d
    obtain ⟨keys, hks', hop', hlook⟩ := ih (fun x hx => hl x (List.mem_cons_of_mem _ hx)) (wakeWait w d)
    refine ⟨keys, by rw [List.foldl_cons, hks', hks], by rw [List.foldl_cons, hop', hop], fun i => ?_⟩
    rw [hlook, hks, look_readied, Option.map_map]
    congr 1
    funext k
    cases hw : w.kind == .keyReady i <;> cases ha : l.any (fun w => w.kind == .keyReady i) <;> simp [hw, ha]

/-- What a page's records put in force is the snapshot of a compaction, and nothing else. -/
theorem applyCommits_keep (l : List JRec) (d : Dev) :
    let t := l.foldl (fun d r => applyCommit r d) d
    t.ks.journal = d.ks.journal ∧ t.ks.pages = d.ks.pages ∧ t.ks.parity = d.ks.parity ∧ t.ks.waits = d.ks.waits ∧
      t.ks.keys = d.ks.keys ∧ t.op = d.op := by
  have hkeep := foldl_keep (fun d : Dev => (d.ks.journal, d.ks.pages, d.ks.parity, d.ks.waits, d.ks.keys, d.op))
    (fun d r => applyCommit r d) (fun d r => by unfold applyCommit; split <;> rfl) l d
  simpa only [Prod.mk.injEq] using hkeep

/-- A page that commits joins the programmed pages; the operations and keys that waited for its records go on (R67, R90). -/
theorem commitPage_leaves (p : JPage) (d : Dev) (hw : ∀ w ∈ d.ks.waits, w.seq ≤ pageLast p → PlainWait w) :
    let t := commitPage p d
    t.ks.journal = d.ks.journal ∧ t.ks.pages = d.ks.pages ++ [p] ∧
      t.ks.parity = d.ks.parity ++ (if p.pageSeq % 7 = 6 then [p.pageSeq / 7] else []) ∧
      t.ks.waits = d.ks.waits.filter (fun w => decide (pageLast p < w.seq)) ∧
      (∀ i k, look d.ks.keys i = some k →
        look t.ks.keys i = some (if d.ks.waits.any (fun w => decide (w.seq ≤ pageLast p) && w.kind == .keyReady i)
          then { k with committed := true } else k)) ∧
      t.op.ops = mapV (fun _ o => if o.waitSeq.any (fun n => decide (n ≤ pageLast p)) then { o with waitSeq := none } else o)
        d.op.ops := by
  obtain ⟨hjournal, hpages, hparity, hwaits, hkeys, hop⟩ := applyCommits_keep p.recs { d with ks := { d.ks with
    pages := d.ks.pages ++ [p], parity := if p.pageSeq % 7 = 6 then d.ks.parity ++ [p.pageSeq / 7] else d.ks.parity } }
  unfold commitPage
  dsimp only at hjournal hpages hparity hwaits hkeys hop ⊢
  rw [hwaits, hop]
  obtain ⟨keys, hks, hop', hlook⟩ := wakeWaits_plain (d.ks.waits.filter (fun w => decide (w.seq ≤ pageLast p)))
    (fun w hmem => hw w (List.mem_filter.mp hmem).1 (of_decide_eq_true (List.mem_filter.mp hmem).2)) _
  rw [hks, hop']
  refine ⟨hjournal, hpages, ?_, ?_, fun i k hk => ?_, ?_⟩
  · rw [hparity]
    split <;> simp
  · exact List.filter_congr fun w _ => Bool.eq_iff_iff.mpr (by simp)
  · rw [hlook, hkeys, hk]
    simp [List.any_filter]
  · dsimp only
    congr 1
    funext _ o
    cases hseq : o.waitSeq <;> simp

/-- No page behind one that is not programmed commits (R90). -/
theorem commitPages_stops (n : Nat) {d : Dev} (h : ∀ q, d.ks.journal.head? = some q → q.programmed = false) :
    commitPages n d = d := by
  cases n with
  | zero => rfl
  | succ n =>
    unfold commitPages
    cases hj : d.ks.journal with
    | nil => rfl
    | cons p rest =>
      have hp : p.programmed = false := h p (by rw [hj, List.head?_cons])
      simp [hp]

/-- The first page's programming ends: it commits, and with no page behind it programmed nothing else does (R90). -/
theorem commitPages_first {n : Nat} {p : JPage} {rest : List JPage} {d : Dev} (hprog : p.programmed = true)
    (hrest : ∀ q ∈ rest, q.programmed = false) (hw : ∀ w ∈ d.ks.waits, w.seq ≤ pageLast p → PlainWait w) :
    commitPages (n + 1) { d with ks := { d.ks with journal := p :: rest } } =
      commitPage p { d with ks := { d.ks with journal := rest } } := by
  obtain ⟨hleft, -⟩ := commitPage_leaves p { d with ks := { d.ks with journal := rest } } hw
  rw [commitPages]
  simp only [hprog, if_true]
  exact commitPages_stops n fun q hq => hrest q (List.mem_of_head? (by rwa [hleft] at hq))

/-- The journal with the closed page of a number marked as programmed. -/
def markPage (n : Nat) (journal : List JPage) : List JPage :=
  journal.map (fun q => if q.pageSeq = n ∧ q.closed = true then { q with programmed := true } else q)

theorem markPage_first {p : JPage} {rest : List JPage} (hclosed : p.closed = true) (hrest : ∀ q ∈ rest, q.pageSeq ≠ p.pageSeq) :
    markPage p.pageSeq (p :: rest) = { p with programmed := true } :: rest := by
  rw [markPage, List.map_cons, if_pos ⟨rfl, hclosed⟩]
  exact congrArg _ ((List.map_congr_left fun q hq => if_neg fun h => hrest q hq h.1).trans (List.map_id _))

theorem exec_journalPageProgrammed_eq (n : BitVec 64) (s : State) :
    exec (.journalPageProgrammed n) s = .next (followMigration { s with dev := resumeUses (commitPages s.dev.ks.journal.length
      { s.dev with ks := { s.dev.ks with journal := markPage n.toNat s.dev.ks.journal } }) }) := by
  simp [execJournalPageProgrammed, markPage]

/-- With no service waiting for a use and no migration record committed, nothing follows the end of a page's programming. -/
theorem followed_idle {s : State} {d : Dev} (huses : d.cust.useWaits = []) (hmig : d.cust.pendingMig = none) :
    followMigration { s with dev := resumeUses d } = { s with dev := d } := by
  have hidle : resumeUses d = d := by
    simp only [resumeUses, huses, List.filter_nil, List.foldl_nil]
    rw [← huses]
  rw [hidle, followMigration]
  simp only [hmig]

/-! Compaction. -/

theorem liveKey_of_gens {ks ks' : KeyStore} (h : ks.gens = ks'.gens) (k : KeyRec) : liveKey ks k = liveKey ks' k := by
  simp only [liveKey, orphaned, genOf, h]

theorem keysOf_mapV {α β : Type} (f : Nat → α → β) (m : FMap α) : keysOf (mapV f m) = keysOf m := by
  simp [keysOf, mapV]

/-- No record of a snapshot holds material in the clear, and one of a volatile key no material at all (R63, R72). -/
theorem storeKey_hides (ks : KeyStore) (i : Nat) (k : KeyRec) :
    (storeKey ks i k).kr.material = zeros k.material.length ∧
      (k.volatileKey = true → (storeKey ks i k).wrapped = none ∧ (storeKey ks i k).kr.uses = 0 ∧ (storeKey ks i k).kr.ivctr = 0) := by
  unfold storeKey
  cases hv : k.volatileKey with
  | true => exact ⟨rfl, fun _ => ⟨rfl, rfl, rfl⟩⟩
  | false =>
    refine ⟨?_, fun h => absurd h (by simp)⟩
    by_cases hi : i ≤ 0x1000 <;> simp [hi, bareRec]

/-- The snapshot's records are those of the live keys. -/
theorem mem_snapshotOf {d : Dev} {epoch seq i : Nat} {sk : StoredKey} (h : (i, sk) ∈ (snapshotOf d epoch seq).keys) :
    ∃ k, (i, k) ∈ d.ks.keys ∧ liveKey d.ks k = true ∧ sk = storeKey d.ks i { k with committed := true } := by
  obtain ⟨⟨j, k⟩, hmem, heq⟩ := List.mem_map.mp h
  obtain ⟨rfl, rfl⟩ := Prod.mk.inj heq
  exact ⟨k, (List.mem_filter.mp hmem).1, (List.mem_filter.mp hmem).2, rfl⟩

/-- An index whose record a compaction leaves out. -/
theorem has_keysOf {α : Type} (f : Nat × α → Bool) (m : FMap α) (i : Nat) :
    has (keysOf (m.filter f)) i = true ↔ ∃ k, (i, k) ∈ m ∧ f (i, k) = true := by
  simp [has, keysOf]

/-- A sweep of an index ends its record where it is dead and no invalidation names it (R54, R92). -/
def sweptAway (d : Dev) (l : List Nat) (i : Nat) (k : KeyRec) : Bool :=
  has l i && !liveKey d.ks k && d.ks.invals.all (fun v => v.idx != i)

theorem sweptAway_other (d : Dev) {i j : Nat} (h : i ≠ j) (k : KeyRec) : sweptAway d [j] i k = false := by
  simp [sweptAway, has, Ne.symm h]

theorem sweptAway_own (d : Dev) (j : Nat) (k : KeyRec) :
    sweptAway d [j] j k = !(liveKey d.ks k || d.ks.invals.any (fun v => v.idx == j)) := by
  simp [sweptAway, has, List.not_any_eq_all_not, bne]

/-- One sweep changes the records, the free indices and the extension count, and the records by what it sweeps away alone. -/
theorem sweepIndex_spec (j : Nat) {d : Dev} (hr : rising d.ks.keys = true) :
    ∃ keys free ext, sweepIndex j d = { d with ks := { d.ks with keys := keys, free := free, extUsed := ext } } ∧
      rising keys = true ∧ ∀ i, look keys i = (look d.ks.keys i).filter (fun k => !sweptAway d [j] i k) := by
  have hother (i : Nat) (hi : i ≠ j) : (look d.ks.keys i).filter (fun k => !sweptAway d [j] i k) = look d.ks.keys i := by
    cases look d.ks.keys i <;> simp [Option.filter_some, sweptAway_other d hi]
  unfold sweepIndex
  cases hk : look d.ks.keys j with
  | none =>
    refine ⟨d.ks.keys, _, _, rfl, hr, fun i => ?_⟩
    by_cases hi : i = j
    · rw [hi, hk, Option.filter_none]
    · exact (hother i hi).symm
  | some k =>
    cases hkept : liveKey d.ks k || d.ks.invals.any (fun v => v.idx == j) with
    | true =>
      refine ⟨d.ks.keys, _, _, by simp only [hkept]; rfl, hr, fun i => ?_⟩
      by_cases hi : i = j
      · rw [hi, hk, Option.filter_some, sweptAway_own, hkept]
        rfl
      · exact (hother i hi).symm
    | false =>
      refine ⟨del d.ks.keys j, _, _, by simp only [hkept]; rfl, rising_del j hr, fun i => ?_⟩
      by_cases hi : i = j
      · rw [hi, hk, look_del_self j hr, Option.filter_some, sweptAway_own, hkept]
        rfl
      · rw [look_del_ne _ hi, hother i hi]

theorem sweepIndices_spec (l : List Nat) {d : Dev} (hr : rising d.ks.keys = true) :
    ∃ keys free ext, l.foldl (fun d i => sweepIndex i d) d =
        { d with ks := { d.ks with keys := keys, free := free, extUsed := ext } } ∧
      ∀ i, look keys i = (look d.ks.keys i).filter (fun k => !sweptAway d l i k) := by
  induction l generalizing d with
  | nil => exact ⟨d.ks.keys, _, _, rfl, fun i => by cases look d.ks.keys i <;> simp [Option.filter_some, sweptAway, has]⟩
  | cons j l ih =>
    obtain ⟨keys, free, ext, hd, hrising, hlook⟩ := sweepIndex_spec j hr
    obtain ⟨keys', free', ext', hd', hlook'⟩ := ih (d := { d with ks := { d.ks with keys := keys, free := free, extUsed := ext } })
      hrising
    refine ⟨keys', free', ext', by rw [List.foldl_cons, hd, hd'], fun i => ?_⟩
    rw [hlook', hlook, Option.filter_filter]
    refine congrArg (fun f => (look d.ks.keys i).filter f) (funext fun k => ?_)
    have hlive : liveKey { d.ks with keys := keys, free := free, extUsed := ext } k = liveKey d.ks k := liveKey_of_gens rfl k
    simp only [sweptAway, hlive, has, List.any_cons, List.any_nil]
    generalize liveKey d.ks k = live
    generalize d.ks.invals.all (fun v => v.idx != i) = free
    cases j == i <;> cases live <;> cases free <;> simp

/-! Migration. -/

/-- One step of `wrapRoots`: the wrapping of one domain root that has none. -/
def wrapRoot (root : Bytes) (x : Nat × Dev) (e : Nat × KeyRec) : Nat × Dev :=
  if (look x.2.ks.wraps (e.1 - 1)).isSome then x
  else
    let w : Wrapped := { kek := root, plain := e.2.material }
    let (seq, d) := queueRec 0 (.migrateWrap (e.1 - 1) w) x.2
    (seq, { d with ks := { d.ks with wraps := ins d.ks.wraps (e.1 - 1) w } })

theorem wrapRoots_eq (target : Bytes) (lc seq : Nat) (d : Dev) :
    wrapRoots target lc seq d = (liveRoots d).foldl (wrapRoot (storageRoot d target lc)) (seq, d) := rfl

/-- A wrapping leaves the migration's state, and every root wrapped that was; its own root it wraps. -/
theorem wrapRoot_spec (root : Bytes) (x : Nat × Dev) (e : Nat × KeyRec) :
    (wrapRoot root x e).2.ks.migState = x.2.ks.migState ∧ (wrapRoot root x e).2.ks.migTarget = x.2.ks.migTarget ∧
      (look (wrapRoot root x e).2.ks.wraps (e.1 - 1)).isSome = true ∧
      ∀ i, (look x.2.ks.wraps i).isSome = true → (look (wrapRoot root x e).2.ks.wraps i).isSome = true := by
  unfold wrapRoot
  split
  · next hw => exact ⟨rfl, rfl, hw, fun _ h => h⟩
  · next hw =>
    obtain ⟨-, journal, np, hq, -⟩ := queueRec_spec 0 (.migrateWrap (e.1 - 1) { kek := root, plain := e.2.material }) x.2
    simp only [hq, look_ins_self, Option.isSome_some, true_and]
    intro i hi
    by_cases hie : i = e.1 - 1
    · rw [hie, look_ins_self]
      rfl
    · rwa [look_ins_ne _ _ hie]

theorem foldl_wrapRoot (root : Bytes) (l : List (Nat × KeyRec)) (x : Nat × Dev) :
    (l.foldl (wrapRoot root) x).2.ks.migState = x.2.ks.migState ∧ (l.foldl (wrapRoot root) x).2.ks.migTarget = x.2.ks.migTarget ∧
      (∀ e ∈ l, (look (l.foldl (wrapRoot root) x).2.ks.wraps (e.1 - 1)).isSome = true) ∧
      ∀ i, (look x.2.ks.wraps i).isSome = true → (look (l.foldl (wrapRoot root) x).2.ks.wraps i).isSome = true := by
  induction l generalizing x with
  | nil => exact ⟨rfl, rfl, by simp, fun _ h => h⟩
  | cons e l ih =>
    obtain ⟨hstate, htarget, hwrapped, hkept⟩ := wrapRoot_spec root x e
    obtain ⟨hstate', htarget', hwrapped', hkept'⟩ := ih (wrapRoot root x e)
    refine ⟨hstate'.trans hstate, htarget'.trans htarget, fun f hf => ?_, fun i hi => hkept' i (hkept i hi)⟩
    rcases List.mem_cons.mp hf with rfl | hf
    · exact hkept' _ hwrapped
    · exact hwrapped' f hf

section
variable {s : State} {h : SvcHdr} {a : SvcAction} {allowed : Dev → Status} {run : Dev → Role → Dev} {d : Dev} {role : Role}
  (hs : Served h a s d role) (hright : TwoDeviceOfficers h d role)
include hs hright

/-- A step in another state, or on a foundation area all but full, is refused (R402, R481). -/
theorem migrateStep_policy (hobj : actionObject a = none) (hbad : foundationShut d = true ∨ allowed d = .policy) :
    migrateStep h a allowed run s = becomes s (answer h.via .policy [] d) := by
  rw [migrateStep, onDev, serve_late_fails (st := .policy) hs rfl rfl hright ?late (by decide), dropStaged_none hobj]
  case late => rcases hbad with hb | hb <;> simp [hb]

/-- An allowed step while an earlier step's record waits, or without journal room, may be repeated (R92, log entry 30). -/
theorem migrateStep_busy (hobj : actionObject a = none) (hallow : allowed d = .ok)
    (hheld : foundationShut d = false ∧ (migWaits d = true ∨ roomToJournal d.ks = false)) :
    migrateStep h a allowed run s = becomes s (answer h.via .busyRetry [] d) := by
  obtain ⟨hopen, hheld⟩ := hheld
  rw [migrateStep, onDev, serve_late_fails (st := .busyRetry) hs rfl rfl hright ?late (by decide), dropStaged_none hobj]
  case late => rcases hheld with hb | hb <;> simp [hopen, hallow, hb]

/-- An allowed step that nothing holds runs. -/
theorem migrateStep_runs (hobj : actionObject a = none) (hallow : allowed d = .ok)
    (hfree : foundationShut d = false ∧ migWaits d = false ∧ roomToJournal d.ks = true) :
    migrateStep h a allowed run s = becomes s (run d role) := by
  obtain ⟨hopen, hwaits, hroom⟩ := hfree
  rw [migrateStep, onDev, serve_ok hs rfl rfl hright (by simp [hopen, hallow, hwaits, hroom]), dropStaged_none hobj]

end

/-- A compaction that begins: COMPACT_BEGIN queued, the live records copied, the dead ones left out (R92). -/
theorem compactionBegin_begins {s : State} (hidle : s.dev.ks.compact = .idle)
    (hspace : journalFree s.dev.ks < snapshotSize s.dev.ks + 2147483648) :
    exec .compactionBegin s = becomes s
      (let sq := s.dev.ks.nextSeq - 1
       let x := (queueRec 0 (.compactBegin (s.dev.ks.epoch + 1) sq) s.dev).2
       { x with ks := { x.ks with
         compact := .copying, compactS := sq, building := some (snapshotOf x (s.dev.ks.epoch + 1) sq),
         sweeping := keysOf (s.dev.ks.keys.filter (fun e => !liveKey s.dev.ks e.2 && e.2.committed)) } }) :=
  (exec_compactionBegin s).trans (congrArg (becomes s) (if_neg (by simp [hidle, hspace])))

/-- Settles O19: a page's programming is `commitPages`' first page, a compaction's steps their own branches, a migration's steps
`migrateStep`'s three ways. -/
theorem journalCompactionMigration : Obligations.JournalCompactionMigration := by
  refine ⟨fun s p rest => ⟨fun hlast => ⟨?closes, ?closed⟩, fun hnone => ?empty, ?programmed, ?behind⟩,
    fun s => ⟨fun hbad => ?noBegin, ?begins, fun hbad => ?noCopy, ?copied, fun hbad => ?noErase, ?erased⟩,
    fun s h d role hright => ⟨fun hs => ⟨fun hbad => ?beginPolicy, fun img himg => ⟨fun hbad => ?beginInvalid, ?begin⟩⟩,
      fun hs => ⟨fun hbad => ?readyPolicy, fun hst => ⟨?readyBusy, ?ready⟩⟩,
      fun hs => ⟨fun hbad => ?finalPolicy, fun hst => ⟨?finalBusy, ?final⟩⟩,
      fun hs => ⟨fun hbad => ?abandonPolicy, fun hst => ⟨?abandonBusy, ?abandon⟩⟩⟩⟩
  case closes =>
    intro hopen
    rw [exec_journalPageClose, execJournalPageClose, onDev]
    simp [hlast, hopen]
  case closed =>
    intro hclosed
    rw [exec_journalPageClose, execJournalPageClose, onDev]
    simp [hlast, hclosed]
  case empty =>
    rw [exec_journalPageClose, execJournalPageClose, onDev]
    simp [hnone]
  case programmed =>
    intro hjournal hclosed hseq hrest hw
    have hmarked : markPage (BitVec.ofNat 64 p.pageSeq).toNat s.dev.ks.journal = { p with programmed := true } :: rest := by
      rw [BitVec.toNat_ofNat, Nat.mod_eq_of_lt hseq, hjournal, markPage_first hclosed fun q hq => (hrest q hq).1]
    refine ⟨_, (exec_journalPageProgrammed_eq ..).trans ?_, commitPage_leaves { p with programmed := true }
      { s.dev with ks := { s.dev.ks with journal := rest } } hw⟩
    rw [hmarked, hjournal, List.length_cons, commitPages_first (p := { p with programmed := true }) rfl (fun q hq => (hrest q hq).2) hw]
  case behind =>
    intro n hjournal hprog hne hmig huses
    have hhead : ∀ q, (markPage n.toNat s.dev.ks.journal).head? = some q → q.programmed = false := by
      intro q hq
      rw [hjournal, markPage, List.map_cons, if_neg fun h => hne h.1, List.head?_cons] at hq
      rwa [← Option.some.inj hq]
    rw [exec_journalPageProgrammed_eq, commitPages_stops _ hhead]
    exact congrArg _ (followed_idle huses hmig)
  case noBegin =>
    refine (exec_compactionBegin s).trans (congrArg (becomes s) (if_pos ?_))
    rcases hbad with hb | hb <;> simp [hb]
  case begins =>
    intro hidle hspace
    dsimp only
    have hgens := queueRec_gens 0 (.compactBegin (s.dev.ks.epoch + 1) (s.dev.ks.nextSeq - 1)) s.dev
    have hlive := liveKey_of_gens hgens
    refine ⟨_, _, _, compactionBegin_begins hidle hspace, rfl, rfl, rfl, rfl, ?_, fun i sk hmem => ?_, fun i => ?_⟩
    · rw [snapshotOf, keysOf_mapV, queueRec_keys]
      simp only [hlive]
    · obtain ⟨k, hk, hkl, rfl⟩ := mem_snapshotOf hmem
      rw [queueRec_keys] at hk
      exact ⟨k, hk, hlive k ▸ hkl, storeKey_hides _ i { k with committed := true }⟩
    · rw [has_keysOf]
      simp
  case noCopy => exact (exec_compactionCopyDone s).trans (congrArg (becomes s) (if_pos (by simpa using hbad)))
  case copied =>
    intro hcopying hr
    obtain ⟨-, journal, np, hq, -⟩ := queueRec_spec 0 (.compactEnd (s.dev.ks.epoch + 1) s.dev.ks.compactS) s.dev
    dsimp only
    rw [hq]
    obtain ⟨keys, free, ext, hsweep, hlook⟩ := sweepIndices_spec s.dev.ks.sweeping (d := { s.dev with ks := { s.dev.ks with
      journal := journal, nextSeq := s.dev.ks.nextSeq + 1, nextPage := np } }) hr
    refine ⟨keys, free, ext, ?_, fun i k hk => ?_⟩
    · rw [exec_compactionCopyDone, execCompactionCopyDone, onDev, if_neg (by simp [hcopying])]
      simp only [hq, hsweep]
    · rw [hlook, hk, Option.filter_some]
      change (if (!sweptAway s.dev s.dev.ks.sweeping i k) = true then some k else none) =
        if sweptAway s.dev s.dev.ks.sweeping i k = true then none else some k
      cases sweptAway s.dev s.dev.ks.sweeping i k <;> rfl
  case noErase =>
    refine (exec_compactionEraseDone s).trans (congrArg (becomes s) (if_pos ?_))
    rcases hbad with hb | hb <;> simp [hb]
  case erased =>
    intro b herasing hnone hsnap
    rw [exec_compactionEraseDone, execCompactionEraseDone, onDev, if_neg (by simp [herasing, hnone])]
    simp only [erasedStore, hsnap]
    exact ⟨_, rfl, rfl, rfl, rfl, rfl, rfl, rfl⟩
  case beginPolicy =>
    refine migrateStep_policy hs hright rfl ?_
    rcases hbad with hb | hb | hb | hb
    · exact .inl hb
    · exact .inr (by simp [hb])
    · exact .inr (by simp [hb])
    · refine .inr ?_
      simp only [hb]
      split <;> rfl
  case beginInvalid =>
    refine migrateStep_policy hs hright rfl (.inr ?_)
    simp only [himg, hbad]
    split <;> rfl
  case begin =>
    intro hst hkeys hvalid
    refine ⟨fun hheld => migrateStep_busy hs hright rfl (by simp [hst, hkeys, himg, hvalid]) hheld, fun hfree => ⟨?_, ?_, ?_⟩⟩
    · exact (foldl_wrapRoot _ _ _).1
    · exact (foldl_wrapRoot _ _ _).2.1
    · refine (migrateStep_runs hs hright rfl (by simp [hst, hkeys, himg, hvalid]) hfree).trans ?_
      simp only [himg]
      rfl
  case readyPolicy =>
    exact migrateStep_policy hs hright rfl (hbad.imp_right fun h => by simp [h])
  case readyBusy => exact fun hheld => migrateStep_busy hs hright rfl (by simp [hst]) hheld
  case ready =>
    intro hfree
    exact ⟨(foldl_wrapRoot _ _ _).2.2.1, migrateStep_runs hs hright rfl (by simp [hst]) hfree⟩
  case finalPolicy => exact migrateStep_policy hs hright rfl (hbad.imp_right fun h => by simp [h])
  case finalBusy => exact fun hheld => migrateStep_busy hs hright rfl (by simp [hst]) hheld
  case final => exact fun hfree => migrateStep_runs hs hright rfl (by simp [hst]) hfree
  case abandonPolicy => exact migrateStep_policy hs hright rfl (hbad.imp_right fun h => by simp [h])
  case abandonBusy => exact fun hheld => migrateStep_busy hs hright rfl (by simp [hst]) hheld
  case abandon => exact fun hfree => migrateStep_runs hs hright rfl (by simp [hst]) hfree

end Sys2Proof.Machine
end
